-- ==== Sys2Proof/Word.lean ====
section
/-! DEFINITION. The plain types every other file is written in: bytes, register words, binary32 patterns, and the sorted
association lists that State keeps its sparse collections in. -/
namespace Sys2Proof

/-- A byte of a frame or of a table. -/
abbrev Byte := BitVec 8

/-- A 32-bit register word as the host writes or reads it (R43). -/
abbrev Word := BitVec 32

/-- The bit pattern of a binary32 number (R169). -/
abbrev F32 := Nat

/-- A sparse collection: entries by rising key; a key that is not listed holds the collection's default. -/
abbrev FMap (α : Type) := List (Nat × α)

end Sys2Proof
end

