-- ==== Sys2Proof/Machine/Parts.lean ====
section
/-! DEFINITION. The parts of the state that a redundant pair mirrors (Table 15.3): modes and stages, and the hidden state of
groups, outlets, cables, safety functions, links, dialogues, Sentences, the tree and the safe channel. -/
namespace Sys2Proof.Machine

/-- The operating modes of Table 2.1. -/
inductive Mode where
  | dormant | waking | selftest | configure | ready | deliver | mirror | handover | degraded | safeHold | vault | sealedService
deriving DecidableEq, Repr

/-- The outlet states of Table 8.5. -/
inductive OState where
  | idle | link | session | check | precharge | energy | stopping | weldcheck | release | fault
deriving DecidableEq, Repr

/-- The routing stages of Table 7.4. -/
inductive Stage where
  | unrouted | matching | closing | routed | leaving | unloading | opening | held | fault
deriving DecidableEq, Repr

/-- The reaction of R187 on an outlet. -/
inductive Reaction where
  | none | hold | ramp
deriving DecidableEq, Repr

/-- Coils of an outlet still to be de-energised (Table 14.1). -/
inductive CoilDue where
  | none | afterCut | afterRamp
deriving DecidableEq, Repr

/-- Hidden state of one group (R140 to R148, R152, R160, R161). -/
structure GroupState where
  /-- outlet whose matrix contactor the group uses, 0xFF for none -/
  phys : Nat := 0xFF
  /-- weight W_g of R141 -/
  weight : Nat := 0
  /-- the weight is renewed at the next period start (R141) -/
  weightDue : Bool := false
  /-- a yield found the group in CLOSING (R147) -/
  leaveAfterClose : Bool := false
  /-- the group goes to FAULT at the end of its travel or unloading (R152, R161) -/
  faultAfter : Bool := false
  /-- the safety logic has de-energised the group's matrix coil (R160) -/
  coilCut : Bool := false
  /-- the episode of R153 has been logged -/
  maxOnAll : Bool := false
  /-- offset in force, 78.125 ps units, and the phases whose lengthened period is due (R140) -/
  offset : Nat := 0
  shiftDue : Nat := 0
  /-- the fall below MIN_PHASES has been logged; the group's share has moved to the other groups (R142) -/
  belowMin : Bool := false
  shareOut : Bool := false
  /-- matrix coil to be de-energised after zero current (Table 14.3, ZERO_TIMEOUT) -/
  coilOffDue : Bool := false
  /-- level of GFLT_N, true while low (R151, R152) -/
  gflt : Bool := false
  /-- a group fault met while no stage may change is taken at the end of VAULT or HANDOVER (R162) -/
  gfltDue : Bool := false
deriving DecidableEq, Repr

/-- Hidden state of one outlet (chapters 07, 08 and 14). -/
structure OutletState where
  /-- reference, µA, from which a deferred reset ramps the outlet to zero; 0 for none (R35) -/
  resetRamp : Nat := 0
  /-- step of the OUT_CHECK contactor sequence, 1 to 5, 0 when none; 6 while the stop opens the mains (R180, R183) -/
  seq : Nat := 0
  /-- VRAMP in µV (R177) -/
  vrampUv : Int := 0
  /-- the clamp IHI in µA (R175) -/
  ihiUa : Nat := 0
  /-- magnitude of the reference, µA -/
  refUa : Nat := 0
  /-- a direction change ramps IHI to 0 (R176) -/
  dirRamp : Bool := false
  /-- the reaction of R187 -/
  reaction : Reaction := .none
  /-- consecutive disagreeing blocks of voltage and current (R185) -/
  fbRunV : Nat := 0
  fbRunI : Nat := 0
  /-- consecutive disagreeing sense blocks and the episode flag (R154) -/
  senseRun : Nat := 0
  senseEpisode : Bool := false
  /-- periods skipped during truncation (R150) -/
  truncSkipped : Nat := 0
  /-- consecutive dropped samples of the fast slots (R173) -/
  missRun : Nat := 0
  /-- an outlet-scope gate cut is in force (R331) -/
  gateCut : Bool := false
  /-- coils still to be de-energised (Table 14.1) -/
  coilDue : CoilDue := .none
  /-- latched sources of Table 14.3 by bit: 0 disconnected or LEVEL_FAULT, 1 MAIN_TIMEOUT, 2 feedback or loop, 3
  ZERO_TIMEOUT, 4 OV comparator, 5 contactor dropout, 6 degraded time expired -/
  src : Nat := 0
  /-- the insulation monitor shows fault, or its PWM is lost (R344) -/
  imdFault : Bool := false
  imdPwmLost : Bool := false
  /-- the discharge channel is energised (R339) -/
  disch : Bool := false
  /-- tick at which the present state was entered -/
  since : Nat := 0
  /-- degraded conditions by bit: 0 COOL, 1 IMD PWM, 2 + c GSC connection c (R350); the timer's ticks before the present
  condition, and the tick at which that began (R351) -/
  degCond : Nat := 0
  degTicks : Nat := 0
  degSince : Nat := 0
  /-- functions cleared since the outlet entered OUT_FAULT, by bit k − 1 for SFk and 11 + b for source b (R348) -/
  clearedFn : Nat := 0
  /-- the outlet enters OUT_ENERGY at the full stop of its Sentence (R255) -/
  energyDue : Bool := false
  /-- |IC| of the last sample taken without a flag of R184 or R185, mA (R201) -/
  lastIc : Nat := 0
  /-- a loss of the control feedback goes on: bit 0 VC, bit 1 IC (R184, log entry 102) -/
  fbLive : Nat := 0
deriving DecidableEq, Repr

/-- The thermal observer of one outlet (R201 to R208). Binary32 throughout; index 0 positive, 1 negative conductor. -/
structure CoolState where
  running : Bool := false
  tp0 : F32 := 0
  tc0 : F32 := 0
  tw0 : F32 := 0
  tp1 : F32 := 0
  tc1 : F32 := 0
  tw1 : F32 := 0
  /-- prediction rows of tp and tc over [tp, tc, tw, i2, t_in], conductor 0 then 1 (R202) -/
  op : List F32 := []
  /-- the checks of R208 as they stand after the last update: pin +, pin −, order, pressure, flow -/
  pinBad0 : Bool := false
  pinBad1 : Bool := false
  orderBad : Bool := false
  pressBad : Bool := false
  flowBad : Bool := false
  /-- what stands for the inlet temperature in the prediction since the last recomputation: 0 its sensor, 1 the larger of T_IN_FB and
  the outlet temperature, 2 T_IN_FB (Table 9.2, R212) -/
  tinSrc : Nat := 0
  /-- cooling command of the outlet's fan slot (R206) -/
  cmd : F32 := 0
deriving DecidableEq, Repr

/-- Hidden state of the safety logic with node scope (chapter 14). -/
structure SafeState where
  /-- node-scope gate cut in force (Table 14.1) -/
  nodeCut : Bool := false
  /-- every coil is still to be de-energised -/
  nodeCoilDue : Bool := false
  /-- the safe-off wire is driven (R332) -/
  safeOff : Bool := false
  /-- an internal failure has occurred since reset (R347, R349) -/
  internalFailure : Bool := false
  /-- the restart procedure's diagnostic interval runs (R349) -/
  restarting : Bool := false
  /-- coils whose contactor has read closed since it was energised, 60 bits (R342) -/
  travelled : Nat := 0
  /-- contactors that have been welded since they last opened -/
  weldedSince : Nat := 0
  /-- live demand level of each input, and live relation or pulse faults (R335, R336) -/
  sinDemand : Nat := 0
  sinFaultNow : Nat := 0
  /-- tick at which an input's fault was last present -/
  sinFaultTick : FMap Nat := []
deriving DecidableEq, Repr

/-- Hidden state of one outlet link (chapter 10). -/
structure LinkState where
  /-- the accepted window index of signals A and B (R218) -/
  accA : Nat := 0
  accB : Nat := 0
  /-- signal A or B has been accepted as FAULT without a window: GAP held, or the diode check (R218) -/
  gapA : Bool := false
  gapB : Bool := false
  /-- vehicle level last acted on, coded as COMBINED (R232) -/
  acted : Nat := 0
  /-- tick at which COMBINED last left NONE (R228); the link has been READY since -/
  plugTick : Nat := 0
  wasReady : Bool := false
  /-- network membership key (R225) -/
  nmk : Nat := 0
  /-- run identifier of the SLAC run (R226) -/
  runId : Option Nat := none
  /-- sums of the received attenuation values and their number -/
  attenSum : Nat := 0
  attenCnt : Nat := 0
  vehMac : Nat := 0
  /-- tick at which the transport was lost -/
  lostTick : Nat := 0
  /-- the PHY is powered (R223) -/
  phyOn : Bool := false
  /-- another node's beacons have been received, and have not been seen to stop (R223) -/
  conflict : Bool := false
  /-- unlatch request outstanding: 0 none, 1 RELEASE, 2 host, 3 AUTO_S (R221) -/
  unlatch : Nat := 0
deriving DecidableEq, Repr

/-- Target values formed from a vehicle's request (Table 11.8), mV, mA, W. -/
structure TargetSet where
  vcmd : Nat := 0
  ilimImp : Nat := 0
  ilimExp : Nat := 0
  plimImp : Nat := 0
  plimExp : Nat := 0
  dirExp : Bool := false
  evMv : Option Nat := none
deriving DecidableEq, Repr

/-- Hidden state of one dialogue context (chapter 11). -/
structure CtxState where
  active : Bool := false
  /-- duplicate address detection: 0 not run, 1 waiting, 2 address in use, 3 conflict (R237) -/
  dad : Nat := 0
  /-- address of the last accepted SDP request -/
  sdpFrom : Option Nat := none
  tcp : Bool := false
  /-- the connection's peer and security, as the SDP answer before it gave them; it has been closed from here and its end is
  awaited (R238, R239) -/
  peer : Nat := 0
  connSec : Nat := 0
  closing : Bool := false
  /-- unanswered retransmissions; data is unacknowledged (R239) -/
  retx : Nat := 0
  unacked : Bool := false
  /-- TLS: 0 none, 1 retry requested, 2 public-key work, 3 server flight sent, 4 open (R241) -/
  tls : Nat := 0
  v13 : Bool := false
  suite : Nat := 0
  retried : Bool := false
  /-- the credential's curve and the key exchange group chosen; the client's chain has been accepted (Table 11.2) -/
  curve : Nat := 0
  group : Nat := 0
  certOk : Bool := false
  /-- the security the SDP answer gave: 0 TLS, 0x10 none -/
  sdpSec : Nat := 0
  /-- a session has been set up -/
  session : Bool := false
  evccid : List Nat := []
  emaid : List Nat := []
  /-- contract payment chosen; its chain validated; dynamic control mode; BPT service -/
  contract : Bool := false
  chainOk : Bool := false
  dynamic : Bool := false
  bpt : Bool := false
  /-- a request of step 4 has come (R249) -/
  served : Bool := false
  /-- mailbox requests outstanding: identifier of AUTH_REQ and CERT_REQ; parts of CERT_RES received -/
  authReq : Option Nat := none
  certReq : Option Nat := none
  certBuf : List Nat := []
  /-- the answer to step 5 that the next request draws: its result and its body (R260) -/
  certAns : Option (Nat × List Nat) := none
  /-- tick of the last response with the meter information (Table 11.9) -/
  meterTick : Option Nat := none
  /-- tick of the last request -/
  reqTick : Nat := 0
  /-- cable check: 0 none, 1 requested, 2 in OUT_CHECK, 3 VCMD 0 committed, 4 finished; tick of the first request (R254) -/
  check : Nat := 0
  checkTick : Nat := 0
  /-- the set of targets waiting for the slot (R257) -/
  waitSet : Option TargetSet := none
  /-- step whose response waits for the full stop -/
  rspDue : Nat := 0
  /-- host STOP outstanding (R259) -/
  stopAsked : Bool := false
  /-- the metrology die is still to be asked to close the session record (R250) -/
  closeDue : Bool := false
deriving DecidableEq, Repr

/-- A message of the dialogue engine waiting for a mailbox slot (R260, R432): its type and its body. -/
structure MbxMsg where
  kind : Nat
  body : List Nat
deriving DecidableEq, Repr

/-- Hidden state of the dialogue engine, the mailbox and the key store (chapters 11 and 17). -/
structure VdeState where
  /-- messages waiting for a FREE slot, oldest first -/
  mbxWait : List MbxMsg := []
  /-- messages sent, for SEQ; the last REQ_ID -/
  mbxSeq : Nat := 0
  reqId : Nat := 0
  /-- private keys by curve code; a key pair exists when listed (R243) -/
  keys : FMap Nat := []
  /-- contexts in the order their work came to the public-key engine (R241) -/
  pke : List Nat := []
deriving DecidableEq, Repr

/-- A Clause: its four words (Table 5.1). -/
structure Clause where
  w0 : Nat := 0
  w1 : Nat := 0
  w2 : Nat := 0
  w3 : Nat := 0
deriving DecidableEq, Repr

/-- What one part of a Clause does when it applies (Table 5.2). An Aperture target is 0 to 255 for a Facet table entry,
0x1000 + n for an outlet and 0xFFFF for the own Aperture. -/
inductive Act where
  | reg (page off mask val : Nat)
  | tab (table entry word mask val : Nat)
  | routeYield (g : Nat)
  | routeTake (g o : Nat)
  | phase (p : Nat) (on : Bool)
  | vcmd (n mv : Nat)
  | ilim (n : Nat) (exp : Bool) (ma : Nat)
  | plim (n : Nat) (exp : Bool) (w : Nat)
  | floor (target : Nat) (w : Int)
  | ceil (target w : Nat)
  | mark (tag : Nat)
deriving DecidableEq, Repr

/-- One Sentence slot (R82, R83, Table 5.8). -/
structure SentSlot where
  /-- state code of Table 5.3 -/
  st : Nat := 0
  /-- 0 host, 1 dialogue engine, 2 allocator, 3 parent -/
  owner : Nat := 0
  clauses : List Clause := []
  mode : Nat := 0
  dist : Bool := false
  tdZero : Bool := false
  loopSlot : Nat := 0
  autoRel : Bool := false
  /-- full stop, fabric ns -/
  stop : Nat := 0
  /-- take delay in force, µs -/
  delay : Nat := 0
  /-- fabric time of the PREPARE, ns -/
  prepNs : Nat := 0
  sid : Nat := 0
  /-- Facet addresses of the children taking part; those that have voted YES; NO votes -/
  kids : List Nat := []
  yes : List Nat := []
  noCnt : Nat := 0
  noFacet : Nat := 0
  noReason : Nat := 0
  outDone : Nat := 0
  outHalf : Nat := 0
  outAborted : Nat := 0
  outMissing : Nat := 0
  errClause : Nat := 0
  errCode : Nat := 0
  yieldsOn : Bool := false
  takesOn : Bool := false
  late : Bool := false
  /-- bound at the guard instant; its QUERY sent (R95) -/
  bound : Bool := false
  queried : Bool := false
  /-- what ended it fell while no Clause could be applied: the reason with which it ends in HALF at the return (R99, R100) -/
  vaultDue : Option Nat := none
  /-- the own lease expired while it was decided or bound (R128) -/
  leaseOut : Bool := false
  /-- its yields and takes as judged at PREPARE -/
  yields : List Act := []
  takes : List Act := []
deriving DecidableEq, Repr

/-- What a coordinator keeps of a distributed Sentence (R94, R96): its decision, 1 COMMIT or 2 ABORT, the copies of DECIDE
sent, and the participants whose OUTCOME is outstanding. -/
structure CoordState where
  decision : Nat := 0
  copies : Nat := 0
  waiting : List Nat := []
deriving DecidableEq, Repr

/-- A participation that ended in HALF: its reason, what OUTCOME tells of it (Table 5.5) and its guard instant, fabric ns. -/
structure HalfState where
  code  : Nat := 0
  flags : Nat := 0
  guard : Nat := 0
deriving DecidableEq, Repr

/-- Hidden state of the Sentence engine (chapter 05). -/
structure SentState where
  /-- serial of the last distributed Sentence (R91) -/
  serial : Nat := 0
  /-- by Sentence ID, as coordinator -/
  coords : FMap CoordState := []
  /-- by Sentence ID, as participant: a HALF, to be reported again when the link returns -/
  halves : FMap HalfState := []
  /-- Sentence IDs whose late decision has been logged -/
  lateSeen : List Nat := []
  /-- OUTCOME ABORTED or HALF of a participation, sent at its slot's full stop: slot, Sentence ID, result and reason (R96) -/
  outDue : List (Nat × Nat × Nat × Nat) := []
  /-- SYNC_OK has fallen, and the Sentences that its fall ends have not been judged yet (R99, R100) -/
  syncFell : Bool := false
  /-- route table words at offset 0 waiting for their entry's word at offset 4 (R105) -/
  routeBuf : FMap Nat := []
deriving DecidableEq, Repr

/-- One entry's last DEMAND frame and last LEASE frame (R112, R116, R125). -/
structure ChildState where
  heard : Bool := false
  demand : List Nat := []
  cap : Nat := 0
  shed : Nat := 0
  ownCeil : Nat := 0
  ownFloor : Int := 0
  measured : Int := 0
  /-- the entry's ceiling when that DEMAND frame arrived (R124) -/
  entryCeil : Nat := 0
  /-- a LEASE is owed because the child has become ACTIVE -/
  owed : Bool := false
  /-- tick, REMAIN_US, RAMP_MS and TARGET of the last LEASE, when there has been one -/
  leaseTick : Option Nat := none
  leaseUs : Nat := 0
  leaseRamp : Nat := 0
  leaseTarget : Nat := 0
  /-- one more than the TARGET the allocator now wants, 0 while it has wanted none -/
  target : Nat := 0
  /-- tick at which a DEMAND frame last made the entry ACTIVE from another state (R129) -/
  backTick : Option Nat := none
deriving DecidableEq, Repr

/-- Hidden state of the tree and the allocator (chapter 06). -/
structure TreeState where
  /-- tick at which the own lease expires, on the own crystal (R111) -/
  expiry : Option Nat := none
  /-- RAMP_MS and LEASE_MS of the last LEASE -/
  rampMs : Nat := 0
  leaseMs : Nat := 0
  /-- the expiry ramp: milliseconds done, and each target with its value at expiry and its reserved floor (R114) -/
  rampStep : Nat := 0
  ramp : List (Nat × Nat × Nat) := []
  children : FMap ChildState := []
  /-- slot of the allocator's epoch Sentence while it is open -/
  epochSlot : Option Nat := none
  /-- tick of the last epoch boundary -/
  epochTick : Nat := 0
  /-- demand vector and summed caps of the last boundary, which the next DEMAND frame carries (R125) -/
  upDemand : List Nat := []
  upCap : Nat := 0
  /-- the outlets' grants at the last epoch (R121) -/
  grants : FMap Nat := []
  /-- outlets whose capacity yield failed with CONFLICT and is to be committed later (R130) -/
  capDue : List Nat := []
  /-- sums of the points' mean powers over the metrology cycles of this epoch, by point, and the cycles -/
  pSum : FMap Int := []
  pCnt : Nat := 0
deriving DecidableEq, Repr

/-- Hidden state of one connection of the safe channel (R355 to R358). -/
structure GscConn where
  /-- SEQ of the next unit -/
  next : Nat := 0
  /-- no unit of the peer has been accepted since the connection was last put into WAIT -/
  restart : Bool := true
  /-- tick of the last accepted unit, and of the last accepted one with SAFE_REQ -/
  rxTick : Nat := 0
  safeTick : Option Nat := none
deriving DecidableEq, Repr

end Sys2Proof.Machine
end

