-- ==== Sys2Proof/Messages.lean ====
section
/-! DEFINITION. The messages the commands carry: rings, PTP, vehicle requests, TLS records, Mirror frames. -/
namespace Sys2Proof

/-- The three rings whose TAIL the host writes (R472). -/
inductive Ring where
  | evt | sess | clog
deriving DecidableEq, Repr

/-- A PTP message as received: its domain, sequence number, two-step flag, the timestamp it carries (ns), its
correctionField (2^−16 ns) and, in Announce, currentUtcOffset (R66). -/
structure PtpMsg where
  domain  : Nat
  seqId   : Nat
  twoStep : Bool
  ts      : Nat
  corr    : Int
  utc     : Int
deriving DecidableEq, Repr


/-- The Ethernet header of a frame received on a link: its source address and EtherType (R223, R224). -/
structure LinkFrame where
  src       : Nat
  etherType : Nat
deriving DecidableEq, Repr

/-- Where an IPv6 packet received on a link comes from: its Ethernet header and its IPv6 source address (R223, R237). -/
structure IpFrom where
  frame : LinkFrame
  addr  : Nat
deriving DecidableEq, Repr

/-- A wake condition: its source and, for the sources 0 to 2, the signal of link `n` and its level in mV (R26, R233). -/
structure WakeCause where
  src : Fin 8
  n   : Fin 4
  isB : Bool
  mv  : Int
deriving DecidableEq, Repr

/-- A read within a page: the offset of the register and the bytes enabled (R43). -/
structure ReadAt where
  off : Nat
  be  : Fin 16
deriving DecidableEq, Repr

/-- A Galesh message as received: SRC of its frame and its payload (R103, R111). -/
structure GaleshMsg where
  src     : Nat
  payload : List Nat
deriving DecidableEq, Repr

/-- A PLCA status of link `n`: whether the beacons of any other coordinator have fallen silent (R223). -/
structure PlcaStatus where
  n     : Fin 4
  quiet : Bool
deriving DecidableEq, Repr

/-- A number in a vehicle's message: value × 10^exponent (R256). -/
structure V2gNum where
  value : Int
  exp   : Int
deriving DecidableEq, Repr

/-- The decoded values of a vehicle's request (Table 11.8); an absent one is none. -/
structure EvReq where
  dynamic      : Bool
  targetV      : Option V2gNum
  targetI      : Option V2gNum
  maxV         : Option V2gNum
  minV         : Option V2gNum
  maxI         : Option V2gNum
  maxP         : Option V2gNum
  maxDisI      : Option V2gNum
  maxDisP      : Option V2gNum
  soc          : Option Nat
deriving DecidableEq, Repr

/-- A TLS record as the engine takes it apart (R241): code points by IANA number. -/
inductive TlsRec where
  /-- versions, cipher suites, groups offered, groups with a key share, signature algorithms -/
  | clientHello (v13 : Bool) (suites groups keyShares sigAlgs : List Nat)
  /-- the client's chain, leaf first, DER -/
  | certificate (chain : List (List Nat))
  | finished (ok : Bool)
  | keyUpdate
  | renegotiation
  /-- the peer's alert; close_notify is 0 -/
  | alert (code : Nat)
  /-- a record that fails to decrypt or decode, with the alert that answers it -/
  | bad (code : Nat)
deriving DecidableEq, Repr

/-- One record of a Mirror frame: a register field by key, a table byte by key, or a part of the hidden state (Table 15.3).
Values are absolute; ticks inside a part are the sender's. `slice j` begins slice j of the image: fields and bytes of a key
≡ j modulo 100 that the frame does not list hold their defaults. `mode` carries the mode from which SAFE_HOLD was entered
as well, `req` a request to the metrology die (R391). -/
inductive MirRec where
  | slice (j : Nat)
  | req (kind : Nat) (data : List Nat)
  | field (key val : Nat)
  | byte (key val : Nat)
  | mode (code safeFrom : Nat)
  | outlet (n : Nat) (v : Machine.OutletState)
  | group (g : Nat) (v : Machine.GroupState)
  | cool (n : Nat) (v : Machine.CoolState)
  | safety (v : Machine.SafeState)
  | slot (k : Nat) (v : Machine.SentSlot)
  | sent (v : Machine.SentState)
  | tree (v : Machine.TreeState)
  | link (n : Nat) (v : Machine.LinkState)
  | ctx (n : Nat) (v : Machine.CtxState)
  | vde (v : Machine.VdeState)
  | gsc (c : Nat) (v : Machine.GscConn)
deriving DecidableEq, Repr

/-- A Mirror frame (R383): sequence number, the sender's tick count, the records; the CRC-32C holds. -/
structure MirFrame where
  seq   : Nat
  ticks : Nat
  recs  : List MirRec
  crcOk : Bool
deriving DecidableEq, Repr

/-- The status frame of the standby (R383, R334): its mode, its health, the last sequence applied, its trips: NODE_TRIP.ACTIVE
and OUTn_TRIP.ACTIVE. -/
structure MirStatus where
  mode    : Nat
  failed  : Bool
  lastSeq : Nat
  node    : Nat
  outs    : List Nat
deriving DecidableEq, Repr

/-- What the power die measures at a channel beside its current (R401, R413): the temperature in 0.1 °C, and whether the output
is above 2.0 V. -/
structure LswOut where
  temp : Int
  high : Bool
deriving DecidableEq, Repr

end Sys2Proof
end

