-- ==== Sys2Proof/Syntax.lean ====
section
/-! DEFINITION. The commands of the block: what the host, the fabric, the vehicles, the partner unit, the pins and the
block's own timers do to it, one constructor per row of the table of operations and events. -/
namespace Sys2Proof


/-- The commands the block takes: one constructor per row of the table of operations and events. Compiled code can
build constructors with operands only up to the 245th, so rows without operands stand last and, before them, rows of chapters a
program seldom uses. -/
inductive Instr where
  /-- RAILS_GOOD (R462): All monitored rails come into range with the button released, and the device leaves reset for WAKING. -/
  | railsGood (cfgHost unitB selHigh buttonHeld : Bool)
  /-- WAKE_EVENT (R26): An enabled wake source fires in DORMANT, is latched in WAKE_SRC and starts WAKING. -/
  | wakeEvent (cause : WakeCause)
  /-- PLL_LOCKED (R23): The PLL locks and SRAM initialisation completes, so the device passes from WAKING to SELFTEST. -/
  | pllLocked (lockUs : Nat)
  /-- SELFTEST_DONE (R23): The SELFTEST sequence completes and the device passes to CONFIGURE, or to SAFE_HOLD on a failure. -/
  | selftestDone (durationUs firstFail : Nat)
  /-- VAULT_ENTER (R30): VLS falls below VWARN or a metrology rail goes under voltage; gates are cut, coils and load switches are held, and the flush starts. -/
  | vaultEnter (rail : Fin 9) (vlsMv : Int)
  /-- VAULT_FLUSH_DONE (R300): The flush completes: the vault record is written and marked DONE, and the partial cycle is booked unless a boundary is pending. -/
  | vaultFlushDone (flushUs : Nat)
  /-- VAULT_RECOVERY (R31): VLS has held at or above 19.5 V and VDDA and VDD_FE have been in range for 1 ms after the flush, so the device returns to the mode it held. -/
  | vaultRecovery (lowestMv : Int) (vaultUs : Nat)
  /-- HOLDUP_SHORT (R469): VHOLD falls below 6.0 V during a flush; the flush stops and RESULT reads hold-up short. -/
  | holdupShort (vholdMv : Int)
  /-- VHOLD_LOW (R468): VHOLD falls below VHOLD_WARN and sets HOLDUP_LOW. -/
  | vholdLow (vholdMv : Int)
  /-- CTL_RAIL_FLUSH (R32): A control-die rail falls out of range; the control die resets and the metrology die flushes and books without VAULT. -/
  | ctlRailFlush (rail : Fin 4)
  /-- SW_RESET (R35): The host writes the key to SYS.SW_RESET to request a reset, subject to deferral. -/
  | swReset (key : Word)
  /-- PLL_UNLOCK (R29): The crystal stops or the PLL loses lock for 2 us; gate drive is cut and the device enters SAFE_HOLD. -/
  | pllUnlock (xtal : Bool)
  /-- REGISTER_WRITE (R50): A write to a register without its own row is judged for protection, access code, alignment and mapping. -/
  | registerWrite (addr : Nat) (be : Fin 16) (value : Word)
  /-- READ_CLEAR (R43): A read of a register holding RC fields returns them and clears them. -/
  | readClear (page : Nat) (word : ReadAt)
  /-- ERR_CODE_READ (R46): A read of ERR_CODE clears STATUS.ERR_NEW. -/
  | errCodeRead (page : Nat)
  /-- UNMAPPED_ACCESS (R44): An access to an unmapped address reads 0, ignores writes and records UNMAPPED_ACCESS. -/
  | unmappedAccess (addr : Nat) (write : Bool)
  /-- EVT_PEND_CLEAR (R45): Writing 1 to EVT_PEND bits clears them in EVT_PEND and EVT_RAW. -/
  | evtPendClear (page : Nat) (mask : Word)
  /-- EVT_SET (R47): An EVT_SET write in SELFTEST or SEALED_SERVICE acts as an event, and is refused in other modes. -/
  | evtSet (page : Nat) (mask : Word)
  /-- DIAG_INJ_WRITE (R47): A DIAG_INJ write arms injection in SELFTEST or SEALED_SERVICE, and is refused in other modes. -/
  | diagInjWrite (page : Nat) (value : Word)
  /-- TABLE_ENTRY_WRITE (R55): A host write to a table word is buffered, and the entry is applied whole at its highest word. -/
  | tableEntryWrite (table byteOff : Nat) (value : Word)
  /-- EVENT_APPEND (R62): An event record is stamped and appended to the log, discarding the oldest record when the log is full. -/
  | eventAppend (page code sev inst : Nat) (data : List Nat)
  /-- LOG_CFG_WRITE (R471): A LOG_CFG write that sets FILL_IRQ at or below FILL raises LOG_FILL at once. -/
  | logCfgWrite (value : Word)
  /-- TAIL_WRITE (R472): The host writes EVT.TAIL, SESS.TAIL or SEAL.CLOG_TAIL, which takes effect only within the unread records. -/
  | tailWrite (ring : Ring) (value : Word)
  /-- TIME_INCR_WRITE (R64): The host writes INCR_NS or INCR_FRAC, clamped to plus or minus 1,000 ppm, and refused under the hardware servo. -/
  | timeIncrWrite (isFrac : Bool) (value : Word)
  /-- TIME_CFG_WRITE (R66): A TIME.CFG write sets port roles, and is refused if both ports would be slave. -/
  | timeCfgWrite (value : Word)
  /-- PTP_SYNC_RX (R67): A Sync result on the slave port runs the servo, possibly stepping the clock and changing the clock state. -/
  | ptpSyncRx (port : Fin 2) (f : PtpMsg)
  /-- PTP_FOLLOW_UP_RX (R72): A Follow_Up is received, completing a two-step Sync or receiving a held residence time. -/
  | ptpFollowUpRx (port : Fin 2) (f : PtpMsg)
  /-- PTP_DELAY_REQ_RX (R66): A Delay_Req is received on a master port and answered. -/
  | ptpDelayReqRx (port : Fin 2) (f : PtpMsg)
  /-- PTP_DELAY_RESP_RX (R66): A Delay_Resp completes the path delay measurement on the slave port. -/
  | ptpDelayRespRx (port : Fin 2) (f : PtpMsg)
  /-- PTP_PDELAY_REQ_RX (R66): A Pdelay_Req is received and answered. -/
  | ptpPdelayReqRx (port : Fin 2) (f : PtpMsg)
  /-- PTP_PDELAY_RESP_RX (R66): A Pdelay_Resp is received for the peer delay measurement. -/
  | ptpPdelayRespRx (port : Fin 2) (f : PtpMsg)
  /-- PTP_PDELAY_RESP_FOLLOW_UP_RX (R66): A Pdelay_Resp_Follow_Up completes a peer delay measurement. -/
  | ptpPdelayRespFollowUpRx (port : Fin 2) (f : PtpMsg)
  /-- PTP_ANNOUNCE_RX (R66): An Announce on the slave port confirms the master and supplies currentUtcOffset. -/
  | ptpAnnounceRx (port : Fin 2) (f : PtpMsg)
  /-- PTP_SYNC_TX (R72): A master port sends Sync at its interval, one-step or followed by a Follow_Up. -/
  | ptpSyncTx (port : Fin 2)
  /-- TC_FOLLOW_UP_TIMEOUT (R73): A held two-step residence time is released when its Follow_Up has not arrived within 100 ms. -/
  | tcFollowUpTimeout (port : Fin 2) (seqId : Nat)
  /-- TIME_ADJ_WRITE (R70): An ADJ_NS write starts or replaces a slew of fabric time under the host servo. -/
  | timeAdjWrite (value : Word)
  /-- ADJ_CFG_WRITE (R70): An ADJ_CFG write sets the slew rate, and is refused outside 1 to 1,000 ppm. -/
  | adjCfgWrite (value : Word)
  /-- SENT_STAGE (R85): The host command STAGE checks the Clause registers and appends them as a Clause. -/
  | sentStage (slot : Fin 16)
  /-- SENT_PREPARE (R86): The host command PREPARE starts whole-Sentence validation. -/
  | sentPrepare (slot : Fin 16)
  /-- SENT_ABORT (R84): The host command ABORT aborts a Sentence in an accepted state; a coordinator sends DECIDE ABORT. -/
  | sentAbort (slot : Fin 16)
  /-- SENT_RELEASE (R84): The host command RELEASE frees a slot in DONE, ABORTED or HALF. -/
  | sentRelease (slot : Fin 16)
  /-- SENT_CLEAR (R84): The host command CLEAR discards the staged Clauses of an OPEN slot. -/
  | sentClear (slot : Fin 16)
  /-- SENT_BAD_OP (R84): A command with a reserved OP has no effect and records BAD_OP. -/
  | sentBadOp (op slot : Fin 16)
  /-- VALIDATION_DONE (R86): Whole-Sentence validation completes; the slot passes to PREPARED or ABORTED, and a distributed Sentence sends its PREPARE frames. -/
  | validationDone (slot : Fin 16)
  /-- FULL_STOP (R89): The full stop is reached and every yield of the Sentence is applied in one tick. -/
  | fullStop (slot : Fin 16)
  /-- TAKE_INSTANT (R89): The take instant is reached, the takes are applied, and the slot is DONE and logged COMMITTED. -/
  | takeInstant (slot : Fin 16)
  /-- PREPARE_RX (R93): A participant receives PREPARE from its parent, validates it, and votes YES in PREPARED or votes NO. -/
  | prepareRx (payload : List Nat)
  /-- VOTE_RX (R94): The coordinator receives a VOTE and decides COMMIT when all votes are YES, or ABORT on a NO. -/
  | voteRx (payload : List Nat)
  /-- VOTE_DEADLINE (R94): A vote is still missing at the full stop minus the decide lead, so the coordinator decides ABORT with VOTES_MISSING. -/
  | voteDeadline (slot : Fin 16)
  /-- DECIDE_REPEAT (R94): A further copy of the DECIDE broadcast is sent 20 us after the previous one. -/
  | decideRepeat (sid : Word)
  /-- DECIDE_RX (R95): A participant receives DECIDE; before the guard instant it moves to DECIDED or ABORTED, and after it the decision is only recorded. -/
  | decideRx (payload : List Nat)
  /-- QUERY_RX (R94): The coordinator answers a QUERY with DECIDE sent to the asker alone. -/
  | queryRx (payload : List Nat)
  /-- QUERY_SEND (R95): With no decision at the guard instant minus 200 us, a participant sends one QUERY. -/
  | querySend (slot : Fin 16)
  /-- GUARD_INSTANT (R95): A participant still without a decision at the guard instant becomes bound and will end in HALF. -/
  | guardInstant (slot : Fin 16)
  /-- OUTCOME_RX (R96): The coordinator counts a participant's OUTCOME and logs HALF_REPORTED for an OUTCOME HALF. -/
  | outcomeRx (payload : List Nat)
  /-- OUTCOME_MISSING (R96): No OUTCOME has arrived from a participant by the take instant plus OUTCOME_MS. -/
  | outcomeMissing (sid : Word) (child : Nat)
  /-- GALESH_FRAME_RX (R104): A Galesh frame is received and is dropped, consumed or forwarded by its header and the route table. -/
  | galeshFrameRx (port : Fin 2) (frame : List Nat)
  /-- NON_GALESH_FRAME_RX (R106): A frame of another EtherType is passed between the ports or dropped. -/
  | nonGaleshFrameRx (port : Fin 2) (bytes : List Nat)
  /-- ROUTE_ENTRY_WRITE (R105): A route table entry takes effect whole when its word at offset 4 is written. -/
  | routeEntryWrite (entry : Nat) (high : Bool) (value : Word)
  /-- FAB_LINK_UP (R40): A fabric port completes auto-negotiation and its link comes up; any held OUTCOME HALF is sent again. -/
  | fabLinkUp (port : Fin 2) (speed : Nat) (anDone : Bool)
  /-- FAB_LINK_DOWN (R40): A fabric port link goes down. -/
  | fabLinkDown (port : Fin 2)
  /-- LEASE_RX (R111): A child accepts a LEASE from its parent and sets its expiry, ramp and TARGET, restoring a lapsed lease. -/
  | leaseRx (port : Fin 2) (msg : GaleshMsg)
  /-- DEMAND_RX (R116): A parent receives a child's DEMAND frame and makes the entry ACTIVE. -/
  | demandRx (msg : GaleshMsg)
  /-- EPOCH_CFG_WRITE (R118): An EPOCH_CFG write sets the epoch and stop offset, and is refused when out of range. -/
  | epochCfgWrite (value : Word)
  /-- CHILD_EXPIRY (R116): The parent's copy of a child's expiry passes and the entry becomes EXPIRED. -/
  | childExpiry (e : Fin 256)
  /-- CHILD_RECLAIM (R116): The reclaim instant passes; the parent commits a yield to the entry's reserved floor. -/
  | childReclaim (e : Fin 256)
  /-- CAPACITY_YIELD (R127): Within 1 ms of an outlet's capacity falling below its ceiling, a yield-only Sentence lowers the ceiling. -/
  | capacityYield (n : Fin 4)
  /-- PERIOD_START (R136): A phase reaches its period start; direction, skip and DAC start code are computed and its pulse begins. -/
  | periodStart (p : Fin 72)
  /-- COMPARATOR_TRIP (R137): The current comparator trips after blanking and ends the phase's on-time. -/
  | comparatorTrip (p : Fin 72) (onTicks : Nat)
  /-- MAX_ON_EXPIRY (R135): A pulse reaches MAX_ON times T without a trip and the primary switch is forced off. -/
  | maxOnExpiry (p : Fin 72)
  /-- PHASE_OPEN_DETECTED (R153): A phase reaches max-on without a trip in 3 consecutive periods and is disabled as failed open. -/
  | phaseOpenDetected (p : Fin 72)
  /-- SENSE_BLOCK (R154): A 100 us block of implied phase currents is compared with IC; after 20 disagreeing blocks a phase is disabled or a mismatch is flagged. -/
  | senseBlock (n : Fin 4) (icMean : Int)
  /-- PHASE_PERIOD_WRITE (R134): A PERIOD write is refused while any group is busy or when timing breaks. -/
  | phasePeriodWrite (value : Word)
  /-- PHASE_TIMING_WRITE (R135): A DEADTIME or BLANK_MAXON write is refused when it breaks the timing conditions. -/
  | phaseTimingWrite (isBlank : Bool) (value : Word)
  /-- OV_TRUNCATE (R149): OVn exceeds TRIP for 10 ns and every phase on the outlet truncates its pulse. -/
  | ovTruncate (n : Fin 4)
  /-- OV_RELEASE (R150): OVn has stayed below RELEASE for RELEASE_TICKS and pulses resume. -/
  | ovRelease (n : Fin 4)
  /-- GROUP_FAULT_INPUT (R151): GFLT_N stays low for 50 ns; the group's PWM goes low and the group goes to FAULT. -/
  | groupFaultInput (g : Fin 12)
  /-- FAULT_CLR (R152): A write to GROUP.CTRL.FAULT_CLR returns an unrouted, open, unfaulted group to UNROUTED. -/
  | faultClr (g : Fin 12) (gfltHigh : Bool)
  /-- MATCH_TIMEOUT (R146): Matching has lasted MATCH_MS and the group goes to FAULT. -/
  | matchTimeout (g : Fin 12)
  /-- MATRIX_CLOSED (R146): The matrix feedback has read closed for 1 ms, and the group becomes ROUTED and JOINED. -/
  | matrixClosed (g : Fin 12) (travelMs : Nat)
  /-- CONTACTOR_CLOSE_TIMEOUT (R146): The matrix feedback does not confirm closing within CLOSE_MS, so the coil is de-energised and the group goes to FAULT. -/
  | contactorCloseTimeout (g : Fin 12)
  /-- LEAVING_DONE (R147): The outlet reference falls within the remaining capacity, or the outlet leaves OUT_ENERGY, and the group passes to UNLOADING. -/
  | leavingDone (g : Fin 12)
  /-- LEAVE_TIMEOUT (R147): LEAVING has lasted LEAVE_MS and the group is forced to UNLOADING. -/
  | leaveTimeout (g : Fin 12)
  /-- ZERO_CONFIRMED (R147): Every CS has read inside the zero window for 1 us; the coil is de-energised and the group passes to OPENING. -/
  | zeroConfirmed (g : Fin 12)
  /-- ZERO_TIMEOUT (R147): Zero current is not seen within ZERO_WAIT_US; the group goes to FAULT with its contactor closed. -/
  | zeroTimeout (g : Fin 12)
  /-- MATRIX_OPENED (R147): The matrix feedback reads open; the group becomes UNROUTED or HELD and logs RELEASED. -/
  | matrixOpened (g : Fin 12) (travelMs : Nat)
  /-- MATRIX_OPEN_TIMEOUT (R147): The matrix feedback does not read open within OPEN_MS, which is treated as a weld and puts the group in FAULT. -/
  | matrixOpenTimeout (g : Fin 12)
  /-- FAST_SAMPLE (R165): An outlet's four fast slots sample, compute, minimum-select and clamp, and write the reference. -/
  | fastSample (n : Fin 4) (vc ic : Int)
  /-- SLOW_SAMPLE (R170): A slow slot samples at its own period and computes its PID output. -/
  | slowSample (slot : Fin 48)
  /-- SAMPLE_DEADLINE_MISS (R173): A sample has not completed when the next is due; it is dropped, and FAST_LIMIT drops fault the outlet. -/
  | sampleDeadlineMiss (slot : Fin 64)
  /-- LOOP_SLOT_WRITE (R167): The host writes a loop slot word, subject to the lock and configuration checks. -/
  | loopSlotWrite (slot : Fin 64) (word : Fin 16) (value : Word)
  /-- LOOP_SWAP_REQ (R168): A LOOP.SWAP.REQ write requests a bank swap for a fast slot. -/
  | loopSwapReq (value : Word)
  /-- DIRECTION_ZERO_REACHED (R176): During a direction change |IC| has stayed within ZERO_A for 1 ms; the direction changes and IHI rises. -/
  | directionZeroReached (n : Fin 4)
  /-- MAIN_SEQ_STEP_DONE (R180): A step of the OUT_CHECK contactor sequence confirms by feedback or voltage equalisation, and the next step begins. -/
  | mainSeqStepDone (n : Fin 4)
  /-- MAIN_TIMEOUT (R180): A main or precharge contactor step exceeds its limit; MAIN_TIMEOUT is logged and the outlet is forced into OUT_FAULT. -/
  | mainTimeout (n : Fin 4)
  /-- PRECHARGE_DONE (R181): VC has been within WIN_MV of EV_MV for 5 ms, so PRECHARGE_OK is set. -/
  | prechargeDone (n : Fin 4)
  /-- PRECHARGE_TIMEOUT (R181): PRECHARGE_OK has not been set within TIMEOUT_MS, and the outlet passes to OUT_STOPPING. -/
  | prechargeTimeout (n : Fin 4)
  /-- STOP_ZERO_REACHED (R183): The reference is 0 and |IC| has been within ZERO_A for 1 ms; the slots go OFF and the main contactors are opened. -/
  | stopZeroReached (n : Fin 4)
  /-- STOP_CONTACTORS_OPEN (R183): Both main feedbacks read open and the outlet passes to OUT_WELDCHECK. -/
  | stopContactorsOpen (n : Fin 4)
  /-- STOP_OPEN_TIMEOUT (R183): A main feedback still reads closed after OPEN_MS, and the contactor is treated as welded. -/
  | stopOpenTimeout (n : Fin 4) (posClosed negClosed : Bool)
  /-- FB_LOST (R184): Modulator clock or data activity is absent for 5 us, or the link is lost; control feedback is flagged lost. -/
  | fbLost (n : Fin 4) (cause : Fin 4)
  /-- FB_FROZEN (R185): VC or IC has held the same value for 2 ms while the slots are CLOSED. -/
  | fbFrozen (n : Fin 4) (isI : Bool)
  /-- FB_MISMATCH_BLOCK (R185): A 100 us block compares the control and metering channels, and 20 disagreeing blocks flag MISMATCH. -/
  | fbMismatchBlock (n : Fin 4) (vc vm ic im : Int)
  /-- FB_HOLD_END (R187): The FB_HOLD time after a detection ends and the reference starts ramping to 0. -/
  | fbHoldEnd (n : Fin 4)
  /-- FAULT_RAMP_DONE (R187): The fault ramp reaches 0, the outlet enters OUT_FAULT and its groups stop switching. -/
  | faultRampDone (n : Fin 4)
  /-- FB_STAT_CLEAR (R188): A W1C write to FB_STAT clears flags only in OUT_FAULT or OUT_IDLE with the cause absent. -/
  | fbStatClear (n : Fin 4) (value live : Word)
  /-- SENS_FRAME (R195): A 10 us sensor ADC frame converts its channels in three passes and updates the values. -/
  | sensFrame (codes : List Nat)
  /-- SENS_CH_STUCK (R197): A channel with STUCK_EN has been identical for STUCK seconds and becomes invalid. -/
  | sensChStuck (c : Fin 48)
  /-- SENS_CH_VALID (R197): An invalid channel has had 10 s of good conversions and becomes valid again. -/
  | sensChValid (c : Fin 48)
  /-- SENS_CFG_WRITE (R195): A CHn_CFG write is refused if it exceeds 16 fast channels or names a reserved kind. -/
  | sensCfgWrite (c : Fin 48) (value : Word)
  /-- OBSERVER_UPDATE (R201): The thermal observer updates each millisecond, deriving ceilings, derate values, cooling demand and plausibility checks. -/
  | observerUpdate (i0 i1 i2 i3 : Nat)
  /-- COOL_OBSERVER_ENABLE (R199): Setting OCFGn.EN starts the observer, refused for missing pins or an unstable model. -/
  | coolObserverEnable (n : Fin 4) (value : Word)
  /-- PIN_IMPLAUSIBLE (R208): A pin innovation has exceeded RESID_K for RESID_S seconds. -/
  | pinImplausible (n : Fin 4) (neg : Bool)
  /-- ORDER_IMPLAUSIBLE (R208): The coolant outlet has stayed below the inlet by ORDER_K for ORDER_S seconds. -/
  | orderImplausible (n : Fin 4)
  /-- PRESS_LOW (R208): Pressure has been below PRESS_LOW for 1 s with the pump running. -/
  | pressLow (n : Fin 4)
  /-- FLOW_LOW (R208): Flow has been below half the demand for 5 s. -/
  | flowLow (n : Fin 4)
  /-- COOL_FLAG_CLEAR (R208): A W1C write to OSTAT clears plausibility flags only while the check is met. -/
  | coolFlagClear (n : Fin 4) (value : Word)
  /-- LINK_CFG_WRITE (R215): A LINK.CFG write changes kind, windows and pilot mode, refused when the outlet is busy or the mode is barred. -/
  | linkCfgWrite (n : Fin 4) (value : Word)
  /-- LEVEL_ACCEPTED (R220): A new signal level has held for DEBOUNCE_MS and the outlet acts on the combined vehicle level. -/
  | levelAccepted (n : Fin 4) (isB : Bool) (mv : Int)
  /-- GAP_FAULT (R218): GAP has held for GAP_MS and is accepted as FAULT. -/
  | gapFault (n : Fin 4) (isB : Bool) (mv : Int)
  /-- CP_DIODE_FAULT (R218): The CP low plateau has stayed above LOW_MAX for DEBOUNCE_MS and signal A is FAULT. -/
  | cpDiodeFault (n : Fin 4) (lowMv : Int)
  /-- LATCH_ENERGISE (R221): LOCK_DLY_MS after OUT_LINK the latch channel is energised. -/
  | latchEnergise (n : Fin 4)
  /-- LATCH_RELEASE (R221): With VC below 60 V for 10 ms and an unlatch cause present, the latch is de-energised. -/
  | latchRelease (n : Fin 4)
  /-- LINK_UNLATCH (R221): The host writes CTRL.UNLATCH to request a latch release. -/
  | linkUnlatch (n : Fin 4)
  /-- LATCH_AUTO_TIMEOUT (R221): The outlet has spent AUTO_S in OUT_RELEASE, which counts as an unlatch request. -/
  | latchAutoTimeout (n : Fin 4)
  /-- LATCH_FAULT (R221): Latch feedback has disagreed with the command for 200 ms and is passed to SF7. -/
  | latchFault (n : Fin 4) (feedback : Bool)
  /-- CP_PWM_WRITE (R222): A CP_PWM write sets period and duty, refused for a bad period. -/
  | cpPwmWrite (n : Fin 4) (value : Word)
  /-- PHY_START (R223): START_DLY_MS after OUT_LINK the T1S PHY is powered. -/
  | phyStart (n : Fin 4)
  /-- PLCA_STATUS_OK (R223): The PLCA status becomes OK and LSTATE becomes READY or is restored. -/
  | plcaStatusOk (status : PlcaStatus)
  /-- TRANSPORT_LOST (R223): The PLCA status has been false for LOSS_MS and LSTATE becomes LOST. -/
  | transportLost (n : Fin 4)
  /-- PLCA_CONFLICT (R223): A coordinator receives another node's beacon and treats the link as LOST. -/
  | plcaConflict (n : Fin 4) (source : Nat)
  /-- RMII_REFCLK_LOST (R224): REFCLK has been absent for 10 us and LSTATE becomes LOST. -/
  | rmiiRefclkLost (n : Fin 4)
  /-- MODEM_NO_KEY (R225): No key confirmation has arrived within 1 s and the link fails. -/
  | modemNoKey (n : Fin 4)
  /-- SLAC_STEP_TIMEOUT (R227): A SLAC step passes its limit; the run ends and is retried or fails. -/
  | slacStepTimeout (n : Fin 4)
  /-- LINK_RESTART (R227): The host writes CTRL.RESTART to restart a FAILED link. -/
  | linkRestart (n : Fin 4)
  /-- DAD_DONE (R237): The 1 s duplicate address detection wait ends and the address is used or the conflict is logged. -/
  | dadDone (n : Fin 4) (conflict : Bool)
  /-- SDP_REQUEST_RX (R238): An SDP request is answered with address, port and security. -/
  | sdpRequestRx (n : Fin 4) (src : IpFrom) (dst udpPort version inverse security transport : Nat)
  /-- TCP_SYN_RX (R239): A TCP SYN opens the context's single connection or is answered with RST. -/
  | tcpSynRx (n : Fin 4) (src : IpFrom) (dstPort : Nat)
  /-- TCP_SEGMENT_RX (R239): A TCP segment carrying data or an acknowledgement is received. -/
  | tcpSegmentRx (n : Fin 4) (src : IpFrom) (len v2gLen : Nat) (ack fin : Bool)
  /-- TCP_RTO (R239): The retransmission timeout expires; the segment is retransmitted, or the connection is reset after six. -/
  | tcpRto (n : Fin 4)
  /-- TLS_RECORD_RX (R241): A TLS handshake or application record is received and processed. -/
  | tlsRecordRx (n : Fin 4) (record : TlsRec)
  /-- PKE_DONE (R241): The public-key engine finishes a key exchange, signature or chain validation for a context. -/
  | pkeDone (n : Fin 4)
  /-- TLS_HANDSHAKE_TIMEOUT (R242): The handshake has not completed within HS_MS; an alert is sent and the connection closed. -/
  | tlsHandshakeTimeout (n : Fin 4)
  /-- SUPPORTED_APP_PROTOCOL (R248): The vehicle's SupportedAppProtocol is answered with the chosen protocol. -/
  | supportedAppProtocol (n : Fin 4) (offers : List (Nat × Nat))
  /-- SESSION_SETUP (R249): SessionSetup opens a session and requests a session record; the outlet passes to OUT_SESSION. -/
  | sessionSetup (n : Fin 4) (evccid : List Nat)
  /-- AUTHORIZATION_SETUP (R252): AuthorizationSetup offers the payment options. -/
  | authorizationSetup (n : Fin 4)
  /-- SERVICE_DISCOVERY (R252): Service discovery, detail and selection requests are answered. -/
  | serviceDiscovery (n : Fin 4) (kind : Fin 3) (bpt contract : Bool)
  /-- PAYMENT_DETAILS (R245): PaymentDetails supplies a contract chain, which is validated. -/
  | paymentDetails (n : Fin 4) (emaid : List Nat) (chain : List (List Nat))
  /-- AUTHORIZATION (R253): An authorisation request is decided by the local list or sent to the host. -/
  | authorization (n : Fin 4) (emaid : List Nat) (chain : List (List Nat))
  /-- CHARGE_PARAMETER_DISCOVERY (R256): Vehicle limits are recorded, demand is reported and a schedule is returned. -/
  | chargeParameterDiscovery (n : Fin 4) (req : EvReq)
  /-- CABLE_CHECK_REQ (R254): A CableCheck request is answered and starts or continues the cable check. -/
  | cableCheckReq (n : Fin 4)
  /-- CABLE_CHECK_START (R254): Once the check conditions hold, the outlet enters OUT_CHECK. -/
  | cableCheckStart (n : Fin 4)
  /-- CABLE_CHECK_HOLD_DONE (R254): The insulation verdict has been good for HOLD_MS after the slew, and VCMD 0 is committed. -/
  | cableCheckHoldDone (n : Fin 4)
  /-- CABLE_CHECK_DISCHARGED (R254): VC falls to END_V with a ceiling above 0, and the outlet passes to OUT_PRECHARGE. -/
  | cableCheckDischarged (n : Fin 4)
  /-- CABLE_CHECK_TIMEOUT (R254): The check has not finished within CHECK_S and the session ends. -/
  | cableCheckTimeout (n : Fin 4)
  /-- PRECHARGE_REQ (R255): A PreCharge request commits EV_MV and VCMD in one Sentence. -/
  | prechargeReq (n : Fin 4) (present target : V2gNum)
  /-- POWER_DELIVERY_START (R255): PowerDelivery start is accepted with PRECHARGE_OK and commits the targets; OUT_ENERGY follows at the full stop. -/
  | powerDeliveryStart (n : Fin 4) (req : EvReq)
  /-- CHARGE_LOOP_REQ (R257): A charge-loop request stages the changed targets as a Sentence in slot n, or waits for the slot. -/
  | chargeLoopReq (n : Fin 4) (req : EvReq)
  /-- TARGET_SET_ISSUE (R257): A waiting target set is issued when slot n becomes free. -/
  | targetSetIssue (n : Fin 4)
  /-- V2G_RESPONSE_SEND (R257): The response is built from the first loop sample after the full stop and is sent. -/
  | v2gResponseSend (n : Fin 4)
  /-- METERING_CONFIRMATION (R249): A metering confirmation is acknowledged and copied to the host. -/
  | meteringConfirmation (n : Fin 4) (body : List Nat)
  /-- POWER_DELIVERY_STOP (R249): PowerDelivery stop moves the outlet to OUT_STOPPING. -/
  | powerDeliveryStop (n : Fin 4)
  /-- WELDING_DETECTION (R249): A WeldingDetection request is answered with the present voltage. -/
  | weldingDetection (n : Fin 4)
  /-- SESSION_STOP (R250): SessionStop ends the session and closes TLS and TCP. -/
  | sessionStop (n : Fin 4)
  /-- V2G_UNEXPECTED_REQ (R249): An out-of-order, unsupported or undecodable request draws a sequence error and ends the session. -/
  | v2gUnexpectedReq (n : Fin 4) (message length : Nat) (undecodable : Bool)
  /-- SEQ_TIMEOUT (R251): SEQ_MS passes between requests outside OUT_ENERGY and the session ends. -/
  | seqTimeout (n : Fin 4)
  /-- LOOP_TIMEOUT (R251): LOOP_MS passes between requests in OUT_ENERGY; the session ends and SF8 is raised. -/
  | loopTimeout (n : Fin 4)
  /-- CTX_STOP (R259): The host writes CTXn_CTRL.STOP and the stop notification is set. -/
  | ctxStop (n : Fin 4)
  /-- HOST_STOP_TIMEOUT (R259): The vehicle has not stopped within STOP_WAIT_MS, so the engine stops the outlet itself. -/
  | hostStopTimeout (n : Fin 4)
  /-- AUTH_RES (R253): The host's AUTH_RES grants or denies authorisation. -/
  | authRes (n : Fin 4) (reqId : Nat) (grant : Bool)
  /-- AUTH_TIMEOUT (R253): AUTH_MS passes without a reply; CANCEL is sent and authorisation is granted or denied by TO_ALLOW. -/
  | authTimeout (n : Fin 4)
  /-- RNG_FAIL (R347): The random number generator fails its health test and outlets may not enter OUT_CHECK. -/
  | rngFail (test : Nat)
  /-- METROLOGY_START (R281): The metrology die starts, loads a calibration copy, and completes any pending VAULT. -/
  | metrologyStart (okA okB : Bool)
  /-- LENS_SAMPLE (R273): A metering sample is scaled and accumulated into its meter points. -/
  | lensSample (raw ctl : List Nat)
  /-- LENS_CH_LOST (R278): A Lens channel has no clock or data transition for 5 us. -/
  | lensChLost (c : Fin 23) (data : Bool)
  /-- LENS_CH_FROZEN (R278): A Lens channel has shown the same code for FREEZE ms. -/
  | lensChFrozen (c : Fin 23)
  /-- LENS_LOSS_JUDGED (R289): 10 ms after onset, or at VAULT entry, a metering channel loss is judged as supply or as tamper. -/
  | lensLossJudged (c : Fin 23) (kind : Fin 3)
  /-- LENS_CH_RESTORED (R278): A channel has been without the condition for 10 ms and its flag clears. -/
  | lensChRestored (c : Fin 23) (kind : Fin 3)
  /-- LENS_CAL_WRITE (R282): A CALc write in SEALED_SERVICE is stored in both copies and takes effect at the next cycle. -/
  | lensCalWrite (c : Fin 23) (reg : Fin 3) (value : Word)
  /-- TARIFF_ACTIVATE (R302): Writing TARIFF.CTRL.ACTIVATE checks the inactive bank and schedules its activation. -/
  | tariffActivate (value : Word)
  /-- CLOSE_PERIOD (R306): Writing BILL.CTRL.CLOSE_PERIOD closes the period at the next cycle end. -/
  | closePeriod (value : Word)
  /-- DEMAND_CFG_WRITE (R307): A DEMAND_CFG write sets the interval and takes effect as a boundary, or is refused. -/
  | demandCfgWrite (value : Word)
  /-- SESSION_OPEN_REQ (R315): A session open request writes an open record with start readings. -/
  | sessionOpenReq (point : Nat) (sid : Nat)
  /-- SESSION_CLOSE_REQ (R315): A session close request takes end readings and completes the record. -/
  | sessionCloseReq (point : Nat)
  /-- SESS_READ (R318): Writing SESS.READ with GO appends a TYPE 3 reading record. -/
  | sessRead (value : Word)
  /-- RECORD_APPEND_REQ (R12): The control die asks the metrology die to append a record, which it stamps and stores. -/
  | recordAppendReq (kind : Fin 3) (content : List Nat)
  /-- TAMPER_INPUT (R322): TMP_IN0 or TMP_IN1 is asserted after debounce and is recorded. -/
  | tamperInput (inp : Fin 2)
  /-- TAMPER_PPM (R321): The two crystals have differed by more than PPM_LIM for 10 s. -/
  | tamperPpm (ppm : Nat)
  /-- SIN_DEMAND (R335): A safety input reads its demand level for 15 us outside the pulse windows. -/
  | sinDemand (k : Fin 8)
  /-- SIN_FAULT (R335): A safety input misses two test pulses or shows a stray pulse. -/
  | sinFault (k : Fin 8) (stray : Bool)
  /-- SIN_PAIR_FAULT (R336): An input pair has broken its required relation for 50 ms. -/
  | sinPairFault (p : Fin 4)
  /-- STP_PULSE (R335): A test output gives its 4 us low pulse every 5 ms. -/
  | stpPulse (inp : Fin 2)
  /-- SF2_GATE_CUT (R338): OVn has stayed above TRIP for 1.5 us and the outlet's gates are cut. -/
  | sf2GateCut (n : Fin 4)
  /-- SF3_TRIP (R338): VC has exceeded the vehicle maximum plus margin for 100 us. -/
  | sf3Trip (n : Fin 4)
  /-- SF5_WELD (R342): Feedback still reads closed 10 ms after the opening limit, or closes unbidden; WELD is set. -/
  | sf5Weld (fb : Fin 60)
  /-- FB_DROPOUT (R342): Feedback reads open for FB_DEBOUNCE_MS while the coil is on after travel. -/
  | fbDropout (fb : Fin 60)
  /-- SF6_TRIP (R338): A pin temperature has been above SF6_TRIP for 100 ms. -/
  | sf6Trip (n : Fin 4)
  /-- SF10_TRIP (R338): |IC| has exceeded the vehicle limit plus margin for 5 ms in OUT_ENERGY. -/
  | sf10Trip (n : Fin 4)
  /-- SF11_TRIP (R338): VC is still at 60 V or more after RESID_MS in OUT_RELEASE. -/
  | sf11Trip (n : Fin 4)
  /-- COIL_OFF_DEADLINE (R330): The coil de-energise time after a gate cut or fault ramp is reached. -/
  | coilOffDeadline (scope : Fin 5)
  /-- IMD_FAULT (R344): IMD_OK has shown fault for 20 ms and the insulation verdict is FAULT. -/
  | imdFault (n : Fin 4)
  /-- IMD_PWM_LOST (R344): IMD_PWM has had no edge for PWM_LOSS_MS. -/
  | imdPwmLost (n : Fin 4)
  /-- WELDCHECK_JUDGED (R343): Both main feedbacks have read open for 10 ms; the weld check passes to OUT_RELEASE. -/
  | weldcheckJudged (n : Fin 4)
  /-- DISCHARGE_DONE (R339): VC has stayed below 60 V for 10 ms and the discharge channel is released. -/
  | dischargeDone (n : Fin 4)
  /-- DIAG_INTERVAL (R346): A 10 ms diagnostic interval runs its periodic tests. -/
  | diagInterval (us : Nat) (fail : Option (Nat × Nat)) (corrected : Option Nat) (badMet badPower : Nat)
  /-- CYCLE_OVERRUN (R346): A diagnostic interval lasts longer than 10 ms. -/
  | cycleOverrun (us : Nat)
  /-- SAFE_CLR (R348): The host writes SAFE.CLR to clear host-clear functions of an outlet, refused with the cause present. -/
  | safeClr (value : Word)
  /-- UNPLUG_CLEAR (R348): COMBINED has been NONE for 1 s with the cause absent, clearing unplug functions. -/
  | unplugClear (n : Fin 4)
  /-- SAFE_RESTART (R349): Writing the key to SAFE.RESTART starts the checks for leaving SAFE_HOLD. -/
  | safeRestart (value : Word)
  /-- SAFE_RESTART_DONE (R349): The restart diagnostic interval completes and the device enters READY or restarts its previous mode. -/
  | safeRestartDone (fail : Nat)
  /-- WELD_CLEAR (R342): Writing 1 to WELD bits with the safety password open clears those of contactors reading open. -/
  | weldClear (high : Bool) (value : Word)
  /-- DEGRADED_EXPIRED (R351): The degraded timer reaches DEG_MIN; the outlet is held in OUT_FAULT or the node enters SAFE_HOLD. -/
  | degradedExpired (n : Fin 4)
  /-- DEGRADED_TIMER_RESET (R351): An outlet has been free of conditions for DEG_RESET_MIN and its timer returns to zero. -/
  | degradedTimerReset (n : Fin 4)
  /-- PWD_ENTER_SAFETY (R362): OP 1 enters the safety password, opening PWD_OPEN or counting a failure. -/
  | pwdEnterSafety (len : Fin 64)
  /-- PWD_ENTER_SEAL (R362): OP 2 enters the seal password with SEAL_N asserted, opening the seal. -/
  | pwdEnterSeal (len : Fin 64) (sealN : Bool)
  /-- PWD_CHANGE_SAFETY (R362): OP 5 changes the safety password. -/
  | pwdChangeSafety (len : Fin 64)
  /-- PWD_CHANGE_SEAL (R362): OP 6 changes the seal password. -/
  | pwdChangeSeal (len : Fin 64) (sealN : Bool)
  /-- PWD_LOCKOUT_END (R49): The 10 minute lockout ends. -/
  | pwdLockoutEnd (isSeal : Bool)
  /-- LEAVE_OUT_FAULT (R348): The last of the exit conditions comes true, with the main and precharge feedbacks reading open and VC below 60 V after the latched functions are cleared, and the outlet leaves OUT_FAULT. -/
  | leaveOutFault (n : Fin 4)
  /-- SIN_DEMAND_END (R335): A safety input leaves its demand level, so SIN_STAT.DEMAND and the SF1 ACTIVE bit clear. -/
  | sinDemandEnd (k : Fin 8)
  /-- IMD_VERDICT_GOOD (R344): IMD_OK returns to good, or IMD_PWM edges resume, and the insulation verdict returns to GOOD. -/
  | imdVerdictGood (n : Fin 4) (pwm : Bool) (freq duty : Nat)
  /-- TAMPER_INPUT_RELEASED (R322): TMP_IN0 or TMP_IN1 is deasserted after debounce, ending its tamper episode and clearing its TAMPER.ACTIVE bit. -/
  | tamperInputReleased (inp : Fin 2)
  /-- DELAY_REQ_TX (R67): The slave port sends a Delay_Req, or a Pdelay_Req when the port is P2P, to take the timestamps from which the servo computes its offset. -/
  | delayReqTx (port : Fin 2)
  /-- ANNOUNCE_TX (R66): A master port sends Announce, by which its slaves confirm the master and read currentUtcOffset. -/
  | announceTx (port : Fin 2)
  /-- PCIE_LINK_UP (R39): PCIe link training completes after PLL lock and PERST_N release. -/
  | pcieLinkUp (speed width : Nat) (msixEn : Bool)
  /-- IMAGE_CHECK (R58): IMAGE_CMD with OP 0b01 starts a check of the inactive configuration image. -/
  | imageCheck (key : Nat)
  /-- IMAGE_ACTIVATE (R58): IMAGE_CMD with OP 0b10 activates the checked inactive image, or is refused. -/
  | imageActivate (key : Nat)
  /-- IMAGE_WRITE (R58): The host writes the inactive image through table 15, which resets RESULT to 0. -/
  | imageWrite (byteOff : Nat) (value : Word)
  /-- TPO_ARM (R76): Writing 1 to CFGn.ARM arms output n, refused on bad timing, with late handling by R77 and R78. -/
  | tpoArm (n : Fin 8)
  /-- TPO_DISARM (R76): Writing 0 to ARM makes the output inactive at the next tick. -/
  | tpoDisarm (n : Fin 8)
  /-- TPO_START (R76): Fabric time reaches a programmed start or periodic instance and the output becomes active. -/
  | tpoStart (n : Fin 8)
  /-- TPO_PULSE_END (R76): A pulse's WIDTH has elapsed and the output becomes inactive. -/
  | tpoPulseEnd (n : Fin 8)
  /-- CM_SET_KEY_CNF (R225): The modem confirms the key; LSTATE becomes SLAC and CP PWM starts, or the link fails. -/
  | cmSetKeyCnf (n : Fin 4) (result : Nat)
  /-- CM_SLAC_PARM_REQ (R226): A SLAC parameter request binds the run and is answered with CM_SLAC_PARM.CNF. -/
  | cmSlacParmReq (n : Fin 4) (runId : Nat)
  /-- CM_START_ATTEN_CHAR_IND (R226): A start-of-attenuation indication opens the sound window. -/
  | cmStartAttenCharInd (n : Fin 4) (runId : Nat)
  /-- CM_MNBC_SOUND_IND (R226): A sound message is received during the sound window. -/
  | cmMnbcSoundInd (n : Fin 4) (runId : Nat)
  /-- CM_ATTEN_PROFILE_IND (R226): An attenuation profile from the modem is received, sending CM_ATTEN_CHAR.IND at the last. -/
  | cmAttenProfileInd (n : Fin 4) (groups : List Nat)
  /-- CM_ATTEN_CHAR_RSP (R226): The vehicle responds to the attenuation characteristics. -/
  | cmAttenCharRsp (n : Fin 4) (runId : Nat) (success : Bool)
  /-- CM_SLAC_MATCH_REQ (R226): A match request is answered with NID and NMK and the link becomes READY. -/
  | cmSlacMatchReq (n : Fin 4) (runId vehicleMac : Nat)
  /-- CM_VALIDATE_REQ (R226): A validation request is answered with not required. -/
  | cmValidateReq (n : Fin 4) (runId : Nat)
  /-- ICMPV6_NS_RX (R237): A Neighbor Solicitation for the context address is answered. -/
  | icmpv6NsRx (n : Fin 4) (src : IpFrom) (target : Nat)
  /-- ICMPV6_ECHO_RX (R237): An Echo Request for the context address is answered. -/
  | icmpv6EchoRx (n : Fin 4) (src : IpFrom) (dst : Nat) (data : List Nat)
  /-- CERTIFICATE_INSTALLATION (R260): A certificate installation or update request is forwarded to the host. -/
  | certificateInstallation (n : Fin 4) (update : Bool) (body : List Nat)
  /-- CERT_RES (R260): The host's CERT_RES is sent to the vehicle as the response body. -/
  | certRes (n : Fin 4) (reqId : Nat) (part parts : Nat) (body : List Nat)
  /-- CERT_TIMEOUT (R260): CERT_MS passes without a reply; a failure is answered and CANCEL is sent. -/
  | certTimeout (n : Fin 4)
  /-- OCSP_SET (R244): An OCSP_SET message writes a trust entry's OCSP response without the password. -/
  | ocspSet (entry : Fin 64) (der : List Nat)
  /-- KEYGEN (R243): A KEYGEN write generates a key pair for the curve, refused while TLS is open. -/
  | keygen (value : Word)
  /-- TRUST_ENTRY_APPLY (R244): A whole trust store entry is applied, its CRC and certificate checked, and STATE written. -/
  | trustEntryApply (entry : Fin 64)
  /-- PULSE_START (R284): A queued pulse leaves the ball 1.2 ms after its due time when the output is free. -/
  | pulseStart (k : Fin 8)
  /-- PULSE_END (R284): A pulse's width, followed by its gap, ends. -/
  | pulseEnd (k : Fin 8)
  /-- PULSE_CFG_WRITE (R285): A pulse configuration write keeps the residue and is refused for zero width or gap. -/
  | pulseCfgWrite (k : Fin 8) (reg : Fin 3) (value : Word)
  /-- CAP_ARM (R287): Writing CAP_CFG.ARM starts the capture lanes filling as rings. -/
  | capArm (value : Word)
  /-- CAP_FIRE (R287): The host writes FIRE to trigger a capture. -/
  | capFire (value : Word)
  /-- GSC_TX (R355): A GSC connection produces a unit every PERIOD_MS. -/
  | gscTx (c : Fin 16)
  /-- GSC_RX (R356): A received GSC unit is checked and accepted or counted as failed. -/
  | gscRx (src : Nat) (pdu : List Nat)
  /-- GSC_WATCHDOG (R357): No unit has been accepted for WD_MS and the connection enters FAULT (SF9). -/
  | gscWatchdog (c : Fin 16)
  /-- GSC_ACK (R358): Writing CCTRL.ACK moves a FAULT connection to WAIT. -/
  | gscAck (c : Fin 16) (value : Word)
  /-- GSC_HOST_RX_GO (R360): The host writes HOST_RX_GO to deliver a unit received over the host link. -/
  | gscHostRxGo (value : Word)
  /-- GSC_CTIME_WRITE (R355): A CTIME write is refused when WD_MS is below twice PERIOD_MS plus 2. -/
  | gscCtimeWrite (c : Fin 16) (value : Word)
  /-- ARB_SWITCH (R380): PAIRARB judges the active unit failed and the other qualified, and inverts ARB_OUT. -/
  | arbSwitch (k : Fin 4)
  /-- ARB_UNIT_STATE_CHANGE (R380): The arbiter judges a unit failed, restored or both failed. -/
  | arbUnitStateChange (k : Fin 4) (isB hbOk failLow : Bool)
  /-- PAIRARB_ENABLE (R380): Enabling a pair makes PAIRARB drive the level read on the ball. -/
  | pairarbEnable (value : Word) (levels : Fin 16)
  /-- PAIRARB_FORCE (R381): A PAIRk_FORCE write selects a unit, refused if it is failed. -/
  | pairarbForce (k : Fin 4) (value : Word)
  /-- MIRROR_ALIGNED (R382): The mirror lane aligns and the units exchange identity and configuration CRCs. -/
  | mirrorAligned (variant ctlStep metStep pwrStep : Nat) (cfgCrc : Word) (configSame : Bool)
  /-- MIRROR_FRAME_RX (R383): The standby applies a Mirror frame in sequence, or detects a gap. -/
  | mirrorFrameRx (frame : MirFrame)
  /-- MIRROR_STATUS_FRAME (R383): The standby exchanges a status frame each period. -/
  | mirrorStatusFrame (received : Option MirStatus)
  /-- HANDOVER_DONE (R387): The image is applied, the mode restored and the exclusive outputs enabled. -/
  | handoverDone (gapUs handUs : Nat)
  /-- SEL_GLITCH (R395): An ARB_SEL pulse shorter than 1 us is logged and changes no mode. -/
  | selGlitch (widthNs : Nat)
  /-- LSW_CMD_WRITE (R404): A CHc_CMD write sets a channel's mode and duty, ignored if owned. -/
  | lswCmdWrite (c : Fin 32) (value : Word)
  /-- LSW_LIMITING (R408): A channel reaches its current limit and runs linear. -/
  | lswLimiting (c : Fin 32) (curMa : Int)
  /-- LSW_THERMAL_SHUTDOWN (R408): A channel sensor reaches 170 °C; the channel switches off with THERM_LATCH. -/
  | lswThermalShutdown (c : Fin 32) (temp : Int)
  /-- LSW_THERMAL_CLEAR (R408): The channel sensor falls below 150 °C and THERM_LATCH clears. -/
  | lswThermalClear (c : Fin 32) (temp : Int)
  /-- LSW_BLANK_END (R409): The inrush blanking time ends. -/
  | lswBlankEnd (c : Fin 96)
  /-- LSW_OVERLOAD (R410): A channel stays limiting for LIMIT_MS outside blanking and switches off. -/
  | lswOverload (c : Fin 32) (curMa : Int)
  /-- LSW_CLUSTER_WARN (R411): A cluster sensor reaches 150 °C and its limiting channels switch off. -/
  | lswClusterWarn (k : Fin 4) (temp : Int)
  /-- LSW_CLUSTER_CLEAR (R411): The cluster sensor falls below 140 °C. -/
  | lswClusterClear (k : Fin 4) (temp : Int)
  /-- LSW_RETRY (R412): The retry delay expires and the channel turns on again, or latches off. -/
  | lswRetry (c : Fin 96)
  /-- LSW_RETRY_RELOAD (R412): After 10 s of conduction without a shutdown RETRIES_LEFT is reloaded. -/
  | lswRetryReload (c : Fin 96)
  /-- LSW_REARM (R412): Writing LSW.REARM clears latches and reloads retries. -/
  | lswRearm (value : Word)
  /-- LSW_OPEN_LOAD (R413): An off channel's output has stayed above 2.0 V for 10 ms. -/
  | lswOpenLoad (c : Fin 32)
  /-- LSW_DISS_CHECK (R401): Every 1 ms the channel dissipation sum is computed. -/
  | lswDissCheck (curMa : List Int) (out : List LswOut)
  /-- LSW_SUPPLY_FAULT (R414): A VLS supply condition switches channels off. -/
  | lswSupplyFault (cond : Fin 4) (vlsMv : Int)
  /-- LSW_SUPPLY_RECOVER (R414): The supply condition ends and channels resume as turns-on from off. -/
  | lswSupplyRecover (cond : Fin 4)
  /-- LSW_LINK_DOWN_WRITE (R406): An LSW or LSX write while the link is lost is dropped and records LINK_DOWN. -/
  | lswLinkDownWrite (isLsx : Bool) (off : Nat)
  /-- LSX_SCAN_CONVERSION (R416): An external channel's sense is converted and judged for fault level. -/
  | lsxScanConversion (x : Fin 64) (senseMv : Nat)
  /-- LSX_OVERLOAD (R416): An external channel has exceeded ILIM at every conversion for 10 ms. -/
  | lsxOverload (x : Fin 64)
  /-- LSX_REARM (R416): A GO write to LSX.CTRL rearms an external channel. -/
  | lsxRearm (value : Word)
  /-- SPI_READ (R426): A single-lane SPI read frame returns STATUS and data. -/
  | spiRead (addr : Word) (crc : Byte) (ready : Bool)
  /-- SPI_QUAD_READ (R426): A quad SPI read frame returns STATUS and data. -/
  | spiQuadRead (addr : Word) (crc : Byte) (ready : Bool)
  /-- SPI_WRITE (R427): A single-lane SPI write frame is queued. -/
  | spiWrite (addr data : Word) (crc : Byte)
  /-- SPI_QUAD_WRITE (R427): A quad SPI write frame is queued. -/
  | spiQuadWrite (addr data : Word) (crc : Byte)
  /-- SPI_STATUS (R426): A single-lane status frame returns STATUS. -/
  | spiStatus (crc : Byte)
  /-- SPI_QUAD_STATUS (R426): A quad status frame returns STATUS. -/
  | spiQuadStatus (crc : Byte)
  /-- VEC_EOI (R429): Writing VEC_EOI resends the MSI-X message if the condition is still 1. -/
  | vecEoi (value : Word)
  /-- MSIX_UNMASK (R429): Unmasking a vector sends its pending message. -/
  | msixUnmask (v : Fin 64)
  /-- MBX_DONE (R432): The host writes MBX_DONE to free a read slot. -/
  | mbxDone (value : Word)
  /-- MBX_POST (R432): The host posts a host-to-device slot. -/
  | mbxPost (value : Word)
  /-- MBX_CONSUMED (R432): The device consumes a posted slot and frees it. -/
  | mbxConsumed (slot : Fin 16)
  /-- DMA_GO (R434): GO copies the shadow set or arms it. -/
  | dmaGo (c : Fin 16)
  /-- DMA_START (R434): START fetches the descriptor at HEAD and runs the chain. -/
  | dmaStart (c : Fin 16)
  /-- DMA_PAUSE (R437): PAUSE stops after the burst in flight. -/
  | dmaPause (c : Fin 16) (moved : Nat) (hostData : List Nat)
  /-- DMA_RESUME (R437): RESUME continues from the paused point. -/
  | dmaResume (c : Fin 16)
  /-- DMA_SKIP (R436): SKIP leaves an errored descriptor for its NEXT. -/
  | dmaSkip (c : Fin 16)
  /-- DMA_RETRY (R436): RETRY runs an errored descriptor again from its start. -/
  | dmaRetry (c : Fin 16)
  /-- DMA_ABORT (R437): ABORT ends the transfer and goes to IDLE. -/
  | dmaAbort (c : Fin 16) (moved : Nat) (hostData : List Nat)
  /-- DMA_APPEND (R438): The append doorbell increments APPEND_CNT and wakes an idle tail. -/
  | dmaAppend (c : Fin 16) (value : Word)
  /-- DMA_DESC_FETCHED (R435): A descriptor fetch completes and its transfer begins. -/
  | dmaDescFetched (c : Fin 16) (desc : List Nat) (code : Nat)
  /-- DMA_TRANSFER_DONE (R436): A transfer completes and STATUS is written back. -/
  | dmaTransferDone (c : Fin 16) (hostData : List Nat) (wbCode : Nat)
  /-- DMA_BUS_ERROR (R436): A burst fails, the descriptor ends BAD and the channel enters ERROR. -/
  | dmaBusError (c : Fin 16) (code moved : Nat) (hostData : List Nat)
  /-- DMA_CPL_TIMEOUT (R436): A completion has not arrived within 50 ms. -/
  | dmaCplTimeout (c : Fin 16) (moved : Nat) (hostData : List Nat)
  /-- DMA_PACE_RESUME (R440): Ring FILL reaches PACE.HI and a paced descriptor moves records. -/
  | dmaPaceResume (c : Fin 16)
  /-- LIFE_SECOND_UPDATE (R448): Each legal second the counters and histograms are updated and stored. -/
  | lifeSecondUpdate (means : List (Nat × Int))
  /-- LIFE_HOST_INC (R450): A HOST_INC write adds to a host counter. -/
  | lifeHostInc (value : Word)
  /-- LIFE_HOST_HIST (R450): A HOST_HIST write adds to a host histogram bin. -/
  | lifeHostHist (value : Word)
  /-- LIFE_BASELINE (R451): Writing the BASELINE key takes a baseline at the next second. -/
  | lifeBaseline (value : Word)
  /-- SCRUB_READ (R457): The scrubber reads the next store block and corrects it. -/
  | scrubRead (flips : List (Nat × Nat)) (check : Nat) (otherBad : Bool)
  /-- VAON_POWER_ON_RESET (R34): VAON leaves its range and the whole device takes a power-on reset. -/
  | vaonPowerOnReset
  /-- CONFIG_LOAD_DONE (R57): The loader finishes checking and applying the ferroelectric image and the device enters READY or MIRROR, or waits for the host. -/
  | configLoadDone
  /-- CONFIG_DONE (R38): The host writes SYS.CTRL.CONFIG_DONE, ending CONFIGURE when the host is the configuration source. -/
  | configDone
  /-- MODE_REQ_DORMANT (R25): The host requests DORMANT, which is entered only if every condition holds and is otherwise refused. -/
  | modeReqDormant
  /-- MODE_REQ_READY (R23): The host requests READY from SEALED_SERVICE, which closes the seal. -/
  | modeReqReady
  /-- DORMANT_IDLE_EXPIRY (R25): READY has lasted DORMANT_IDLE seconds with every outlet idle, and the device enters DORMANT. -/
  | dormantIdleExpiry
  /-- VAULT_VRESET (R31): VLS falls below VRESET during VAULT, so the device resets once the flush completes. -/
  | vaultVreset
  /-- RESET_BUTTON_RELEASE (R35): The debounced reset button is released before 8 s, requesting a reset or a deferred reset. -/
  | resetButtonRelease
  /-- RESET_STUCK (R36): The reset button has been held for 8 s; RESET_STUCK is latched and the press is ignored. -/
  | resetStuck
  /-- RESET_BUTTON_RELEASED_1S (R36): The button has been seen released for 1 s and is heeded again. -/
  | resetButtonReleased1s
  /-- RESET_STUCK_CLEAR (R37): The host writes 1 to RESET_STUCK, which clears it only while the button is released. -/
  | resetStuckClear
  /-- DEFERRED_RESET_DONE (R35): The outlets have ramped to zero and passed to OUT_STOPPING, and the deferred reset is carried out. -/
  | deferredResetDone
  /-- PCIE_RESET (R425): PERST_N or a hot reset resets the whole device, subject to the deferral of R35. -/
  | pcieReset
  /-- FUNCTION_LEVEL_RESET (R425): A function level reset returns the endpoint, HOST, DMA and DMACH pages to reset and ends every DMA transfer. -/
  | functionLevelReset
  /-- PCIE_LINK_DOWN (R445): The PCIe link goes down and running host-space transfers fail. -/
  | pcieLinkDown
  /-- IMAGE_CHECK_DONE (R58): The image check completes and RESULT is set to good or to a failure code with FIRST_BAD. -/
  | imageCheckDone
  /-- TIME_NOW_READ (R65): A read of NOW_NS copies the whole clock into the NOW registers. -/
  | timeNowRead
  /-- HOLDOVER_ENTER (R68): No Sync has arrived for LOSS_MS while LOCKED, so the clock enters HOLDOVER. -/
  | holdoverEnter
  /-- SYNC_AGE_EXPIRY (R69): The last Sync result grows older than SENT_MS and SYNC_OK falls to 0. -/
  | syncAgeExpiry
  /-- TIME_STEP (R70): Writing TIME.CTRL.STEP steps fabric time to the SET value, and the TPO outputs are judged again. -/
  | timeStep
  /-- LEGAL_STEER (R74): Once a second the legal time difference is computed, and legal time is left alone, slewed or stepped. -/
  | legalSteer
  /-- SENT_OPEN (R84): The host command OPEN takes the lowest free host slot and sets it OPEN. -/
  | sentOpen
  /-- EPOCH_BOUNDARY (R118): At an epoch boundary inputs are frozen, DEMAND and LEASE frames are sent, and the allocation is computed and prepared as one Sentence. -/
  | epochBoundary
  /-- LEASE_EXPIRY (R114): The own lease expires; the device aborts or halves open Sentences and starts ramping its ceilings to the floors. -/
  | leaseExpiry
  /-- LEASE_RAMP_STEP (R114): Each millisecond of the expiry ramp commits a yield-only Sentence along the lines, ending AT_FLOOR at its end. -/
  | leaseRampStep
  /-- OPERATOR_RECOMPUTE (R202): Every 100 ms the 10 s prediction operator of each conductor is recomputed. -/
  | operatorRecompute
  /-- EXI_LOAD_SET (R247): Setting VDE.CTRL.EXI_LOAD begins a grammar load, refused while a context is active. -/
  | exiLoadSet
  /-- EXI_LOAD_CLEAR (R247): Clearing EXI_LOAD checks the grammar table and sets or clears EXI_VALID. -/
  | exiLoadClear
  /-- LENS_BLOCK_SEND (R271): Every 100 us the metering means are sent to the control die. -/
  | lensBlockSend
  /-- METROLOGY_CYCLE_END (R273): At each legal millisecond, points compute means and energy and book them to billing, pulses and demand. -/
  | metrologyCycleEnd
  /-- BOUNDARY_COMMIT (R313): The boundary update commits by incrementing BOUNDARY_SEQ, and the held cycles are booked. -/
  | boundaryCommit
  /-- GRID_WINDOW_END (R277): A grid window of NPER periods closes and the AC quantities are written. -/
  | gridWindowEnd
  /-- GRID_FREQ_LOST (R277): No zero crossing has arrived for 25 ms, or f is out of range, so windows are timed nominally. -/
  | gridFreqLost
  /-- CAP_TRIGGER (R287): The time, level or Lens event trigger fires. -/
  | capTrigger
  /-- CAP_DONE (R287): The lanes have filled the post-trigger share and freeze with DONE set. -/
  | capDone
  /-- SESSION_SIGNED (R317): The record is signed with the metrology key within 20 ms. -/
  | sessionSigned
  /-- METROLOGY_REQUEST_REFUSED (R12): A request outside Table 1.2 is rejected and recorded as tamper. -/
  | metrologyRequestRefused
  /-- CTL_METROLOGY_LINK_LOST (R14): No valid frame has arrived on the control-metrology link for 5 us. -/
  | ctlMetrologyLinkLost
  /-- CTL_METROLOGY_LINK_RESTORED (R14): The control-metrology link recovers and pending lifetime increments are sent. -/
  | ctlMetrologyLinkRestored
  /-- CTL_POWER_LINK_LOST (R15): No valid command has arrived for 100 us; channels hold, or switch off in a pair. -/
  | ctlPowerLinkLost
  /-- CTL_POWER_LINK_RESTORED (R405): The link returns; the duration is logged and the current commands are applied. -/
  | ctlPowerLinkRestored
  /-- PWD_CLOSE_SAFETY (R362): OP 3 closes the safety password. -/
  | pwdCloseSafety
  /-- PWD_CLOSE_SEAL (R362): OP 4 closes the metrology seal. -/
  | pwdCloseSeal
  /-- PWD_IDLE_TIMEOUT (R363): No RWP write has been accepted for PWD_IDLE minutes and the safety password closes. -/
  | pwdIdleTimeout
  /-- SEAL_N_RELEASE (R48): SEAL_N is released and the seal closes. -/
  | sealNRelease
  /-- PARTNER_HB_LOST (R376): No heartbeat edge has been seen for 100 us. -/
  | partnerHbLost
  /-- PARTNER_HB_OK (R376): Ten consecutive heartbeat edges have been seen. -/
  | partnerHbOk
  /-- MIR_FAIL (R377): Writing MIR.CTRL.FAIL asserts FAIL_N. -/
  | mirFail
  /-- MIR_UNFAIL (R377): Writing MIR.CTRL.UNFAIL allows FAIL_N high again. -/
  | mirUnfail
  /-- MIRROR_LANE_LOST (R383): Lane alignment has been lost for 10 us and IMAGE_VALID clears. -/
  | mirrorLaneLost
  /-- MIRROR_FRAME_TX (R383): Every 10 us the selected unit sends a Mirror frame. -/
  | mirrorFrameTx
  /-- HANDOVER_START (R387): ARB_SEL has held the unit's polarity for 1 us and the standby enters HANDOVER. -/
  | handoverStart
  /-- DESELECTED (R387): ARB_SEL leaves the unit's polarity and it passes to MIRROR. -/
  | deselected
  /-- SAFE_OFF (R407): The safe-off wire is driven and SAFE_CTL channels switch off within 10 us. -/
  | safeOff
  /-- SAFE_OFF_RELEASE (R407): The safe-off wire is released and channels return to their command. -/
  | safeOffRelease
  /-- LSW_DISS_HIGH (R401): The dissipation sum has stayed above 4 W for 100 ms. -/
  | lswDissHigh
  /-- LSX_CHAIN_SHIFT (R415): Every 10 us the external command chain is shifted out and latched. -/
  | lsxChainShift
  /-- SPI_FRAME_ABORT (R426): A frame that ends early has no effect and is counted. -/
  | spiFrameAbort
  /-- SPI_QUEUED_WRITE (R427): A queued SPI write is carried out. -/
  | spiQueuedWrite
  /-- SPI_HELD_READ_EXPIRY (R427): An uncollected held read result is discarded after 10 ms. -/
  | spiHeldReadExpiry
  /-- MBX_DEVICE_MESSAGE (R432): The device writes a message to a free device-to-host slot, or waits. -/
  | mbxDeviceMessage
  /-- MBX_FULL_TIMEOUT (R432): A waiting message finds no free slot after 100 ms and is dropped. -/
  | mbxFullTimeout
  /-- DMA_MOVER_GRANT (R433): The mover is granted to the highest-priority ready channel. -/
  | dmaMoverGrant
deriving DecidableEq, Repr

end Sys2Proof
end

