-- ==== Sys2Proof/Machine/Operands.lean ====
section
/-! DEFINITION. The number and byte formats operands and results come in: two's complement (R8), byte orders (R5),
saturating counters, binary32 arithmetic (R169), the CRCs (Table 11.3, R354, R426) and SHA-256 (R361). -/
namespace Sys2Proof.Machine

/-! ### Sparse collections -/

/-- The entry of key `k`, or the default `d` when it is not listed. -/
def mget {α : Type} (d : α) : FMap α → Nat → α
  | [], _ => d
  | (a, b) :: t, k => if a = k then b else mget d t k

/-- Insert or replace the entry of key `k`, keeping the keys rising. -/
def mins {α : Type} (k : Nat) (v : α) : FMap α → FMap α
  | [] => [(k, v)]
  | (a, b) :: t => if k < a then (k, v) :: (a, b) :: t else if a = k then (k, v) :: t else (a, b) :: mins k v t

/-- Remove the entry of key `k`. -/
def mdel {α : Type} (k : Nat) : FMap α → FMap α
  | [] => []
  | (a, b) :: t => if a = k then mdel k t else (a, b) :: mdel k t

/-- Write the entry of key `k`; a value equal to the default `d` is not listed. -/
def mput {α : Type} [DecidableEq α] (d : α) (m : FMap α) (k : Nat) (v : α) : FMap α :=
  if v = d then mdel k m else mins k v m

/-- The keys rise strictly and no listed entry equals the default. -/
def FMapWf {α : Type} [DecidableEq α] (d : Nat → α) : FMap α → Bool
  | [] => true
  | [(k, v)] => decide (v ≠ d k)
  | (k, v) :: (k', v') :: t => decide (v ≠ d k) && decide (k < k') && FMapWf d ((k', v') :: t)

/-! ### Two's complement and saturation -/

/-- The signed value of a `w`-bit pattern. -/
def toSigned (w n : Nat) : Int := if n < 2 ^ (w - 1) then (n : Int) else (n : Int) - (2 : Int) ^ w

/-- The `w`-bit two's complement pattern of an integer. -/
def ofSigned (w : Nat) (z : Int) : Nat := (z % (2 : Int) ^ w).toNat

/-- One more, stopping at the largest `w`-bit value. -/
def satInc (w n : Nat) : Nat := if n + 1 < 2 ^ w then n + 1 else 2 ^ w - 1

/-- `n`, or the largest `w`-bit value. -/
def satTo (w n : Nat) : Nat := min n (2 ^ w - 1)

/-- Bit `i` of `n` set to `b`. -/
def setBitOf (n i : Nat) (b : Bool) : Nat :=
  if n.testBit i == b then n else if b then n + 2 ^ i else n - 2 ^ i

/-- The number of bits set among the lowest `w`. -/
def popBits (w n : Nat) : Nat := ((List.range w).filter fun i => n.testBit i).length

/-- Bits [hi:lo] of `n`. -/
def bits (n hi lo : Nat) : Nat := (n / 2 ^ lo) % 2 ^ (hi + 1 - lo)

/-- Integer division rounding toward zero. -/
def divZ (a b : Int) : Int := Int.tdiv a b

/-- The value limited to `lo` … `hi`. -/
def clampI (lo hi x : Int) : Int := max lo (min hi x)

/-! ### Byte orders -/

/-- `n` bytes of `v`, least significant first (R5, registers and tables). -/
def leBytes : Nat → Nat → List Nat
  | 0, _ => []
  | n + 1, v => v % 256 :: leBytes n (v / 256)

/-- The number whose bytes, least significant first, are given. -/
def ofLe : List Nat → Nat
  | [] => 0
  | b :: t => b % 256 + 256 * ofLe t

/-- `n` bytes of `v`, most significant first (R5, frames). -/
def beBytes (n v : Nat) : List Nat := (leBytes n v).reverse

/-- The number whose bytes, most significant first, are given. -/
def ofBe (l : List Nat) : Nat := ofLe l.reverse

/-- `n` bytes of `l` from position `i`; positions beyond the end read 0. -/
def slice (l : List Nat) (i n : Nat) : List Nat := (List.range n).map fun j => l.getD (i + j) 0

/-! ### CRCs -/

/-- One byte into a reflected 32-bit CRC with reflected polynomial `poly`. -/
def crcByte (poly crc b : Nat) : Nat :=
  (List.range 8).foldl (fun c _ => if c % 2 = 1 then (c / 2).xor poly else c / 2) (crc.xor (b % 256))

/-- CRC-32 as CERT_CRC codes it (Table 11.3): 0x04C1_1DB7 reflected, initial and final all ones. -/
def crc32 (l : List Nat) : Nat := (l.foldl (crcByte 0xEDB88320) 0xFFFFFFFF).xor 0xFFFFFFFF

/-- CRC-32C (R354): 0x1EDC_6F41 reflected is 0x82F6_3B78. -/
def crc32c (l : List Nat) : Nat := (l.foldl (crcByte 0x82F63B78) 0xFFFFFFFF).xor 0xFFFFFFFF

/-- CRC-8 of the SPI frames (R426): polynomial 0x07, initial 0, not reflected. -/
def crc8 (l : List Nat) : Nat :=
  l.foldl (fun c b => (List.range 8).foldl
    (fun c _ => if c ≥ 128 then ((c * 2) % 256).xor 0x07 else c * 2) (c.xor (b % 256))) 0

/-! ### binary32 (R169): round to nearest even, subnormals flushed to a zero of their sign -/

def f32Neg? (x : F32) : Bool := x.testBit 31
def f32ExpBits (x : F32) : Nat := bits x 30 23
def f32ManBits (x : F32) : Nat := bits x 22 0
/-- Infinity or not a number. -/
def f32NonFinite (x : F32) : Bool := f32ExpBits x == 255
def f32Nan? (x : F32) : Bool := f32ExpBits x == 255 && f32ManBits x != 0
/-- A zero; a subnormal counts as one. -/
def f32Zero? (x : F32) : Bool := f32ExpBits x == 0
def f32QNan : F32 := 0x7FC00000
def f32Inf (neg : Bool) : F32 := if neg then 0xFF800000 else 0x7F800000
def f32ZeroOf (neg : Bool) : F32 := if neg then 0x80000000 else 0

/-- The magnitude of a finite pattern times 2^150, exact. -/
def f32Scaled (x : F32) : Nat :=
  if f32Zero? x then 0 else (0x800000 + f32ManBits x) * 2 ^ f32ExpBits x

/-- The signed value of a finite pattern times 2^150, exact. -/
def f32Val (x : F32) : Int := if f32Neg? x then -(f32Scaled x : Int) else (f32Scaled x : Int)

/-- `num/den × 2^−e` rounded to the nearest integer, ties to even. -/
def rneShift (num den : Nat) (e : Int) : Nat :=
  let n := if e < 0 then num * 2 ^ (-e).toNat else num
  let d := if e < 0 then den else den * 2 ^ e.toNat
  let q := n / d
  let r := n % d
  if 2 * r < d then q else if 2 * r > d then q + 1 else if q % 2 = 0 then q else q + 1

/-- The binary32 pattern nearest to ±num/den (den > 0). -/
def f32Round (neg : Bool) (num den : Nat) : F32 :=
  if num = 0 then f32ZeroOf neg else
  let e0 : Int := (Nat.log2 num : Int) - (Nat.log2 den : Int) - 23
  -- the exact quotient times 2^−e0 lies in [2^22, 2^24); bring it to [2^23, 2^24)
  let small := if e0 < 0 then decide (num * 2 ^ (-e0).toNat < den * 2 ^ 23) else decide (num < den * 2 ^ (23 + e0.toNat))
  let e := if small then e0 - 1 else e0
  let m := rneShift num den e
  let (m, e) := if m ≥ 0x1000000 then (0x800000, e + 1) else (m, e)
  let b := e + 150
  let s := if neg then 0x80000000 else 0
  if b ≤ 0 then s else if b ≥ 255 then f32Inf neg else s + b.toNat * 0x800000 + (m - 0x800000)

/-- The pattern nearest to an exact value given times 2^150; an exact zero is +0. -/
def f32OfScaled (z : Int) : F32 := f32Round (decide (z < 0)) z.natAbs (2 ^ 150)

/-- The pattern nearest to an integer. -/
def f32OfInt (z : Int) : F32 := f32Round (decide (z < 0)) z.natAbs 1

/-- The pattern nearest to a rational. -/
def f32OfRat (num : Int) (den : Nat) : F32 := f32Round (decide (num < 0)) num.natAbs den

def f32Negate (x : F32) : F32 := if f32Neg? x then x - 0x80000000 else x + 0x80000000
def f32Abs (x : F32) : F32 := if f32Neg? x then x - 0x80000000 else x

def f32Add (x y : F32) : F32 :=
  if f32Nan? x || f32Nan? y then f32QNan
  else if f32NonFinite x then (if f32NonFinite y && f32Neg? x != f32Neg? y then f32QNan else x)
  else if f32NonFinite y then y
  else if f32Zero? x && f32Zero? y then f32ZeroOf (f32Neg? x && f32Neg? y)
  else f32OfScaled (f32Val x + f32Val y)

def f32Sub (x y : F32) : F32 := if f32Nan? y then f32QNan else f32Add x (f32Negate y)

def f32Mul (x y : F32) : F32 :=
  let neg := f32Neg? x != f32Neg? y
  if f32Nan? x || f32Nan? y then f32QNan
  else if f32NonFinite x || f32NonFinite y then (if f32Zero? x || f32Zero? y then f32QNan else f32Inf neg)
  else f32Round neg (f32Scaled x * f32Scaled y) (2 ^ 300)

def f32Div (x y : F32) : F32 :=
  let neg := f32Neg? x != f32Neg? y
  if f32Nan? x || f32Nan? y then f32QNan
  else if f32NonFinite x then (if f32NonFinite y then f32QNan else f32Inf neg)
  else if f32NonFinite y then f32ZeroOf neg
  else if f32Zero? y then (if f32Zero? x then f32QNan else f32Inf neg)
  else f32Round neg (f32Scaled x) (f32Scaled y)

/-- The integer square root, found bit by bit from bit `k`. -/
def isqrtFrom (n : Nat) : Nat → Nat → Nat
  | 0, r => r
  | k + 1, r => let r' := r + 2 ^ k; isqrtFrom n k (if r' * r' ≤ n then r' else r)

/-- The largest integer whose square is at most `n`. -/
def isqrt (n : Nat) : Nat := isqrtFrom n (Nat.log2 n / 2 + 1) 0

def f32Sqrt (x : F32) : F32 :=
  if f32Nan? x then f32QNan
  else if f32Zero? x then f32ZeroOf (f32Neg? x)
  else if f32Neg? x then f32QNan
  else if f32NonFinite x then x
  else
    let n := f32Scaled x * 2 ^ 150
    let r := isqrt n
    if r * r = n then f32Round false r (2 ^ 150) else f32Round false (2 * r + 1) (2 ^ 151)

/-- Ordered comparison; false when either operand is not a number. -/
def f32Lt (x y : F32) : Bool :=
  if f32Nan? x || f32Nan? y then false
  else if f32NonFinite x && f32NonFinite y then f32Neg? x && !f32Neg? y
  else if f32NonFinite x then f32Neg? x
  else if f32NonFinite y then !f32Neg? y
  else decide (f32Val x < f32Val y)

def f32Le (x y : F32) : Bool := !f32Nan? x && !f32Nan? y && !f32Lt y x
def f32Min (x y : F32) : F32 := if f32Lt y x then y else x
def f32Max (x y : F32) : F32 := if f32Lt x y then y else x

/-- The integer part, toward zero; 0 for a pattern that is not finite. -/
def f32Trunc (x : F32) : Int :=
  if f32NonFinite x then 0 else Int.tdiv (f32Val x) ((2 ^ 150 : Nat) : Int)

/-- The nearest integer, ties away from zero. -/
def f32RoundInt (x : F32) : Int :=
  if f32NonFinite x then 0
  else if f32Neg? x then -(((2 * f32Scaled x + 2 ^ 150) / 2 ^ 151 : Nat) : Int)
  else (((2 * f32Scaled x + 2 ^ 150) / 2 ^ 151 : Nat) : Int)

/-- The nearest integer, ties to even; 0 for a pattern that is not a number, the clamp's end for an infinity (R270). -/
def f32RoundEven (x : F32) : Int :=
  if f32Nan? x then 0
  else if f32NonFinite x then (if f32Neg? x then -(2 : Int) ^ 31 else 2 ^ 31 - 1)
  else let m : Int := rneShift (f32Scaled x) (2 ^ 150) 0
    if f32Neg? x then -m else m

/-! ### SHA-256 (R361). The manual names the function and prints none of its constants: they are the leading fraction bits of the
cube and square roots of the first primes (log entry 23). -/

/-- A number from 2 to 311 no smaller number from 2 to 17 divides. -/
def smallPrime (n : Nat) : Bool := [2, 3, 5, 7, 11, 13, 17].all fun d => n == d || n % d != 0

/-- The first 64 primes. -/
def primes64 : List Nat := ((List.range 312).drop 2).filter smallPrime

/-- The largest number whose `e`-th power is at most `n`, found bit by bit from bit `k`. -/
def rootFrom (e n : Nat) : Nat → Nat → Nat
  | 0, r => r
  | k + 1, r => rootFrom e n k (if (r + 2 ^ k) ^ e ≤ n then r + 2 ^ k else r)

/-- The first 32 bits of the fraction of the `e`-th root of `p`. -/
def rootFraction (e p : Nat) : Nat := rootFrom e (p * 2 ^ (32 * e)) 37 0 % 2 ^ 32

/-- The 64 round constants: cube roots. -/
def shaRoundWords : List Nat := primes64.map (rootFraction 3)

/-- The state a digest starts from: square roots of the first eight primes. -/
def shaStart : List Nat := (primes64.take 8).map (rootFraction 2)

/-- The word moved `n` places to the right, the bits that leave coming back on the left. -/
def turn (n x : Nat) : Nat := x >>> n + x % 2 ^ n * 2 ^ (32 - n)

/-- Three words combined bit by bit without carry. -/
def mix3 (a b c : Nat) : Nat := (a ^^^ b) ^^^ c

/-- The words of the schedule, newest first, `n` of them still to come. -/
def shaGrow : Nat → List Nat → List Nat
  | 0, w => w
  | n + 1, w =>
    let near := w.getD 1 0
    let far := w.getD 14 0
    let next := mix3 (turn 17 near) (turn 19 near) (near >>> 10) + w.getD 6 0 +
      mix3 (turn 7 far) (turn 18 far) (far >>> 3) + w.getD 15 0
    shaGrow n (next % 2 ^ 32 :: w)

/-- The eight working words as two columns of four, newest first: `a` the left, `e` the right one. -/
def shaStep (v : List Nat × List Nat) (word : Nat) : List Nat × List Nat :=
  match v with
  | ([a, b, c, d], [e, f, g, h]) =>
    let pick := (e &&& f) + (g - (e &&& g))
    let most := (a &&& b) ||| (c &&& (a ||| b))
    let fresh := word + h + pick + mix3 (turn 6 e) (turn 11 e) (turn 25 e)
    ([(fresh + most + mix3 (turn 2 a) (turn 13 a) (turn 22 a)) % 2 ^ 32, a, b, c], [(d + fresh) % 2 ^ 32, e, f, g])
  | _ => v

/-- The digest state after one 64-byte block. -/
def shaMix (h block : List Nat) : List Nat :=
  let first := (List.range 16).map fun i => ofBe (slice block (4 * i) 4)
  let words := List.zipWith (· + ·) shaRoundWords (shaGrow 48 first.reverse).reverse
  let r := words.foldl shaStep (h.take 4, h.drop 4)
  List.zipWith (fun x y => (x + y) % 2 ^ 32) h (r.1 ++ r.2)

/-- The message with its end mark, zeros and length in bits: a whole number of 64-byte blocks. -/
def shaPadded (m : List Nat) : List Nat := m ++ 0x80 :: List.replicate ((119 - m.length % 64) % 64) 0 ++ beBytes 8 (8 * m.length)

/-- SHA-256 of a byte list, as 32 bytes. -/
def sha256 (m : List Nat) : List Nat :=
  let p := shaPadded m
  ((List.range (p.length / 64)).foldl (fun h i => shaMix h (slice p (64 * i) 64)) shaStart).flatMap (beBytes 4)

end Sys2Proof.Machine
end

