-- ==== Sys2Proof/Config.lean ====
section
/-! DEFINITION. What the manual leaves open: free values, constants without a body, and the functions an implementation
fixes. Nothing in the model can see what they are. -/
namespace Sys2Proof

/-- The `n`-th free value: a random number of the device, or a value the manual leaves open (log entry 1). -/
opaque Config.freeNat (n : Nat) : Nat

/-- The ECDSA P-256 signature r ‖ s of a message under the sealed metrology key (R317; log entry 8). -/
opaque Config.metrologySign (message : List Nat) : List Nat

/-- X ‖ Y of the sealed metrology key's public point as a number, most significant byte first (R317; log entry 8). -/
opaque Config.metrologyPoint : Nat

/-- What the block reads from an X.509 certificate (R244, R245): names and key as bytes, validity in seconds, the
extensions the rules ask for, and the signature algorithm (1 ECDSA P-256 SHA-256, 2 ECDSA P-521 SHA-512, 3 Ed448). -/
structure Cert where
  subject     : List Nat
  issuer      : List Nat
  key         : List Nat
  alg         : Nat
  notBefore   : Nat
  notAfter    : Nat
  isCa        : Bool
  certSign    : Bool
  digSig      : Bool
  pathLen     : Option Nat
  unknownCrit : Bool
deriving DecidableEq, Repr, Inhabited

/-- A DER certificate taken apart, none when it does not parse (X.509 version 3; log entry 27). -/
opaque Config.x509 (der : List Nat) : Option Cert

/-- A certificate's signature verifies with a public key (log entry 27). -/
opaque Config.verifies (der key : List Nat) : Bool

/-- The public key bytes of a private key on a curve: 0 P-256, 1 P-521, 2 Ed448 (R243; log entry 27). -/
opaque Config.publicKey (curve priv : Nat) : List Nat

/-- The network identifier HomePlug Green PHY derives from a membership key (R225; log entry 26). -/
opaque Config.nidOf (nmk : Nat) : Nat

/-- cos and sin of 2π × num / den, times 2^30, as the Lens computes them (R277; log entry 28). -/
opaque Config.cosTurn (num : Int) (den : Nat) : Int
opaque Config.sinTurn (num : Int) (den : Nat) : Int

/-- The argument of a phasor in 0.01°, as the Lens computes it (R277; log entry 28). -/
opaque Config.argCenti (re im : Int) : Int

end Sys2Proof
end

