-- ==== Sys2Proof/Machine/Events.lean ====
section
/-! DEFINITION. The event and error codes of every block, from the code tables of chapters 02 to 18 and Table 3.4:
each with its page TYPE, its code and its severity (Table 3.6). -/
namespace Sys2Proof.Machine

/-- An event or error code: page TYPE, code within the page, and severity (R59, R60). -/
structure EvCode where
  page : Nat
  code : Nat
  sev  : Nat
deriving DecidableEq, Repr

namespace E

/-- 02_modes_and_startup.md: data old mode, new mode, trigger. -/
def SYS_MODE_CHANGE : EvCode := ⟨0x00, 0x01, 1⟩
/-- 02_modes_and_startup.md: data —. -/
def SYS_RESET_STUCK : EvCode := ⟨0x00, 0x02, 2⟩
/-- 02_modes_and_startup.md: data outlets ramped. -/
def SYS_RESET_DEFERRED : EvCode := ⟨0x00, 0x03, 1⟩
/-- 02_modes_and_startup.md: data requested mode, unmet condition. -/
def SYS_MODE_REQ_REFUSED : EvCode := ⟨0x00, 0x10, 3⟩
/-- 02_modes_and_startup.md: data image, SERIAL, BODY_CRC. -/
def SYS_IMAGE_ACTIVATED : EvCode := ⟨0x00, 0x20, 1⟩
/-- 02_modes_and_startup.md: data RESULT, FIRST_BAD. -/
def SYS_IMAGE_REFUSED : EvCode := ⟨0x00, 0x21, 3⟩
/-- 02_modes_and_startup.md: data —. -/
def CLK_PLL_UNLOCK : EvCode := ⟨0x01, 0x01, 4⟩
/-- 02_modes_and_startup.md: data —. -/
def CLK_XTAL_FAIL : EvCode := ⟨0x01, 0x02, 4⟩
/-- 02_modes_and_startup.md: data trigger rail, VLS. -/
def PWR_VAULT_ENTER : EvCode := ⟨0x02, 0x01, 2⟩
/-- 02_modes_and_startup.md: data flush duration. -/
def PWR_VAULT_DONE : EvCode := ⟨0x02, 0x02, 1⟩
/-- 02_modes_and_startup.md: data lowest VLS, time in VAULT. -/
def PWR_BROWNOUT_RECOVERED : EvCode := ⟨0x02, 0x03, 2⟩
/-- 02_modes_and_startup.md: data VHOLD at failure. -/
def PWR_HOLDUP_SHORT : EvCode := ⟨0x02, 0x04, 5⟩
/-- 02_modes_and_startup.md: data rail bit of RAIL_STAT.UV. -/
def PWR_RAIL_UV : EvCode := ⟨0x02, 0x05, 3⟩
/-- 02_modes_and_startup.md: data rail bit of RAIL_STAT.UV (R32). -/
def PWR_CTL_RAIL_FLUSH : EvCode := ⟨0x02, 0x06, 2⟩
/-- 03_register_pages.md: data LOST. -/
def EVT_LOG_OVERRUN : EvCode := ⟨0x43, 0x01, 2⟩
/-- 03_register_pages.md: data FILL. -/
def EVT_LOG_FILL : EvCode := ⟨0x43, 0x02, 1⟩
/-- 03_register_pages.md: data address, read or write. -/
def EVT_UNMAPPED_ACCESS : EvCode := ⟨0x43, 0x30, 3⟩
/-- 03_register_pages.md: data table, offset. -/
def EVT_TABLE_RANGE : EvCode := ⟨0x43, 0x31, 3⟩
/-- 03_register_pages.md: data test number, mode. -/
def DIAG_TEST_FAIL : EvCode := ⟨0x44, 0x01, 4⟩
/-- 03_register_pages.md: data address. -/
def DIAG_SRAM_CORRECTED : EvCode := ⟨0x44, 0x02, 1⟩
/-- 03_register_pages.md: data address. -/
def DIAG_SRAM_UNCORRECTED : EvCode := ⟨0x44, 0x03, 4⟩
/-- 03_register_pages.md: data link. -/
def DIAG_D2D_CRC : EvCode := ⟨0x44, 0x04, 2⟩
/-- 03_register_pages.md: data interval length, µs. -/
def DIAG_CYCLE_OVERRUN : EvCode := ⟨0x44, 0x05, 4⟩
/-- 04_time_base.md: data offset. -/
def TIME_LOCKED : EvCode := ⟨0x04, 0x01, 1⟩
/-- 04_time_base.md: data offset. -/
def TIME_UNLOCKED : EvCode := ⟨0x04, 0x02, 2⟩
/-- 04_time_base.md: data last offset. -/
def TIME_HOLDOVER : EvCode := ⟨0x04, 0x03, 2⟩
/-- 04_time_base.md: data age of the last Sync result, ms. -/
def TIME_HOLDOVER_EXCEEDED : EvCode := ⟨0x04, 0x04, 2⟩
/-- 04_time_base.md: data signed step, ns; source (servo or host). -/
def TIME_STEP : EvCode := ⟨0x04, 0x05, 2⟩
/-- 04_time_base.md: data requested increment. -/
def TIME_INCR_CLAMPED : EvCode := ⟨0x04, 0x06, 3⟩
/-- 04_time_base.md: data offset. -/
def TIME_OFFSET_HIGH : EvCode := ⟨0x04, 0x07, 2⟩
/-- 04_time_base.md: data old and new legal time, new epoch. -/
def TIME_LEGAL_STEP : EvCode := ⟨0x04, 0x10, 5⟩
/-- 04_time_base.md: data —. -/
def TIME_EPOCH_WRAP : EvCode := ⟨0x04, 0x11, 5⟩
/-- 04_time_base.md: data register offset. -/
def TIME_SERVO_OWNS : EvCode := ⟨0x04, 0x20, 3⟩
/-- 04_time_base.md: data value written. -/
def TIME_BAD_ROLE : EvCode := ⟨0x04, 0x21, 3⟩
/-- 04_time_base.md: data value written. -/
def TIME_BAD_SLEW : EvCode := ⟨0x04, 0x22, 3⟩
/-- 04_time_base.md: data output, skipped count. -/
def TPO_LATE : EvCode := ⟨0x05, 0x01, 1⟩
/-- 04_time_base.md: data output, programmed time. -/
def TPO_MISSED : EvCode := ⟨0x05, 0x02, 2⟩
/-- 04_time_base.md: data output, register offset. -/
def TPO_ARMED_WRITE : EvCode := ⟨0x05, 0x20, 3⟩
/-- 04_time_base.md: data output. -/
def TPO_BAD_TIMING : EvCode := ⟨0x05, 0x21, 3⟩
/-- 05_sentences.md: data slot, SID, Clauses. -/
def SENT_COMMITTED : EvCode := ⟨0x09, 0x01, 0⟩
/-- 05_sentences.md: data slot, SID, code, Clause. -/
def SENT_ABORTED : EvCode := ⟨0x09, 0x02, 1⟩
/-- 05_sentences.md: data slot, SID, reason. -/
def SENT_HALF : EvCode := ⟨0x09, 0x03, 2⟩
/-- 05_sentences.md: data SID, participant, reason. -/
def SENT_HALF_REPORTED : EvCode := ⟨0x09, 0x04, 2⟩
/-- 05_sentences.md: data SID, participant. -/
def SENT_OUTCOME_MISSING : EvCode := ⟨0x09, 0x05, 2⟩
/-- 05_sentences.md: data SID, decision. -/
def SENT_LATE_DECISION : EvCode := ⟨0x09, 0x06, 2⟩
/-- 05_sentences.md: data slot, tag. -/
def SENT_MARK : EvCode := ⟨0x09, 0x07, 1⟩
/-- 05_sentences.md: data slot, Clause. -/
def SENT_BAD_TYPE : EvCode := ⟨0x09, 0x40, 3⟩
/-- 05_sentences.md: data slot, Clause. -/
def SENT_ABSENT_INSTANCE : EvCode := ⟨0x09, 0x41, 3⟩
/-- 05_sentences.md: data slot, Clause. -/
def SENT_PROTECTED_FIELD : EvCode := ⟨0x09, 0x42, 3⟩
/-- 05_sentences.md: data slot, Clause. -/
def SENT_RANGE : EvCode := ⟨0x09, 0x43, 3⟩
/-- 05_sentences.md: data slot, Clause. -/
def SENT_TOO_MANY_CLAUSES : EvCode := ⟨0x09, 0x44, 3⟩
/-- 05_sentences.md: data slot, Clause. -/
def SENT_NOT_PARENT : EvCode := ⟨0x09, 0x45, 3⟩
/-- 05_sentences.md: data slot, Clause. -/
def SENT_EMPTY : EvCode := ⟨0x09, 0x46, 3⟩
/-- 05_sentences.md: data slot, Clause. -/
def SENT_DUPLICATE_TARGET : EvCode := ⟨0x09, 0x47, 3⟩
/-- 05_sentences.md: data slot, Clause. -/
def SENT_CONFLICT : EvCode := ⟨0x09, 0x48, 3⟩
/-- 05_sentences.md: data slot, Clause. -/
def SENT_CAPACITY : EvCode := ⟨0x09, 0x49, 3⟩
/-- 05_sentences.md: data slot, Clause. -/
def SENT_ROUTE_INVALID : EvCode := ⟨0x09, 0x4A, 3⟩
/-- 05_sentences.md: data slot, Clause. -/
def SENT_TOO_LATE : EvCode := ⟨0x09, 0x4B, 3⟩
/-- 05_sentences.md: data slot, Clause. -/
def SENT_NO_SYNC : EvCode := ⟨0x09, 0x4C, 3⟩
/-- 05_sentences.md: data slot, Clause. -/
def SENT_BAD_MODE : EvCode := ⟨0x09, 0x4D, 3⟩
/-- 05_sentences.md: data owner. -/
def SENT_NO_SLOT_FREE : EvCode := ⟨0x09, 0x4E, 3⟩
/-- 05_sentences.md: data SID. -/
def SENT_DIST_DISABLED : EvCode := ⟨0x09, 0x4F, 3⟩
/-- 05_sentences.md: data slot, OP. -/
def SENT_NOT_OWNER : EvCode := ⟨0x09, 0x50, 3⟩
/-- 05_sentences.md: data slot, OP. -/
def SENT_ABORT_REFUSED : EvCode := ⟨0x09, 0x51, 3⟩
/-- 05_sentences.md: data slot, OP. -/
def SENT_CMD_BUSY : EvCode := ⟨0x09, 0x52, 3⟩
/-- 05_sentences.md: data slot, OP. -/
def SENT_NOT_OPEN : EvCode := ⟨0x09, 0x53, 3⟩
/-- 05_sentences.md: data slot, OP. -/
def SENT_NOT_TERMINAL : EvCode := ⟨0x09, 0x54, 3⟩
/-- 05_sentences.md: data SID, votes missing. -/
def SENT_VOTES_MISSING : EvCode := ⟨0x09, 0x55, 3⟩
/-- 05_sentences.md: data OP. -/
def SENT_BAD_OP : EvCode := ⟨0x09, 0x56, 3⟩
/-- 06_facet_tree.md: data port, speed. -/
def FAB_LINK_UP : EvCode := ⟨0x06, 0x01, 1⟩
/-- 06_facet_tree.md: data port. -/
def FAB_LINK_DOWN : EvCode := ⟨0x06, 0x02, 2⟩
/-- 06_facet_tree.md: data DST, ingress port. -/
def FAB_ROUTE_MISS : EvCode := ⟨0x06, 0x10, 2⟩
/-- 06_facet_tree.md: data DST, SRC. -/
def FAB_HOP_LIMIT : EvCode := ⟨0x06, 0x11, 2⟩
/-- 06_facet_tree.md: data port, MSG. -/
def FAB_BAD_FRAME : EvCode := ⟨0x06, 0x12, 2⟩
/-- 06_facet_tree.md: data own ceiling, floor. -/
def TREE_LEASE_EXPIRED : EvCode := ⟨0x07, 0x02, 2⟩
/-- 06_facet_tree.md: data REMAIN_US, depth. -/
def TREE_LEASE_TIGHT : EvCode := ⟨0x07, 0x03, 2⟩
/-- 06_facet_tree.md: data address. -/
def TREE_CHILD_ACTIVE : EvCode := ⟨0x07, 0x04, 1⟩
/-- 06_facet_tree.md: data address. -/
def TREE_CHILD_SILENT : EvCode := ⟨0x07, 0x05, 2⟩
/-- 06_facet_tree.md: data address, W reclaimed. -/
def TREE_CHILD_RECLAIMED : EvCode := ⟨0x07, 0x06, 2⟩
/-- 06_facet_tree.md: data SRC. -/
def TREE_NOT_PARENT_FRAME : EvCode := ⟨0x07, 0x07, 3⟩
/-- 06_facet_tree.md: data address, port. -/
def TREE_ADDRESS_CONFLICT : EvCode := ⟨0x07, 0x08, 3⟩
/-- 06_facet_tree.md: data slot, Clause. -/
def TREE_FLOOR_EXCESS : EvCode := ⟨0x07, 0x20, 3⟩
/-- 06_facet_tree.md: data outlet, new ceiling. -/
def ALLOC_CAPACITY_YIELD : EvCode := ⟨0x08, 0x01, 2⟩
/-- 06_facet_tree.md: data child, SID. -/
def ALLOC_SHED_SHORT : EvCode := ⟨0x08, 0x02, 2⟩
/-- 06_facet_tree.md: data budget, floors. -/
def ALLOC_DT_AT_RISK : EvCode := ⟨0x08, 0x03, 2⟩
/-- 06_facet_tree.md: data count. -/
def ALLOC_CLAUSES_DEFERRED : EvCode := ⟨0x08, 0x04, 1⟩
/-- 06_facet_tree.md: data child, old and new ceiling. -/
def ALLOC_RECONCILED : EvCode := ⟨0x08, 0x05, 2⟩
/-- 06_facet_tree.md: data slot. -/
def ALLOC_EPOCH_OVERRUN : EvCode := ⟨0x08, 0x06, 2⟩
/-- 06_facet_tree.md: data value written. -/
def ALLOC_BAD_EPOCH : EvCode := ⟨0x08, 0x20, 3⟩
/-- 06_facet_tree.md: data slot, Prism entry. -/
def ALLOC_PRISM_BUDGET : EvCode := ⟨0x08, 0x21, 3⟩
/-- 06_facet_tree.md: data slot, entry. -/
def ALLOC_PRISM_LOOP : EvCode := ⟨0x08, 0x22, 3⟩
/-- 07_phase_control.md: data outlet. -/
def GROUP_JOINED : EvCode := ⟨0x0E, 0x01, 1⟩
/-- 07_phase_control.md: data outlet. -/
def GROUP_RELEASED : EvCode := ⟨0x0E, 0x02, 1⟩
/-- 07_phase_control.md: data stage at fault. -/
def GROUP_FAULT_INPUT : EvCode := ⟨0x0E, 0x10, 3⟩
/-- 07_phase_control.md: data outlet, V_g, V_o. -/
def GROUP_MATCH_TIMEOUT : EvCode := ⟨0x0E, 0x11, 3⟩
/-- 07_phase_control.md: data outlet, reference. -/
def GROUP_LEAVE_TIMEOUT : EvCode := ⟨0x0E, 0x12, 2⟩
/-- 07_phase_control.md: data outlet. -/
def GROUP_ZERO_TIMEOUT : EvCode := ⟨0x0E, 0x13, 4⟩
/-- 07_phase_control.md: data coil, open or close. -/
def GROUP_CONTACTOR_TIMEOUT : EvCode := ⟨0x0E, 0x14, 4⟩
/-- 07_phase_control.md: data phase, threshold (R340). -/
def GROUP_COMPARATOR_FAULT : EvCode := ⟨0x0E, 0x15, 4⟩
/-- 07_phase_control.md: data outlet. -/
def GROUP_MAX_ON_ALL : EvCode := ⟨0x0E, 0x20, 2⟩
/-- 07_phase_control.md: data phase, reason. -/
def GROUP_PHASE_LOST : EvCode := ⟨0x0E, 0x21, 3⟩
/-- 07_phase_control.md: data phase. -/
def GROUP_PHASE_ENABLED : EvCode := ⟨0x0E, 0x22, 1⟩
/-- 07_phase_control.md: data enabled phases. -/
def GROUP_BELOW_MIN : EvCode := ⟨0x0E, 0x23, 3⟩
/-- 07_phase_control.md: data outlet. -/
def PHASE_OV_TRUNCATE : EvCode := ⟨0x1A, 0x10, 2⟩
/-- 07_phase_control.md: data outlet, periods skipped. -/
def PHASE_OV_RELEASE : EvCode := ⟨0x1A, 0x11, 1⟩
/-- 07_phase_control.md: data outlet, implied sum, IC. -/
def PHASE_SENSE_MISMATCH : EvCode := ⟨0x1A, 0x12, 3⟩
/-- 07_phase_control.md: data value written. -/
def PHASE_PERIOD_BUSY : EvCode := ⟨0x1A, 0x20, 3⟩
/-- 07_phase_control.md: data register offset. -/
def PHASE_BAD_TIMING : EvCode := ⟨0x1A, 0x21, 3⟩
/-- 08_outlet_loops.md: data old state, new state. -/
def OUTLET_STATE_CHANGE : EvCode := ⟨0x0A, 0x01, 1⟩
/-- 08_outlet_loops.md: data VC, EV_MV. -/
def OUTLET_PRECHARGE_DONE : EvCode := ⟨0x0A, 0x10, 1⟩
/-- 08_outlet_loops.md: data VC, EV_MV. -/
def OUTLET_PRECHARGE_TIMEOUT : EvCode := ⟨0x0A, 0x11, 3⟩
/-- 08_outlet_loops.md: data coil, open or close. -/
def OUTLET_MAIN_TIMEOUT : EvCode := ⟨0x0A, 0x20, 4⟩
/-- 08_outlet_loops.md: data channel, cause. -/
def OUTLET_FB_LOST : EvCode := ⟨0x0A, 0x30, 4⟩
/-- 08_outlet_loops.md: data channel, value. -/
def OUTLET_FB_FROZEN : EvCode := ⟨0x0A, 0x31, 4⟩
/-- 08_outlet_loops.md: data channel, control and metering means. -/
def OUTLET_FB_MISMATCH : EvCode := ⟨0x0A, 0x32, 4⟩
/-- 08_outlet_loops.md: data slot. -/
def OUTLET_LOOP_FAULT : EvCode := ⟨0x0A, 0x33, 4⟩
/-- 08_outlet_loops.md: data slot, new bank. -/
def LOOP_SWAPPED : EvCode := ⟨0x1B, 0x01, 1⟩
/-- 08_outlet_loops.md: data slot. -/
def LOOP_DEADLINE_MISSED : EvCode := ⟨0x1B, 0x10, 2⟩
/-- 08_outlet_loops.md: data outlet. -/
def LOOP_DEADLINE_FAULT : EvCode := ⟨0x1B, 0x11, 4⟩
/-- 08_outlet_loops.md: data slot. -/
def LOOP_NONFINITE : EvCode := ⟨0x1B, 0x12, 3⟩
/-- 08_outlet_loops.md: data slot, byte offset. -/
def LOOP_SLOT_LOCKED : EvCode := ⟨0x1B, 0x20, 3⟩
/-- 08_outlet_loops.md: data slot, cause 1–5 (R167). -/
def LOOP_BAD_SLOT_CFG : EvCode := ⟨0x1B, 0x21, 3⟩
/-- 09_cable_cooling.md: data outlet, THERM. -/
def COOL_CEILING_BINDING : EvCode := ⟨0x1C, 0x01, 1⟩
/-- 09_cable_cooling.md: data outlet. -/
def COOL_CEILING_CLEAR : EvCode := ⟨0x1C, 0x02, 1⟩
/-- 09_cable_cooling.md: data outlet, role, cause. -/
def COOL_SENSOR_INVALID : EvCode := ⟨0x1C, 0x10, 3⟩
/-- 09_cable_cooling.md: data outlet, role. -/
def COOL_SENSOR_RESTORED : EvCode := ⟨0x1C, 0x11, 1⟩
/-- 09_cable_cooling.md: data outlet, pressure. -/
def COOL_PRESS_LOW : EvCode := ⟨0x1C, 0x14, 3⟩
/-- 09_cable_cooling.md: data outlet, flow, demand. -/
def COOL_FLOW_LOW : EvCode := ⟨0x1C, 0x15, 2⟩
/-- 09_cable_cooling.md: data outlet, role. -/
def COOL_DEGRADED_DECLARED : EvCode := ⟨0x1C, 0x16, 4⟩
/-- 09_cable_cooling.md: data outlet, node. -/
def COOL_BAD_MODEL : EvCode := ⟨0x1C, 0x20, 3⟩
/-- 09_cable_cooling.md: data channel, code. -/
def SENS_CH_INVALID : EvCode := ⟨0x42, 0x01, 2⟩
/-- 09_cable_cooling.md: data channel, code. -/
def SENS_CH_STUCK : EvCode := ⟨0x42, 0x02, 2⟩
/-- 09_cable_cooling.md: data channel. -/
def SENS_CH_VALID : EvCode := ⟨0x42, 0x03, 1⟩
/-- 09_cable_cooling.md: data channel. -/
def SENS_FAST_LIMIT : EvCode := ⟨0x42, 0x20, 3⟩
/-- 09_cable_cooling.md: data channel, KIND. -/
def SENS_BAD_CFG : EvCode := ⟨0x42, 0x21, 3⟩
/-- 10_outlet_link.md: data levels A and B. -/
def LINK_PLUGGED : EvCode := ⟨0x1D, 0x01, 1⟩
/-- 10_outlet_link.md: data outlet state. -/
def LINK_UNPLUGGED : EvCode := ⟨0x1D, 0x02, 1⟩
/-- 10_outlet_link.md: data signal, value, outlet state. -/
def LINK_LEVEL_FAULT : EvCode := ⟨0x1D, 0x03, 4⟩
/-- 10_outlet_link.md: data outlet state, level. -/
def LINK_VEHICLE_DISABLE : EvCode := ⟨0x1D, 0x04, 2⟩
/-- 10_outlet_link.md: data —. -/
def LINK_LATCHED : EvCode := ⟨0x1D, 0x06, 1⟩
/-- 10_outlet_link.md: data cause. -/
def LINK_UNLATCHED : EvCode := ⟨0x1D, 0x07, 1⟩
/-- 10_outlet_link.md: data command, feedback. -/
def LINK_LATCH_FAULT : EvCode := ⟨0x1D, 0x08, 4⟩
/-- 10_outlet_link.md: data ms from plug-in. -/
def LINK_TRANSPORT_READY : EvCode := ⟨0x1D, 0x10, 1⟩
/-- 10_outlet_link.md: data cause. -/
def LINK_TRANSPORT_LOST : EvCode := ⟨0x1D, 0x11, 3⟩
/-- 10_outlet_link.md: data ms lost. -/
def LINK_TRANSPORT_RESTORED : EvCode := ⟨0x1D, 0x12, 1⟩
/-- 10_outlet_link.md: data beacon source. -/
def LINK_PLCA_CONFLICT : EvCode := ⟨0x1D, 0x13, 3⟩
/-- 10_outlet_link.md: data step, retries. -/
def LINK_SLAC_FAILED : EvCode := ⟨0x1D, 0x20, 3⟩
/-- 10_outlet_link.md: data vehicle MAC, attenuation. -/
def LINK_SLAC_MATCHED : EvCode := ⟨0x1D, 0x21, 1⟩
/-- 10_outlet_link.md: data result. -/
def LINK_MODEM_NO_KEY : EvCode := ⟨0x1D, 0x22, 3⟩
/-- 10_outlet_link.md: data outlet state. -/
def LINK_KIND_BUSY : EvCode := ⟨0x1D, 0x30, 3⟩
/-- 10_outlet_link.md: data register offset. -/
def LINK_BAD_CFG : EvCode := ⟨0x1D, 0x31, 3⟩
/-- 11_dialogue_engine.md: data protocol, EVCCID. -/
def VDE_SESSION_START : EvCode := ⟨0x21, 0x01, 1⟩
/-- 11_dialogue_engine.md: data reason. -/
def VDE_SESSION_END : EvCode := ⟨0x21, 0x02, 1⟩
/-- 11_dialogue_engine.md: data KIND, entry index, result. -/
def VDE_AUTH_LOCAL : EvCode := ⟨0x21, 0x03, 1⟩
/-- 11_dialogue_engine.md: data REQ_ID. -/
def VDE_AUTH_HOST : EvCode := ⟨0x21, 0x04, 1⟩
/-- 11_dialogue_engine.md: data rule of R253. -/
def VDE_AUTH_DENIED : EvCode := ⟨0x21, 0x05, 2⟩
/-- 11_dialogue_engine.md: data REQ_ID, TO_ALLOW. -/
def VDE_AUTH_TIMEOUT : EvCode := ⟨0x21, 0x06, 2⟩
/-- 11_dialogue_engine.md: data REQ_ID, message. -/
def VDE_CERT_FORWARDED : EvCode := ⟨0x21, 0x07, 1⟩
/-- 11_dialogue_engine.md: data REQ_ID. -/
def VDE_CERT_TIMEOUT : EvCode := ⟨0x21, 0x08, 2⟩
/-- 11_dialogue_engine.md: data TYPE, REQ_ID. -/
def VDE_MBX_LATE : EvCode := ⟨0x21, 0x09, 2⟩
/-- 11_dialogue_engine.md: data step, outlet state. -/
def VDE_SEQ_TIMEOUT : EvCode := ⟨0x21, 0x10, 3⟩
/-- 11_dialogue_engine.md: data ms since the last request. -/
def VDE_LOOP_TIMEOUT : EvCode := ⟨0x21, 0x11, 4⟩
/-- 11_dialogue_engine.md: data cause, length. -/
def VDE_BAD_MESSAGE : EvCode := ⟨0x21, 0x12, 3⟩
/-- 11_dialogue_engine.md: data message, outlet state. -/
def VDE_SEQUENCE_ERROR : EvCode := ⟨0x21, 0x13, 3⟩
/-- 11_dialogue_engine.md: data code, Clause. -/
def VDE_TARGET_REJECTED : EvCode := ⟨0x21, 0x14, 2⟩
/-- 11_dialogue_engine.md: data cause. -/
def VDE_CHECK_FAILED : EvCode := ⟨0x21, 0x15, 3⟩
/-- 11_dialogue_engine.md: data outlet state. -/
def VDE_HOST_STOP : EvCode := ⟨0x21, 0x16, 1⟩
/-- 11_dialogue_engine.md: data namespaces offered. -/
def VDE_NO_PROTOCOL : EvCode := ⟨0x21, 0x17, 2⟩
/-- 11_dialogue_engine.md: data sets. -/
def VDE_EXI_LOADED : EvCode := ⟨0x21, 0x20, 1⟩
/-- 11_dialogue_engine.md: data failing check, offset. -/
def VDE_EXI_INVALID : EvCode := ⟨0x21, 0x21, 3⟩
/-- 11_dialogue_engine.md: data address. -/
def VDE_ADDR_CONFLICT : EvCode := ⟨0x21, 0x22, 3⟩
/-- 11_dialogue_engine.md: data —. -/
def VDE_EXI_BUSY : EvCode := ⟨0x21, 0x30, 3⟩
/-- 11_dialogue_engine.md: data context, version, suite. -/
def CRYPT_TLS_UP : EvCode := ⟨0x22, 0x01, 1⟩
/-- 11_dialogue_engine.md: data context, alert. -/
def CRYPT_TLS_FAIL : EvCode := ⟨0x22, 0x02, 3⟩
/-- 11_dialogue_engine.md: data context, rule, position. -/
def CRYPT_CHAIN_REJECT : EvCode := ⟨0x22, 0x03, 3⟩
/-- 11_dialogue_engine.md: data entry, STATE. -/
def CRYPT_TRUST_ENTRY_BAD : EvCode := ⟨0x22, 0x04, 3⟩
/-- 11_dialogue_engine.md: data curve. -/
def CRYPT_KEY_GENERATED : EvCode := ⟨0x22, 0x05, 1⟩
/-- 11_dialogue_engine.md: data test. -/
def CRYPT_RNG_FAIL : EvCode := ⟨0x22, 0x06, 4⟩
/-- 11_dialogue_engine.md: data open contexts. -/
def CRYPT_KEYGEN_BUSY : EvCode := ⟨0x22, 0x20, 3⟩
/-- 12_lens_metrology.md: data channel, cause (clock, data, supply). -/
def LENS_CH_LOST : EvCode := ⟨0x23, 0x01, 5⟩
/-- 12_lens_metrology.md: data channel, code. -/
def LENS_CH_FROZEN : EvCode := ⟨0x23, 0x02, 5⟩
/-- 12_lens_metrology.md: data channel, duration. -/
def LENS_CH_RESTORED : EvCode := ⟨0x23, 0x03, 1⟩
/-- 12_lens_metrology.md: data channel, code. -/
def LENS_OVERRANGE : EvCode := ⟨0x23, 0x04, 5⟩
/-- 12_lens_metrology.md: data channel, register, CAL_SEQ. -/
def LENS_CAL_WRITTEN : EvCode := ⟨0x23, 0x05, 5⟩
/-- 12_lens_metrology.md: data copy. -/
def LENS_CAL_CRC_FAIL : EvCode := ⟨0x23, 0x06, 5⟩
/-- 12_lens_metrology.md: data trigger. -/
def LENS_CAP_DONE : EvCode := ⟨0x23, 0x07, 1⟩
/-- 12_lens_metrology.md: data register offset. -/
def LENS_NOT_SERVICE : EvCode := ⟨0x23, 0x20, 3⟩
/-- 12_lens_metrology.md: data last frequency. -/
def GRID_FREQ_LOST : EvCode := ⟨0x24, 0x01, 2⟩
/-- 12_lens_metrology.md: data frequency. -/
def GRID_FREQ_OK : EvCode := ⟨0x24, 0x02, 1⟩
/-- 12_lens_metrology.md: data old and new reference. -/
def GRID_REF_CHANGED : EvCode := ⟨0x24, 0x03, 2⟩
/-- 12_lens_metrology.md: data output. -/
def PULSE_OVERFLOW : EvCode := ⟨0x41, 0x01, 2⟩
/-- 12_lens_metrology.md: data output, register offset. -/
def PULSE_BAD_CFG : EvCode := ⟨0x41, 0x20, 3⟩
/-- 13_billing.md: data serial, cause. -/
def BILL_PERIOD_CLOSED : EvCode := ⟨0x25, 0x01, 5⟩
/-- 13_billing.md: data points, cause. -/
def BILL_INTERVAL_SPLIT : EvCode := ⟨0x25, 0x02, 5⟩
/-- 13_billing.md: data boundary sequence, time. -/
def BILL_BOUNDARY_REPLAYED : EvCode := ⟨0x25, 0x03, 5⟩
/-- 13_billing.md: data point, mWh. -/
def BILL_UNFLUSHED : EvCode := ⟨0x25, 0x04, 5⟩
/-- 13_billing.md: data entry, copy. -/
def BILL_COPY_REPAIRED : EvCode := ⟨0x25, 0x05, 5⟩
/-- 13_billing.md: data entry. -/
def BILL_ENTRY_LOST : EvCode := ⟨0x25, 0x06, 5⟩
/-- 13_billing.md: data point, tariff, direction, W. -/
def BILL_DEMAND_MAX : EvCode := ⟨0x25, 0x07, 1⟩
/-- 13_billing.md: data value written. -/
def BILL_BAD_CFG : EvCode := ⟨0x25, 0x20, 3⟩
/-- 13_billing.md: data point, old and new tariff. -/
def TARIFF_SWITCHED : EvCode := ⟨0x26, 0x01, 1⟩
/-- 13_billing.md: data bank, entries. -/
def TARIFF_CAL_ACTIVATED : EvCode := ⟨0x26, 0x02, 5⟩
/-- 13_billing.md: data new offset. -/
def TARIFF_DST_CHANGE : EvCode := ⟨0x26, 0x03, 1⟩
/-- 13_billing.md: data entry. -/
def TARIFF_BANK_ACTIVE : EvCode := ⟨0x26, 0x20, 3⟩
/-- 13_billing.md: data entry, check. -/
def TARIFF_CAL_INVALID : EvCode := ⟨0x26, 0x21, 3⟩
/-- 13_billing.md: data point, SERIAL. -/
def SESS_OPENED : EvCode := ⟨0x46, 0x01, 1⟩
/-- 13_billing.md: data point, SERIAL. -/
def SESS_SIGNED : EvCode := ⟨0x46, 0x02, 1⟩
/-- 13_billing.md: data point, SERIAL. -/
def SESS_INTERRUPTED : EvCode := ⟨0x46, 0x03, 5⟩
/-- 13_billing.md: data LOST. -/
def SESS_RING_OVERRUN : EvCode := ⟨0x46, 0x04, 2⟩
/-- 13_billing.md: data point. -/
def SESS_NO_POINT : EvCode := ⟨0x46, 0x20, 3⟩
/-- 14_safety.md: data password. -/
def SEAL_PWD_ACCEPTED : EvCode := ⟨0x03, 0x01, 5⟩
/-- 14_safety.md: data password, FAILS. -/
def SEAL_PWD_REFUSED : EvCode := ⟨0x03, 0x02, 5⟩
/-- 14_safety.md: data password. -/
def SEAL_PWD_LOCKOUT : EvCode := ⟨0x03, 0x03, 5⟩
/-- 14_safety.md: data password. -/
def SEAL_PWD_CHANGED : EvCode := ⟨0x03, 0x04, 5⟩
/-- 14_safety.md: data page, offset. -/
def SEAL_LOG_FULL : EvCode := ⟨0x03, 0x20, 3⟩
/-- 14_safety.md: data OP, LEN. -/
def SEAL_PWD_FORMAT : EvCode := ⟨0x03, 0x21, 3⟩
/-- 14_safety.md: data function, outlet or node. -/
def SAFE_TRIP : EvCode := ⟨0x28, 0x01, 4⟩
/-- 14_safety.md: data outlet, functions. -/
def SAFE_CLEARED : EvCode := ⟨0x28, 0x02, 1⟩
/-- 14_safety.md: data input, cause. -/
def SAFE_INPUT_FAULT : EvCode := ⟨0x28, 0x03, 4⟩
/-- 14_safety.md: data coil, command, feedback. -/
def SAFE_FB_MISMATCH : EvCode := ⟨0x28, 0x04, 4⟩
/-- 14_safety.md: data coil. -/
def SAFE_WELD : EvCode := ⟨0x28, 0x05, 4⟩
/-- 14_safety.md: data outlet, source. -/
def SAFE_DEGRADED_START : EvCode := ⟨0x28, 0x06, 4⟩
/-- 14_safety.md: data outlet. -/
def SAFE_DEGRADED_EXPIRED : EvCode := ⟨0x28, 0x07, 4⟩
/-- 14_safety.md: data outlet. -/
def SAFE_DEGRADED_END : EvCode := ⟨0x28, 0x08, 1⟩
/-- 14_safety.md: data outlet. -/
def SAFE_IMD_FAULT : EvCode := ⟨0x28, 0x09, 4⟩
/-- 14_safety.md: data outlet. -/
def SAFE_IMD_PWM_LOST : EvCode := ⟨0x28, 0x0A, 4⟩
/-- 14_safety.md: data —. -/
def SAFE_RESTART : EvCode := ⟨0x28, 0x0B, 1⟩
/-- 14_safety.md: data outlet, function. -/
def SAFE_CLEAR_REFUSED : EvCode := ⟨0x28, 0x20, 3⟩
/-- 14_safety.md: data failing check. -/
def SAFE_RESTART_REFUSED : EvCode := ⟨0x28, 0x21, 3⟩
/-- 14_safety.md: data connection. -/
def GSC_CONN_UP : EvCode := ⟨0x29, 0x01, 1⟩
/-- 14_safety.md: data connection, ms since last unit. -/
def GSC_TIMEOUT : EvCode := ⟨0x29, 0x02, 4⟩
/-- 14_safety.md: data connection. -/
def GSC_CRC_ERROR : EvCode := ⟨0x29, 0x03, 2⟩
/-- 14_safety.md: data connection, SEQ received. -/
def GSC_SEQ_ERROR : EvCode := ⟨0x29, 0x04, 2⟩
/-- 14_safety.md: data connection, age µs. -/
def GSC_AGE_ERROR : EvCode := ⟨0x29, 0x05, 2⟩
/-- 14_safety.md: data connection. -/
def GSC_ERR_LIMIT : EvCode := ⟨0x29, 0x06, 4⟩
/-- 14_safety.md: data connection. -/
def GSC_REMOTE_SAFE : EvCode := ⟨0x29, 0x07, 4⟩
/-- 14_safety.md: data connection. -/
def GSC_ACKED : EvCode := ⟨0x29, 0x08, 1⟩
/-- 14_safety.md: data connection. -/
def GSC_BAD_TIMING : EvCode := ⟨0x29, 0x20, 3⟩
/-- 15_mirror_pair.md: data —. -/
def MIR_ALIGNED : EvCode := ⟨0x2A, 0x01, 1⟩
/-- 15_mirror_pair.md: data role. -/
def MIR_LANE_LOST : EvCode := ⟨0x2A, 0x02, 3⟩
/-- 15_mirror_pair.md: data role. -/
def MIR_PARTNER_HB_LOST : EvCode := ⟨0x2A, 0x03, 3⟩
/-- 15_mirror_pair.md: data —. -/
def MIR_PARTNER_HB_OK : EvCode := ⟨0x2A, 0x04, 1⟩
/-- 15_mirror_pair.md: data partner's last sequence applied. -/
def MIR_HANDOVER_START : EvCode := ⟨0x2A, 0x05, 4⟩
/-- 15_mirror_pair.md: data gap µs, HANDOVER µs. -/
def MIR_HANDOVER_DONE : EvCode := ⟨0x2A, 0x06, 4⟩
/-- 15_mirror_pair.md: data mode left. -/
def MIR_DESELECTED : EvCode := ⟨0x2A, 0x07, 2⟩
/-- 15_mirror_pair.md: data frames lost. -/
def MIR_IMAGE_GAP : EvCode := ⟨0x2A, 0x08, 3⟩
/-- 15_mirror_pair.md: data —. -/
def MIR_IMAGE_VALID : EvCode := ⟨0x2A, 0x09, 1⟩
/-- 15_mirror_pair.md: data outlets faulted. -/
def MIR_TAKEOVER_NO_IMAGE : EvCode := ⟨0x2A, 0x0A, 4⟩
/-- 15_mirror_pair.md: data width, ns. -/
def MIR_SEL_GLITCH : EvCode := ⟨0x2A, 0x0B, 2⟩
/-- 15_mirror_pair.md: data page, offset. -/
def MIR_STANDBY_WRITE : EvCode := ⟨0x2A, 0x20, 3⟩
/-- 15_mirror_pair.md: data item, own and partner value. -/
def MIR_CONFIG_MISMATCH : EvCode := ⟨0x2A, 0x21, 3⟩
/-- 15_mirror_pair.md: data pair, unit selected. -/
def PAIRARB_SWITCHED : EvCode := ⟨0x45, 0x01, 4⟩
/-- 15_mirror_pair.md: data pair, unit, cause. -/
def PAIRARB_UNIT_FAILED : EvCode := ⟨0x45, 0x02, 4⟩
/-- 15_mirror_pair.md: data pair. -/
def PAIRARB_BOTH_FAILED : EvCode := ⟨0x45, 0x03, 4⟩
/-- 15_mirror_pair.md: data pair, unit. -/
def PAIRARB_UNIT_RESTORED : EvCode := ⟨0x45, 0x04, 1⟩
/-- 15_mirror_pair.md: data pair, unit. -/
def PAIRARB_FORCE_REFUSED : EvCode := ⟨0x45, 0x20, 3⟩
/-- 16_load_switches.md: data channel, current. -/
def LSW_OVERLOAD : EvCode := ⟨0x2B, 0x01, 2⟩
/-- 16_load_switches.md: data channel, temperature. -/
def LSW_THERMAL_SHUTDOWN : EvCode := ⟨0x2B, 0x02, 2⟩
/-- 16_load_switches.md: data channel. -/
def LSW_THERMAL_CLEAR : EvCode := ⟨0x2B, 0x03, 1⟩
/-- 16_load_switches.md: data cluster, temperature, channels switched off. -/
def LSW_CLUSTER_WARN : EvCode := ⟨0x2B, 0x04, 3⟩
/-- 16_load_switches.md: data cluster. -/
def LSW_CLUSTER_CLEAR : EvCode := ⟨0x2B, 0x05, 1⟩
/-- 16_load_switches.md: data channel. -/
def LSW_OPEN_LOAD : EvCode := ⟨0x2B, 0x06, 2⟩
/-- 16_load_switches.md: data channel, retries left. -/
def LSW_RETRY : EvCode := ⟨0x2B, 0x07, 1⟩
/-- 16_load_switches.md: data channel. -/
def LSW_LATCHED_OFF : EvCode := ⟨0x2B, 0x08, 3⟩
/-- 16_load_switches.md: data channel. -/
def LSW_REARMED : EvCode := ⟨0x2B, 0x09, 1⟩
/-- 16_load_switches.md: data VLS. -/
def LSW_SUPPLY_OV : EvCode := ⟨0x2B, 0x10, 3⟩
/-- 16_load_switches.md: data —. -/
def LSW_SUPPLY_REVERSE : EvCode := ⟨0x2B, 0x11, 3⟩
/-- 16_load_switches.md: data —. -/
def LSW_GND_LOST : EvCode := ⟨0x2B, 0x12, 3⟩
/-- 16_load_switches.md: data VLS. -/
def LSW_SUPPLY_UV : EvCode := ⟨0x2B, 0x13, 3⟩
/-- 16_load_switches.md: data sum, mW. -/
def LSW_DISS_HIGH : EvCode := ⟨0x2B, 0x14, 2⟩
/-- 16_load_switches.md: data —. -/
def LSW_LINK_LOST : EvCode := ⟨0x2B, 0x15, 3⟩
/-- 16_load_switches.md: data duration, µs. -/
def LSW_LINK_RESTORED : EvCode := ⟨0x2B, 0x16, 1⟩
/-- 16_load_switches.md: data channels. -/
def LSW_SAFE_OFF : EvCode := ⟨0x2B, 0x17, 4⟩
/-- 16_load_switches.md: data channel, owner. -/
def LSW_CH_OWNED : EvCode := ⟨0x2B, 0x20, 3⟩
/-- 16_load_switches.md: data channel, owners. -/
def LSW_CH_CONFLICT : EvCode := ⟨0x2B, 0x21, 3⟩
/-- 16_load_switches.md: data channel, register offset. -/
def LSW_BAD_CFG : EvCode := ⟨0x2B, 0x22, 3⟩
/-- 16_load_switches.md: data register offset (R406). -/
def LSW_LINK_DOWN : EvCode := ⟨0x2B, 0x23, 3⟩
/-- 16_load_switches.md: data channel, sense mV. -/
def LSX_FAULT : EvCode := ⟨0x2C, 0x01, 2⟩
/-- 16_load_switches.md: data channel, current. -/
def LSX_OVERLOAD : EvCode := ⟨0x2C, 0x02, 2⟩
/-- 16_load_switches.md: data channel. -/
def LSX_LATCHED_OFF : EvCode := ⟨0x2C, 0x03, 3⟩
/-- 16_load_switches.md: data register offset. -/
def LSX_BAD_CFG : EvCode := ⟨0x2C, 0x20, 3⟩
/-- 16_load_switches.md: data register offset (R406). -/
def LSX_LINK_DOWN : EvCode := ⟨0x2C, 0x21, 3⟩
/-- 17_host_and_dma.md: data slot. -/
def HOST_MBX_RX : EvCode := ⟨0x2D, 0x01, 0⟩
/-- 17_host_and_dma.md: data slot. -/
def HOST_MBX_TX_DONE : EvCode := ⟨0x2D, 0x08, 0⟩
/-- 17_host_and_dma.md: data speed, width. -/
def HOST_LINK_UP : EvCode := ⟨0x2D, 0x10, 1⟩
/-- 17_host_and_dma.md: data —. -/
def HOST_LINK_DOWN : EvCode := ⟨0x2D, 0x11, 2⟩
/-- 17_host_and_dma.md: data opcode. -/
def HOST_SPI_CRC : EvCode := ⟨0x2D, 0x20, 2⟩
/-- 17_host_and_dma.md: data address. -/
def HOST_D2D_ABORT : EvCode := ⟨0x2D, 0x21, 3⟩
/-- 17_host_and_dma.md: data TYPE of the dropped message. -/
def HOST_MBX_FULL : EvCode := ⟨0x2D, 0x22, 2⟩
/-- 17_host_and_dma.md: data slot, cause. -/
def HOST_MBX_BAD : EvCode := ⟨0x2D, 0x23, 3⟩
/-- 17_host_and_dma.md: data descriptor address. -/
def DMACH_DESC_DONE : EvCode := ⟨0x2F, 0x01, 0⟩
/-- 17_host_and_dma.md: data descriptor address. -/
def DMACH_CHAIN_IDLE : EvCode := ⟨0x2F, 0x08, 0⟩
/-- 17_host_and_dma.md: data code, bytes moved. -/
def DMACH_DESC_BAD : EvCode := ⟨0x2F, 0x20, 3⟩
/-- 17_host_and_dma.md: data code, address. -/
def DMACH_FETCH_ERROR : EvCode := ⟨0x2F, 0x21, 3⟩
/-- 17_host_and_dma.md: data OP, state. -/
def DMACH_BAD_CMD : EvCode := ⟨0x2F, 0x22, 3⟩
/-- 17_host_and_dma.md: data —. -/
def DMACH_SHADOW_BUSY : EvCode := ⟨0x2F, 0x23, 3⟩
/-- 18_lifetime_and_integrity.md: data BASE_COUNT. -/
def LIFE_BASELINE_TAKEN : EvCode := ⟨0x3F, 0x01, 1⟩
/-- 18_lifetime_and_integrity.md: data value written. -/
def LIFE_BAD_INDEX : EvCode := ⟨0x3F, 0x20, 3⟩
/-- 18_lifetime_and_integrity.md: data store offset. -/
def MEM_CORRECTED_INNER : EvCode := ⟨0x40, 0x01, 1⟩
/-- 18_lifetime_and_integrity.md: data store offset, codeword. -/
def MEM_CORRECTED_OUTER : EvCode := ⟨0x40, 0x02, 2⟩
/-- 18_lifetime_and_integrity.md: data store offset, area. -/
def MEM_UNCORRECTABLE : EvCode := ⟨0x40, 0x03, 3⟩
/-- 18_lifetime_and_integrity.md: data area, slot. -/
def MEM_RECORD_LOST : EvCode := ⟨0x40, 0x04, 5⟩
/-- 18_lifetime_and_integrity.md: data pass, corrections. -/
def MEM_SCRUB_PASS : EvCode := ⟨0x40, 0x05, 0⟩
/-- 18_lifetime_and_integrity.md: data store offset. -/
def MEM_BAD_LIST_FULL : EvCode := ⟨0x40, 0x06, 3⟩

end E

/-- 0x27_10 to 0x27_1F TAMPER type 0 to 15, severity 5, data type and count (R321). -/
def tamperEv (ty : Nat) : EvCode := ⟨0x27, 0x10 + ty, 5⟩

/-- The common codes 0xpp_F1 to 0xpp_F8 of Table 3.4 in the page kind `p`; errors have severity 3 (R59). -/
inductive Common where
  | writeSealed | writeNeedsPassword | writeNeedsSentence | evtSetRefused | diagInjRefused | noRegister | partialWrite | tailRange
deriving DecidableEq, Repr

/-- The code of a common error in page kind `p` (Table 3.4). -/
def Common.ev (c : Common) (p : Nat) : EvCode :=
  ⟨p, match c with
    | .writeSealed => 0xF1 | .writeNeedsPassword => 0xF2 | .writeNeedsSentence => 0xF3 | .evtSetRefused => 0xF4
    | .diagInjRefused => 0xF5 | .noRegister => 0xF6 | .partialWrite => 0xF7 | .tailRange => 0xF8, 3⟩

end Sys2Proof.Machine
end

