-- ==== Sys2Proof/Machine/Regs.lean ====
section
/-! DEFINITION. The register map: one `Field` per field of the manual's register tables (chapters 02 to 18), with its page,
offset, bits, access code and reset value, and the list of the fields of each page kind.
Written from the register tables of spec/ (Table 2.9 to Table 18.5) and the CTRL and STATUS texts beside them.
A reset the manual gives as "—" is 0 here (DESIGN CHOICE, log entry 3; `SYS.DEVICE.VARIANT` is log entry 4). -/
namespace Sys2Proof.Machine

/-- Access codes of Table 0.4; a field with two codes carries the pair as one constructor (R7). -/
inductive Access where
  | ro | rw | w1c | wo | rc | rws | rwp | rwt | rwpW1c | rwsWo
deriving DecidableEq, Repr

/-- One field of a register: where it is, how the host may access it and what it holds after reset.
`stride` and `count` give a register repeated within its page; `inst` adds a page kind's instance.
`svc` marks the RWS fields that are writable in SEALED_SERVICE only (R50). -/
structure Field where
  page   : Nat
  off    : Nat
  hi     : Nat
  lo     : Nat
  acc    : Access
  reset  : Nat
  stride : Nat := 0
  count  : Nat := 1
  instStep : Nat := 0
  light  : Option Nat := none
  svc    : Bool := false
deriving DecidableEq, Repr

/-- A field of a register that stands once on its page. -/
def fld (page off hi lo : Nat) (acc : Access) (reset : Nat) : Field :=
  ⟨page, off, hi, lo, acc, reset, 0, 1, 0, none, false⟩

/-- A field of a register repeated `count` times, `stride` bytes apart. -/
def fldN (page off hi lo : Nat) (acc : Access) (reset stride count : Nat) : Field :=
  ⟨page, off, hi, lo, acc, reset, stride, count, 0, none, false⟩

/-- The field's width in bits. -/
def Field.width (f : Field) : Nat := f.hi + 1 - f.lo

/-- The key under which State keeps the field: its register's byte address times 32 plus its lowest bit. -/
def Field.key (f : Field) : Nat := (f.page * 0x1000 + f.off) * 32 + f.lo

/-- The same field of instance `n` of its page kind (R42; Table 3.1). -/
def Field.inst (f : Field) (n : Nat) : Field :=
  if f.instStep = 0 then { f with page := f.page + n }
  else { f with page := f.page + n, reset := f.reset + n * f.instStep }

/-- Element `i` of a register repeated within its page; load switches 8 and above take the light reset (Table 16.4). -/
def Field.nth (f : Field) (i : Nat) : Field :=
  match f.light with
  | none => { f with off := f.off + i * f.stride }
  | some r => { f with off := f.off + i * f.stride, reset := if i < 8 then f.reset else r }

namespace F


/-! ### SYS page (0x00), 02_modes_and_startup.md -/

/-- SYS page text, SYS.CTRL.CONFIG_DONE [0:0], WO: ends CONFIGURE when the host is the source -/
def SYS_CTRL_CONFIG_DONE : Field := fld 0x00 0x008 0 0 .wo 0
/-- Table 2.9, SYS.DEVICE.VARIANT [31:24], RO: 0x80 GA-7680; 0x40 GA-7640 -/
def SYS_DEVICE_VARIANT : Field := fld 0x00 0x040 31 24 .ro 0x80
/-- Table 2.9, SYS.DEVICE.CTL_STEP [23:16], RO: control die stepping: [7:4] letter (0 = A, 1 = B …), [3:0] digit -/
def SYS_DEVICE_CTL_STEP : Field := fld 0x00 0x040 23 16 .ro 0
/-- Table 2.9, SYS.DEVICE.MET_STEP [15:8], RO: metrology die stepping, same coding -/
def SYS_DEVICE_MET_STEP : Field := fld 0x00 0x040 15 8 .ro 0
/-- Table 2.9, SYS.DEVICE.PWR_STEP [7:0], RO: smart-power die stepping, same coding -/
def SYS_DEVICE_PWR_STEP : Field := fld 0x00 0x040 7 0 .ro 0
/-- Table 2.9, SYS.MODE.GRID_HOST [17:17], RO: grid meter port configured; DORMANT barred -/
def SYS_MODE_GRID_HOST : Field := fld 0x00 0x044 17 17 .ro 0
/-- Table 2.9, SYS.MODE.PAIRED [16:16], RO: member of a pair -/
def SYS_MODE_PAIRED : Field := fld 0x00 0x044 16 16 .ro 0
/-- Table 2.9, SYS.MODE.PREVIOUS [11:8], RO: mode before the last transition -/
def SYS_MODE_PREVIOUS : Field := fld 0x00 0x044 11 8 .ro 0
/-- Table 2.9, SYS.MODE.CURRENT [3:0], RO: Table 2.1 -/
def SYS_MODE_CURRENT : Field := fld 0x00 0x044 3 0 .ro 1
/-- Table 2.9, SYS.MODE_REQ.REQUEST [3:0], WO: 0x0 DORMANT (R25); 0x4 READY from SEALED_SERVICE, closing the seal (Table 2.2); other values refused -/
def SYS_MODE_REQ_REQUEST : Field := fld 0x00 0x048 3 0 .wo 0
/-- Table 2.9, SYS.RESET_CAUSE.CAUSE [6:0], RC: Table 2.6 -/
def SYS_RESET_CAUSE_CAUSE : Field := fld 0x00 0x04C 6 0 .rc 0
/-- Table 2.9, SYS.WAKE_SRC.SRC [7:0], RC: Table 2.3 -/
def SYS_WAKE_SRC_SRC : Field := fld 0x00 0x050 7 0 .rc 0
/-- Table 2.9, SYS.WAKE_EN.EN [7:0], RW: Table 2.3 -/
def SYS_WAKE_EN_EN : Field := fld 0x00 0x054 7 0 .rw 0xff
/-- Table 2.9, SYS.DORMANT_IDLE.SECONDS [15:0], RW: idle time before DORMANT; 0 disables -/
def SYS_DORMANT_IDLE_SECONDS : Field := fld 0x00 0x058 15 0 .rw 0
/-- Table 2.9, SYS.WAKE_ALARM.SECONDS [31:0], RW: RTC seconds, low 32 bits, for wake source 5 -/
def SYS_WAKE_ALARM_SECONDS : Field := fld 0x00 0x05C 31 0 .rw 0
/-- Table 2.9, SYS.BUTTON.RESET_STUCK [16:16], W1C: held 8 s (R36, R37) -/
def SYS_BUTTON_RESET_STUCK : Field := fld 0x00 0x060 16 16 .w1c 0
/-- Table 2.9, SYS.BUTTON.PRESSED [8:8], RO: debounced button state -/
def SYS_BUTTON_PRESSED : Field := fld 0x00 0x060 8 8 .ro 0
/-- Table 2.9, SYS.BUTTON.DEFER_PENDING [0:0], RO: deferred reset in progress -/
def SYS_BUTTON_DEFER_PENDING : Field := fld 0x00 0x060 0 0 .ro 0
/-- Table 2.9, SYS.SW_RESET.KEY [31:0], WO: writing 0xA5C3_0F5A requests a reset; other values ignored -/
def SYS_SW_RESET_KEY : Field := fld 0x00 0x064 31 0 .wo 0
/-- Table 2.9, SYS.BOOT.IMAGE_FALLBACK [3:3], RO: active image failed; other image loaded -/
def SYS_BOOT_IMAGE_FALLBACK : Field := fld 0x00 0x068 3 3 .ro 0
/-- Table 2.9, SYS.BOOT.CONFIG_SRC [2:1], RO: 0b00 host, 0b01 image A, 0b10 image B -/
def SYS_BOOT_CONFIG_SRC : Field := fld 0x00 0x068 2 1 .ro 0
/-- Table 2.9, SYS.BOOT.CFG_HOST [0:0], RO: strap value -/
def SYS_BOOT_CFG_HOST : Field := fld 0x00 0x068 0 0 .ro 0
/-- Table 2.9, SYS.IMAGE_CMD.KEY [31:16], WO: 0x1A6E; any other value ignores the write -/
def SYS_IMAGE_CMD_KEY : Field := fld 0x00 0x06C 31 16 .wo 0
/-- Table 2.9, SYS.IMAGE_CMD.OP [1:0], WO: 0b01 check the inactive image, 0b10 activate it (R58) -/
def SYS_IMAGE_CMD_OP : Field := fld 0x00 0x06C 1 0 .wo 0
/-- Table 2.9, SYS.IMAGE_STAT.FIRST_BAD [31:16], RO: record index of the first failure; 0xFFFF for the header -/
def SYS_IMAGE_STAT_FIRST_BAD : Field := fld 0x00 0x070 31 16 .ro 0
/-- Table 2.9, SYS.IMAGE_STAT.RESULT [11:8], RO: Table 3.12 -/
def SYS_IMAGE_STAT_RESULT : Field := fld 0x00 0x070 11 8 .ro 0
/-- Table 2.9, SYS.IMAGE_STAT.SWAP_PENDING [1:1], RO: an activation takes effect at the next reset -/
def SYS_IMAGE_STAT_SWAP_PENDING : Field := fld 0x00 0x070 1 1 .ro 0
/-- Table 2.9, SYS.IMAGE_STAT.ACTIVE [0:0], RO: 0 image A active, 1 image B active -/
def SYS_IMAGE_STAT_ACTIVE : Field := fld 0x00 0x070 0 0 .ro 0

/-! ### CLK page (0x01), 02_modes_and_startup.md -/

/-- Table 2.10, CLK.PLL_STAT.LOCK_TIME [31:16], RO: last lock time, µs -/
def CLK_PLL_STAT_LOCK_TIME : Field := fld 0x01 0x040 31 16 .ro 0
/-- Table 2.10, CLK.PLL_STAT.XTAL_OK [1:1], RO: crystal running -/
def CLK_PLL_STAT_XTAL_OK : Field := fld 0x01 0x040 1 1 .ro 0
/-- Table 2.10, CLK.PLL_STAT.LOCKED [0:0], RO: PLL locked -/
def CLK_PLL_STAT_LOCKED : Field := fld 0x01 0x040 0 0 .ro 0
/-- Table 2.10, CLK.GATE_EN.EN [10:0], RW: per block, 1 = may gate: [10] unused LINK PHYs, [9] TPO, [8] SENS, [7] DMA, [6] EXI, [5] CRYPT, [4] VDE, [3] ALLOC, [2] SENT, [1] slow loop slots, [0] unrouted groups -/
def CLK_GATE_EN_EN : Field := fld 0x01 0x044 10 0 .rw 0x7ff
/-- Table 2.10, CLK.GATE_STAT.GATED [10:0], RO: same bit order; 1 = clock stopped now -/
def CLK_GATE_STAT_GATED : Field := fld 0x01 0x048 10 0 .ro 0
/-- Table 2.10, CLK.RESTART.MAX_NS [15:0], RO: longest restart since reset, ns -/
def CLK_RESTART_MAX_NS : Field := fld 0x01 0x04C 15 0 .ro 0
/-- Table 2.10, CLK.AON_PPM.OFFSET [31:0], RO: 32.768 kHz crystal against 25 MHz, signed, units of 0.001 ppm -/
def CLK_AON_PPM_OFFSET : Field := fld 0x01 0x050 31 0 .ro 0

/-! ### PWR page (0x02), 02_modes_and_startup.md -/

/-- Table 2.11, PWR.RAIL_STAT.HOLDUP_LOW [9:9], RO: VHOLD below `VHOLD_WARN` -/
def PWR_RAIL_STAT_HOLDUP_LOW : Field := fld 0x02 0x040 9 9 .ro 0
/-- Table 2.11, PWR.RAIL_STAT.VLS_WARN [8:8], RO: VLS below VWARN -/
def PWR_RAIL_STAT_VLS_WARN : Field := fld 0x02 0x040 8 8 .ro 0
/-- Table 2.11, PWR.RAIL_STAT.UV [7:0], RO: under voltage: [7] VLS below VRESET, [6] VAON, [5] VDD_FE, [4] VDDA, [3] VDD_IO33, [2] VDD_IO18, [1] VDD_SERDES, [0] VDD_CORE -/
def PWR_RAIL_STAT_UV : Field := fld 0x02 0x040 7 0 .ro 0
/-- Table 2.11, PWR.VLS_MEAS.MV [31:0], RO: VLS, signed mV, updated every 10 µs -/
def PWR_VLS_MEAS_MV : Field := fld 0x02 0x044 31 0 .ro 0
/-- Table 2.11, PWR.VHOLD_MEAS.MV [31:0], RO: VHOLD, signed mV -/
def PWR_VHOLD_MEAS_MV : Field := fld 0x02 0x048 31 0 .ro 0
/-- Table 2.11, PWR.VLS_THRESH.VWARN [31:16], RO: 19,000 mV -/
def PWR_VLS_THRESH_VWARN : Field := fld 0x02 0x04C 31 16 .ro 0x4a38
/-- Table 2.11, PWR.VLS_THRESH.VRESET [15:0], RO: 16,000 mV -/
def PWR_VLS_THRESH_VRESET : Field := fld 0x02 0x04C 15 0 .ro 0x3e80
/-- Table 2.11, PWR.VLS_HYST.HYST [15:0], RO: 500 mV -/
def PWR_VLS_HYST_HYST : Field := fld 0x02 0x050 15 0 .ro 0x1f4
/-- Table 2.11, PWR.VHOLD_WARN.MV [15:0], RW: HOLDUP_LOW threshold; 0 disables -/
def PWR_VHOLD_WARN_MV : Field := fld 0x02 0x054 15 0 .rw 0
/-- Table 2.11, PWR.VAULT_STAT.LAST_FLUSH_US [31:16], RO: duration of last flush, µs -/
def PWR_VAULT_STAT_LAST_FLUSH_US : Field := fld 0x02 0x058 31 16 .ro 0
/-- Table 2.11, PWR.VAULT_STAT.RESULT [3:2], RO: 0b00 none, 0b01 complete, 0b10 hold-up short -/
def PWR_VAULT_STAT_RESULT : Field := fld 0x02 0x058 3 2 .ro 0
/-- Table 2.11, PWR.VAULT_STAT.ACTIVE [0:0], RO: VAULT in progress -/
def PWR_VAULT_STAT_ACTIVE : Field := fld 0x02 0x058 0 0 .ro 0
/-- Table 2.11, PWR.VAULT_COUNT.COUNT [31:0], RO: VAULT entries since manufacture -/
def PWR_VAULT_COUNT_COUNT : Field := fld 0x02 0x05C 31 0 .ro 0
/-- Table 2.11, PWR.BROWNOUT_REC_COUNT.COUNT [31:0], RO: recoveries without reset since manufacture -/
def PWR_BROWNOUT_REC_COUNT_COUNT : Field := fld 0x02 0x060 31 0 .ro 0
/-- Table 2.11, PWR.VLS_MIN.MV [31:0], RO: lowest VLS during the last VAULT -/
def PWR_VLS_MIN_MV : Field := fld 0x02 0x064 31 0 .ro 0

/-! ### SEAL page (0x03), 14_safety.md -/

/-- Table 14.10, SEAL.PWD_DATA.CHARS [31:0], WO: i = 0–7; characters 4i to 4i + 3 -/
def SEAL_PWD_DATA_CHARS : Field := fldN 0x03 0x040 31 0 .wo 0 0x4 8
/-- Table 14.10, SEAL.PWD_CMD.OP [31:28], WO: R362 -/
def SEAL_PWD_CMD_OP : Field := fld 0x03 0x060 31 28 .wo 0
/-- Table 14.10, SEAL.PWD_CMD.LEN [5:0], WO: 8–32 -/
def SEAL_PWD_CMD_LEN : Field := fld 0x03 0x060 5 0 .wo 0
/-- Table 14.10, SEAL.PWD_STAT.LOCK_S [31:16], RO: lockout seconds remaining -/
def SEAL_PWD_STAT_LOCK_S : Field := fld 0x03 0x064 31 16 .ro 0
/-- Table 14.10, SEAL.PWD_STAT.FAILS [10:8], RO: of the last password entered -/
def SEAL_PWD_STAT_FAILS : Field := fld 0x03 0x064 10 8 .ro 0
/-- Table 14.10, SEAL.PWD_STAT.BUSY [5:5], RO: command running -/
def SEAL_PWD_STAT_BUSY : Field := fld 0x03 0x064 5 5 .ro 0
/-- Table 14.10, SEAL.PWD_STAT.SEAL_N [4:4], RO: input asserted -/
def SEAL_PWD_STAT_SEAL_N : Field := fld 0x03 0x064 4 4 .ro 0
/-- Table 14.10, SEAL.PWD_STAT.SEAL_SET [3:3], RO: seal password set -/
def SEAL_PWD_STAT_SEAL_SET : Field := fld 0x03 0x064 3 3 .ro 0
/-- Table 14.10, SEAL.PWD_STAT.SAFETY_SET [2:2], RO: safety password set -/
def SEAL_PWD_STAT_SAFETY_SET : Field := fld 0x03 0x064 2 2 .ro 0
/-- Table 14.10, SEAL.PWD_STAT.SEAL_OPEN [1:1], RO: R48 -/
def SEAL_PWD_STAT_SEAL_OPEN : Field := fld 0x03 0x064 1 1 .ro 0
/-- Table 14.10, SEAL.PWD_STAT.PWD_OPEN [0:0], RO: R49 -/
def SEAL_PWD_STAT_PWD_OPEN : Field := fld 0x03 0x064 0 0 .ro 0
/-- Table 14.10, SEAL.PWD_IDLE.MIN [7:0], RW: 1–60 (R363) -/
def SEAL_PWD_IDLE_MIN : Field := fld 0x03 0x068 7 0 .rw 0xf
/-- Table 14.10, SEAL.CLOG_HEAD.INDEX [9:0], RO: next entry -/
def SEAL_CLOG_HEAD_INDEX : Field := fld 0x03 0x06C 9 0 .ro 0
/-- Table 14.10, SEAL.CLOG_TAIL.INDEX [9:0], RW: oldest unread entry -/
def SEAL_CLOG_TAIL_INDEX : Field := fld 0x03 0x070 9 0 .rw 0
/-- Table 14.10, SEAL.CLOG_FILL.COUNT [10:0], RO: 0–1,024 -/
def SEAL_CLOG_FILL_COUNT : Field := fld 0x03 0x074 10 0 .ro 0
/-- Table 14.10, SEAL.CLOG_SERIAL.NEXT [31:0], RO: serial of the next record -/
def SEAL_CLOG_SERIAL_NEXT : Field := fld 0x03 0x078 31 0 .ro 0

/-! ### TIME page (0x04), 04_time_base.md -/

/-- TIME page text, TIME.CTRL.STEP [0:0], WO: R70 -/
def TIME_CTRL_STEP : Field := fld 0x04 0x008 0 0 .wo 0
/-- Table 4.2, TIME.CFG.DOMAIN [31:24], RW: PTP domain -/
def TIME_CFG_DOMAIN : Field := fld 0x04 0x040 31 24 .rw 0
/-- Table 4.2, TIME.CFG.LOG_SYNC [19:16], RW: log2 Sync interval as master, signed; 0xD = −3, 8 Sync/s -/
def TIME_CFG_LOG_SYNC : Field := fld 0x04 0x040 19 16 .rw 0xd
/-- Table 4.2, TIME.CFG.PORT1_ROLE [11:10], RW: 0b00 disabled, 0b01 master, 0b10 slave, 0b11 passive -/
def TIME_CFG_PORT1_ROLE : Field := fld 0x04 0x040 11 10 .rw 0
/-- Table 4.2, TIME.CFG.PORT0_ROLE [9:8], RW: as PORT1_ROLE -/
def TIME_CFG_PORT0_ROLE : Field := fld 0x04 0x040 9 8 .rw 0
/-- Table 4.2, TIME.CFG.PORT1_P2P [7:7], RW: 1 = peer delay on port 1 -/
def TIME_CFG_PORT1_P2P : Field := fld 0x04 0x040 7 7 .rw 0
/-- Table 4.2, TIME.CFG.PORT0_P2P [6:6], RW: 1 = peer delay on port 0 -/
def TIME_CFG_PORT0_P2P : Field := fld 0x04 0x040 6 6 .rw 0
/-- Table 4.2, TIME.CFG.PORT1_ONESTEP [5:5], RW: one-step Sync on port 1 -/
def TIME_CFG_PORT1_ONESTEP : Field := fld 0x04 0x040 5 5 .rw 1
/-- Table 4.2, TIME.CFG.PORT0_ONESTEP [4:4], RW: one-step Sync on port 0 -/
def TIME_CFG_PORT0_ONESTEP : Field := fld 0x04 0x040 4 4 .rw 1
/-- Table 4.2, TIME.CFG.TC_P2P [3:3], RW: 0 end-to-end, 1 peer-to-peer transparent clock -/
def TIME_CFG_TC_P2P : Field := fld 0x04 0x040 3 3 .rw 0
/-- Table 4.2, TIME.CFG.TC_EN [2:2], RW: transparent clock on -/
def TIME_CFG_TC_EN : Field := fld 0x04 0x040 2 2 .rw 1
/-- Table 4.2, TIME.CFG.SERVO [1:1], RW: 0 hardware servo, 1 host (R70) -/
def TIME_CFG_SERVO : Field := fld 0x04 0x040 1 1 .rw 0
/-- Table 4.2, TIME.CFG.ENABLE [0:0], RW: PTP on -/
def TIME_CFG_ENABLE : Field := fld 0x04 0x040 0 0 .rw 0
/-- Table 4.2, TIME.SYNC_STATE.HOLDOVER_S [31:16], RO: seconds in holdover, saturating -/
def TIME_SYNC_STATE_HOLDOVER_S : Field := fld 0x04 0x044 31 16 .ro 0
/-- Table 4.2, TIME.SYNC_STATE.SYNC_OK [8:8], RO: R69 -/
def TIME_SYNC_STATE_SYNC_OK : Field := fld 0x04 0x044 8 8 .ro 0
/-- Table 4.2, TIME.SYNC_STATE.STATE [2:0], RO: Table 4.1 -/
def TIME_SYNC_STATE_STATE : Field := fld 0x04 0x044 2 0 .ro 0
/-- Table 4.2, TIME.NOW_NS.NS [29:0], RO: nanoseconds; read copies the clock (R65) -/
def TIME_NOW_NS_NS : Field := fld 0x04 0x048 29 0 .ro 0
/-- Table 4.2, TIME.NOW_SEC_LO.SEC [31:0], RO: seconds [31:0] of the copy -/
def TIME_NOW_SEC_LO_SEC : Field := fld 0x04 0x04C 31 0 .ro 0
/-- Table 4.2, TIME.NOW_SEC_HI.SEC [15:0], RO: seconds [47:32] of the copy -/
def TIME_NOW_SEC_HI_SEC : Field := fld 0x04 0x050 15 0 .ro 0
/-- Table 4.2, TIME.NOW_FRAC.FRAC [31:0], RO: sub-ns of the copy, 2^−32 ns -/
def TIME_NOW_FRAC_FRAC : Field := fld 0x04 0x054 31 0 .ro 0
/-- Table 4.2, TIME.INCR_NS.NS [3:0], RW: whole ns per tick -/
def TIME_INCR_NS_NS : Field := fld 0x04 0x058 3 0 .rw 2
/-- Table 4.2, TIME.INCR_FRAC.FRAC [31:0], RW: fraction per tick, 2^−32 ns -/
def TIME_INCR_FRAC_FRAC : Field := fld 0x04 0x05C 31 0 .rw 0x80000000
/-- Table 4.2, TIME.SET_NS.NS [29:0], RW: step target -/
def TIME_SET_NS_NS : Field := fld 0x04 0x060 29 0 .rw 0
/-- Table 4.2, TIME.SET_SEC_LO.SEC [31:0], RW: step target seconds [31:0] -/
def TIME_SET_SEC_LO_SEC : Field := fld 0x04 0x064 31 0 .rw 0
/-- Table 4.2, TIME.SET_SEC_HI.SEC [15:0], RW: step target seconds [47:32] -/
def TIME_SET_SEC_HI_SEC : Field := fld 0x04 0x068 15 0 .rw 0
/-- Table 4.2, TIME.ADJ_NS.NS [31:0], WO: signed amount to slew -/
def TIME_ADJ_NS_NS : Field := fld 0x04 0x06C 31 0 .wo 0
/-- Table 4.2, TIME.ADJ_CFG.REMAIN_US [31:16], RO: slew remaining, µs, saturating -/
def TIME_ADJ_CFG_REMAIN_US : Field := fld 0x04 0x070 31 16 .ro 0
/-- Table 4.2, TIME.ADJ_CFG.SLEW_PPM [15:0], RW: 100 ppm; 1–1,000; other values refused (R70) -/
def TIME_ADJ_CFG_SLEW_PPM : Field := fld 0x04 0x070 15 0 .rw 0x64
/-- Table 4.2, TIME.OFFSET_NS.NS [31:0], RO: last e, signed -/
def TIME_OFFSET_NS_NS : Field := fld 0x04 0x074 31 0 .ro 0
/-- Table 4.2, TIME.PATH_DELAY.NS [31:0], RO: mean path or peer delay -/
def TIME_PATH_DELAY_NS : Field := fld 0x04 0x078 31 0 .ro 0
/-- Table 4.2, TIME.SERVO_CFG.LOCK_NS [31:16], RW: 100 ns -/
def TIME_SERVO_CFG_LOCK_NS : Field := fld 0x04 0x07C 31 16 .rw 0x64
/-- Table 4.2, TIME.SERVO_CFG.KP_SHIFT [15:8], RW: R67 -/
def TIME_SERVO_CFG_KP_SHIFT : Field := fld 0x04 0x07C 15 8 .rw 3
/-- Table 4.2, TIME.SERVO_CFG.KI_SHIFT [7:0], RW: R67 -/
def TIME_SERVO_CFG_KI_SHIFT : Field := fld 0x04 0x07C 7 0 .rw 6
/-- Table 4.2, TIME.THRESH.UNLOCK_NS [31:16], RW: 300 ns (R68, R69) -/
def TIME_THRESH_UNLOCK_NS : Field := fld 0x04 0x080 31 16 .rw 0x12c
/-- Table 4.2, TIME.THRESH.STEP_US [15:0], RW: 10 µs -/
def TIME_THRESH_STEP_US : Field := fld 0x04 0x080 15 0 .rw 0xa
/-- Table 4.2, TIME.HOLDOVER.SENT_MS [31:16], RW: 300 ms, the greatest age of a Sync result that keeps SYNC_OK (R69); 0–10,000 -/
def TIME_HOLDOVER_SENT_MS : Field := fld 0x04 0x084 31 16 .rw 0x12c
/-- Table 4.2, TIME.HOLDOVER.LOSS_MS [15:0], RW: 500 ms -/
def TIME_HOLDOVER_LOSS_MS : Field := fld 0x04 0x084 15 0 .rw 0x1f4
/-- Table 4.2, TIME.PORT0_LAT.TX_NS [31:16], RW: transmit latency -/
def TIME_PORT0_LAT_TX_NS : Field := fld 0x04 0x088 31 16 .rw 0
/-- Table 4.2, TIME.PORT0_LAT.RX_NS [15:0], RW: receive latency -/
def TIME_PORT0_LAT_RX_NS : Field := fld 0x04 0x088 15 0 .rw 0
/-- Table 4.2, TIME.PORT1_LAT.TX_NS [31:16], RW: as port 0 -/
def TIME_PORT1_LAT_TX_NS : Field := fld 0x04 0x08C 31 16 .rw 0
/-- Table 4.2, TIME.PORT1_LAT.RX_NS [15:0], RW: as port 0 -/
def TIME_PORT1_LAT_RX_NS : Field := fld 0x04 0x08C 15 0 .rw 0
/-- Table 4.2, TIME.ASYM_NS.NS [31:0], RW: signed path asymmetry, slave port -/
def TIME_ASYM_NS_NS : Field := fld 0x04 0x090 31 0 .rw 0
/-- Table 4.2, TIME.UTC_OFFSET.FROM_ANNOUNCE [16:16], RW: 1 = take the offset from Announce (R74) -/
def TIME_UTC_OFFSET_FROM_ANNOUNCE : Field := fld 0x04 0x094 16 16 .rw 0
/-- Table 4.2, TIME.UTC_OFFSET.SECONDS [15:0], RW: TAI − UTC, signed; shows the offset in use and ignores writes while FROM_ANNOUNCE is 1 -/
def TIME_UTC_OFFSET_SECONDS : Field := fld 0x04 0x094 15 0 .rw 0x25
/-- Table 4.2, TIME.LEGAL_STAT.EPOCH [31:16], RO: legal time epoch -/
def TIME_LEGAL_STAT_EPOCH : Field := fld 0x04 0x098 31 16 .ro 0
/-- Table 4.2, TIME.LEGAL_STAT.SLEWING [2:2], RO: legal slew in progress -/
def TIME_LEGAL_STAT_SLEWING : Field := fld 0x04 0x098 2 2 .ro 0
/-- Table 4.2, TIME.LEGAL_STAT.STEER_EN [1:1], RW: legal steer on -/
def TIME_LEGAL_STAT_STEER_EN : Field := fld 0x04 0x098 1 1 .rw 1
/-- Table 4.2, TIME.LEGAL_STAT.LEGAL_SET [0:0], RO: legal time has been steered since manufacture -/
def TIME_LEGAL_STAT_LEGAL_SET : Field := fld 0x04 0x098 0 0 .ro 0
/-- Table 4.2, TIME.LEGAL_DIFF.MS [31:0], RO: last D, signed ms -/
def TIME_LEGAL_DIFF_MS : Field := fld 0x04 0x09C 31 0 .ro 0
/-- Table 4.2, TIME.STEP_COUNT.COUNT [31:0], RO: fabric time steps since reset -/
def TIME_STEP_COUNT_COUNT : Field := fld 0x04 0x0A0 31 0 .ro 0

/-! ### TPO page (0x05), 04_time_base.md -/

/-- Table 4.3, TPO.CFG.ARM [7:7], RW: R76 -/
def TPO_CFG_ARM : Field := fldN 0x05 0x040 7 7 .rw 0 0x20 8
/-- Table 4.3, TPO.CFG.LATE_POLICY [6:6], RW: 0 run late, 1 discard (R77) -/
def TPO_CFG_LATE_POLICY : Field := fldN 0x05 0x040 6 6 .rw 0 0x20 8
/-- Table 4.3, TPO.CFG.POLARITY [5:5], RW: 0 active high, 1 active low -/
def TPO_CFG_POLARITY : Field := fldN 0x05 0x040 5 5 .rw 0 0x20 8
/-- Table 4.3, TPO.CFG.MODE [3:2], RW: 0b00 off, 0b01 one-shot level, 0b10 one-shot pulse, 0b11 periodic -/
def TPO_CFG_MODE : Field := fldN 0x05 0x040 3 2 .rw 0 0x20 8
/-- Table 4.3, TPO.START_NS.NS [29:0], RW: start, ns -/
def TPO_START_NS_NS : Field := fldN 0x05 0x044 29 0 .rw 0 0x20 8
/-- Table 4.3, TPO.START_SEC_LO.SEC [31:0], RW: start seconds [31:0] -/
def TPO_START_SEC_LO_SEC : Field := fldN 0x05 0x048 31 0 .rw 0 0x20 8
/-- Table 4.3, TPO.START_SEC_HI.SEC [15:0], RW: start seconds [47:32] -/
def TPO_START_SEC_HI_SEC : Field := fldN 0x05 0x04C 15 0 .rw 0 0x20 8
/-- Table 4.3, TPO.PERIOD_NS.NS [29:0], RW: period, ns part -/
def TPO_PERIOD_NS_NS : Field := fldN 0x05 0x050 29 0 .rw 0 0x20 8
/-- Table 4.3, TPO.PERIOD_SEC.SEC [15:0], RW: period, seconds part -/
def TPO_PERIOD_SEC_SEC : Field := fldN 0x05 0x054 15 0 .rw 0 0x20 8
/-- Table 4.3, TPO.WIDTH_NS.NS [29:0], RW: active width, ns -/
def TPO_WIDTH_NS_NS : Field := fldN 0x05 0x058 29 0 .rw 0 0x20 8
/-- Table 4.3, TPO.STATUS.SKIPPED [31:16], RO: R78 -/
def TPO_STATUS_SKIPPED : Field := fldN 0x05 0x05C 31 16 .ro 0 0x20 8
/-- Table 4.3, TPO.STATUS.MISSED [3:3], W1C: R77 -/
def TPO_STATUS_MISSED : Field := fldN 0x05 0x05C 3 3 .w1c 0 0x20 8
/-- Table 4.3, TPO.STATUS.LATE [2:2], W1C: R77, R78 -/
def TPO_STATUS_LATE : Field := fldN 0x05 0x05C 2 2 .w1c 0 0x20 8
/-- Table 4.3, TPO.STATUS.ACTIVE [1:1], RO: output active now -/
def TPO_STATUS_ACTIVE : Field := fldN 0x05 0x05C 1 1 .ro 0 0x20 8
/-- Table 4.3, TPO.STATUS.ARMED [0:0], RO: armed -/
def TPO_STATUS_ARMED : Field := fldN 0x05 0x05C 0 0 .ro 0 0x20 8

/-! ### FAB page (0x06), 06_facet_tree.md -/

/-- FAB page text, FAB.STATUS.ETYPE_UNSET [0:0], RO: R102 -/
def FAB_STATUS_ETYPE_UNSET : Field := fld 0x06 0x00C 0 0 .ro 0
/-- Table 6.12, FAB.PORT0_CFG.AN_EN [3:3], RW: auto-negotiation -/
def FAB_PORT0_CFG_AN_EN : Field := fld 0x06 0x040 3 3 .rw 1
/-- Table 6.12, FAB.PORT0_CFG.IFACE [2:1], RW: 0b00 SGMII, 0b01 1000BASE-X, 0b10 2500BASE-X -/
def FAB_PORT0_CFG_IFACE : Field := fld 0x06 0x040 2 1 .rw 0
/-- Table 6.12, FAB.PORT0_CFG.ENABLE [0:0], RW: port on -/
def FAB_PORT0_CFG_ENABLE : Field := fld 0x06 0x040 0 0 .rw 0
/-- Table 6.12, FAB.PORT1_CFG.AN_EN [3:3], RW: as PORT0_CFG -/
def FAB_PORT1_CFG_AN_EN : Field := fld 0x06 0x044 3 3 .rw 1
/-- Table 6.12, FAB.PORT1_CFG.IFACE [2:1], RW: as PORT0_CFG -/
def FAB_PORT1_CFG_IFACE : Field := fld 0x06 0x044 2 1 .rw 0
/-- Table 6.12, FAB.PORT1_CFG.ENABLE [0:0], RW: as PORT0_CFG -/
def FAB_PORT1_CFG_ENABLE : Field := fld 0x06 0x044 0 0 .rw 0
/-- Table 6.12, FAB.PORT_STAT.P1_AN_DONE [15:15], RO: negotiation complete -/
def FAB_PORT_STAT_P1_AN_DONE : Field := fld 0x06 0x048 15 15 .ro 0
/-- Table 6.12, FAB.PORT_STAT.P1_SPEED [14:12], RO: 0 none, 1 10 Mb/s, 2 100 Mb/s, 3 1 Gb/s, 4 2.5 Gb/s -/
def FAB_PORT_STAT_P1_SPEED : Field := fld 0x06 0x048 14 12 .ro 0
/-- Table 6.12, FAB.PORT_STAT.P1_LINK [8:8], RO: link up -/
def FAB_PORT_STAT_P1_LINK : Field := fld 0x06 0x048 8 8 .ro 0
/-- Table 6.12, FAB.PORT_STAT.P0_AN_DONE [7:7], RO: as port 1 -/
def FAB_PORT_STAT_P0_AN_DONE : Field := fld 0x06 0x048 7 7 .ro 0
/-- Table 6.12, FAB.PORT_STAT.P0_SPEED [6:4], RO: as port 1 -/
def FAB_PORT_STAT_P0_SPEED : Field := fld 0x06 0x048 6 4 .ro 0
/-- Table 6.12, FAB.PORT_STAT.P0_LINK [0:0], RO: link up -/
def FAB_PORT_STAT_P0_LINK : Field := fld 0x06 0x048 0 0 .ro 0
/-- Table 6.12, FAB.ETYPE.ETYPE [15:0], RW: Galesh EtherType (R102) -/
def FAB_ETYPE_ETYPE : Field := fld 0x06 0x04C 15 0 .rw 0
/-- Table 6.12, FAB.VLAN.TAG_EN [31:31], RW: 802.1Q tag on Galesh frames -/
def FAB_VLAN_TAG_EN : Field := fld 0x06 0x050 31 31 .rw 1
/-- Table 6.12, FAB.VLAN.PCP_SAFETY [23:21], RW: R106 -/
def FAB_VLAN_PCP_SAFETY : Field := fld 0x06 0x050 23 21 .rw 7
/-- Table 6.12, FAB.VLAN.PCP_SENT [20:18], RW: R106 -/
def FAB_VLAN_PCP_SENT : Field := fld 0x06 0x050 20 18 .rw 6
/-- Table 6.12, FAB.VLAN.PCP_TREE [17:15], RW: R106 -/
def FAB_VLAN_PCP_TREE : Field := fld 0x06 0x050 17 15 .rw 5
/-- Table 6.12, FAB.VLAN.VID [11:0], RW: VLAN identifier -/
def FAB_VLAN_VID : Field := fld 0x06 0x050 11 0 .rw 1
/-- Table 6.12, FAB.SRC_MAC_LO.MAC [31:0], RW: own MAC [31:0] -/
def FAB_SRC_MAC_LO_MAC : Field := fld 0x06 0x054 31 0 .rw 0
/-- Table 6.12, FAB.SRC_MAC_HI.MAC [15:0], RW: own MAC [47:32] -/
def FAB_SRC_MAC_HI_MAC : Field := fld 0x06 0x058 15 0 .rw 0
/-- Table 6.12, FAB.PEER0_MAC_LO.MAC [31:0], RW: destination MAC, port 0 -/
def FAB_PEER0_MAC_LO_MAC : Field := fld 0x06 0x05C 31 0 .rw 0xffffffff
/-- Table 6.12, FAB.PEER0_MAC_HI.MAC [15:0], RW:  -/
def FAB_PEER0_MAC_HI_MAC : Field := fld 0x06 0x060 15 0 .rw 0xffff
/-- Table 6.12, FAB.PEER1_MAC_LO.MAC [31:0], RW: destination MAC, port 1 -/
def FAB_PEER1_MAC_LO_MAC : Field := fld 0x06 0x064 31 0 .rw 0xffffffff
/-- Table 6.12, FAB.PEER1_MAC_HI.MAC [15:0], RW:  -/
def FAB_PEER1_MAC_HI_MAC : Field := fld 0x06 0x068 15 0 .rw 0xffff
/-- Table 6.12, FAB.ROUTE_CFG.HOP_LIMIT [15:8], RW: initial HOPS -/
def FAB_ROUTE_CFG_HOP_LIMIT : Field := fld 0x06 0x06C 15 8 .rw 0x10
/-- Table 6.12, FAB.ROUTE_CFG.BCAST_FWD [3:3], RW: R104 -/
def FAB_ROUTE_CFG_BCAST_FWD : Field := fld 0x06 0x06C 3 3 .rw 0
/-- Table 6.12, FAB.ROUTE_CFG.PASS_OTHER [2:2], RW: R106 -/
def FAB_ROUTE_CFG_PASS_OTHER : Field := fld 0x06 0x06C 2 2 .rw 0
/-- Table 6.12, FAB.ROUTE_CFG.DEFAULT_PORT [1:0], RW: R105 -/
def FAB_ROUTE_CFG_DEFAULT_PORT : Field := fld 0x06 0x06C 1 0 .rw 3
/-- Table 6.12, FAB.RX_FRAMES.COUNT [31:0], RO: Galesh frames consumed -/
def FAB_RX_FRAMES_COUNT : Field := fld 0x06 0x070 31 0 .ro 0
/-- Table 6.12, FAB.TX_FRAMES.COUNT [31:0], RO: Galesh frames sent or forwarded -/
def FAB_TX_FRAMES_COUNT : Field := fld 0x06 0x074 31 0 .ro 0
/-- Table 6.12, FAB.DROP_ROUTE.COUNT [31:0], RC: R104 -/
def FAB_DROP_ROUTE_COUNT : Field := fld 0x06 0x078 31 0 .rc 0
/-- Table 6.12, FAB.DROP_HOP.COUNT [31:0], RC: R104 -/
def FAB_DROP_HOP_COUNT : Field := fld 0x06 0x07C 31 0 .rc 0
/-- Table 6.12, FAB.DROP_FORMAT.COUNT [31:0], RC: R103, R104 -/
def FAB_DROP_FORMAT_COUNT : Field := fld 0x06 0x080 31 0 .rc 0

/-! ### TREE page (0x07), 06_facet_tree.md -/

/-- Table 6.13, TREE.SELF.ROOT [16:16], RW: site root -/
def TREE_SELF_ROOT : Field := fld 0x07 0x040 16 16 .rw 0
/-- Table 6.13, TREE.SELF.ADDRESS [15:0], RW: own Facet address -/
def TREE_SELF_ADDRESS : Field := fld 0x07 0x040 15 0 .rw 0
/-- Table 6.13, TREE.PARENT.PORT [17:16], RO: port of the last LEASE; 0b11 none -/
def TREE_PARENT_PORT : Field := fld 0x07 0x044 17 16 .ro 3
/-- Table 6.13, TREE.PARENT.ADDRESS [15:0], RW: parent; ignored when ROOT is 1 -/
def TREE_PARENT_ADDRESS : Field := fld 0x07 0x044 15 0 .rw 0
/-- Table 6.13, TREE.LEASE_CFG.LEASE_MS [31:16], RW: lease granted to children; 200–60,000 -/
def TREE_LEASE_CFG_LEASE_MS : Field := fld 0x07 0x048 31 16 .rw 0x7d0
/-- Table 6.13, TREE.LEASE_CFG.RAMP_MS [15:0], RW: expiry ramp; 10–10,000 -/
def TREE_LEASE_CFG_RAMP_MS : Field := fld 0x07 0x048 15 0 .rw 0xc8
/-- Table 6.13, TREE.RECLAIM.SILENT_EPOCHS [23:16], RW: R116; 1–255 -/
def TREE_RECLAIM_SILENT_EPOCHS : Field := fld 0x07 0x04C 23 16 .rw 3
/-- Table 6.13, TREE.RECLAIM.MARGIN_MS [15:0], RW: R116 -/
def TREE_RECLAIM_MARGIN_MS : Field := fld 0x07 0x04C 15 0 .rw 0xa
/-- Table 6.13, TREE.OWN_FLOOR.W [31:0], RWT: own floor, signed -/
def TREE_OWN_FLOOR_W : Field := fld 0x07 0x050 31 0 .rwt 0
/-- Table 6.13, TREE.OWN_CEIL.W [31:0], RWT: own ceiling -/
def TREE_OWN_CEIL_W : Field := fld 0x07 0x054 31 0 .rwt 0
/-- Table 6.13, TREE.LEASE_STAT.TIGHT [3:3], RO: R117 -/
def TREE_LEASE_STAT_TIGHT : Field := fld 0x07 0x058 3 3 .ro 0
/-- Table 6.13, TREE.LEASE_STAT.STATE [2:0], RO: 0 none, 1 valid, 2 ramping, 3 at floor, 4 root -/
def TREE_LEASE_STAT_STATE : Field := fld 0x07 0x058 2 0 .ro 0
/-- Table 6.13, TREE.LEASE_REMAIN.US [31:0], RO: lease remaining, µs -/
def TREE_LEASE_REMAIN_US : Field := fld 0x07 0x05C 31 0 .ro 0
/-- Table 6.13, TREE.TARGET.W [31:0], RO: TARGET of the last LEASE -/
def TREE_TARGET_W : Field := fld 0x07 0x060 31 0 .ro 0
/-- Table 6.13, TREE.DEPTH.DEPTH [7:0], RO: from the last LEASE; 0 at the root -/
def TREE_DEPTH_DEPTH : Field := fld 0x07 0x064 7 0 .ro 0
/-- Table 6.13, TREE.CHILDREN.RECLAIMED [31:24], RO: entries in state 4 -/
def TREE_CHILDREN_RECLAIMED : Field := fld 0x07 0x068 31 24 .ro 0
/-- Table 6.13, TREE.CHILDREN.SILENT [23:16], RO: entries in states 2 and 3 -/
def TREE_CHILDREN_SILENT : Field := fld 0x07 0x068 23 16 .ro 0
/-- Table 6.13, TREE.CHILDREN.ACTIVE [15:8], RO: entries in state 1 -/
def TREE_CHILDREN_ACTIVE : Field := fld 0x07 0x068 15 8 .ro 0
/-- Table 6.13, TREE.CHILDREN.CONFIGURED [7:0], RO: entries of KIND 1 -/
def TREE_CHILDREN_CONFIGURED : Field := fld 0x07 0x068 7 0 .ro 0
/-- Table 6.13, TREE.EXPIRED_COUNT.COUNT [31:0], RO: own lease expiries since reset -/
def TREE_EXPIRED_COUNT_COUNT : Field := fld 0x07 0x06C 31 0 .ro 0

/-! ### ALLOC page (0x08), 06_facet_tree.md -/

/-- Table 6.14, ALLOC.EPOCH_CFG.EPOCH_MS [31:16], RW: 10–1,000, a divisor of 1,000 (R118) -/
def ALLOC_EPOCH_CFG_EPOCH_MS : Field := fld 0x08 0x040 31 16 .rw 0x64
/-- Table 6.14, ALLOC.EPOCH_CFG.STOP_OFFSET_MS [15:0], RW: full stop after the boundary -/
def ALLOC_EPOCH_CFG_STOP_OFFSET_MS : Field := fld 0x08 0x040 15 0 .rw 0x32
/-- Table 6.14, ALLOC.CFG.DEADBAND_KW [31:16], RW: R122 -/
def ALLOC_CFG_DEADBAND_KW : Field := fld 0x08 0x044 31 16 .rw 0xa
/-- Table 6.14, ALLOC.CFG.ROOT_DT_EN [1:1], RW: R126 -/
def ALLOC_CFG_ROOT_DT_EN : Field := fld 0x08 0x044 1 1 .rw 0
/-- Table 6.14, ALLOC.CFG.ENABLE [0:0], RW: allocator on; 0 holds all Apertures -/
def ALLOC_CFG_ENABLE : Field := fld 0x08 0x044 0 0 .rw 1
/-- Table 6.14, ALLOC.OUT_CFG.WEIGHT [31:24], RW: 1–255 -/
def ALLOC_OUT_CFG_WEIGHT : Field := fldN 0x08 0x080 31 24 .rw 0x10 0x10 4
/-- Table 6.14, ALLOC.OUT_CFG.PRISM [23:16], RW: containing Prism entry; 0xFF none (R109) -/
def ALLOC_OUT_CFG_PRISM : Field := fldN 0x08 0x080 23 16 .rw 0xff 0x10 4
/-- Table 6.14, ALLOC.OUT_CFG.PRIO [2:0], RW: priority class -/
def ALLOC_OUT_CFG_PRIO : Field := fldN 0x08 0x080 2 0 .rw 3 0x10 4
/-- Table 6.14, ALLOC.OUT_FLOOR.W [31:0], RWT: signed; target 0x1000 + n -/
def ALLOC_OUT_FLOOR_W : Field := fldN 0x08 0x084 31 0 .rwt 0 0x10 4
/-- Table 6.14, ALLOC.OUT_CEIL.W [31:0], RWT: target 0x1000 + n -/
def ALLOC_OUT_CEIL_W : Field := fldN 0x08 0x088 31 0 .rwt 0 0x10 4
/-- Table 6.14, ALLOC.OUT_MAX.W [31:0], RW: 4,500,000 W -/
def ALLOC_OUT_MAX_W : Field := fldN 0x08 0x08C 31 0 .rw 0x44aa20 0x10 4
/-- Table 6.14, ALLOC.OUT_DEMAND.W [31:0], RO: demand frozen at the last boundary -/
def ALLOC_OUT_DEMAND_W : Field := fldN 0x08 0x0C0 31 0 .ro 0 0x8 4
/-- Table 6.14, ALLOC.OUT_CAP.W [31:0], RO: cap (R119) -/
def ALLOC_OUT_CAP_W : Field := fldN 0x08 0x0C4 31 0 .ro 0 0x8 4
/-- Table 6.14, ALLOC.DT_TARGET_W.W [31:0], RW: contracted demand target -/
def ALLOC_DT_TARGET_W_W : Field := fld 0x08 0x0E0 31 0 .rw 0
/-- Table 6.14, ALLOC.DT_BUDGET_W.W [31:0], RO: cap − U (R126) -/
def ALLOC_DT_BUDGET_W_W : Field := fld 0x08 0x0E4 31 0 .ro 0
/-- Table 6.14, ALLOC.DT_UNCTRL_W.W [31:0], RO: U (R126) -/
def ALLOC_DT_UNCTRL_W_W : Field := fld 0x08 0x0E8 31 0 .ro 0
/-- Table 6.14, ALLOC.DT_POINT.POINT [3:0], RW: meter point; 4 is the grid port -/
def ALLOC_DT_POINT_POINT : Field := fld 0x08 0x0EC 3 0 .rw 4
/-- Table 6.14, ALLOC.DEMAND_UP.W [31:0], RO: total demand last reported -/
def ALLOC_DEMAND_UP_W : Field := fld 0x08 0x0F0 31 0 .ro 0
/-- Table 6.14, ALLOC.SHED_UP.W [31:0], RO: SHED last reported -/
def ALLOC_SHED_UP_W : Field := fld 0x08 0x0F4 31 0 .ro 0
/-- Table 6.14, ALLOC.CAP_UP.W [31:0], RO: CAP last reported -/
def ALLOC_CAP_UP_W : Field := fld 0x08 0x0F8 31 0 .ro 0
/-- Table 6.14, ALLOC.EPOCH_COUNT.COUNT [31:0], RO: boundaries since reset -/
def ALLOC_EPOCH_COUNT_COUNT : Field := fld 0x08 0x0FC 31 0 .ro 0
/-- Table 6.14, ALLOC.LAST_EPOCH.CLAUSES [31:24], RO: Clauses in the epoch's Sentence -/
def ALLOC_LAST_EPOCH_CLAUSES : Field := fld 0x08 0x100 31 24 .ro 0
/-- Table 6.14, ALLOC.LAST_EPOCH.DEFERRED [23:16], RO: changes deferred (R122) -/
def ALLOC_LAST_EPOCH_DEFERRED : Field := fld 0x08 0x100 23 16 .ro 0
/-- Table 6.14, ALLOC.LAST_EPOCH.RESULT [15:0], RO: 0 none; 0x09_01 when the last Sentence ended DONE; for ABORTED or HALF, its reason from `V_ERROR.CODE`, or 0x09_02 (ABORTED) or 0x09_03 (HALF) when that reason is 0 -/
def ALLOC_LAST_EPOCH_RESULT : Field := fld 0x08 0x100 15 0 .ro 0
/-- Table 6.14, ALLOC.UNALLOC_W.W [31:0], RO: budget left unassigned at the last epoch -/
def ALLOC_UNALLOC_W_W : Field := fld 0x08 0x104 31 0 .ro 0

/-! ### SENT page (0x09), 05_sentences.md -/

/-- SENT page text, SENT.CTRL.DIST_EN [0:0], RW: distributed Sentences accepted -/
def SENT_CTRL_DIST_EN : Field := fld 0x09 0x008 0 0 .rw 1
/-- Table 5.8, SENT.CMD.OP [31:28], WO: Table 5.4 -/
def SENT_CMD_OP : Field := fld 0x09 0x040 31 28 .wo 0
/-- Table 5.8, SENT.CMD.SLOT [27:24], WO: slot addressed; ignored by OPEN -/
def SENT_CMD_SLOT : Field := fld 0x09 0x040 27 24 .wo 0
/-- Table 5.8, SENT.CMD_RESULT.BUSY [31:31], RO: command in progress -/
def SENT_CMD_RESULT_BUSY : Field := fld 0x09 0x044 31 31 .ro 0
/-- Table 5.8, SENT.CMD_RESULT.SLOT [27:24], RO: slot of the last command -/
def SENT_CMD_RESULT_SLOT : Field := fld 0x09 0x044 27 24 .ro 0
/-- Table 5.8, SENT.CMD_RESULT.ERROR [15:0], RO: code of the last command; 0 = accepted -/
def SENT_CMD_RESULT_ERROR : Field := fld 0x09 0x044 15 0 .ro 0
/-- Table 5.8, SENT.CLAUSE_W0.W0 [31:0], RW: Table 5.1 -/
def SENT_CLAUSE_W0_W0 : Field := fld 0x09 0x048 31 0 .rw 0
/-- Table 5.8, SENT.CLAUSE_W1.W1 [31:0], RW: target -/
def SENT_CLAUSE_W1_W1 : Field := fld 0x09 0x04C 31 0 .rw 0
/-- Table 5.8, SENT.CLAUSE_W2.VALUE_A [31:0], RW: Table 5.2 -/
def SENT_CLAUSE_W2_VALUE_A : Field := fld 0x09 0x050 31 0 .rw 0
/-- Table 5.8, SENT.CLAUSE_W3.VALUE_B [31:0], RW: Table 5.2 -/
def SENT_CLAUSE_W3_VALUE_B : Field := fld 0x09 0x054 31 0 .rw 0
/-- Table 5.8, SENT.SEL.SLOT [3:0], RW: slot shown at 0x080–0x0A8 -/
def SENT_SEL_SLOT : Field := fld 0x09 0x058 3 0 .rw 0
/-- Table 5.8, SENT.SLOT_STATE_LO.STATE [31:0], RO: slot s in [4s+3:4s], slots 0–7; Table 5.3 -/
def SENT_SLOT_STATE_LO_STATE : Field := fld 0x09 0x05C 31 0 .ro 0
/-- Table 5.8, SENT.SLOT_STATE_HI.STATE [31:0], RO: slot s in [4(s−8)+3:4(s−8)], slots 8–15 -/
def SENT_SLOT_STATE_HI_STATE : Field := fld 0x09 0x060 31 0 .ro 0
/-- Table 5.8, SENT.TIMING.GUARD_US [31:16], RW: guard, µs; 20–1,000 -/
def SENT_TIMING_GUARD_US : Field := fld 0x09 0x064 31 16 .rw 0x32
/-- Table 5.8, SENT.TIMING.DECIDE_LEAD_US [15:0], RW: vote deadline before the full stop, µs (R94) -/
def SENT_TIMING_DECIDE_LEAD_US : Field := fld 0x09 0x064 15 0 .rw 0x1f4
/-- Table 5.8, SENT.TAKE_DELAY.US [16:0], RW: take delay, µs; 0–100,000 -/
def SENT_TAKE_DELAY_US : Field := fld 0x09 0x068 16 0 .rw 0x7d0
/-- Table 5.8, SENT.DIST_LEAD.OUTCOME_MS [31:16], RW: outcome timeout, ms -/
def SENT_DIST_LEAD_OUTCOME_MS : Field := fld 0x09 0x06C 31 16 .rw 0xa
/-- Table 5.8, SENT.DIST_LEAD.LEAD_US [15:0], RW: minimum lead of a distributed PREPARE, µs -/
def SENT_DIST_LEAD_LEAD_US : Field := fld 0x09 0x06C 15 0 .rw 0x1388
/-- Table 5.8, SENT.COMMITTED_COUNT.COUNT [31:0], RO: Sentences DONE since reset -/
def SENT_COMMITTED_COUNT_COUNT : Field := fld 0x09 0x070 31 0 .ro 0
/-- Table 5.8, SENT.ABORTED_COUNT.COUNT [31:0], RO: Sentences ABORTED since reset -/
def SENT_ABORTED_COUNT_COUNT : Field := fld 0x09 0x074 31 0 .ro 0
/-- Table 5.8, SENT.HALF_COUNT.COUNT [31:0], RO: Sentences HALF since reset -/
def SENT_HALF_COUNT_COUNT : Field := fld 0x09 0x078 31 0 .ro 0
/-- Table 5.8, SENT.V_STATE.OWNER [27:24], RO: 0 host, 1 dialogue engine, 2 allocator, 3 parent -/
def SENT_V_STATE_OWNER : Field := fld 0x09 0x080 27 24 .ro 0
/-- Table 5.8, SENT.V_STATE.PARTICIPANTS [23:16], RO: children taking part; 0 = local -/
def SENT_V_STATE_PARTICIPANTS : Field := fld 0x09 0x080 23 16 .ro 0
/-- Table 5.8, SENT.V_STATE.NCLAUSES [14:8], RO: 0–64 -/
def SENT_V_STATE_NCLAUSES : Field := fld 0x09 0x080 14 8 .ro 0
/-- Table 5.8, SENT.V_STATE.STATE [3:0], RO: Table 5.3 -/
def SENT_V_STATE_STATE : Field := fld 0x09 0x080 3 0 .ro 0
/-- Table 5.8, SENT.V_CFG.MODE [31:30], RW: R88; 0b11 undefined and fails BAD_MODE (R86); written only in OPEN -/
def SENT_V_CFG_MODE : Field := fld 0x09 0x084 31 30 .rw 0
/-- Table 5.8, SENT.V_CFG.DIST [29:29], RW: distributed, coordinated here -/
def SENT_V_CFG_DIST : Field := fld 0x09 0x084 29 29 .rw 0
/-- Table 5.8, SENT.V_CFG.TD_ZERO [28:28], RW: zero take delay, local only -/
def SENT_V_CFG_TD_ZERO : Field := fld 0x09 0x084 28 28 .rw 0
/-- Table 5.8, SENT.V_CFG.LOOP_SLOT [19:16], RW: fast slot for MODE 0b01 -/
def SENT_V_CFG_LOOP_SLOT : Field := fld 0x09 0x084 19 16 .rw 0
/-- Table 5.8, SENT.V_CFG.AUTO_RELEASE [0:0], RW: R84 -/
def SENT_V_CFG_AUTO_RELEASE : Field := fld 0x09 0x084 0 0 .rw 0
/-- Table 5.8, SENT.V_STOP_NS.NS [29:0], RW: full stop, ns; set by the device at the full stop for modes 0b00 and 0b01 -/
def SENT_V_STOP_NS_NS : Field := fld 0x09 0x088 29 0 .rw 0
/-- Table 5.8, SENT.V_STOP_SEC_LO.SEC [31:0], RW: full stop seconds [31:0] -/
def SENT_V_STOP_SEC_LO_SEC : Field := fld 0x09 0x08C 31 0 .rw 0
/-- Table 5.8, SENT.V_STOP_SEC_HI.SEC [15:0], RW: full stop seconds [47:32] -/
def SENT_V_STOP_SEC_HI_SEC : Field := fld 0x09 0x090 15 0 .rw 0
/-- Table 5.8, SENT.V_SID.SID [31:0], RO: Sentence ID (R91); local Sentences 0 -/
def SENT_V_SID_SID : Field := fld 0x09 0x094 31 0 .ro 0
/-- Table 5.8, SENT.V_VOTES.MISSING [31:24], RO: votes outstanding -/
def SENT_V_VOTES_MISSING : Field := fld 0x09 0x098 31 24 .ro 0
/-- Table 5.8, SENT.V_VOTES.NO [23:16], RO: NO votes -/
def SENT_V_VOTES_NO : Field := fld 0x09 0x098 23 16 .ro 0
/-- Table 5.8, SENT.V_VOTES.YES [15:8], RO: YES votes -/
def SENT_V_VOTES_YES : Field := fld 0x09 0x098 15 8 .ro 0
/-- Table 5.8, SENT.V_OUTCOME.MISSING [31:24], RO: R96 -/
def SENT_V_OUTCOME_MISSING : Field := fld 0x09 0x09C 31 24 .ro 0
/-- Table 5.8, SENT.V_OUTCOME.HALF [23:16], RO: participants in HALF -/
def SENT_V_OUTCOME_HALF : Field := fld 0x09 0x09C 23 16 .ro 0
/-- Table 5.8, SENT.V_OUTCOME.DONE [15:8], RO: participants DONE -/
def SENT_V_OUTCOME_DONE : Field := fld 0x09 0x09C 15 8 .ro 0
/-- Table 5.8, SENT.V_OUTCOME.ABORTED [7:0], RO: participants ABORTED -/
def SENT_V_OUTCOME_ABORTED : Field := fld 0x09 0x09C 7 0 .ro 0
/-- Table 5.8, SENT.V_FIRST_NO.FACET [31:16], RO: first NO voter -/
def SENT_V_FIRST_NO_FACET : Field := fld 0x09 0x0A0 31 16 .ro 0
/-- Table 5.8, SENT.V_FIRST_NO.REASON [15:0], RO: its reason code -/
def SENT_V_FIRST_NO_REASON : Field := fld 0x09 0x0A0 15 0 .ro 0
/-- Table 5.8, SENT.V_ERROR.CLAUSE [22:16], RO: failing Clause, 0–63; 0x7F for a check on the whole Sentence (R86) -/
def SENT_V_ERROR_CLAUSE : Field := fld 0x09 0x0A4 22 16 .ro 0
/-- Table 5.8, SENT.V_ERROR.CODE [15:0], RO: R85, R86, R99, R100 -/
def SENT_V_ERROR_CODE : Field := fld 0x09 0x0A4 15 0 .ro 0
/-- Table 5.8, SENT.V_APPLIED.LATE_DECISION [2:2], RO: R95 -/
def SENT_V_APPLIED_LATE_DECISION : Field := fld 0x09 0x0A8 2 2 .ro 0
/-- Table 5.8, SENT.V_APPLIED.TAKES [1:1], RO: takes applied -/
def SENT_V_APPLIED_TAKES : Field := fld 0x09 0x0A8 1 1 .ro 0
/-- Table 5.8, SENT.V_APPLIED.YIELDS [0:0], RO: yields applied -/
def SENT_V_APPLIED_YIELDS : Field := fld 0x09 0x0A8 0 0 .ro 0

/-! ### OUTLET page (0x0A), 08_outlet_loops.md -/

/-- OUTLET page text, OUTLET.STATUS.STATE [27:24], RO: Table 8.5 -/
def OUTLET_STATUS_STATE : Field := fld 0x0A 0x00C 27 24 .ro 0
/-- OUTLET page text, OUTLET.STATUS.SELECTED [21:20], RO: the loop j -/
def OUTLET_STATUS_SELECTED : Field := fld 0x0A 0x00C 21 20 .ro 0
/-- OUTLET page text, OUTLET.STATUS.SAT [19:19], RO: selected loop saturated -/
def OUTLET_STATUS_SAT : Field := fld 0x0A 0x00C 19 19 .ro 0
/-- OUTLET page text, OUTLET.STATUS.PRECHARGE_OK [18:18], RO: R181 -/
def OUTLET_STATUS_PRECHARGE_OK : Field := fld 0x0A 0x00C 18 18 .ro 0
/-- OUTLET page text, OUTLET.STATUS.SLEWING [17:17], RO:  -/
def OUTLET_STATUS_SLEWING : Field := fld 0x0A 0x00C 17 17 .ro 0
/-- OUTLET page text, OUTLET.STATUS.DIRECTION [16:16], RO: active direction -/
def OUTLET_STATUS_DIRECTION : Field := fld 0x0A 0x00C 16 16 .ro 0
/-- Table 8.6, OUTLET.VCMD.TARGET [31:0], RWT: mV; 0 or 150,000–1,500,000 (R85) -/
def OUTLET_VCMD_TARGET : Field := fld 0x0A 0x040 31 0 .rwt 0
/-- Table 8.6, OUTLET.VRAMP.MV [31:0], RO: present ramp value (R177) -/
def OUTLET_VRAMP_MV : Field := fld 0x0A 0x044 31 0 .ro 0
/-- Table 8.6, OUTLET.VSLEW.MV_PER_MS [19:0], RW: 10,000; 100–200,000 -/
def OUTLET_VSLEW_MV_PER_MS : Field := fld 0x0A 0x048 19 0 .rw 0x2710
/-- Table 8.6, OUTLET.ILIM_IMP.MA [31:0], RWT: vehicle import limit -/
def OUTLET_ILIM_IMP_MA : Field := fld 0x0A 0x04C 31 0 .rwt 0
/-- Table 8.6, OUTLET.ILIM_EXP.MA [31:0], RWT: vehicle export limit -/
def OUTLET_ILIM_EXP_MA : Field := fld 0x0A 0x050 31 0 .rwt 0
/-- Table 8.6, OUTLET.PLIM_IMP.W [31:0], RWT: vehicle import power limit -/
def OUTLET_PLIM_IMP_W : Field := fld 0x0A 0x054 31 0 .rwt 0
/-- Table 8.6, OUTLET.PLIM_EXP.W [31:0], RWT: vehicle export power limit -/
def OUTLET_PLIM_EXP_W : Field := fld 0x0A 0x058 31 0 .rwt 0
/-- Table 8.6, OUTLET.DIR.EXPORT [0:0], RWT: committed direction (R176) -/
def OUTLET_DIR_EXPORT : Field := fld 0x0A 0x05C 0 0 .rwt 0
/-- Table 8.6, OUTLET.EV_MV.MV [31:0], RWT: vehicle voltage for precharge -/
def OUTLET_EV_MV_MV : Field := fld 0x0A 0x060 31 0 .rwt 0
/-- Table 8.6, OUTLET.ISLEW_UP.MA_PER_MS [31:0], RW: 100,000; rise of IHI -/
def OUTLET_ISLEW_UP_MA_PER_MS : Field := fld 0x0A 0x064 31 0 .rw 0x186a0
/-- Table 8.6, OUTLET.ISLEW_DOWN.MA_PER_MS [31:0], RW: 1,000,000; stop and direction ramps -/
def OUTLET_ISLEW_DOWN_MA_PER_MS : Field := fld 0x0A 0x068 31 0 .rw 0xf4240
/-- Table 8.6, OUTLET.FAULT_RAMP.MA_PER_MS [31:0], RW: 1,000,000 (R187) -/
def OUTLET_FAULT_RAMP_MA_PER_MS : Field := fld 0x0A 0x06C 31 0 .rw 0xf4240
/-- Table 8.6, OUTLET.PRECHARGE.MA [31:16], RW: 2,000 mA clamp -/
def OUTLET_PRECHARGE_MA : Field := fld 0x0A 0x070 31 16 .rw 0x7d0
/-- Table 8.6, OUTLET.PRECHARGE.TIMEOUT_MS [15:0], RW: 7,000 ms -/
def OUTLET_PRECHARGE_TIMEOUT_MS : Field := fld 0x0A 0x070 15 0 .rw 0x1b58
/-- Table 8.6, OUTLET.PRE_WIN.WIN_MV [15:0], RW: 20,000 mV; 1,000–20,000 -/
def OUTLET_PRE_WIN_WIN_MV : Field := fld 0x0A 0x074 15 0 .rw 0x4e20
/-- Table 8.6, OUTLET.LOWCUR.ZERO_A [31:16], RW: zero window, A -/
def OUTLET_LOWCUR_ZERO_A : Field := fld 0x0A 0x078 31 16 .rw 5
/-- Table 8.6, OUTLET.LOWCUR.CHECK_MA [15:0], RW: cable check clamp, 5,000 mA -/
def OUTLET_LOWCUR_CHECK_MA : Field := fld 0x0A 0x078 15 0 .rw 0x1388
/-- Table 8.6, OUTLET.FB_WIN.V [31:20], RW: R185, V -/
def OUTLET_FB_WIN_V : Field := fld 0x0A 0x07C 31 20 .rw 5
/-- Table 8.6, OUTLET.FB_WIN.A [19:8], RW: R185, A -/
def OUTLET_FB_WIN_A : Field := fld 0x0A 0x07C 19 8 .rw 0xa
/-- Table 8.6, OUTLET.FB_WIN.PCT [7:0], RW: R185, % -/
def OUTLET_FB_WIN_PCT : Field := fld 0x0A 0x07C 7 0 .rw 2
/-- Table 8.6, OUTLET.FB_HOLD.US [7:0], RW: 0–100 -/
def OUTLET_FB_HOLD_US : Field := fld 0x0A 0x080 7 0 .rw 0x64
/-- Table 8.6, OUTLET.CONTACT.CLOSE_MS [31:24], RW: main and precharge closing limit -/
def OUTLET_CONTACT_CLOSE_MS : Field := fld 0x0A 0x084 31 24 .rw 0x1e
/-- Table 8.6, OUTLET.CONTACT.OPEN_MS [23:16], RW: opening limit -/
def OUTLET_CONTACT_OPEN_MS : Field := fld 0x0A 0x084 23 16 .rw 0x1e
/-- Table 8.6, OUTLET.CONTACT.EQ_MS [15:0], RW: equalising limit (R180) -/
def OUTLET_CONTACT_EQ_MS : Field := fld 0x0A 0x084 15 0 .rw 0xc8
/-- Table 8.6, OUTLET.APT_MA.MA [31:0], RO: Aperture term of R175 -/
def OUTLET_APT_MA_MA : Field := fld 0x0A 0x088 31 0 .ro 0
/-- Table 8.6, OUTLET.THERM_MA.MA [31:0], RO: thermal ceiling from COOL -/
def OUTLET_THERM_MA_MA : Field := fld 0x0A 0x08C 31 0 .ro 0
/-- Table 8.6, OUTLET.SAFE_MA.MA [31:0], RO: lowest active safety ceiling -/
def OUTLET_SAFE_MA_MA : Field := fld 0x0A 0x090 31 0 .ro 0
/-- Table 8.6, OUTLET.ITGT_MA.MA [31:0], RO: target of R16, signed -/
def OUTLET_ITGT_MA_MA : Field := fld 0x0A 0x094 31 0 .ro 0
/-- Table 8.6, OUTLET.IHI_MA.MA [31:0], RO: clamp (R175) -/
def OUTLET_IHI_MA_MA : Field := fld 0x0A 0x098 31 0 .ro 0
/-- Table 8.6, OUTLET.REF_MA.MA [31:0], RO: reference to the phases, signed -/
def OUTLET_REF_MA_MA : Field := fld 0x0A 0x09C 31 0 .ro 0
/-- Table 8.6, OUTLET.VC_MV.MV [31:0], RO: control voltage, last sample mean -/
def OUTLET_VC_MV_MV : Field := fld 0x0A 0x0A0 31 0 .ro 0
/-- Table 8.6, OUTLET.IC_MA.MA [31:0], RO: control current, signed -/
def OUTLET_IC_MA_MA : Field := fld 0x0A 0x0A4 31 0 .ro 0
/-- Table 8.6, OUTLET.P_W.W [31:0], RO: VC × IC, signed -/
def OUTLET_P_W_W : Field := fld 0x0A 0x0A8 31 0 .ro 0
/-- Table 8.6, OUTLET.FB_STAT.LOST_V [7:7], W1C: R184, R188 -/
def OUTLET_FB_STAT_LOST_V : Field := fld 0x0A 0x0AC 7 7 .w1c 0
/-- Table 8.6, OUTLET.FB_STAT.LOST_I [6:6], W1C: R184 -/
def OUTLET_FB_STAT_LOST_I : Field := fld 0x0A 0x0AC 6 6 .w1c 0
/-- Table 8.6, OUTLET.FB_STAT.FROZEN_V [5:5], W1C: R185 -/
def OUTLET_FB_STAT_FROZEN_V : Field := fld 0x0A 0x0AC 5 5 .w1c 0
/-- Table 8.6, OUTLET.FB_STAT.FROZEN_I [4:4], W1C: R185 -/
def OUTLET_FB_STAT_FROZEN_I : Field := fld 0x0A 0x0AC 4 4 .w1c 0
/-- Table 8.6, OUTLET.FB_STAT.MISMATCH_V [3:3], W1C: R185 -/
def OUTLET_FB_STAT_MISMATCH_V : Field := fld 0x0A 0x0AC 3 3 .w1c 0
/-- Table 8.6, OUTLET.FB_STAT.MISMATCH_I [2:2], W1C: R185 -/
def OUTLET_FB_STAT_MISMATCH_I : Field := fld 0x0A 0x0AC 2 2 .w1c 0
/-- Table 8.6, OUTLET.FB_STAT.HOLD [1:1], RO: R187 step 1 -/
def OUTLET_FB_STAT_HOLD : Field := fld 0x0A 0x0AC 1 1 .ro 0
/-- Table 8.6, OUTLET.FB_STAT.RAMPING [0:0], RO: R187 step 2 -/
def OUTLET_FB_STAT_RAMPING : Field := fld 0x0A 0x0AC 0 0 .ro 0

/-! ### GROUP page (0x0E), 07_phase_control.md -/

/-- GROUP page text, GROUP.CTRL.FAULT_CLR [0:0], WO: R152 -/
def GROUP_CTRL_FAULT_CLR : Field := fld 0x0E 0x008 0 0 .wo 0
/-- GROUP page text, GROUP.STATUS.LOST [29:24], RO: one bit per phase k -/
def GROUP_STATUS_LOST : Field := fld 0x0E 0x00C 29 24 .ro 0
/-- GROUP page text, GROUP.STATUS.ENABLED [21:16], RO: one bit per phase k -/
def GROUP_STATUS_ENABLED : Field := fld 0x0E 0x00C 21 16 .ro 0
/-- GROUP page text, GROUP.STATUS.STAGE [11:8], RO: Table 7.4 -/
def GROUP_STATUS_STAGE : Field := fld 0x0E 0x00C 11 8 .ro 0
/-- GROUP page text, GROUP.STATUS.FAULT [3:3], RO:  -/
def GROUP_STATUS_FAULT : Field := fld 0x0E 0x00C 3 3 .ro 0
/-- GROUP page text, GROUP.STATUS.MAX_ON_ALL [2:2], RO: episode of R153 -/
def GROUP_STATUS_MAX_ON_ALL : Field := fld 0x0E 0x00C 2 2 .ro 0
/-- GROUP page text, GROUP.STATUS.DIRECTION [1:1], RO: 0 import, 1 export -/
def GROUP_STATUS_DIRECTION : Field := fld 0x0E 0x00C 1 1 .ro 0
/-- GROUP page text, GROUP.STATUS.SWITCHING [0:0], RO:  -/
def GROUP_STATUS_SWITCHING : Field := fld 0x0E 0x00C 0 0 .ro 0
/-- Table 7.10, GROUP.CFG.OFFSET [25:16], RW: units of T/720; 0–719; used when SPREAD = 0 -/
def GROUP_CFG_OFFSET : Field := { fld 0x0E 0x040 25 16 .rw 0 with instStep := 10 }
/-- Table 7.10, GROUP.CFG.VSNS_CH [13:8], RW: sensor ADC channel of the group voltage, 0–47 -/
def GROUP_CFG_VSNS_CH : Field := fld 0x0E 0x040 13 8 .rw 0
/-- Table 7.10, GROUP.CFG.ALLOWED [3:0], RW: populated matrix contactors, bit o for outlet o -/
def GROUP_CFG_ALLOWED : Field := fld 0x0E 0x040 3 0 .rw 0xf
/-- Table 7.10, GROUP.ROUTE.OUTLET [7:0], RWT: committed routing (R145) -/
def GROUP_ROUTE_OUTLET : Field := fld 0x0E 0x044 7 0 .rwt 0xff
/-- Table 7.10, GROUP.CAP_W.W [31:0], RO: R142 -/
def GROUP_CAP_W_W : Field := fld 0x0E 0x048 31 0 .ro 0
/-- Table 7.10, GROUP.SHARE_MA.MA [31:0], RO: group share of the outlet reference, signed -/
def GROUP_SHARE_MA_MA : Field := fld 0x0E 0x04C 31 0 .ro 0
/-- Table 7.10, GROUP.PH_REF.DAC [25:16], RO: last start code -/
def GROUP_PH_REF_DAC : Field := fldN 0x0E 0x050 25 16 .ro 0 0x4 6
/-- Table 7.10, GROUP.PH_REF.ON_TICKS [15:0], RO: last on-time, 2.5 ns units -/
def GROUP_PH_REF_ON_TICKS : Field := fldN 0x0E 0x050 15 0 .ro 0 0x4 6
/-- Table 7.10, GROUP.LOST_COUNT.COUNT [31:0], RO: phases of the group lost since reset -/
def GROUP_LOST_COUNT_COUNT : Field := fld 0x0E 0x068 31 0 .ro 0
/-- Table 7.10, GROUP.TRAVEL.OPEN_MS [31:16], RO: last measured opening travel -/
def GROUP_TRAVEL_OPEN_MS : Field := fld 0x0E 0x06C 31 16 .ro 0
/-- Table 7.10, GROUP.TRAVEL.CLOSE_MS [15:0], RO: last measured closing travel -/
def GROUP_TRAVEL_CLOSE_MS : Field := fld 0x0E 0x06C 15 0 .ro 0
/-- Table 7.10, GROUP.VOUT.MV [31:0], RO: group output voltage, signed -/
def GROUP_VOUT_MV : Field := fld 0x0E 0x070 31 0 .ro 0

/-! ### PHASE page (0x1A), 07_phase_control.md -/

/-- Table 7.9, PHASE.PERIOD.FT [19:0], RW: period, 78.125 ps units; 51,200–640,000 (R134) -/
def PHASE_PERIOD_FT : Field := fld 0x1A 0x040 19 0 .rw 0x4e200
/-- Table 7.9, PHASE.DEADTIME.DT_LH [27:16], RW: primary switch off to other switch on, 78.125 ps units (150 ns) -/
def PHASE_DEADTIME_DT_LH : Field := fld 0x1A 0x044 27 16 .rw 0x780
/-- Table 7.9, PHASE.DEADTIME.DT_HL [11:0], RW: as DT_LH, other edge -/
def PHASE_DEADTIME_DT_HL : Field := fld 0x1A 0x044 11 0 .rw 0x780
/-- Table 7.9, PHASE.BLANK_MAXON.BLANK [23:16], RW: 2.5 ns units; 16–160 -/
def PHASE_BLANK_MAXON_BLANK : Field := fld 0x1A 0x048 23 16 .rw 0x50
/-- Table 7.9, PHASE.BLANK_MAXON.MAX_ON [15:0], RW: fraction of the period, 2^−16; 0x1000–0xF800 -/
def PHASE_BLANK_MAXON_MAX_ON : Field := fld 0x1A 0x048 15 0 .rw 0xe000
/-- Table 7.9, PHASE.SLOPE.SLOPE [15:0], RW: 2^−16 DAC codes per tick (R137) -/
def PHASE_SLOPE_SLOPE : Field := fld 0x1A 0x04C 15 0 .rw 0
/-- Table 7.9, PHASE.CFG.SKIP_A [31:16], RW: R139 -/
def PHASE_CFG_SKIP_A : Field := fld 0x1A 0x050 31 16 .rw 0
/-- Table 7.9, PHASE.CFG.MIN_PHASES [7:4], RW: R142; 1–6 -/
def PHASE_CFG_MIN_PHASES : Field := fld 0x1A 0x050 7 4 .rw 3
/-- Table 7.9, PHASE.CFG.SPREAD [1:1], RW: R140 -/
def PHASE_CFG_SPREAD : Field := fld 0x1A 0x050 1 1 .rw 1
/-- Table 7.9, PHASE.MATRIX.CLOSE_MS [31:16], RW: matrix closing travel limit -/
def PHASE_MATRIX_CLOSE_MS : Field := fld 0x1A 0x054 31 16 .rw 0x1e
/-- Table 7.9, PHASE.MATRIX.OPEN_MS [15:0], RW: matrix opening travel limit -/
def PHASE_MATRIX_OPEN_MS : Field := fld 0x1A 0x054 15 0 .rw 0x1e
/-- Table 7.9, PHASE.MATCH.MATCH_MV [31:16], RW: voltage window (10,000 mV) -/
def PHASE_MATCH_MATCH_MV : Field := fld 0x1A 0x058 31 16 .rw 0x2710
/-- Table 7.9, PHASE.MATCH.MATCH_A [15:8], RW: per-phase share while matching, A -/
def PHASE_MATCH_MATCH_A : Field := fld 0x1A 0x058 15 8 .rw 0xa
/-- Table 7.9, PHASE.MATCH.MATCH_MS [7:0], RW: matching limit, ms -/
def PHASE_MATCH_MATCH_MS : Field := fld 0x1A 0x058 7 0 .rw 0x32
/-- Table 7.9, PHASE.SENSE_WIN.WIN_A [31:16], RW: R154, A -/
def PHASE_SENSE_WIN_WIN_A : Field := fld 0x1A 0x05C 31 16 .rw 0x32
/-- Table 7.9, PHASE.SENSE_WIN.WIN_PCT [15:8], RW: R154, % -/
def PHASE_SENSE_WIN_WIN_PCT : Field := fld 0x1A 0x05C 15 8 .rw 2
/-- Table 7.9, PHASE.SENSE_WIN.ONTIME_DEV_PCT [7:0], RW: R154, % -/
def PHASE_SENSE_WIN_ONTIME_DEV_PCT : Field := fld 0x1A 0x05C 7 0 .rw 0x19
/-- Table 7.9, PHASE.ZERO.ZERO_WAIT_US [31:16], RW: R147 -/
def PHASE_ZERO_ZERO_WAIT_US : Field := fld 0x1A 0x060 31 16 .rw 0x64
/-- Table 7.9, PHASE.ZERO.ZERO_A [15:0], RW: zero window, A -/
def PHASE_ZERO_ZERO_A : Field := fld 0x1A 0x060 15 0 .rw 5
/-- Table 7.9, PHASE.LEAVE.LEAVE_MS [15:0], RW: R147 -/
def PHASE_LEAVE_LEAVE_MS : Field := fld 0x1A 0x064 15 0 .rw 0x1f4
/-- Table 7.9, PHASE.OV_CFG.TRIP [25:16], RW: 1.5625 mV per code -/
def PHASE_OV_CFG_TRIP : Field := fldN 0x1A 0x080 25 16 .rw 0x3ff 0x10 4
/-- Table 7.9, PHASE.OV_CFG.RELEASE [9:0], RW: below TRIP (R150) -/
def PHASE_OV_CFG_RELEASE : Field := fldN 0x1A 0x080 9 0 .rw 0x3c0 0x10 4
/-- Table 7.9, PHASE.OV_HOLD.RELEASE_TICKS [15:0], RW: 2.5 ns units (1 µs) -/
def PHASE_OV_HOLD_RELEASE_TICKS : Field := fldN 0x1A 0x084 15 0 .rw 0x190 0x10 4
/-- Table 7.9, PHASE.OV_STAT.COUNT [31:16], RC: truncations since last read, saturating -/
def PHASE_OV_STAT_COUNT : Field := fldN 0x1A 0x088 31 16 .rc 0 0x10 4
/-- Table 7.9, PHASE.OV_STAT.ACTIVE [0:0], RO: truncation in force -/
def PHASE_OV_STAT_ACTIVE : Field := fldN 0x1A 0x088 0 0 .ro 0 0x10 4
/-- Table 7.9, PHASE.SENSE_STAT.MISMATCH [3:0], RO: per outlet; set during an episode of R154 with no phase found -/
def PHASE_SENSE_STAT_MISMATCH : Field := fld 0x1A 0x0C0 3 0 .ro 0
/-- Table 7.9, PHASE.IMPLIED_MA0.MA [31:0], RO: implied current sum of outlet 0, last block, signed; outlets 1–3 at 0x0C8–0x0D0 -/
def PHASE_IMPLIED_MA0_MA : Field := fldN 0x1A 0x0C4 31 0 .ro 0 0x4 4

/-! ### LOOP page (0x1B), 08_outlet_loops.md -/

/-- Table 8.7, LOOP.SWAP.REQ [15:0], RW: bit s: swap banks of fast slot s (R168) -/
def LOOP_SWAP_REQ : Field := fld 0x1B 0x040 15 0 .rw 0
/-- Table 8.7, LOOP.BANK.ACTIVE [15:0], RO: bit s: 1 = bank B active -/
def LOOP_BANK_ACTIVE : Field := fld 0x1B 0x044 15 0 .ro 0
/-- Table 8.7, LOOP.RUN_LO.CLOSED [31:0], RO: bit s: slot s CLOSED, slots 0–31 -/
def LOOP_RUN_LO_CLOSED : Field := fld 0x1B 0x048 31 0 .ro 0
/-- Table 8.7, LOOP.RUN_HI.CLOSED [31:0], RO: slots 32–63 -/
def LOOP_RUN_HI_CLOSED : Field := fld 0x1B 0x04C 31 0 .ro 0
/-- Table 8.7, LOOP.LOAD.PEAK [31:16], RO: highest occupancy of any lane in any 10 µs, 0.01 % -/
def LOOP_LOAD_PEAK : Field := fld 0x1B 0x050 31 16 .ro 0
/-- Table 8.7, LOOP.LOAD.MEAN [15:0], RO: mean occupancy of the busiest lane over 10 ms, 0.01 % -/
def LOOP_LOAD_MEAN : Field := fld 0x1B 0x050 15 0 .ro 0
/-- Table 8.7, LOOP.MISSED.COUNT [31:0], RC: dropped samples (R173) -/
def LOOP_MISSED_COUNT : Field := fld 0x1B 0x054 31 0 .rc 0
/-- Table 8.7, LOOP.DEADLINE.LAST_SLOT [13:8], RO: slot of the last dropped sample -/
def LOOP_DEADLINE_LAST_SLOT : Field := fld 0x1B 0x058 13 8 .ro 0
/-- Table 8.7, LOOP.DEADLINE.FAST_LIMIT [7:0], RW: 1–255 -/
def LOOP_DEADLINE_FAST_LIMIT : Field := fld 0x1B 0x058 7 0 .rw 3

/-! ### COOL page (0x1C), 09_cable_cooling.md -/

/-- COOL page text, COOL.STATUS.DEGRADED [19:16], RO: one bit per outlet -/
def COOL_STATUS_DEGRADED : Field := fld 0x1C 0x00C 19 16 .ro 0
/-- COOL page text, COOL.STATUS.RUNNING [3:0], RO: one bit per outlet -/
def COOL_STATUS_RUNNING : Field := fld 0x1C 0x00C 3 0 .ro 0
/-- Table 9.4, COOL.SHARED.VALVE_CH [31:24], RW: chiller valve channel, 0–31; 0xFF none -/
def COOL_SHARED_VALVE_CH : Field := fld 0x1C 0x040 31 24 .rw 0xff
/-- Table 9.4, COOL.SHARED.FAN_CH [23:16], RW: fan channel -/
def COOL_SHARED_FAN_CH : Field := fld 0x1C 0x040 23 16 .rw 0xff
/-- Table 9.4, COOL.SHARED.MEMBERS [3:0], RW: outlets combined (R206) -/
def COOL_SHARED_MEMBERS : Field := fld 0x1C 0x040 3 0 .rw 0
/-- Table 9.4, COOL.SHARED_OUT.VALVE [31:16], RO: duty, 0.01 % -/
def COOL_SHARED_OUT_VALVE : Field := fld 0x1C 0x044 31 16 .ro 0
/-- Table 9.4, COOL.SHARED_OUT.FAN [15:0], RO: duty, 0.01 % -/
def COOL_SHARED_OUT_FAN : Field := fld 0x1C 0x044 15 0 .ro 0
/-- Table 9.4, COOL.PLAUS.RESID_K [31:24], RW: K (R208) -/
def COOL_PLAUS_RESID_K : Field := fld 0x1C 0x048 31 24 .rw 0xa
/-- Table 9.4, COOL.PLAUS.RESID_S [23:16], RW: s -/
def COOL_PLAUS_RESID_S : Field := fld 0x1C 0x048 23 16 .rw 5
/-- Table 9.4, COOL.PLAUS.ORDER_K [15:8], RW: 0.1 K -/
def COOL_PLAUS_ORDER_K : Field := fld 0x1C 0x048 15 8 .rw 0x14
/-- Table 9.4, COOL.PLAUS.ORDER_S [7:0], RW: s -/
def COOL_PLAUS_ORDER_S : Field := fld 0x1C 0x048 7 0 .rw 0xa
/-- Table 9.4, COOL.PRESS_LIM.PRESS_LOW [15:0], RW: kPa (R208) -/
def COOL_PRESS_LIM_PRESS_LOW : Field := fld 0x1C 0x04C 15 0 .rw 0x32
/-- Table 9.4, COOL.PENALTY.PENALTY_K [15:0], RW: 0.1 K (R209) -/
def COOL_PENALTY_PENALTY_K : Field := fld 0x1C 0x050 15 0 .rw 0x64
/-- Table 9.4, COOL.OCFG.EN [31:31], RW: observer on (R199) -/
def COOL_OCFG_EN : Field := fldN 0x1C 0x080 31 31 .rw 0 0x40 4
/-- Table 9.4, COOL.OCFG.PIN_POS_CH [29:24], RW: channel; 0x3F none -/
def COOL_OCFG_PIN_POS_CH : Field := fldN 0x1C 0x080 29 24 .rw 0x3f 0x40 4
/-- Table 9.4, COOL.OCFG.PIN_NEG_CH [21:16], RW:  -/
def COOL_OCFG_PIN_NEG_CH : Field := fldN 0x1C 0x080 21 16 .rw 0x3f 0x40 4
/-- Table 9.4, COOL.OCFG.T_IN_CH [13:8], RW:  -/
def COOL_OCFG_T_IN_CH : Field := fldN 0x1C 0x080 13 8 .rw 0x3f 0x40 4
/-- Table 9.4, COOL.OCFG.T_OUT_CH [5:0], RW:  -/
def COOL_OCFG_T_OUT_CH : Field := fldN 0x1C 0x080 5 0 .rw 0x3f 0x40 4
/-- Table 9.4, COOL.OCH.FLOW_CH [13:8], RW:  -/
def COOL_OCH_FLOW_CH : Field := fldN 0x1C 0x084 13 8 .rw 0x3f 0x40 4
/-- Table 9.4, COOL.OCH.PRESS_CH [5:0], RW:  -/
def COOL_OCH_PRESS_CH : Field := fldN 0x1C 0x084 5 0 .rw 0x3f 0x40 4
/-- Table 9.4, COOL.R_PIN.NOHM [31:0], RW: per pin at 20 °C, nΩ -/
def COOL_R_PIN_NOHM : Field := fldN 0x1C 0x088 31 0 .rw 0 0x40 4
/-- Table 9.4, COOL.R_CORE.NOHM [31:0], RW: per conductor at 20 °C, nΩ -/
def COOL_R_CORE_NOHM : Field := fldN 0x1C 0x08C 31 0 .rw 0 0x40 4
/-- Table 9.4, COOL.C_PIN.J_PER_K [31:0], RW: binary32 -/
def COOL_C_PIN_J_PER_K : Field := fldN 0x1C 0x090 31 0 .rw 0 0x40 4
/-- Table 9.4, COOL.C_CORE.J_PER_K [31:0], RW: binary32 -/
def COOL_C_CORE_J_PER_K : Field := fldN 0x1C 0x094 31 0 .rw 0 0x40 4
/-- Table 9.4, COOL.C_COOL.J_PER_K [31:0], RW: binary32 -/
def COOL_C_COOL_J_PER_K : Field := fldN 0x1C 0x098 31 0 .rw 0 0x40 4
/-- Table 9.4, COOL.G_PC.W_PER_K [31:0], RW: binary32, pin to core -/
def COOL_G_PC_W_PER_K : Field := fldN 0x1C 0x09C 31 0 .rw 0 0x40 4
/-- Table 9.4, COOL.G_PW.W_PER_K [31:0], RW: binary32, pin to coolant -/
def COOL_G_PW_W_PER_K : Field := fldN 0x1C 0x0A0 31 0 .rw 0 0x40 4
/-- Table 9.4, COOL.G_CW.W_PER_K [31:0], RW: binary32, core to coolant -/
def COOL_G_CW_W_PER_K : Field := fldN 0x1C 0x0A4 31 0 .rw 0 0x40 4
/-- Table 9.4, COOL.CP_VOL.J_PER_LK [31:0], RW: binary32, 3,500 -/
def COOL_CP_VOL_J_PER_LK : Field := fldN 0x1C 0x0A8 31 0 .rw 0x455ac000 0x40 4
/-- Table 9.4, COOL.LIMITS.PIN_MAX [31:16], RW: 0.1 °C (90.0) -/
def COOL_LIMITS_PIN_MAX : Field := fldN 0x1C 0x0AC 31 16 .rw 0x384 0x40 4
/-- Table 9.4, COOL.LIMITS.CORE_MAX [15:0], RW: 0.1 °C -/
def COOL_LIMITS_CORE_MAX : Field := fldN 0x1C 0x0AC 15 0 .rw 0x384 0x40 4
/-- Table 9.4, COOL.DERATE.MARGIN [31:16], RW: 0.1 K (5.0) -/
def COOL_DERATE_MARGIN : Field := fldN 0x1C 0x0B0 31 16 .rw 0x32 0x40 4
/-- Table 9.4, COOL.DERATE.K_PIN [15:8], RW: /256 -/
def COOL_DERATE_K_PIN : Field := fldN 0x1C 0x0B0 15 8 .rw 8 0x40 4
/-- Table 9.4, COOL.DERATE.K_COOL [7:0], RW: /256 -/
def COOL_DERATE_K_COOL : Field := fldN 0x1C 0x0B0 7 0 .rw 8 0x40 4
/-- Table 9.4, COOL.FLOW.FLOW_MAX [31:16], RW: 0.01 L/min (40.00) -/
def COOL_FLOW_FLOW_MAX : Field := fldN 0x1C 0x0B4 31 16 .rw 0xfa0 0x40 4
/-- Table 9.4, COOL.FLOW.FLOW_MIN [15:0], RW: 0.01 L/min (5.00) -/
def COOL_FLOW_FLOW_MIN : Field := fldN 0x1C 0x0B4 15 0 .rw 0x1f4 0x40 4
/-- Table 9.4, COOL.FALLBACK.T_IN_FB [31:16], RW: 0.1 °C (50.0) -/
def COOL_FALLBACK_T_IN_FB : Field := fldN 0x1C 0x0B8 31 16 .rw 0x1f4 0x40 4
/-- Table 9.4, COOL.FALLBACK.FLOW_FB [15:0], RW: 0.01 L/min -/
def COOL_FALLBACK_FLOW_FB : Field := fldN 0x1C 0x0B8 15 0 .rw 0 0x40 4
/-- Table 9.4, COOL.COOLING.DT_RISE [31:16], RW: 0.1 K (5.0) -/
def COOL_COOLING_DT_RISE : Field := fldN 0x1C 0x0BC 31 16 .rw 0x32 0x40 4
/-- Table 9.4, COOL.COOLING.BOOST_K [15:8], RW: K -/
def COOL_COOLING_BOOST_K : Field := fldN 0x1C 0x0BC 15 8 .rw 2 0x40 4
/-- Table 9.4, COOL.PRED.C [31:0], RO: PV of R203, binary32 °C -/
def COOL_PRED_C : Field := fldN 0x1C 0x180 31 0 .ro 0 0x20 4
/-- Table 9.4, COOL.HOT.C [31:0], RO: hottest model node now, binary32 °C -/
def COOL_HOT_C : Field := fldN 0x1C 0x184 31 0 .ro 0 0x20 4
/-- Table 9.4, COOL.CEIL_W.W [31:0], RO: R203 -/
def COOL_CEIL_W_W : Field := fldN 0x1C 0x188 31 0 .ro 0 0x20 4
/-- Table 9.4, COOL.ISET.MA [31:0], RO: I_SET -/
def COOL_ISET_MA : Field := fldN 0x1C 0x18C 31 0 .ro 0 0x20 4
/-- Table 9.4, COOL.DEMAND.LPM [31:0], RO: binary32 L/min (R205) -/
def COOL_DEMAND_LPM : Field := fldN 0x1C 0x190 31 0 .ro 0 0x20 4
/-- Table 9.4, COOL.Q_W.W [31:0], RO: heat Q -/
def COOL_Q_W_W : Field := fldN 0x1C 0x194 31 0 .ro 0 0x20 4
/-- Table 9.4, COOL.TCOOL.C [31:0], RO: mean coolant node, binary32 °C -/
def COOL_TCOOL_C : Field := fldN 0x1C 0x198 31 0 .ro 0 0x20 4
/-- Table 9.4, COOL.OSTAT.ORDER [9:9], W1C: coolant order implausible (R208) -/
def COOL_OSTAT_ORDER : Field := fldN 0x1C 0x19C 9 9 .w1c 0 0x20 4
/-- Table 9.4, COOL.OSTAT.INNOV_NEG [8:8], W1C: negative pin implausible -/
def COOL_OSTAT_INNOV_NEG : Field := fldN 0x1C 0x19C 8 8 .w1c 0 0x20 4
/-- Table 9.4, COOL.OSTAT.INNOV_POS [7:7], W1C: positive pin implausible -/
def COOL_OSTAT_INNOV_POS : Field := fldN 0x1C 0x19C 7 7 .w1c 0 0x20 4
/-- Table 9.4, COOL.OSTAT.BAD [6:1], RO: failed roles: [6] pin+, [5] pin−, [4] inlet, [3] outlet, [2] flow, [1] pressure -/
def COOL_OSTAT_BAD : Field := fldN 0x1C 0x19C 6 1 .ro 0 0x20 4
/-- Table 9.4, COOL.OSTAT.BINDING [0:0], RO: R204 -/
def COOL_OSTAT_BINDING : Field := fldN 0x1C 0x19C 0 0 .ro 0 0x20 4

/-! ### LINK page (0x1D), 10_outlet_link.md -/

/-- LINK page text, LINK.CTRL.RESTART [1:1], WO: R227 -/
def LINK_CTRL_RESTART : Field := fld 0x1D 0x008 1 1 .wo 0
/-- LINK page text, LINK.CTRL.UNLATCH [0:0], WO: R221 -/
def LINK_CTRL_UNLATCH : Field := fld 0x1D 0x008 0 0 .wo 0
/-- LINK page text, LINK.STATUS.LEVEL_A [27:24], RO: accepted level of A -/
def LINK_STATUS_LEVEL_A : Field := fld 0x1D 0x00C 27 24 .ro 0
/-- LINK page text, LINK.STATUS.LEVEL_B [23:20], RO: accepted level of B -/
def LINK_STATUS_LEVEL_B : Field := fld 0x1D 0x00C 23 20 .ro 0
/-- LINK page text, LINK.STATUS.COMBINED [18:16], RO: 0 NONE 1 CONN 2 EN 3 RELEASE 4 FAULT -/
def LINK_STATUS_COMBINED : Field := fld 0x1D 0x00C 18 16 .ro 0
/-- LINK page text, LINK.STATUS.LSTATE [11:8], RO: 0 DOWN 1 STARTING 2 KEYING 3 SLAC 4 READY 5 LOST 6 FAILED -/
def LINK_STATUS_LSTATE : Field := fld 0x1D 0x00C 11 8 .ro 0
/-- LINK page text, LINK.STATUS.SELECTED [5:5], RO: transmitters enabled -/
def LINK_STATUS_SELECTED : Field := fld 0x1D 0x00C 5 5 .ro 0
/-- LINK page text, LINK.STATUS.LATCH_FB [4:4], RO:  -/
def LINK_STATUS_LATCH_FB : Field := fld 0x1D 0x00C 4 4 .ro 0
/-- LINK page text, LINK.STATUS.LATCH_CMD [3:3], RO:  -/
def LINK_STATUS_LATCH_CMD : Field := fld 0x1D 0x00C 3 3 .ro 0
/-- LINK page text, LINK.STATUS.PWM_ON [2:2], RO:  -/
def LINK_STATUS_PWM_ON : Field := fld 0x1D 0x00C 2 2 .ro 0
/-- LINK page text, LINK.STATUS.PILOT_ACTIVE [1:1], RO:  -/
def LINK_STATUS_PILOT_ACTIVE : Field := fld 0x1D 0x00C 1 1 .ro 0
/-- Table 10.9, LINK.CFG.GAP_MS [31:24], RW: R218 -/
def LINK_CFG_GAP_MS : Field := fld 0x1D 0x040 31 24 .rw 0x32
/-- Table 10.9, LINK.CFG.DEBOUNCE_MS [23:16], RW: R218; 1–255 -/
def LINK_CFG_DEBOUNCE_MS : Field := fld 0x1D 0x040 23 16 .rw 5
/-- Table 10.9, LINK.CFG.ALLOW_D [12:12], RW: Table 10.3 -/
def LINK_CFG_ALLOW_D : Field := fld 0x1D 0x040 12 12 .rw 0
/-- Table 10.9, LINK.CFG.T1S_MODE [11:10], RW: R223 -/
def LINK_CFG_T1S_MODE : Field := fld 0x1D 0x040 11 10 .rw 0
/-- Table 10.9, LINK.CFG.PILOT_MODE [9:8], RW: R222 -/
def LINK_CFG_PILOT_MODE : Field := fld 0x1D 0x040 9 8 .rw 0
/-- Table 10.9, LINK.CFG.KIND [1:0], RW: R215 -/
def LINK_CFG_KIND : Field := fld 0x1D 0x040 1 0 .rw 0
/-- Table 10.9, LINK.LATCH.CH [31:24], RW: load-switch channel, 0–31 -/
def LINK_LATCH_CH : Field := fld 0x1D 0x044 31 24 .rw 0xff
/-- Table 10.9, LINK.LATCH.LOCK_DLY_MS [23:16], RW: R221 -/
def LINK_LATCH_LOCK_DLY_MS : Field := fld 0x1D 0x044 23 16 .rw 2
/-- Table 10.9, LINK.LATCH.FB_CH [13:8], RW: feedback channel; 0x3F none -/
def LINK_LATCH_FB_CH : Field := fld 0x1D 0x044 13 8 .rw 0x3f
/-- Table 10.9, LINK.LATCH.AUTO_S [7:0], RW: R221; 0 off -/
def LINK_LATCH_AUTO_S : Field := fld 0x1D 0x044 7 0 .rw 0
/-- Table 10.9, LINK.MAC_LO.MAC [31:0], RW: link MAC [31:0] -/
def LINK_MAC_LO_MAC : Field := fld 0x1D 0x048 31 0 .rw 0
/-- Table 10.9, LINK.MAC_HI.MAC [15:0], RW: link MAC [47:32] -/
def LINK_MAC_HI_MAC : Field := fld 0x1D 0x04C 15 0 .rw 0
/-- Table 10.9, LINK.PLCA.NODE_CNT [31:24], RW: coordinator -/
def LINK_PLCA_NODE_CNT : Field := fld 0x1D 0x050 31 24 .rw 8
/-- Table 10.9, LINK.PLCA.NODE_ID [23:16], RW: follower, 1–254 -/
def LINK_PLCA_NODE_ID : Field := fld 0x1D 0x050 23 16 .rw 1
/-- Table 10.9, LINK.PLCA.TO_TMR [15:8], RW: bit times -/
def LINK_PLCA_TO_TMR : Field := fld 0x1D 0x050 15 8 .rw 0x20
/-- Table 10.9, LINK.PLCA.BURST_CNT [7:0], RW: 0 = no bursts -/
def LINK_PLCA_BURST_CNT : Field := fld 0x1D 0x050 7 0 .rw 0
/-- Table 10.9, LINK.TIMING.START_DLY_MS [31:16], RW: 120 ms -/
def LINK_TIMING_START_DLY_MS : Field := fld 0x1D 0x054 31 16 .rw 0x78
/-- Table 10.9, LINK.TIMING.BURST_TMR [15:8], RW: bit times -/
def LINK_TIMING_BURST_TMR : Field := fld 0x1D 0x054 15 8 .rw 0x80
/-- Table 10.9, LINK.TIMING.LOSS_MS [7:0], RW: R223 -/
def LINK_TIMING_LOSS_MS : Field := fld 0x1D 0x054 7 0 .rw 0xa
/-- Table 10.9, LINK.CP_PWM.PERIOD_US [31:16], RW: 1,000; a divisor of 1,000,000 from 500 to 2,000 (R222) -/
def LINK_CP_PWM_PERIOD_US : Field := fld 0x1D 0x058 31 16 .rw 0x3e8
/-- Table 10.9, LINK.CP_PWM.DUTY [9:0], RW: 0.1 % units (5.0 %); 1–1,000 -/
def LINK_CP_PWM_DUTY : Field := fld 0x1D 0x058 9 0 .rw 0x32
/-- Table 10.9, LINK.CP_SAMP.LOW_MAX [31:16], RW: signed mV (R218) -/
def LINK_CP_SAMP_LOW_MAX : Field := fld 0x1D 0x05C 31 16 .rw 0xd6fc
/-- Table 10.9, LINK.CP_SAMP.DLY_US [15:8], RW: 15 µs; 5–40 -/
def LINK_CP_SAMP_DLY_US : Field := fld 0x1D 0x05C 15 8 .rw 0xf
/-- Table 10.9, LINK.SLAC_CFG.MATCH_TO_MS [31:16], RW: 10,000 ms -/
def LINK_SLAC_CFG_MATCH_TO_MS : Field := fld 0x1D 0x060 31 16 .rw 0x2710
/-- Table 10.9, LINK.SLAC_CFG.SOUNDS [15:8], RW: 1–30 -/
def LINK_SLAC_CFG_SOUNDS : Field := fld 0x1D 0x060 15 8 .rw 0xa
/-- Table 10.9, LINK.SLAC_CFG.SOUND_TO_10MS [7:0], RW: 600 ms -/
def LINK_SLAC_CFG_SOUND_TO_10MS : Field := fld 0x1D 0x060 7 0 .rw 0x3c
/-- Table 10.9, LINK.SLAC_RETRY.RETRY [7:0], RW: R227 -/
def LINK_SLAC_RETRY_RETRY : Field := fld 0x1D 0x064 7 0 .rw 2
/-- Table 10.9, LINK.SLAC_STAT.ATTEN_DB [31:24], RO: R226 -/
def LINK_SLAC_STAT_ATTEN_DB : Field := fld 0x1D 0x068 31 24 .ro 0
/-- Table 10.9, LINK.SLAC_STAT.SOUNDS_RX [23:16], RO: profiles received -/
def LINK_SLAC_STAT_SOUNDS_RX : Field := fld 0x1D 0x068 23 16 .ro 0
/-- Table 10.9, LINK.SLAC_STAT.RETRIES [15:8], RO: R227 -/
def LINK_SLAC_STAT_RETRIES : Field := fld 0x1D 0x068 15 8 .ro 0
/-- Table 10.9, LINK.SLAC_STAT.STEP [7:0], RO: Table 10.6; 0 idle -/
def LINK_SLAC_STAT_STEP : Field := fld 0x1D 0x068 7 0 .ro 0
/-- Table 10.9, LINK.NID_LO.NID [31:0], RO: NID [31:0] -/
def LINK_NID_LO_NID : Field := fld 0x1D 0x06C 31 0 .ro 0
/-- Table 10.9, LINK.NID_HI.NID [21:0], RO: NID [53:32] -/
def LINK_NID_HI_NID : Field := fld 0x1D 0x070 21 0 .ro 0
/-- Table 10.9, LINK.STATS.LOST [31:16], RC: transitions to LOST -/
def LINK_STATS_LOST : Field := fld 0x1D 0x074 31 16 .rc 0
/-- Table 10.9, LINK.STATS.DROPPED [15:0], RC: R224 -/
def LINK_STATS_DROPPED : Field := fld 0x1D 0x074 15 0 .rc 0
/-- Table 10.9, LINK.MEAS_A.LOW [31:16], RO: CP low plateau, signed mV; 0 for MCS -/
def LINK_MEAS_A_LOW : Field := fld 0x1D 0x078 31 16 .ro 0
/-- Table 10.9, LINK.MEAS_A.HIGH [15:0], RO: CE, or CP high plateau, signed mV -/
def LINK_MEAS_A_HIGH : Field := fld 0x1D 0x078 15 0 .ro 0
/-- Table 10.9, LINK.MEAS_B.MV [15:0], RO: ID or PP, signed mV -/
def LINK_MEAS_B_MV : Field := fld 0x1D 0x07C 15 0 .ro 0
/-- Table 10.9, LINK.WIN_A.HI [31:16], RW: window i of signal A, i = 0–5, at 0x080 + 4i; signed mV; none at reset, Table 10.2 loaded by R215 -/
def LINK_WIN_A_HI : Field := fldN 0x1D 0x080 31 16 .rw 0x8000 0x4 6
/-- Table 10.9, LINK.WIN_A.LO [15:0], RW:  -/
def LINK_WIN_A_LO : Field := fldN 0x1D 0x080 15 0 .rw 0x7fff 0x4 6
/-- Table 10.9, LINK.WIN_B.HI [31:16], RW: window i of signal B, i = 0–3, at 0x0A0 + 4i; none at reset, Table 10.2 loaded by R215 -/
def LINK_WIN_B_HI : Field := fldN 0x1D 0x0A0 31 16 .rw 0x8000 0x4 4
/-- Table 10.9, LINK.WIN_B.LO [15:0], RW:  -/
def LINK_WIN_B_LO : Field := fldN 0x1D 0x0A0 15 0 .rw 0x7fff 0x4 4
/-- Table 10.9, LINK.LAST_UP.MS [31:0], RO: plug-in to READY of the last bring-up -/
def LINK_LAST_UP_MS : Field := fld 0x1D 0x0B0 31 0 .ro 0

/-! ### VDE page (0x21), 11_dialogue_engine.md -/

/-- VDE page text, VDE.CTRL.EXI_LOAD [0:0], RW: R247 -/
def VDE_CTRL_EXI_LOAD : Field := fld 0x21 0x008 0 0 .rw 0
/-- VDE page text, VDE.STATUS.ACTIVE [11:8], RO: one bit per context -/
def VDE_STATUS_ACTIVE : Field := fld 0x21 0x00C 11 8 .ro 0
/-- VDE page text, VDE.STATUS.EXI_LOADING [1:1], RO:  -/
def VDE_STATUS_EXI_LOADING : Field := fld 0x21 0x00C 1 1 .ro 0
/-- VDE page text, VDE.STATUS.EXI_VALID [0:0], RO:  -/
def VDE_STATUS_EXI_VALID : Field := fld 0x21 0x00C 0 0 .ro 0
/-- Table 11.13, VDE.PROTO.PREF_EV [8:8], RW: R248 -/
def VDE_PROTO_PREF_EV : Field := fld 0x21 0x040 8 8 .rw 0
/-- Table 11.13, VDE.PROTO.ISO2_SEC [5:4], RW: 0b00 vehicle's choice, 0b01 TLS only, 0b10 TCP only -/
def VDE_PROTO_ISO2_SEC : Field := fld 0x21 0x040 5 4 .rw 0
/-- Table 11.13, VDE.PROTO.DIN_EN [3:3], RW: DIN SPEC 70121 -/
def VDE_PROTO_DIN_EN : Field := fld 0x21 0x040 3 3 .rw 1
/-- Table 11.13, VDE.PROTO.ISO2_EN [2:2], RW: ISO 15118-2 -/
def VDE_PROTO_ISO2_EN : Field := fld 0x21 0x040 2 2 .rw 1
/-- Table 11.13, VDE.PROTO.ISO20_BPT [1:1], RW: offer DC_BPT (R252) -/
def VDE_PROTO_ISO20_BPT : Field := fld 0x21 0x040 1 1 .rw 0
/-- Table 11.13, VDE.PROTO.ISO20_EN [0:0], RW: ISO 15118-20 -/
def VDE_PROTO_ISO20_EN : Field := fld 0x21 0x040 0 0 .rw 1
/-- Table 11.13, VDE.TCP.PORT [31:16], RW: TCP port (R238) -/
def VDE_TCP_PORT : Field := fld 0x21 0x044 31 16 .rw 0xc000
/-- Table 11.13, VDE.TCP.RTO_MS [15:0], RW: first retransmission timeout (R239) -/
def VDE_TCP_RTO_MS : Field := fld 0x21 0x044 15 0 .rw 0xc8
/-- Table 11.13, VDE.TIMEOUT.SEQ_MS [31:16], RW: 60,000 (R251) -/
def VDE_TIMEOUT_SEQ_MS : Field := fld 0x21 0x048 31 16 .rw 0xea60
/-- Table 11.13, VDE.TIMEOUT.LOOP_MS [15:0], RW: 1,000 (R251) -/
def VDE_TIMEOUT_LOOP_MS : Field := fld 0x21 0x048 15 0 .rw 0x3e8
/-- Table 11.13, VDE.HANDSHAKE.HS_MS [15:0], RW: 10,000 (R242) -/
def VDE_HANDSHAKE_HS_MS : Field := fld 0x21 0x04C 15 0 .rw 0x2710
/-- Table 11.13, VDE.MBX_TO.AUTH_MS [31:16], RW: 10,000 (R253) -/
def VDE_MBX_TO_AUTH_MS : Field := fld 0x21 0x050 31 16 .rw 0x2710
/-- Table 11.13, VDE.MBX_TO.CERT_MS [15:0], RW: 15,000 (R260) -/
def VDE_MBX_TO_CERT_MS : Field := fld 0x21 0x050 15 0 .rw 0x3a98
/-- Table 11.13, VDE.AUTH_CFG.TO_ALLOW [4:4], RW: grant on host timeout -/
def VDE_AUTH_CFG_TO_ALLOW : Field := fld 0x21 0x054 4 4 .rw 0
/-- Table 11.13, VDE.AUTH_CFG.EIM_EN [3:3], RW: external payment -/
def VDE_AUTH_CFG_EIM_EN : Field := fld 0x21 0x054 3 3 .rw 1
/-- Table 11.13, VDE.AUTH_CFG.PNC_EN [2:2], RW: contract payment -/
def VDE_AUTH_CFG_PNC_EN : Field := fld 0x21 0x054 2 2 .rw 0
/-- Table 11.13, VDE.AUTH_CFG.HOST_AUTH [1:1], RW: ask the host -/
def VDE_AUTH_CFG_HOST_AUTH : Field := fld 0x21 0x054 1 1 .rw 1
/-- Table 11.13, VDE.AUTH_CFG.LOCAL_EN [0:0], RW: local list -/
def VDE_AUTH_CFG_LOCAL_EN : Field := fld 0x21 0x054 0 0 .rw 1
/-- Table 11.13, VDE.CHECK.MAX_V [31:16], RW: cable check voltage limit, V -/
def VDE_CHECK_MAX_V : Field := fld 0x21 0x058 31 16 .rw 0x5dc
/-- Table 11.13, VDE.CHECK.CHECK_S [15:8], RW: 40 s (R254) -/
def VDE_CHECK_CHECK_S : Field := fld 0x21 0x058 15 8 .rw 0x28
/-- Table 11.13, VDE.CHECK.END_V [7:0], RW: 60 V (R254) -/
def VDE_CHECK_END_V : Field := fld 0x21 0x058 7 0 .rw 0x3c
/-- Table 11.13, VDE.CHECK_HOLD.HOLD_MS [15:0], RW: 500 ms -/
def VDE_CHECK_HOLD_HOLD_MS : Field := fld 0x21 0x05C 15 0 .rw 0x1f4
/-- Table 11.13, VDE.SCHED.S [31:0], RW: schedule duration, 86,400 s -/
def VDE_SCHED_S : Field := fld 0x21 0x060 31 0 .rw 0x15180
/-- Table 11.13, VDE.STOP.METER_S [31:16], RW: R258; 0 never -/
def VDE_STOP_METER_S : Field := fld 0x21 0x064 31 16 .rw 1
/-- Table 11.13, VDE.STOP.STOP_WAIT_MS [15:0], RW: 3,000 (R259) -/
def VDE_STOP_STOP_WAIT_MS : Field := fld 0x21 0x064 15 0 .rw 0xbb8
/-- Table 11.13, VDE.LIST.COUNT [12:0], RO: table 5 entries with KIND not 0 -/
def VDE_LIST_COUNT : Field := fld 0x21 0x068 12 0 .ro 0
/-- Table 11.13, VDE.SESSIONS.COUNT [31:0], RO: sessions since reset -/
def VDE_SESSIONS_COUNT : Field := fld 0x21 0x06C 31 0 .ro 0
/-- Table 11.13, VDE.CTX_STATE.PROTO [31:28], RO: 0 none, 1 DIN SPEC 70121, 2 ISO 15118-2, 3 ISO 15118-20 DC, 4 ISO 15118-20 DC_BPT -/
def VDE_CTX_STATE_PROTO : Field := fldN 0x21 0x100 31 28 .ro 0 0x40 4
/-- Table 11.13, VDE.CTX_STATE.SEC [27:24], RO: 0 none, 1 TCP, 2 TLS 1.2, 3 TLS 1.3 -/
def VDE_CTX_STATE_SEC : Field := fldN 0x21 0x100 27 24 .ro 0 0x40 4
/-- Table 11.13, VDE.CTX_STATE.STEP [23:16], RO: Table 11.6; 0 none -/
def VDE_CTX_STATE_STEP : Field := fldN 0x21 0x100 23 16 .ro 0 0x40 4
/-- Table 11.13, VDE.CTX_STATE.AUTH [15:12], RO: 0 none, 1 local lookup, 2 host pending, 3 granted, 4 denied -/
def VDE_CTX_STATE_AUTH : Field := fldN 0x21 0x100 15 12 .ro 0 0x40 4
/-- Table 11.13, VDE.CTX_STATE.CONN [7:4], RO: 0 idle, 1 address, 2 SDP answered, 3 TCP open, 4 TLS open, 5 closing -/
def VDE_CTX_STATE_CONN : Field := fldN 0x21 0x100 7 4 .ro 0 0x40 4
/-- Table 11.13, VDE.CTX_STATE.WAITING [3:3], RO: R257 -/
def VDE_CTX_STATE_WAITING : Field := fldN 0x21 0x100 3 3 .ro 0 0x40 4
/-- Table 11.13, VDE.CTX_CTRL.STOP [0:0], WO: R259 -/
def VDE_CTX_CTRL_STOP : Field := fldN 0x21 0x104 0 0 .wo 0 0x40 4
/-- Table 11.13, VDE.CTX_SID_LO.SID [31:0], RO: session ID [31:0] -/
def VDE_CTX_SID_LO_SID : Field := fldN 0x21 0x108 31 0 .ro 0 0x40 4
/-- Table 11.13, VDE.CTX_SID_HI.SID [31:0], RO: session ID [63:32] -/
def VDE_CTX_SID_HI_SID : Field := fldN 0x21 0x10C 31 0 .ro 0 0x40 4
/-- Table 11.13, VDE.CTX_EVCCID_LO.ID [31:0], RO: EVCCID [31:0] -/
def VDE_CTX_EVCCID_LO_ID : Field := fldN 0x21 0x110 31 0 .ro 0 0x40 4
/-- Table 11.13, VDE.CTX_EVCCID_HI.ID [15:0], RO: EVCCID [47:32] -/
def VDE_CTX_EVCCID_HI_ID : Field := fldN 0x21 0x114 15 0 .ro 0 0x40 4
/-- Table 11.13, VDE.CTX_EV_VMAX.MV [31:0], RO: vehicle maximum voltage -/
def VDE_CTX_EV_VMAX_MV : Field := fldN 0x21 0x118 31 0 .ro 0 0x40 4
/-- Table 11.13, VDE.CTX_EV_IMAX.MA [31:0], RO: vehicle maximum charge current -/
def VDE_CTX_EV_IMAX_MA : Field := fldN 0x21 0x11C 31 0 .ro 0 0x40 4
/-- Table 11.13, VDE.CTX_EV_PMAX.W [31:0], RO: vehicle maximum charge power -/
def VDE_CTX_EV_PMAX_W : Field := fldN 0x21 0x120 31 0 .ro 0 0x40 4
/-- Table 11.13, VDE.CTX_DEMAND_W.W [31:0], RO: R256 -/
def VDE_CTX_DEMAND_W_W : Field := fldN 0x21 0x124 31 0 .ro 0 0x40 4
/-- Table 11.13, VDE.CTX_SOC.PCT [7:0], RO: state of charge, %; 0xFF unknown -/
def VDE_CTX_SOC_PCT : Field := fldN 0x21 0x128 7 0 .ro 0xff 0x40 4
/-- Table 11.13, VDE.CTX_LAST_REQ.MS [31:0], RO: time since the last request -/
def VDE_CTX_LAST_REQ_MS : Field := fldN 0x21 0x12C 31 0 .ro 0 0x40 4
/-- Table 11.13, VDE.CTX_END.REASON [31:16], RO: R250 -/
def VDE_CTX_END_REASON : Field := fldN 0x21 0x130 31 16 .ro 0 0x40 4
/-- Table 11.13, VDE.CTX_REJECTS.COUNT [31:0], RC: R257 -/
def VDE_CTX_REJECTS_COUNT : Field := fldN 0x21 0x134 31 0 .rc 0 0x40 4

/-! ### CRYPT page (0x22), 11_dialogue_engine.md -/

/-- CRYPT page text, CRYPT.STATUS.TLS_OPEN [3:0], RO: one bit per context -/
def CRYPT_STATUS_TLS_OPEN : Field := fld 0x22 0x00C 3 0 .ro 0
/-- Table 11.14, CRYPT.KEYGEN.CURVE [1:0], RWP: write generates: 0b00 P-256, 0b01 P-521, 0b10 Ed448 (R243) -/
def CRYPT_KEYGEN_CURVE : Field := fld 0x22 0x040 1 0 .rwp 0
/-- Table 11.14, CRYPT.KEY_STAT.USABLE [10:8], RO: credential usable, same bit order as [2:0] -/
def CRYPT_KEY_STAT_USABLE : Field := fld 0x22 0x044 10 8 .ro 0
/-- Table 11.14, CRYPT.KEY_STAT.PRESENT [2:0], RO: [2] Ed448, [1] P-521, [0] P-256 -/
def CRYPT_KEY_STAT_PRESENT : Field := fld 0x22 0x044 2 0 .ro 0
/-- Table 11.14, CRYPT.PUB_SEL.CURVE [1:0], RW: key shown at 0x100 -/
def CRYPT_PUB_SEL_CURVE : Field := fld 0x22 0x048 1 0 .rw 0
/-- Table 11.14, CRYPT.TRUST_CFG.MAX_DEPTH [5:3], RWP: 2–4 (Table 11.4) -/
def CRYPT_TRUST_CFG_MAX_DEPTH : Field := fld 0x22 0x04C 5 3 .rwp 4
/-- Table 11.14, CRYPT.TRUST_CFG.REQ_CLIENT [1:1], RWP: request the client certificate (Table 11.2) -/
def CRYPT_TRUST_CFG_REQ_CLIENT : Field := fld 0x22 0x04C 1 1 .rwp 1
/-- Table 11.14, CRYPT.TRUST_CFG.NO_TIME [0:0], RWP: Table 11.4, rule 5 -/
def CRYPT_TRUST_CFG_NO_TIME : Field := fld 0x22 0x04C 0 0 .rwp 0
/-- Table 11.14, CRYPT.TRUST_STAT.BAD [15:8], RO: entries in STATE 2 or 3 -/
def CRYPT_TRUST_STAT_BAD : Field := fld 0x22 0x050 15 8 .ro 0
/-- Table 11.14, CRYPT.TRUST_STAT.GOOD [7:0], RO: entries in STATE 1 -/
def CRYPT_TRUST_STAT_GOOD : Field := fld 0x22 0x050 7 0 .ro 0
/-- Table 11.14, CRYPT.HS_COUNT.COUNT [31:0], RO: completed handshakes since reset -/
def CRYPT_HS_COUNT_COUNT : Field := fld 0x22 0x054 31 0 .ro 0
/-- Table 11.14, CRYPT.HS_FAIL.COUNT [31:0], RO: failed handshakes since reset -/
def CRYPT_HS_FAIL_COUNT : Field := fld 0x22 0x058 31 0 .ro 0
/-- Table 11.14, CRYPT.LAST_FAIL.CONTEXT [19:16], RO: context -/
def CRYPT_LAST_FAIL_CONTEXT : Field := fld 0x22 0x05C 19 16 .ro 0
/-- Table 11.14, CRYPT.LAST_FAIL.CODE [15:0], RO: TLS alert, or 0x0100 + chain rule -/
def CRYPT_LAST_FAIL_CODE : Field := fld 0x22 0x05C 15 0 .ro 0
/-- Table 11.14, CRYPT.RNG_STAT.FAIL [1:1], RO: health test failed -/
def CRYPT_RNG_STAT_FAIL : Field := fld 0x22 0x060 1 1 .ro 0
/-- Table 11.14, CRYPT.RNG_STAT.OK [0:0], RO: generator ready -/
def CRYPT_RNG_STAT_OK : Field := fld 0x22 0x060 0 0 .ro 0
/-- Table 11.14, CRYPT.PUB.KEY [31:0], RO: i = 0–33 at 0x100 + 4i; public key bytes from byte 0 in [7:0] of PUB0: 0x04 ‖ X ‖ Y for P-256 (65 bytes) and P-521 (133 bytes), 57 bytes for Ed448; unused bytes 0 -/
def CRYPT_PUB_KEY : Field := fldN 0x22 0x100 31 0 .ro 0 0x4 34

/-! ### LENS page (0x23), 12_lens_metrology.md -/

/-- LENS page text, LENS.STATUS.UNCAL [9:9], RO: R281 -/
def LENS_STATUS_UNCAL : Field := fld 0x23 0x00C 9 9 .ro 0
/-- LENS page text, LENS.STATUS.CAL_BAD [8:8], RO: R281 -/
def LENS_STATUS_CAL_BAD : Field := fld 0x23 0x00C 8 8 .ro 0
/-- LENS page text, LENS.STATUS.METER_OK [3:0], RO: one bit per outlet point -/
def LENS_STATUS_METER_OK : Field := fld 0x23 0x00C 3 0 .ro 0
/-- Table 12.7, LENS.CH_EN.EN [22:0], RWS: channel c on -/
def LENS_CH_EN_EN : Field := fld 0x23 0x040 22 0 .rws 0x7fffff
/-- Table 12.7, LENS.CH_LOST.LOST [22:0], RO: R278 -/
def LENS_CH_LOST_LOST : Field := fld 0x23 0x044 22 0 .ro 0
/-- Table 12.7, LENS.CH_FROZEN.FROZEN [22:0], RO: R278 -/
def LENS_CH_FROZEN_FROZEN : Field := fld 0x23 0x048 22 0 .ro 0
/-- Table 12.7, LENS.CH_OVER.OVER [22:0], RO: R278 -/
def LENS_CH_OVER_OVER : Field := fld 0x23 0x04C 22 0 .ro 0
/-- Table 12.7, LENS.CLK_CFG.EDGE [8:8], RWS: 0 rising, 1 falling -/
def LENS_CLK_CFG_EDGE : Field := fld 0x23 0x050 8 8 .rws 0
/-- Table 12.7, LENS.CLK_CFG.MCLK_EN [3:0], RWS: clock k on -/
def LENS_CLK_CFG_MCLK_EN : Field := fld 0x23 0x050 3 0 .rws 0xf
/-- Table 12.7, LENS.CYCLE.COUNT [31:0], RO: cycles since reset -/
def LENS_CYCLE_COUNT : Field := fld 0x23 0x054 31 0 .ro 0
/-- Table 12.7, LENS.CAL_SEQ.COUNT [31:0], RO: calibration writes since manufacture -/
def LENS_CAL_SEQ_COUNT : Field := fld 0x23 0x058 31 0 .ro 0
/-- Table 12.7, LENS.CAL_CRC.CRC [31:0], RO: R281 -/
def LENS_CAL_CRC_CRC : Field := fld 0x23 0x05C 31 0 .ro 0
/-- Table 12.7, LENS.OVR_LIM.LIM [15:0], RWS: 2^−16 of full scale (0.95) -/
def LENS_OVR_LIM_LIM : Field := fld 0x23 0x060 15 0 .rws 0xf333
/-- Table 12.7, LENS.FREEZE.MS [7:0], RWS: 1–255 -/
def LENS_FREEZE_MS : Field := fld 0x23 0x064 7 0 .rws 2
/-- Table 12.7, LENS.MP_CFG.KIND [9:8], RWS: Table 12.3; 0b11 reserved, refused -/
def LENS_MP_CFG_KIND : Field := fldN 0x23 0x080 9 8 .rws 0 0x4 11
/-- Table 12.7, LENS.MP_CFG.MASK [3:0], RWS: outlets -/
def LENS_MP_CFG_MASK : Field := fldN 0x23 0x080 3 0 .rws 0 0x4 11
/-- Table 12.7, LENS.VM.MV [31:0], RO: v_mean -/
def LENS_VM_MV : Field := fldN 0x23 0x100 31 0 .ro 0 0x10 4
/-- Table 12.7, LENS.IM.MA [31:0], RO: i_mean -/
def LENS_IM_MA : Field := fldN 0x23 0x104 31 0 .ro 0 0x10 4
/-- Table 12.7, LENS.PM.W [31:0], RO: p_mean -/
def LENS_PM_W : Field := fldN 0x23 0x108 31 0 .ro 0 0x10 4
/-- Table 12.7, LENS.MSTAT.UNVERIFIED [2:2], RO: last cycle booked under R279 -/
def LENS_MSTAT_UNVERIFIED : Field := fldN 0x23 0x10C 2 2 .ro 0 0x10 4
/-- Table 12.7, LENS.MSTAT.EXPORT [1:1], RO: last cycle booked to export -/
def LENS_MSTAT_EXPORT : Field := fldN 0x23 0x10C 1 1 .ro 0 0x10 4
/-- Table 12.7, LENS.MSTAT.METER_OK [0:0], RO: R279 -/
def LENS_MSTAT_METER_OK : Field := fldN 0x23 0x10C 0 0 .ro 0 0x10 4
/-- Table 12.7, LENS.PT_W.W [31:0], RO: p_mean of point m at 0x140 + 4m, m = 0–15 -/
def LENS_PT_W_W : Field := fldN 0x23 0x140 31 0 .ro 0 0x4 16
/-- Table 12.7, LENS.CAP_CFG.PRE_PCT [31:24], RW: 0–100 -/
def LENS_CAP_CFG_PRE_PCT : Field := fld 0x23 0x180 31 24 .rw 0x32
/-- Table 12.7, LENS.CAP_CFG.TRIG [7:6], RW: R287 -/
def LENS_CAP_CFG_TRIG : Field := fld 0x23 0x180 7 6 .rw 0
/-- Table 12.7, LENS.CAP_CFG.RAW [5:5], RW: store codes -/
def LENS_CAP_CFG_RAW : Field := fld 0x23 0x180 5 5 .rw 0
/-- Table 12.7, LENS.CAP_CFG.FIRE [1:1], WO: host trigger -/
def LENS_CAP_CFG_FIRE : Field := fld 0x23 0x180 1 1 .wo 0
/-- Table 12.7, LENS.CAP_CFG.ARM [0:0], RW: R287 -/
def LENS_CAP_CFG_ARM : Field := fld 0x23 0x180 0 0 .rw 0
/-- Table 12.7, LENS.CAP_SEL.LANE3 [31:24], RW: channel, 0–22; 0xFF unused -/
def LENS_CAP_SEL_LANE3 : Field := fld 0x23 0x184 31 24 .rw 0xff
/-- Table 12.7, LENS.CAP_SEL.LANE2 [23:16], RW:  -/
def LENS_CAP_SEL_LANE2 : Field := fld 0x23 0x184 23 16 .rw 0xff
/-- Table 12.7, LENS.CAP_SEL.LANE1 [15:8], RW:  -/
def LENS_CAP_SEL_LANE1 : Field := fld 0x23 0x184 15 8 .rw 0xff
/-- Table 12.7, LENS.CAP_SEL.LANE0 [7:0], RW:  -/
def LENS_CAP_SEL_LANE0 : Field := fld 0x23 0x184 7 0 .rw 0xff
/-- Table 12.7, LENS.CAP_TRIG_NS.NS [29:0], RW: trigger time, legal -/
def LENS_CAP_TRIG_NS_NS : Field := fld 0x23 0x188 29 0 .rw 0
/-- Table 12.7, LENS.CAP_TRIG_SEC_LO.SEC [31:0], RW: seconds [31:0] -/
def LENS_CAP_TRIG_SEC_LO_SEC : Field := fld 0x23 0x18C 31 0 .rw 0
/-- Table 12.7, LENS.CAP_TRIG_SEC_HI.SEC [15:0], RW: seconds [47:32] -/
def LENS_CAP_TRIG_SEC_HI_SEC : Field := fld 0x23 0x190 15 0 .rw 0
/-- Table 12.7, LENS.CAP_LEVEL.X [31:0], RW: signed, unit of lane 0 -/
def LENS_CAP_LEVEL_X : Field := fld 0x23 0x194 31 0 .rw 0
/-- Table 12.7, LENS.CAP_STAT.START [31:13], RO: oldest index, lane 0; other lanes at the same relative time -/
def LENS_CAP_STAT_START : Field := fld 0x23 0x198 31 13 .ro 0
/-- Table 12.7, LENS.CAP_STAT.SHORT [2:2], RO: R287 -/
def LENS_CAP_STAT_SHORT : Field := fld 0x23 0x198 2 2 .ro 0
/-- Table 12.7, LENS.CAP_STAT.DONE [1:1], RO: R287 -/
def LENS_CAP_STAT_DONE : Field := fld 0x23 0x198 1 1 .ro 0
/-- Table 12.7, LENS.CAP_STAT.FILLING [0:0], RO: armed -/
def LENS_CAP_STAT_FILLING : Field := fld 0x23 0x198 0 0 .ro 0
/-- Table 12.7, LENS.CAP_T0_NS.NS [29:0], RO: trigger stamp -/
def LENS_CAP_T0_NS_NS : Field := fld 0x23 0x19C 29 0 .ro 0
/-- Table 12.7, LENS.CAP_T0_SEC_LO.SEC [31:0], RO:  -/
def LENS_CAP_T0_SEC_LO_SEC : Field := fld 0x23 0x1A0 31 0 .ro 0
/-- Table 12.7, LENS.CAP_T0_SEC_HI.EPOCH [31:16], RO: legal time epoch -/
def LENS_CAP_T0_SEC_HI_EPOCH : Field := fld 0x23 0x1A4 31 16 .ro 0
/-- Table 12.7, LENS.CAP_T0_SEC_HI.SEC [15:0], RO: seconds [47:32] -/
def LENS_CAP_T0_SEC_HI_SEC : Field := fld 0x23 0x1A4 15 0 .ro 0
/-- Table 12.7, LENS.CAL_GAIN.GAIN [31:0], RWS: binary32, mV or mA per code; SEALED_SERVICE only -/
def LENS_CAL_GAIN_GAIN : Field := { fldN 0x23 0x200 31 0 .rws 0 0x10 23 with svc := true }
/-- Table 12.7, LENS.CAL_OFFSET.CODE [31:0], RWS: signed; SEALED_SERVICE only -/
def LENS_CAL_OFFSET_CODE : Field := { fldN 0x23 0x204 31 0 .rws 0 0x10 23 with svc := true }
/-- Table 12.7, LENS.CAL_DELAY.CLOCKS [9:0], RWS: R269; SEALED_SERVICE only -/
def LENS_CAL_DELAY_CLOCKS : Field := { fldN 0x23 0x208 9 0 .rws 0 0x10 23 with svc := true }

/-! ### GRID page (0x24), 12_lens_metrology.md -/

/-- Table 12.8, GRID.CFG.NPER [31:24], RWS: 1–50 -/
def GRID_CFG_NPER : Field := fld 0x24 0x040 31 24 .rws 0xa
/-- Table 12.8, GRID.CFG.MCLK [17:16], RWS: clock of the grid modulators -/
def GRID_CFG_MCLK : Field := fld 0x24 0x040 17 16 .rws 0
/-- Table 12.8, GRID.CFG.NOM_60 [4:4], RWS: 0 50 Hz, 1 60 Hz -/
def GRID_CFG_NOM_60 : Field := fld 0x24 0x040 4 4 .rws 0
/-- Table 12.8, GRID.CFG.WIRING [2:1], RWS: R275 -/
def GRID_CFG_WIRING : Field := fld 0x24 0x040 2 1 .rws 0
/-- Table 12.8, GRID.CFG.EN [0:0], RWS: grid port on -/
def GRID_CFG_EN : Field := fld 0x24 0x040 0 0 .rws 0
/-- Table 12.8, GRID.FREQ.MHZ [31:0], RO: f, 0.001 Hz -/
def GRID_FREQ_MHZ : Field := fld 0x24 0x044 31 0 .ro 0
/-- Table 12.8, GRID.REF.PHASE [1:0], RO: reference voltage 1–3; 0 none -/
def GRID_REF_PHASE : Field := fld 0x24 0x048 1 0 .ro 0
/-- Table 12.8, GRID.VRMS.MV [31:0], RO: k = 1–3 at 0x04C + 4k -/
def GRID_VRMS_MV : Field := fldN 0x24 0x050 31 0 .ro 0 0x4 3
/-- Table 12.8, GRID.IRMS.MA [31:0], RO: k = 1–3 at 0x058 + 4k; IN at 0x068 -/
def GRID_IRMS_MA : Field := fldN 0x24 0x05C 31 0 .ro 0 0x4 4
/-- Table 12.8, GRID.P.W [31:0], RO: k = 1–3 at 0x068 + 4k, signed -/
def GRID_P_W : Field := fldN 0x24 0x06C 31 0 .ro 0 0x4 3
/-- Table 12.8, GRID.Q.VAR [31:0], RO: k = 1–3 at 0x074 + 4k, signed -/
def GRID_Q_VAR : Field := fldN 0x24 0x078 31 0 .ro 0 0x4 3
/-- Table 12.8, GRID.PF12.PF2 [31:16], RO: signed, 2^−15 -/
def GRID_PF12_PF2 : Field := fld 0x24 0x088 31 16 .ro 0
/-- Table 12.8, GRID.PF12.PF1 [15:0], RO:  -/
def GRID_PF12_PF1 : Field := fld 0x24 0x088 15 0 .ro 0
/-- Table 12.8, GRID.PF3T.TOTAL [31:16], RO:  -/
def GRID_PF3T_TOTAL : Field := fld 0x24 0x08C 31 16 .ro 0
/-- Table 12.8, GRID.PF3T.PF3 [15:0], RO:  -/
def GRID_PF3T_PF3 : Field := fld 0x24 0x08C 15 0 .ro 0
/-- Table 12.8, GRID.ANG_V.V3 [31:16], RO: signed, 0.01° -/
def GRID_ANG_V_V3 : Field := fld 0x24 0x090 31 16 .ro 0
/-- Table 12.8, GRID.ANG_V.V2 [15:0], RO:  -/
def GRID_ANG_V_V2 : Field := fld 0x24 0x090 15 0 .ro 0
/-- Table 12.8, GRID.ANG_I12.I2 [31:16], RO: φ_2 -/
def GRID_ANG_I12_I2 : Field := fld 0x24 0x094 31 16 .ro 0
/-- Table 12.8, GRID.ANG_I12.I1 [15:0], RO: φ_1 -/
def GRID_ANG_I12_I1 : Field := fld 0x24 0x094 15 0 .ro 0
/-- Table 12.8, GRID.ANG_I3.I3 [15:0], RO: φ_3 -/
def GRID_ANG_I3_I3 : Field := fld 0x24 0x098 15 0 .ro 0
/-- Table 12.8, GRID.P_TOTAL.W [31:0], RO: signed -/
def GRID_P_TOTAL_W : Field := fld 0x24 0x09C 31 0 .ro 0
/-- Table 12.8, GRID.Q_TOTAL.VAR [31:0], RO: signed -/
def GRID_Q_TOTAL_VAR : Field := fld 0x24 0x0A0 31 0 .ro 0
/-- Table 12.8, GRID.S_TOTAL.VA [31:0], RO:  -/
def GRID_S_TOTAL_VA : Field := fld 0x24 0x0A4 31 0 .ro 0
/-- Table 12.8, GRID.WIN_STAT.COUNT [31:16], RO: windows since reset, wraps -/
def GRID_WIN_STAT_COUNT : Field := fld 0x24 0x0A8 31 16 .ro 0
/-- Table 12.8, GRID.WIN_STAT.VALID [0:0], RO: R277 -/
def GRID_WIN_STAT_VALID : Field := fld 0x24 0x0A8 0 0 .ro 0

/-! ### BILL page (0x25), 13_billing.md -/

/-- BILL page text, BILL.CTRL.CLOSE_PERIOD [0:0], RWS: WO, RWS; R306 -/
def BILL_CTRL_CLOSE_PERIOD : Field := fld 0x25 0x008 0 0 .rwsWo 0
/-- Table 13.7, BILL.DEMAND_CFG.L_MIN [15:8], RWS: interval, minutes (R307) -/
def BILL_DEMAND_CFG_L_MIN : Field := fld 0x25 0x040 15 8 .rws 0xf
/-- Table 13.7, BILL.DEMAND_CFG.SUBINT [7:4], RWS: S, 1–15 -/
def BILL_DEMAND_CFG_SUBINT : Field := fld 0x25 0x040 7 4 .rws 1
/-- Table 13.7, BILL.DEMAND_CFG.SLIDING [0:0], RWS: 0 fixed, 1 sliding -/
def BILL_DEMAND_CFG_SLIDING : Field := fld 0x25 0x040 0 0 .rws 0
/-- Table 13.7, BILL.STATE.VAULT_OPEN [1:1], RO: vault record awaiting R301 -/
def BILL_STATE_VAULT_OPEN : Field := fld 0x25 0x044 1 1 .ro 0
/-- Table 13.7, BILL.STATE.PENDING [0:0], RO: boundary uncommitted (R313) -/
def BILL_STATE_PENDING : Field := fld 0x25 0x044 0 0 .ro 0
/-- Table 13.7, BILL.BOUNDARY_SEQ.SEQ [31:0], RO: committed boundaries since manufacture -/
def BILL_BOUNDARY_SEQ_SEQ : Field := fld 0x25 0x048 31 0 .ro 0
/-- Table 13.7, BILL.CYCLE_SEQ.SEQ [31:0], RO: last cycle booked -/
def BILL_CYCLE_SEQ_SEQ : Field := fld 0x25 0x04C 31 0 .ro 0
/-- Table 13.7, BILL.PERIOD_SERIAL.SERIAL [31:0], RO: current period -/
def BILL_PERIOD_SERIAL_SERIAL : Field := fld 0x25 0x050 31 0 .ro 0
/-- Table 13.7, BILL.LAST_CLOSE_SEC_LO.SEC [31:0], RO: seconds [31:0] -/
def BILL_LAST_CLOSE_SEC_LO_SEC : Field := fld 0x25 0x054 31 0 .ro 0
/-- Table 13.7, BILL.LAST_CLOSE_HI.EPOCH [31:16], RO: epoch -/
def BILL_LAST_CLOSE_HI_EPOCH : Field := fld 0x25 0x058 31 16 .ro 0
/-- Table 13.7, BILL.LAST_CLOSE_HI.SEC [15:0], RO: seconds [47:32] -/
def BILL_LAST_CLOSE_HI_SEC : Field := fld 0x25 0x058 15 0 .ro 0
/-- Table 13.7, BILL.IV_START_SEC_LO.SEC [31:0], RO: start of the interval in progress -/
def BILL_IV_START_SEC_LO_SEC : Field := fld 0x25 0x05C 31 0 .ro 0
/-- Table 13.7, BILL.IV_START_HI.EPOCH [31:16], RO:  -/
def BILL_IV_START_HI_EPOCH : Field := fld 0x25 0x060 31 16 .ro 0
/-- Table 13.7, BILL.IV_START_HI.SEC [15:0], RO:  -/
def BILL_IV_START_HI_SEC : Field := fld 0x25 0x060 15 0 .ro 0
/-- Table 13.7, BILL.DT_E_WH.WH [31:0], RO: E of R312 -/
def BILL_DT_E_WH_WH : Field := fld 0x25 0x064 31 0 .ro 0
/-- Table 13.7, BILL.DT_TREM_S.S [31:0], RO: t_rem of R312 -/
def BILL_DT_TREM_S_S : Field := fld 0x25 0x068 31 0 .ro 0
/-- Table 13.7, BILL.REPAIRED.REBUILT [31:16], RO: entries rebuilt since manufacture -/
def BILL_REPAIRED_REBUILT : Field := fld 0x25 0x06C 31 16 .ro 0
/-- Table 13.7, BILL.REPAIRED.COPIES [15:0], RO: copies repaired, saturating -/
def BILL_REPAIRED_COPIES : Field := fld 0x25 0x06C 15 0 .ro 0
/-- Table 13.7, BILL.UNFLUSHED.COUNT [31:0], RO: R301 step 3 since manufacture -/
def BILL_UNFLUSHED_COUNT : Field := fld 0x25 0x070 31 0 .ro 0

/-! ### TARIFF page (0x26), 13_billing.md -/

/-- TARIFF page text, TARIFF.CTRL.ACTIVATE [0:0], RWS: WO, RWS; R302 -/
def TARIFF_CTRL_ACTIVATE : Field := fld 0x26 0x008 0 0 .rwsWo 0
/-- Table 13.8, TARIFF.CFG.DEFAULT [3:0], RWS: R305 -/
def TARIFF_CFG_DEFAULT : Field := fld 0x26 0x040 3 0 .rws 0
/-- Table 13.8, TARIFF.BANK.ACTIVE [8:8], RO: bank in force -/
def TARIFF_BANK_ACTIVE : Field := fld 0x26 0x044 8 8 .ro 0
/-- Table 13.8, TARIFF.BANK.SWITCH_PENDING [0:0], RO: activation awaited -/
def TARIFF_BANK_SWITCH_PENDING : Field := fld 0x26 0x044 0 0 .ro 0
/-- Table 13.8, TARIFF.ACT_SEC_LO.SEC [31:0], RWS: activation, legal seconds [31:0] -/
def TARIFF_ACT_SEC_LO_SEC : Field := fld 0x26 0x048 31 0 .rws 0
/-- Table 13.8, TARIFF.ACT_SEC_HI.SEC [15:0], RWS: seconds [47:32] -/
def TARIFF_ACT_SEC_HI_SEC : Field := fld 0x26 0x04C 15 0 .rws 0
/-- Table 13.8, TARIFF.NOW_LO.TARIFF [31:0], RO: point p in [4p+3:4p], points 0–7 -/
def TARIFF_NOW_LO_TARIFF : Field := fld 0x26 0x050 31 0 .ro 0
/-- Table 13.8, TARIFF.NOW_HI.TARIFF [31:0], RO: points 8–15 -/
def TARIFF_NOW_HI_TARIFF : Field := fld 0x26 0x054 31 0 .ro 0
/-- Table 13.8, TARIFF.LOCAL.DST [16:16], RO: daylight time in force -/
def TARIFF_LOCAL_DST : Field := fld 0x26 0x058 16 16 .ro 0
/-- Table 13.8, TARIFF.LOCAL.OFS_MIN [15:0], RO: signed local offset now -/
def TARIFF_LOCAL_OFS_MIN : Field := fld 0x26 0x058 15 0 .ro 0
/-- Table 13.8, TARIFF.NEXT_SEC_LO.SEC [31:0], RO: next calendar switch or period end -/
def TARIFF_NEXT_SEC_LO_SEC : Field := fld 0x26 0x05C 31 0 .ro 0
/-- Table 13.8, TARIFF.NEXT_HI.SEC [15:0], RO:  -/
def TARIFF_NEXT_HI_SEC : Field := fld 0x26 0x060 15 0 .ro 0
/-- Table 13.8, TARIFF.CAL_STAT.FIRST_BAD [31:16], RO: entry of the last failed check -/
def TARIFF_CAL_STAT_FIRST_BAD : Field := fld 0x26 0x064 31 16 .ro 0
/-- Table 13.8, TARIFF.CAL_STAT.ENTRIES [15:0], RO: entries of KIND not 0 in the active bank -/
def TARIFF_CAL_STAT_ENTRIES : Field := fld 0x26 0x064 15 0 .ro 0

/-! ### TAMPER page (0x27), 13_billing.md -/

/-- Table 13.9, TAMPER.INPUT_CFG.DEBOUNCE_MS [23:16], RWS: 20 ms -/
def TAMPER_INPUT_CFG_DEBOUNCE_MS : Field := fld 0x27 0x040 23 16 .rws 0x14
/-- Table 13.9, TAMPER.INPUT_CFG.POL1 [1:1], RWS: 0 active low -/
def TAMPER_INPUT_CFG_POL1 : Field := fld 0x27 0x040 1 1 .rws 0
/-- Table 13.9, TAMPER.INPUT_CFG.POL0 [0:0], RWS: 0 active low -/
def TAMPER_INPUT_CFG_POL0 : Field := fld 0x27 0x040 0 0 .rws 0
/-- Table 13.9, TAMPER.ACTIVE.TYPE [15:0], RO: episode in progress, bit t -/
def TAMPER_ACTIVE_TYPE : Field := fld 0x27 0x044 15 0 .ro 0
/-- Table 13.9, TAMPER.PPM_LIM.PPM [15:0], RWS: 100 ppm (type 15) -/
def TAMPER_PPM_LIM_PPM : Field := fld 0x27 0x048 15 0 .rws 0x64
/-- Table 13.9, TAMPER.COUNT.COUNT [31:0], RO: R321 -/
def TAMPER_COUNT_COUNT : Field := fldN 0x27 0x100 31 0 .ro 0 0x20 16
/-- Table 13.9, TAMPER.FIRST_SEC_LO.SEC [31:0], RO: first occurrence [31:0] -/
def TAMPER_FIRST_SEC_LO_SEC : Field := fldN 0x27 0x104 31 0 .ro 0 0x20 16
/-- Table 13.9, TAMPER.FIRST_HI.EPOCH [31:16], RO:  -/
def TAMPER_FIRST_HI_EPOCH : Field := fldN 0x27 0x108 31 16 .ro 0 0x20 16
/-- Table 13.9, TAMPER.FIRST_HI.SEC [15:0], RO: seconds [47:32] -/
def TAMPER_FIRST_HI_SEC : Field := fldN 0x27 0x108 15 0 .ro 0 0x20 16
/-- Table 13.9, TAMPER.LAST_SEC_LO.SEC [31:0], RO: last occurrence [31:0] -/
def TAMPER_LAST_SEC_LO_SEC : Field := fldN 0x27 0x10C 31 0 .ro 0 0x20 16
/-- Table 13.9, TAMPER.LAST_HI.EPOCH [31:16], RO:  -/
def TAMPER_LAST_HI_EPOCH : Field := fldN 0x27 0x110 31 16 .ro 0 0x20 16
/-- Table 13.9, TAMPER.LAST_HI.SEC [15:0], RO: seconds [47:32] -/
def TAMPER_LAST_HI_SEC : Field := fldN 0x27 0x110 15 0 .ro 0 0x20 16

/-! ### SAFE page (0x28), 14_safety.md -/

/-- Table 14.8, SAFE.SIN_CFG.MASK [15:12], RWP: outlets for FUNC 2 -/
def SAFE_SIN_CFG_MASK : Field := fldN 0x28 0x040 15 12 .rwp 0 0x4 8
/-- Table 14.8, SAFE.SIN_CFG.TEST [9:8], RWP: 0 none, 1 STP0, 2 STP1 -/
def SAFE_SIN_CFG_TEST : Field := fldN 0x28 0x040 9 8 .rwp 0 0x4 8
/-- Table 14.8, SAFE.SIN_CFG.ANTI [5:5], RWP: R336 -/
def SAFE_SIN_CFG_ANTI : Field := fldN 0x28 0x040 5 5 .rwp 0 0x4 8
/-- Table 14.8, SAFE.SIN_CFG.PAIR [4:4], RWP: R336 -/
def SAFE_SIN_CFG_PAIR : Field := fldN 0x28 0x040 4 4 .rwp 0 0x4 8
/-- Table 14.8, SAFE.SIN_CFG.FUNC [2:0], RWP: R337 -/
def SAFE_SIN_CFG_FUNC : Field := fldN 0x28 0x040 2 0 .rwp 0 0x4 8
/-- Table 14.8, SAFE.SIN_STAT.FAULT [15:8], RO: R335 -/
def SAFE_SIN_STAT_FAULT : Field := fld 0x28 0x060 15 8 .ro 0
/-- Table 14.8, SAFE.SIN_STAT.DEMAND [7:0], RO: R335 -/
def SAFE_SIN_STAT_DEMAND : Field := fld 0x28 0x060 7 0 .ro 0
/-- Table 14.8, SAFE.NODE_TRIP.LATCHED [19:16], RO: as ACTIVE -/
def SAFE_NODE_TRIP_LATCHED : Field := fld 0x28 0x064 19 16 .ro 0
/-- Table 14.8, SAFE.NODE_TRIP.ACTIVE [3:0], RO: [3] internal failure, [2] GSC, [1] DEGRADED expiry, [0] SF1 -/
def SAFE_NODE_TRIP_ACTIVE : Field := fld 0x28 0x064 3 0 .ro 0
/-- Table 14.8, SAFE.DEG_CFG.DEG_PCT [31:24], RWP: 10–100 % -/
def SAFE_DEG_CFG_DEG_PCT : Field := fld 0x28 0x068 31 24 .rwp 0x32
/-- Table 14.8, SAFE.DEG_CFG.DEG_MIN [23:16], RWP: 1–30 min -/
def SAFE_DEG_CFG_DEG_MIN : Field := fld 0x28 0x068 23 16 .rwp 0x1e
/-- Table 14.8, SAFE.DEG_CFG.DEG_RESET_MIN [15:8], RWP: R351 -/
def SAFE_DEG_CFG_DEG_RESET_MIN : Field := fld 0x28 0x068 15 8 .rwp 0xa
/-- Table 14.8, SAFE.DEG_STAT.REMAIN_S [31:16], RO: R352 -/
def SAFE_DEG_STAT_REMAIN_S : Field := fld 0x28 0x06C 31 16 .ro 0
/-- Table 14.8, SAFE.DEG_STAT.OUTLETS [3:0], RO: degraded outlets -/
def SAFE_DEG_STAT_OUTLETS : Field := fld 0x28 0x06C 3 0 .ro 0
/-- Table 14.8, SAFE.IMD_CFG.PWM_LOSS_MS [31:16], RWP: R344 -/
def SAFE_IMD_CFG_PWM_LOSS_MS : Field := fld 0x28 0x070 31 16 .rwp 0x1f4
/-- Table 14.8, SAFE.IMD_CFG.PWM_EN [7:4], RWP: per outlet -/
def SAFE_IMD_CFG_PWM_EN : Field := fld 0x28 0x070 7 4 .rwp 0
/-- Table 14.8, SAFE.IMD_CFG.POL [3:0], RWP: per outlet, 0 = high is good -/
def SAFE_IMD_CFG_POL : Field := fld 0x28 0x070 3 0 .rwp 0
/-- Table 14.8, SAFE.CONTACT_CFG.FB_DEBOUNCE_MS [31:24], RWP: 1–20 -/
def SAFE_CONTACT_CFG_FB_DEBOUNCE_MS : Field := fld 0x28 0x074 31 24 .rwp 2
/-- Table 14.8, SAFE.CONTACT_CFG.COIL_EN [11:0], RWP: coil 48 + k monitored -/
def SAFE_CONTACT_CFG_COIL_EN : Field := fld 0x28 0x074 11 0 .rwp 0xfff
/-- Table 14.8, SAFE.COIL_CMD_LO.CMD [31:0], RO: coils 0–31 commanded on -/
def SAFE_COIL_CMD_LO_CMD : Field := fld 0x28 0x078 31 0 .ro 0
/-- Table 14.8, SAFE.COIL_CMD_HI.CMD [27:0], RO: coils 32–59 -/
def SAFE_COIL_CMD_HI_CMD : Field := fld 0x28 0x07C 27 0 .ro 0
/-- Table 14.8, SAFE.FB_LO.CLOSED [31:0], RO: FB0–FB31 read closed -/
def SAFE_FB_LO_CLOSED : Field := fld 0x28 0x080 31 0 .ro 0
/-- Table 14.8, SAFE.FB_HI.CLOSED [27:0], RO: FB32–FB59 -/
def SAFE_FB_HI_CLOSED : Field := fld 0x28 0x084 27 0 .ro 0
/-- Table 14.8, SAFE.WELD_LO.WELD [31:0], RWP, W1C: set by the device; with the safety password open, 1 clears the bit of a contactor reading open, and 0 has no effect (R342) -/
def SAFE_WELD_LO_WELD : Field := fld 0x28 0x088 31 0 .rwpW1c 0
/-- Table 14.8, SAFE.WELD_HI.WELD [27:0], RWP, W1C: as WELD_LO -/
def SAFE_WELD_HI_WELD : Field := fld 0x28 0x08C 27 0 .rwpW1c 0
/-- Table 14.8, SAFE.RESTART.KEY [31:0], WO: R349 -/
def SAFE_RESTART_KEY : Field := fld 0x28 0x090 31 0 .wo 0
/-- Table 14.8, SAFE.CLR.OUTLET [3:0], WO: R348 -/
def SAFE_CLR_OUTLET : Field := fld 0x28 0x094 3 0 .wo 0
/-- Table 14.8, SAFE.CFG_CRC.CRC [31:0], RO: CRC-32 of the SAFE and GSC configuration (R473) -/
def SAFE_CFG_CRC_CRC : Field := fld 0x28 0x098 31 0 .ro 0
/-- Table 14.8, SAFE.TRIP_COUNT.COUNT [31:0], RO: trips since manufacture -/
def SAFE_TRIP_COUNT_COUNT : Field := fld 0x28 0x09C 31 0 .ro 0
/-- Table 14.8, SAFE.OUT_TRIP.LATCHED [26:16], RO: bit k − 1 for SFk -/
def SAFE_OUT_TRIP_LATCHED : Field := fldN 0x28 0x100 26 16 .ro 0 0x10 4
/-- Table 14.8, SAFE.OUT_TRIP.ACTIVE [10:0], RO: bit k − 1 for SFk -/
def SAFE_OUT_TRIP_ACTIVE : Field := fldN 0x28 0x100 10 0 .ro 0 0x10 4
/-- Table 14.8, SAFE.OUT_LIM.SF6_TRIP [31:20], RWP: 0.1 °C (95.0) -/
def SAFE_OUT_LIM_SF6_TRIP : Field := fldN 0x28 0x104 31 20 .rwp 0x3b6 0x10 4
/-- Table 14.8, SAFE.OUT_LIM.IMAX_A [19:8], RWP: 3,000 A -/
def SAFE_OUT_LIM_IMAX_A : Field := fldN 0x28 0x104 19 8 .rwp 0xbb8 0x10 4
/-- Table 14.8, SAFE.OUT_LIM.VMARGIN_V [7:0], RWP: 20 V (SF3) -/
def SAFE_OUT_LIM_VMARGIN_V : Field := fldN 0x28 0x104 7 0 .rwp 0x14 0x10 4
/-- Table 14.8, SAFE.OUT_CFG.DISCH_CH [31:24], RWP: R339 -/
def SAFE_OUT_CFG_DISCH_CH : Field := fldN 0x28 0x108 31 24 .rwp 0xff 0x10 4
/-- Table 14.8, SAFE.OUT_CFG.RESID_MS [23:8], RWP: SF11 -/
def SAFE_OUT_CFG_RESID_MS : Field := fldN 0x28 0x108 23 8 .rwp 0x3e8 0x10 4
/-- Table 14.8, SAFE.OUT_CFG.IMARGIN_PCT [7:4], RWP: SF10 -/
def SAFE_OUT_CFG_IMARGIN_PCT : Field := fldN 0x28 0x108 7 4 .rwp 5 0x10 4
/-- Table 14.8, SAFE.OUT_CFG.IMARGIN_10A [3:0], RWP: SF10, 10 A units -/
def SAFE_OUT_CFG_IMARGIN_10A : Field := fldN 0x28 0x108 3 0 .rwp 5 0x10 4
/-- Table 14.8, SAFE.OUT_IMD.OK [31:31], RO: IMD_OKn shows good -/
def SAFE_OUT_IMD_OK : Field := fldN 0x28 0x10C 31 31 .ro 0 0x10 4
/-- Table 14.8, SAFE.OUT_IMD.FREQ [30:16], RO: 0.1 Hz -/
def SAFE_OUT_IMD_FREQ : Field := fldN 0x28 0x10C 30 16 .ro 0 0x10 4
/-- Table 14.8, SAFE.OUT_IMD.DUTY [9:0], RO: 0.1 % -/
def SAFE_OUT_IMD_DUTY : Field := fldN 0x28 0x10C 9 0 .ro 0 0x10 4

/-! ### GSC page (0x29), 14_safety.md -/

/-- Table 14.9, GSC.HOST_TX.PDU [31:0], RO: i = 0–4; bytes 4i to 4i + 3, first byte in [31:24] -/
def GSC_HOST_TX_PDU : Field := fldN 0x29 0x040 31 0 .ro 0 0x4 5
/-- Table 14.9, GSC.HOST_TX_STAT.VALID [31:31], W1C: R360 -/
def GSC_HOST_TX_STAT_VALID : Field := fld 0x29 0x054 31 31 .w1c 0
/-- Table 14.9, GSC.HOST_TX_STAT.CONN [3:0], RO: connection -/
def GSC_HOST_TX_STAT_CONN : Field := fld 0x29 0x054 3 0 .ro 0
/-- Table 14.9, GSC.HOST_RX.PDU [31:0], WO: i = 0–4, as HOST_TXi -/
def GSC_HOST_RX_PDU : Field := fldN 0x29 0x060 31 0 .wo 0 0x4 5
/-- Table 14.9, GSC.HOST_RX_GO.GO [31:31], WO: R360 -/
def GSC_HOST_RX_GO_GO : Field := fld 0x29 0x074 31 31 .wo 0
/-- Table 14.9, GSC.HOST_RX_GO.CONN [3:0], WO: connection -/
def GSC_HOST_RX_GO_CONN : Field := fld 0x29 0x074 3 0 .wo 0
/-- Table 14.9, GSC.CCFG.EN [31:31], RWP: connection on -/
def GSC_CCFG_EN : Field := fldN 0x29 0x100 31 31 .rwp 0 0x40 16
/-- Table 14.9, GSC.CCFG.HOST [30:30], RWP: host link transport -/
def GSC_CCFG_HOST : Field := fldN 0x29 0x100 30 30 .rwp 0 0x40 16
/-- Table 14.9, GSC.CCFG.AGE_EN [29:29], RWP: R356 -/
def GSC_CCFG_AGE_EN : Field := fldN 0x29 0x100 29 29 .rwp 0 0x40 16
/-- Table 14.9, GSC.CCFG.FWD_SAFE [28:28], RWP: R355 -/
def GSC_CCFG_FWD_SAFE : Field := fldN 0x29 0x100 28 28 .rwp 0 0x40 16
/-- Table 14.9, GSC.CCFG.ACTION [25:24], RWP: Table 14.6 -/
def GSC_CCFG_ACTION : Field := fldN 0x29 0x100 25 24 .rwp 0 0x40 16
/-- Table 14.9, GSC.CCFG.MASK [23:20], RWP: outlets -/
def GSC_CCFG_MASK : Field := fldN 0x29 0x100 23 20 .rwp 0 0x40 16
/-- Table 14.9, GSC.CCFG.MAX_GAP [19:16], RWP: 1–15 -/
def GSC_CCFG_MAX_GAP : Field := fldN 0x29 0x100 19 16 .rwp 3 0x40 16
/-- Table 14.9, GSC.CCFG.ERR_LIM [15:12], RWP: 1–15 -/
def GSC_CCFG_ERR_LIM : Field := fldN 0x29 0x100 15 12 .rwp 3 0x40 16
/-- Table 14.9, GSC.CCFG.TAG [7:0], RWP: Table 14.5 -/
def GSC_CCFG_TAG : Field := fldN 0x29 0x100 7 0 .rwp 0 0x40 16
/-- Table 14.9, GSC.CPEER.ADDRESS [15:0], RWP: peer Facet address -/
def GSC_CPEER_ADDRESS : Field := fldN 0x29 0x104 15 0 .rwp 0 0x40 16
/-- Table 14.9, GSC.CID.ID [31:0], RWP: connection identity (R354) -/
def GSC_CID_ID : Field := fldN 0x29 0x108 31 0 .rwp 0 0x40 16
/-- Table 14.9, GSC.CTIME.WD_MS [31:16], RWP: 8–250 -/
def GSC_CTIME_WD_MS : Field := fldN 0x29 0x10C 31 16 .rwp 0x64 0x40 16
/-- Table 14.9, GSC.CTIME.PERIOD_MS [15:8], RWP: 1–125 -/
def GSC_CTIME_PERIOD_MS : Field := fldN 0x29 0x10C 15 8 .rwp 0x14 0x40 16
/-- Table 14.9, GSC.CTIME.AGE_MS [7:0], RWP: 1–250 -/
def GSC_CTIME_AGE_MS : Field := fldN 0x29 0x10C 7 0 .rwp 0x32 0x40 16
/-- Table 14.9, GSC.CSTAT.ERRORS [31:16], RO: failed units since reset, saturating -/
def GSC_CSTAT_ERRORS : Field := fldN 0x29 0x110 31 16 .ro 0 0x40 16
/-- Table 14.9, GSC.CSTAT.RUN [15:8], RO: consecutive failures -/
def GSC_CSTAT_RUN : Field := fldN 0x29 0x110 15 8 .ro 0 0x40 16
/-- Table 14.9, GSC.CSTAT.STATE [1:0], RO: 0 OFF, 1 WAIT, 2 UP, 3 FAULT -/
def GSC_CSTAT_STATE : Field := fldN 0x29 0x110 1 0 .ro 0 0x40 16
/-- Table 14.9, GSC.CCTRL.ACK [0:0], WO: R358 -/
def GSC_CCTRL_ACK : Field := fldN 0x29 0x114 0 0 .wo 0 0x40 16
/-- Table 14.9, GSC.CRX_LO.DATA [31:0], RO: bytes 10–13 of the last accepted unit -/
def GSC_CRX_LO_DATA : Field := fldN 0x29 0x118 31 0 .ro 0 0x40 16
/-- Table 14.9, GSC.CRX_HI.FLAGS [31:24], RO: byte 2 -/
def GSC_CRX_HI_FLAGS : Field := fldN 0x29 0x11C 31 24 .ro 0 0x40 16
/-- Table 14.9, GSC.CRX_HI.DATA [7:0], RO: byte 14 -/
def GSC_CRX_HI_DATA : Field := fldN 0x29 0x11C 7 0 .ro 0 0x40 16
/-- Table 14.9, GSC.CSEQ.TX [31:16], RO: last SEQ sent -/
def GSC_CSEQ_TX : Field := fldN 0x29 0x120 31 16 .ro 0 0x40 16
/-- Table 14.9, GSC.CSEQ.RX [15:0], RO: last SEQ accepted -/
def GSC_CSEQ_RX : Field := fldN 0x29 0x120 15 0 .ro 0 0x40 16
/-- Table 14.9, GSC.CAGE.US [31:0], RO: age of the last accepted unit -/
def GSC_CAGE_US : Field := fldN 0x29 0x124 31 0 .ro 0 0x40 16

/-! ### MIR page (0x2A), 15_mirror_pair.md -/

/-- MIR page text, MIR.CTRL.UNFAIL [1:1], WO: R377 -/
def MIR_CTRL_UNFAIL : Field := fld 0x2A 0x008 1 1 .wo 0
/-- MIR page text, MIR.CTRL.FAIL [0:0], WO: R377 -/
def MIR_CTRL_FAIL : Field := fld 0x2A 0x008 0 0 .wo 0
/-- MIR page text, MIR.STATUS.PARTNER_ABSENT [7:7], RO:  -/
def MIR_STATUS_PARTNER_ABSENT : Field := fld 0x2A 0x00C 7 7 .ro 0
/-- MIR page text, MIR.STATUS.SEL_LEVEL [6:6], RO:  -/
def MIR_STATUS_SEL_LEVEL : Field := fld 0x2A 0x00C 6 6 .ro 0
/-- MIR page text, MIR.STATUS.SELECTED [5:5], RO:  -/
def MIR_STATUS_SELECTED : Field := fld 0x2A 0x00C 5 5 .ro 0
/-- MIR page text, MIR.STATUS.IMAGE_VALID [4:4], RO:  -/
def MIR_STATUS_IMAGE_VALID : Field := fld 0x2A 0x00C 4 4 .ro 0
/-- MIR page text, MIR.STATUS.PARTNER_FAIL [3:3], RO:  -/
def MIR_STATUS_PARTNER_FAIL : Field := fld 0x2A 0x00C 3 3 .ro 0
/-- MIR page text, MIR.STATUS.PARTNER_HB_OK [2:2], RO:  -/
def MIR_STATUS_PARTNER_HB_OK : Field := fld 0x2A 0x00C 2 2 .ro 0
/-- MIR page text, MIR.STATUS.ALIGNED [1:1], RO:  -/
def MIR_STATUS_ALIGNED : Field := fld 0x2A 0x00C 1 1 .ro 0
/-- MIR page text, MIR.STATUS.LANE_UP [0:0], RO:  -/
def MIR_STATUS_LANE_UP : Field := fld 0x2A 0x00C 0 0 .ro 0
/-- Table 15.6, MIR.CFG.UNIT_B [1:1], RO: strap (R373) -/
def MIR_CFG_UNIT_B : Field := fld 0x2A 0x040 1 1 .ro 0
/-- Table 15.6, MIR.CFG.EN [0:0], RW: pair member; CONFIGURE only -/
def MIR_CFG_EN : Field := fld 0x2A 0x040 0 0 .rw 0
/-- Table 15.6, MIR.SEQ_TX.SEQ [31:0], RO: last Mirror frame sent -/
def MIR_SEQ_TX_SEQ : Field := fld 0x2A 0x044 31 0 .ro 0
/-- Table 15.6, MIR.SEQ_RX.SEQ [31:0], RO: last Mirror frame applied -/
def MIR_SEQ_RX_SEQ : Field := fld 0x2A 0x048 31 0 .ro 0
/-- Table 15.6, MIR.LANE_ERR.CRC [31:16], RC: frames failing CRC -/
def MIR_LANE_ERR_CRC : Field := fld 0x2A 0x04C 31 16 .rc 0
/-- Table 15.6, MIR.LANE_ERR.LOST [15:0], RC: sequence gaps -/
def MIR_LANE_ERR_LOST : Field := fld 0x2A 0x04C 15 0 .rc 0
/-- Table 15.6, MIR.PARTNER.VARIANT [31:24], RO: as `SYS.DEVICE.VARIANT` -/
def MIR_PARTNER_VARIANT : Field := fld 0x2A 0x050 31 24 .ro 0
/-- Table 15.6, MIR.PARTNER.CTL_STEP [23:16], RO: partner control die stepping -/
def MIR_PARTNER_CTL_STEP : Field := fld 0x2A 0x050 23 16 .ro 0
/-- Table 15.6, MIR.PARTNER.MODE [3:0], RO: partner mode, Table 2.1 -/
def MIR_PARTNER_MODE : Field := fld 0x2A 0x050 3 0 .ro 0
/-- Table 15.6, MIR.SWITCHES.COUNT [31:0], RO: HANDOVERs completed since reset -/
def MIR_SWITCHES_COUNT : Field := fld 0x2A 0x054 31 0 .ro 0
/-- Table 15.6, MIR.LAST_GAP.US [15:0], RO: R387 -/
def MIR_LAST_GAP_US : Field := fld 0x2A 0x058 15 0 .ro 0
/-- Table 15.6, MIR.HANDOVER_US.US [15:0], RO: duration of the last HANDOVER -/
def MIR_HANDOVER_US_US : Field := fld 0x2A 0x05C 15 0 .ro 0
/-- Table 15.6, MIR.GLITCH.COUNT [31:0], RC: R395 -/
def MIR_GLITCH_COUNT : Field := fld 0x2A 0x060 31 0 .rc 0

/-! ### LSW page (0x2B), 16_load_switches.md -/

/-- LSW page text, LSW.STATUS.LINK_LOST [8:8], RO: R405 -/
def LSW_STATUS_LINK_LOST : Field := fld 0x2B 0x00C 8 8 .ro 0
/-- LSW page text, LSW.STATUS.CLUSTER_WARN [3:0], RO: one bit per cluster -/
def LSW_STATUS_CLUSTER_WARN : Field := fld 0x2B 0x00C 3 0 .ro 0
/-- Table 16.4, LSW.ON.CH [31:0], RO: bit c: channel c conducting -/
def LSW_ON_CH : Field := fld 0x2B 0x040 31 0 .ro 0
/-- Table 16.4, LSW.FAULT.CH [31:0], RO: bit c: LATCHED_OFF, THERM_LATCH, OVERLOAD or OPEN_LOAD set -/
def LSW_FAULT_CH : Field := fld 0x2B 0x044 31 0 .ro 0
/-- Table 16.4, LSW.REARM.CH [31:0], WO: R412 -/
def LSW_REARM_CH : Field := fld 0x2B 0x048 31 0 .wo 0
/-- Table 16.4, LSW.DISS.PEAK_MW [31:16], RC: highest sum since last read -/
def LSW_DISS_PEAK_MW : Field := fld 0x2B 0x04C 31 16 .rc 0
/-- Table 16.4, LSW.DISS.MW [15:0], RO: R401 -/
def LSW_DISS_MW : Field := fld 0x2B 0x04C 15 0 .ro 0
/-- Table 16.4, LSW.CLUSTER_TEMP.C [15:0], RO: signed, 0.1 °C -/
def LSW_CLUSTER_TEMP_C : Field := fldN 0x2B 0x050 15 0 .ro 0 0x4 4
/-- Table 16.4, LSW.SUPPLY.GND_LOST [4:4], RO: Table 16.2 -/
def LSW_SUPPLY_GND_LOST : Field := fld 0x2B 0x060 4 4 .ro 0
/-- Table 16.4, LSW.SUPPLY.REVERSE [3:3], RO: Table 16.2 -/
def LSW_SUPPLY_REVERSE : Field := fld 0x2B 0x060 3 3 .ro 0
/-- Table 16.4, LSW.SUPPLY.OV [2:2], RO: Table 16.2 -/
def LSW_SUPPLY_OV : Field := fld 0x2B 0x060 2 2 .ro 0
/-- Table 16.4, LSW.SUPPLY.UV [1:1], RO: Table 16.2 -/
def LSW_SUPPLY_UV : Field := fld 0x2B 0x060 1 1 .ro 0
/-- Table 16.4, LSW.SUPPLY.LINK_LOST [0:0], RO: R405 -/
def LSW_SUPPLY_LINK_LOST : Field := fld 0x2B 0x060 0 0 .ro 0
/-- Table 16.4, LSW.CH_CFG.SAFE_CTL [31:31], RWP: R407 -/
def LSW_CH_CFG_SAFE_CTL : Field := fldN 0x2B 0x100 31 31 .rwp 0 0x10 32
/-- Table 16.4, LSW.CH_CFG.OL_EN [30:30], RW: R413 -/
def LSW_CH_CFG_OL_EN : Field := fldN 0x2B 0x100 30 30 .rw 0 0x10 32
/-- Table 16.4, LSW.CH_CFG.RETRY_N [27:24], RW: 0–15 -/
def LSW_CH_CFG_RETRY_N : Field := fldN 0x2B 0x100 27 24 .rw 3 0x10 32
/-- Table 16.4, LSW.CH_CFG.INRUSH [23:16], RW: 0.1 A; ILIM to 24 A (heavy) or 8 A (light) -/
def LSW_CH_CFG_INRUSH : Field := { fldN 0x2B 0x100 23 16 .rw 0xf0 0x10 32 with light := some 0x50 }
/-- Table 16.4, LSW.CH_CFG.ILIM [15:8], RW: 0.1 A; Table 16.1 -/
def LSW_CH_CFG_ILIM : Field := { fldN 0x2B 0x100 15 8 .rw 0x64 0x10 32 with light := some 0x1E }
/-- Table 16.4, LSW.CH_TIMING.BLANK_10MS [31:24], RW: 0–255 -/
def LSW_CH_TIMING_BLANK_10MS : Field := fldN 0x2B 0x104 31 24 .rw 0xa 0x10 32
/-- Table 16.4, LSW.CH_TIMING.LIMIT_MS [23:16], RW: 1–255 -/
def LSW_CH_TIMING_LIMIT_MS : Field := fldN 0x2B 0x104 23 16 .rw 0xa 0x10 32
/-- Table 16.4, LSW.CH_TIMING.RETRY_100MS [15:8], RW: 1–255 -/
def LSW_CH_TIMING_RETRY_100MS : Field := fldN 0x2B 0x104 15 8 .rw 0xa 0x10 32
/-- Table 16.4, LSW.CH_TIMING.PWM_HZ [7:0], RW: 10 Hz units; 10–255 -/
def LSW_CH_TIMING_PWM_HZ : Field := fldN 0x2B 0x104 7 0 .rw 0x64 0x10 32
/-- Table 16.4, LSW.CH_CMD.MODE [31:30], RW: 0b00 off, 0b01 on, 0b10 PWM; 0b11 reserved (R404) -/
def LSW_CH_CMD_MODE : Field := fldN 0x2B 0x108 31 30 .rw 0 0x10 32
/-- Table 16.4, LSW.CH_CMD.DUTY [13:0], RW: 0.01 %, 0–10,000 -/
def LSW_CH_CMD_DUTY : Field := fldN 0x2B 0x108 13 0 .rw 0 0x10 32
/-- Table 16.4, LSW.CH_STAT.RETRIES_LEFT [31:28], RO: R412 -/
def LSW_CH_STAT_RETRIES_LEFT : Field := fldN 0x2B 0x10C 31 28 .ro 3 0x10 32
/-- Table 16.4, LSW.CH_STAT.OWNER [27:24], RO: 0 host, 1 loop slot, 2 COOL shared, 3 latch, 4 discharge -/
def LSW_CH_STAT_OWNER : Field := fldN 0x2B 0x10C 27 24 .ro 0 0x10 32
/-- Table 16.4, LSW.CH_STAT.LATCHED_OFF [7:7], RO: R412 -/
def LSW_CH_STAT_LATCHED_OFF : Field := fldN 0x2B 0x10C 7 7 .ro 0 0x10 32
/-- Table 16.4, LSW.CH_STAT.THERM_LATCH [6:6], RO: R408, R411 -/
def LSW_CH_STAT_THERM_LATCH : Field := fldN 0x2B 0x10C 6 6 .ro 0 0x10 32
/-- Table 16.4, LSW.CH_STAT.OPEN_LOAD [5:5], W1C: R413 -/
def LSW_CH_STAT_OPEN_LOAD : Field := fldN 0x2B 0x10C 5 5 .w1c 0 0x10 32
/-- Table 16.4, LSW.CH_STAT.LIMITING [4:4], RO: R408 -/
def LSW_CH_STAT_LIMITING : Field := fldN 0x2B 0x10C 4 4 .ro 0 0x10 32
/-- Table 16.4, LSW.CH_STAT.BLANKING [3:3], RO: R409 -/
def LSW_CH_STAT_BLANKING : Field := fldN 0x2B 0x10C 3 3 .ro 0 0x10 32
/-- Table 16.4, LSW.CH_STAT.OVERLOAD [2:2], W1C: R410 -/
def LSW_CH_STAT_OVERLOAD : Field := fldN 0x2B 0x10C 2 2 .w1c 0 0x10 32
/-- Table 16.4, LSW.CH_STAT.OUT_HIGH [1:1], RO: output above 2.0 V -/
def LSW_CH_STAT_OUT_HIGH : Field := fldN 0x2B 0x10C 1 1 .ro 0 0x10 32
/-- Table 16.4, LSW.CH_STAT.ON [0:0], RO: conducting -/
def LSW_CH_STAT_ON : Field := fldN 0x2B 0x10C 0 0 .ro 0 0x10 32
/-- Table 16.4, LSW.CUR.MA [31:0], RO: c = 0–31 at 0x300 + 4c; signed, updated every 100 µs -/
def LSW_CUR_MA : Field := fldN 0x2B 0x300 31 0 .ro 0 0x4 32
/-- Table 16.4, LSW.TEMP.C [15:0], RO: channel sensor, signed, 0.1 °C -/
def LSW_TEMP_C : Field := fldN 0x2B 0x380 15 0 .ro 0 0x4 32

/-! ### LSX page (0x2C), 16_load_switches.md -/

/-- LSX page text, LSX.CTRL.GO [31:31], WO: R416 -/
def LSX_CTRL_GO : Field := fld 0x2C 0x008 31 31 .wo 0
/-- LSX page text, LSX.CTRL.CH [5:0], WO: R416 -/
def LSX_CTRL_CH : Field := fld 0x2C 0x008 5 0 .wo 0
/-- Table 16.5, LSX.CFG.EN [31:31], RW: scan and chain on -/
def LSX_CFG_EN : Field := fld 0x2C 0x040 31 31 .rw 0
/-- Table 16.5, LSX.CFG.SETTLE_US [23:16], RW: 2–255 -/
def LSX_CFG_SETTLE_US : Field := fld 0x2C 0x040 23 16 .rw 0x14
/-- Table 16.5, LSX.CFG.FAULT_MV [15:0], RW: 3,000 mV -/
def LSX_CFG_FAULT_MV : Field := fld 0x2C 0x040 15 0 .rw 0xbb8
/-- Table 16.5, LSX.CHAIN.LEN [6:0], RW: 8–64 bits -/
def LSX_CHAIN_LEN : Field := fld 0x2C 0x044 6 0 .rw 0x40
/-- Table 16.5, LSX.SCAN_US.US [31:0], RO: present scan period -/
def LSX_SCAN_US_US : Field := fld 0x2C 0x048 31 0 .ro 0
/-- Table 16.5, LSX.XCFG.EN [31:31], RW: channel scanned and commanded -/
def LSX_XCFG_EN : Field := fldN 0x2C 0x100 31 31 .rw 0 0x10 64
/-- Table 16.5, LSX.XCFG.SAFE_CTL [30:30], RWP: R407 -/
def LSX_XCFG_SAFE_CTL : Field := fldN 0x2C 0x100 30 30 .rwp 0 0x10 64
/-- Table 16.5, LSX.XCFG.RETRY_N [27:24], RW: 0–15 -/
def LSX_XCFG_RETRY_N : Field := fldN 0x2C 0x100 27 24 .rw 3 0x10 64
/-- Table 16.5, LSX.XCFG.ILIM [23:16], RW: 0.1 A (5 A) -/
def LSX_XCFG_ILIM : Field := fldN 0x2C 0x100 23 16 .rw 0x32 0x10 64
/-- Table 16.5, LSX.XCFG.BLANK_10MS [15:8], RW: R409 -/
def LSX_XCFG_BLANK_10MS : Field := fldN 0x2C 0x100 15 8 .rw 0xa 0x10 64
/-- Table 16.5, LSX.XCFG.RETRY_100MS [7:0], RW: R412 -/
def LSX_XCFG_RETRY_100MS : Field := fldN 0x2C 0x100 7 0 .rw 0xa 0x10 64
/-- Table 16.5, LSX.XCMD.ON [0:0], RW: command -/
def LSX_XCMD_ON : Field := fldN 0x2C 0x104 0 0 .rw 0 0x10 64
/-- Table 16.5, LSX.XGAIN.GAIN [31:0], RW: binary32, mA per mV -/
def LSX_XGAIN_GAIN : Field := fldN 0x2C 0x108 31 0 .rw 0 0x10 64
/-- Table 16.5, LSX.XSTAT.CUR [31:16], RO: 0.1 A -/
def LSX_XSTAT_CUR : Field := fldN 0x2C 0x10C 31 16 .ro 0 0x10 64
/-- Table 16.5, LSX.XSTAT.RETRIES_LEFT [11:8], RO: R416 -/
def LSX_XSTAT_RETRIES_LEFT : Field := fldN 0x2C 0x10C 11 8 .ro 3 0x10 64
/-- Table 16.5, LSX.XSTAT.LATCHED_OFF [7:7], RO: R416 -/
def LSX_XSTAT_LATCHED_OFF : Field := fldN 0x2C 0x10C 7 7 .ro 0 0x10 64
/-- Table 16.5, LSX.XSTAT.FAULT_LVL [6:6], RO: R416 -/
def LSX_XSTAT_FAULT_LVL : Field := fldN 0x2C 0x10C 6 6 .ro 0 0x10 64
/-- Table 16.5, LSX.XSTAT.BLANKING [3:3], RO: R409 -/
def LSX_XSTAT_BLANKING : Field := fldN 0x2C 0x10C 3 3 .ro 0 0x10 64
/-- Table 16.5, LSX.XSTAT.OVERLOAD [2:2], W1C: R416 -/
def LSX_XSTAT_OVERLOAD : Field := fldN 0x2C 0x10C 2 2 .w1c 0 0x10 64
/-- Table 16.5, LSX.XSTAT.ON [0:0], RO: command bit sent -/
def LSX_XSTAT_ON : Field := fldN 0x2C 0x10C 0 0 .ro 0 0x10 64

/-! ### HOST page (0x2D), 17_host_and_dma.md -/

/-- Table 17.8, HOST.PCIE_STAT.SPEED [11:8], RO: 1–4 = 2.5, 5, 8, 16 GT/s -/
def HOST_PCIE_STAT_SPEED : Field := fld 0x2D 0x040 11 8 .ro 0
/-- Table 17.8, HOST.PCIE_STAT.WIDTH [7:4], RO: 1, 2 or 4 lanes -/
def HOST_PCIE_STAT_WIDTH : Field := fld 0x2D 0x040 7 4 .ro 0
/-- Table 17.8, HOST.PCIE_STAT.MSIX_EN [1:1], RO: MSI-X enabled by the host -/
def HOST_PCIE_STAT_MSIX_EN : Field := fld 0x2D 0x040 1 1 .ro 0
/-- Table 17.8, HOST.PCIE_STAT.LINK_UP [0:0], RO: link up -/
def HOST_PCIE_STAT_LINK_UP : Field := fld 0x2D 0x040 0 0 .ro 0
/-- Table 17.8, HOST.PCI_ID.DEVICE [31:16], RO: R423 -/
def HOST_PCI_ID_DEVICE : Field := fld 0x2D 0x044 31 16 .ro 0
/-- Table 17.8, HOST.PCI_ID.VENDOR [15:0], RO: R423 -/
def HOST_PCI_ID_VENDOR : Field := fld 0x2D 0x044 15 0 .ro 0x1f3c
/-- Table 17.8, HOST.SPI_CFG.DUMMY [3:0], RW: dummy clocks, 2–15 -/
def HOST_SPI_CFG_DUMMY : Field := fld 0x2D 0x048 3 0 .rw 8
/-- Table 17.8, HOST.SPI_ERR.CRC [31:16], RC: R426 -/
def HOST_SPI_ERR_CRC : Field := fld 0x2D 0x04C 31 16 .rc 0
/-- Table 17.8, HOST.SPI_ERR.ABORTED [15:0], RC: R426 -/
def HOST_SPI_ERR_ABORTED : Field := fld 0x2D 0x04C 15 0 .rc 0
/-- Table 17.8, HOST.IRQ_CFG.INTN_EN [0:0], RW: R430 -/
def HOST_IRQ_CFG_INTN_EN : Field := fld 0x2D 0x050 0 0 .rw 0
/-- Table 17.8, HOST.VEC_EOI.VECTOR [5:0], WO: R429 -/
def HOST_VEC_EOI_VECTOR : Field := fld 0x2D 0x054 5 0 .wo 0
/-- Table 17.8, HOST.VEC_STAT_LO.COND [31:0], RO: vectors 0–31 -/
def HOST_VEC_STAT_LO_COND : Field := fld 0x2D 0x058 31 0 .ro 0
/-- Table 17.8, HOST.VEC_STAT_HI.COND [31:0], RO: vectors 32–63 -/
def HOST_VEC_STAT_HI_COND : Field := fld 0x2D 0x05C 31 0 .ro 0
/-- Table 17.8, HOST.PAGE_PEND.PAGE [31:0], RO: j = 0–2 at 0x060 + 4j; page 32j + b in bit b; pages 0x00–0x46 -/
def HOST_PAGE_PEND_PAGE : Field := fldN 0x2D 0x060 31 0 .ro 0 0x4 3
/-- Table 17.8, HOST.INTN_MASK_LO.EN [31:0], RW: vectors 0–31 (R430) -/
def HOST_INTN_MASK_LO_EN : Field := fld 0x2D 0x06C 31 0 .rw 0xffffffff
/-- Table 17.8, HOST.INTN_MASK_HI.EN [31:0], RW: vectors 32–63 -/
def HOST_INTN_MASK_HI_EN : Field := fld 0x2D 0x070 31 0 .rw 0xffffffff
/-- Table 17.8, HOST.MBX_STATE.STATE [31:0], RO: slot s in [2s+1:2s]: 0 FREE, 1 FULL, 2 BUSY -/
def HOST_MBX_STATE_STATE : Field := fld 0x2D 0x080 31 0 .ro 0
/-- Table 17.8, HOST.MBX_POST.SLOT [3:0], WO: 8–15 (R432) -/
def HOST_MBX_POST_SLOT : Field := fld 0x2D 0x084 3 0 .wo 0
/-- Table 17.8, HOST.MBX_DONE.SLOT [3:0], WO: 0–7 (R432) -/
def HOST_MBX_DONE_SLOT : Field := fld 0x2D 0x088 3 0 .wo 0
/-- Table 17.8, HOST.VEC_MAP.MAP [31:0], RW: i = 0–17 at 0x100 + 4i; page 4i + b in [8b+7:8b]: [7] DIS, [6] zero, [5:0] vector -/
def HOST_VEC_MAP_MAP : Field := fldN 0x2D 0x100 31 0 .rw 0 0x4 18

/-! ### DMA page (0x2E), 17_host_and_dma.md -/

/-- Table 17.9, DMA.CFG.ENABLE [0:0], RW: 0 stops granting the mover -/
def DMA_CFG_ENABLE : Field := fld 0x2E 0x040 0 0 .rw 1
/-- Table 17.9, DMA.ACTIVE.BUSY [7:7], RO: mover in use -/
def DMA_ACTIVE_BUSY : Field := fld 0x2E 0x044 7 7 .ro 0
/-- Table 17.9, DMA.ACTIVE.CHANNEL [3:0], RO: channel holding the mover -/
def DMA_ACTIVE_CHANNEL : Field := fld 0x2E 0x044 3 0 .ro 0
/-- Table 17.9, DMA.PRIO.PRIO [31:0], RW: channel c in [2c+1:2c], 0 highest -/
def DMA_PRIO_PRIO : Field := fld 0x2E 0x048 31 0 .rw 0
/-- Table 17.9, DMA.READY.CH [15:0], RO: channels waiting for the mover -/
def DMA_READY_CH : Field := fld 0x2E 0x04C 15 0 .ro 0
/-- Table 17.9, DMA.BYTES_LO.BYTES [31:0], RO: bytes moved since reset [31:0] -/
def DMA_BYTES_LO_BYTES : Field := fld 0x2E 0x050 31 0 .ro 0
/-- Table 17.9, DMA.BYTES_HI.BYTES [31:0], RO: [63:32] -/
def DMA_BYTES_HI_BYTES : Field := fld 0x2E 0x054 31 0 .ro 0

/-! ### DMACH page (0x2F), 17_host_and_dma.md -/

/-- Table 17.10, DMACH.MODE.MODE [1:0], RW: 0b00 off, 0b01 direct, 0b10 chain; written in IDLE only -/
def DMACH_MODE_MODE : Field := fld 0x2F 0x040 1 0 .rw 0
/-- Table 17.10, DMACH.STATE.STATE [3:0], RO: 0 IDLE, 1 FETCH, 2 RUN, 3 WAIT_MOVER, 4 PACED_WAIT, 5 PAUSED, 6 IDLE_AT_TAIL, 7 ERROR -/
def DMACH_STATE_STATE : Field := fld 0x2F 0x044 3 0 .ro 0
/-- Table 17.10, DMACH.CMD.OP [3:0], WO: 1 GO, 2 START, 3 PAUSE, 4 RESUME, 5 SKIP, 6 RETRY, 7 ABORT -/
def DMACH_CMD_OP : Field := fld 0x2F 0x048 3 0 .wo 0
/-- Table 17.10, DMACH.HEAD_LO.ADDR [31:0], RW: first descriptor [31:0] -/
def DMACH_HEAD_LO_ADDR : Field := fld 0x2F 0x04C 31 0 .rw 0
/-- Table 17.10, DMACH.HEAD_HI.ADDR [31:0], RW: [63:32] -/
def DMACH_HEAD_HI_ADDR : Field := fld 0x2F 0x050 31 0 .rw 0
/-- Table 17.10, DMACH.APPEND.DOORBELL [31:0], WO: R438 -/
def DMACH_APPEND_DOORBELL : Field := fld 0x2F 0x054 31 0 .wo 0
/-- Table 17.10, DMACH.APPEND_CNT.COUNT [31:0], RO: R438 -/
def DMACH_APPEND_CNT_COUNT : Field := fld 0x2F 0x058 31 0 .ro 0
/-- Table 17.10, DMACH.SAMPLED.COUNT [31:0], RO: R438 -/
def DMACH_SAMPLED_COUNT : Field := fld 0x2F 0x05C 31 0 .ro 0
/-- Table 17.10, DMACH.CUR_DESC_LO.ADDR [31:0], RO: descriptor in hand [31:0] -/
def DMACH_CUR_DESC_LO_ADDR : Field := fld 0x2F 0x060 31 0 .ro 0
/-- Table 17.10, DMACH.CUR_DESC_HI.ADDR [31:0], RO: [63:32] -/
def DMACH_CUR_DESC_HI_ADDR : Field := fld 0x2F 0x064 31 0 .ro 0
/-- Table 17.10, DMACH.CUR_SRC_LO.ADDR [31:0], RO: next source byte (R437) -/
def DMACH_CUR_SRC_LO_ADDR : Field := fld 0x2F 0x068 31 0 .ro 0
/-- Table 17.10, DMACH.CUR_SRC_HI.ADDR [31:0], RO:  -/
def DMACH_CUR_SRC_HI_ADDR : Field := fld 0x2F 0x06C 31 0 .ro 0
/-- Table 17.10, DMACH.CUR_DST_LO.ADDR [31:0], RO: next destination byte -/
def DMACH_CUR_DST_LO_ADDR : Field := fld 0x2F 0x070 31 0 .ro 0
/-- Table 17.10, DMACH.CUR_DST_HI.ADDR [31:0], RO:  -/
def DMACH_CUR_DST_HI_ADDR : Field := fld 0x2F 0x074 31 0 .ro 0
/-- Table 17.10, DMACH.REMAIN.BYTES [20:0], RO: bytes still to move -/
def DMACH_REMAIN_BYTES : Field := fld 0x2F 0x078 20 0 .ro 0
/-- Table 17.10, DMACH.SH_SRC_LO.ADDR [31:0], RW: shadow source (R434) -/
def DMACH_SH_SRC_LO_ADDR : Field := fld 0x2F 0x07C 31 0 .rw 0
/-- Table 17.10, DMACH.SH_SRC_HI.ADDR [31:0], RW:  -/
def DMACH_SH_SRC_HI_ADDR : Field := fld 0x2F 0x080 31 0 .rw 0
/-- Table 17.10, DMACH.SH_DST_LO.ADDR [31:0], RW: shadow destination -/
def DMACH_SH_DST_LO_ADDR : Field := fld 0x2F 0x084 31 0 .rw 0
/-- Table 17.10, DMACH.SH_DST_HI.ADDR [31:0], RW:  -/
def DMACH_SH_DST_HI_ADDR : Field := fld 0x2F 0x088 31 0 .rw 0
/-- Table 17.10, DMACH.SH_LEN.CTRL [31:24], RW: as descriptor CTRL; LAST ignored -/
def DMACH_SH_LEN_CTRL : Field := fld 0x2F 0x08C 31 24 .rw 0
/-- Table 17.10, DMACH.SH_LEN.LEN [20:0], RW: 1–1,048,576 -/
def DMACH_SH_LEN_LEN : Field := fld 0x2F 0x08C 20 0 .rw 0
/-- Table 17.10, DMACH.SH_STAT.ARMED [0:0], RO: R434 -/
def DMACH_SH_STAT_ARMED : Field := fld 0x2F 0x090 0 0 .ro 0
/-- Table 17.10, DMACH.PACE.HI [31:16], RW: start level, records (R440) -/
def DMACH_PACE_HI : Field := fld 0x2F 0x094 31 16 .rw 0x10
/-- Table 17.10, DMACH.PACE.LO [15:0], RW: stop level, records -/
def DMACH_PACE_LO : Field := fld 0x2F 0x094 15 0 .rw 0
/-- Table 17.10, DMACH.PACE_CFG.SRC [1:0], RW: R440; 0b11 reserved -/
def DMACH_PACE_CFG_SRC : Field := fld 0x2F 0x098 1 0 .rw 0
/-- Table 17.10, DMACH.LAST_STATUS.FLAGS [31:29], RO: DONE, BAD, OVERLAP -/
def DMACH_LAST_STATUS_FLAGS : Field := fld 0x2F 0x09C 31 29 .ro 0
/-- Table 17.10, DMACH.LAST_STATUS.CODE [15:0], RO: Table 17.7; 0 none -/
def DMACH_LAST_STATUS_CODE : Field := fld 0x2F 0x09C 15 0 .ro 0
/-- Table 17.10, DMACH.DONE_CNT.COUNT [31:0], RO: descriptors completed since reset -/
def DMACH_DONE_CNT_COUNT : Field := fld 0x2F 0x0A0 31 0 .ro 0

/-! ### LIFE page (0x3F), 18_lifetime_and_integrity.md -/

/-- Table 18.4, LIFE.VIEW.DELTA [0:0], RW: R451 -/
def LIFE_VIEW_DELTA : Field := fld 0x3F 0x040 0 0 .rw 0
/-- Table 18.4, LIFE.BASELINE.KEY [31:0], RWP: R451; reads 0 -/
def LIFE_BASELINE_KEY : Field := fld 0x3F 0x044 31 0 .rwp 0
/-- Table 18.4, LIFE.BASE_SEC_LO.SEC [31:0], RO: baseline time [31:0] -/
def LIFE_BASE_SEC_LO_SEC : Field := fld 0x3F 0x048 31 0 .ro 0
/-- Table 18.4, LIFE.BASE_HI.EPOCH [31:16], RO: baseline epoch -/
def LIFE_BASE_HI_EPOCH : Field := fld 0x3F 0x04C 31 16 .ro 0
/-- Table 18.4, LIFE.BASE_HI.SEC [15:0], RO: seconds [47:32] -/
def LIFE_BASE_HI_SEC : Field := fld 0x3F 0x04C 15 0 .ro 0
/-- Table 18.4, LIFE.BASE_COUNT.COUNT [31:0], RO: baselines since manufacture -/
def LIFE_BASE_COUNT_COUNT : Field := fld 0x3F 0x050 31 0 .ro 0
/-- Table 18.4, LIFE.HOST_INC.AMOUNT [31:16], WO: R450 -/
def LIFE_HOST_INC_AMOUNT : Field := fld 0x3F 0x054 31 16 .wo 0
/-- Table 18.4, LIFE.HOST_INC.INDEX [8:0], WO: 448–511 -/
def LIFE_HOST_INC_INDEX : Field := fld 0x3F 0x054 8 0 .wo 0
/-- Table 18.4, LIFE.HOST_HIST.HIST [14:8], WO: 80–127 -/
def LIFE_HOST_HIST_HIST : Field := fld 0x3F 0x058 14 8 .wo 0
/-- Table 18.4, LIFE.HOST_HIST.BIN [4:0], WO: 0–31 -/
def LIFE_HOST_HIST_BIN : Field := fld 0x3F 0x058 4 0 .wo 0
/-- Table 18.4, LIFE.UPDATE_SEQ.SEQ [31:0], RO: R452 -/
def LIFE_UPDATE_SEQ_SEQ : Field := fld 0x3F 0x05C 31 0 .ro 0

/-! ### MEM page (0x40), 18_lifetime_and_integrity.md -/

/-- Table 18.5, MEM.SCRUB_CFG.HOURS [31:16], RW: 1–720 -/
def MEM_SCRUB_CFG_HOURS : Field := fld 0x40 0x040 31 16 .rw 0x18
/-- Table 18.5, MEM.SCRUB_CFG.EN [0:0], RW: R457 -/
def MEM_SCRUB_CFG_EN : Field := fld 0x40 0x040 0 0 .rw 1
/-- Table 18.5, MEM.SCRUB_POS.BLOCK [13:0], RO: next block to scrub -/
def MEM_SCRUB_POS_BLOCK : Field := fld 0x40 0x044 13 0 .ro 0
/-- Table 18.5, MEM.SCRUB_PASSES.COUNT [31:0], RO: passes since manufacture -/
def MEM_SCRUB_PASSES_COUNT : Field := fld 0x40 0x048 31 0 .ro 0
/-- Table 18.5, MEM.INNER_CORR.COUNT [31:0], RO: since reset, saturating -/
def MEM_INNER_CORR_COUNT : Field := fld 0x40 0x04C 31 0 .ro 0
/-- Table 18.5, MEM.OUTER_CORR.COUNT [31:0], RO: since reset, saturating -/
def MEM_OUTER_CORR_COUNT : Field := fld 0x40 0x050 31 0 .ro 0
/-- Table 18.5, MEM.UNCORR.COUNT [31:0], RO: since reset, saturating -/
def MEM_UNCORR_COUNT : Field := fld 0x40 0x054 31 0 .ro 0
/-- Table 18.5, MEM.LAST_ADDR.UNCORR [31:31], RO: last event was uncorrectable -/
def MEM_LAST_ADDR_UNCORR : Field := fld 0x40 0x058 31 31 .ro 0
/-- Table 18.5, MEM.LAST_ADDR.ADDR [21:0], RO: store offset of the block -/
def MEM_LAST_ADDR_ADDR : Field := fld 0x40 0x058 21 0 .ro 0
/-- Table 18.5, MEM.BAD_COUNT.COUNT [4:0], RO: blocks listed, 0–16 -/
def MEM_BAD_COUNT_COUNT : Field := fld 0x40 0x05C 4 0 .ro 0
/-- Table 18.5, MEM.BAD.VALID [31:31], RO: i = 0–15 at 0x060 + 4i -/
def MEM_BAD_VALID : Field := fldN 0x40 0x060 31 31 .ro 0 0x4 16
/-- Table 18.5, MEM.BAD.BLOCK [13:0], RO: block number -/
def MEM_BAD_BLOCK : Field := fldN 0x40 0x060 13 0 .ro 0 0x4 16

/-! ### PULSE page (0x41), 12_lens_metrology.md -/

/-- Table 12.9, PULSE.CFG.POLARITY [9:9], RWS: 0 active high -/
def PULSE_CFG_POLARITY : Field := fldN 0x41 0x040 9 9 .rws 0 0x20 8
/-- Table 12.9, PULSE.CFG.AH [8:8], RWS: 0 Wh, 1 Ah -/
def PULSE_CFG_AH : Field := fldN 0x41 0x040 8 8 .rws 0 0x20 8
/-- Table 12.9, PULSE.CFG.EXPORT [7:7], RWS: direction counted -/
def PULSE_CFG_EXPORT : Field := fldN 0x41 0x040 7 7 .rws 0 0x20 8
/-- Table 12.9, PULSE.CFG.EN [4:4], RWS: output on -/
def PULSE_CFG_EN : Field := fldN 0x41 0x040 4 4 .rws 0 0x20 8
/-- Table 12.9, PULSE.CFG.POINT [3:0], RWS: meter point -/
def PULSE_CFG_POINT : Field := fldN 0x41 0x040 3 0 .rws 0 0x20 8
/-- Table 12.9, PULSE.CONST.UNITS [31:0], RWS: µWh or µAh per pulse (1 Wh) -/
def PULSE_CONST_UNITS : Field := fldN 0x41 0x044 31 0 .rws 0xf4240 0x20 8
/-- Table 12.9, PULSE.TIMING.WIDTH_MS [31:16], RWS: 20 ms -/
def PULSE_TIMING_WIDTH_MS : Field := fldN 0x41 0x048 31 16 .rws 0x14 0x20 8
/-- Table 12.9, PULSE.TIMING.GAP_MS [15:0], RWS: 20 ms -/
def PULSE_TIMING_GAP_MS : Field := fldN 0x41 0x048 15 0 .rws 0x14 0x20 8
/-- Table 12.9, PULSE.STAT.PENDING [31:16], RO: R284 -/
def PULSE_STAT_PENDING : Field := fldN 0x41 0x04C 31 16 .ro 0 0x20 8
/-- Table 12.9, PULSE.STAT.OVERFLOW [1:1], W1C: R284 -/
def PULSE_STAT_OVERFLOW : Field := fldN 0x41 0x04C 1 1 .w1c 0 0x20 8
/-- Table 12.9, PULSE.STAT.ACTIVE [0:0], RO: output active -/
def PULSE_STAT_ACTIVE : Field := fldN 0x41 0x04C 0 0 .ro 0 0x20 8
/-- Table 12.9, PULSE.RES_UWH.UNITS [31:0], RO: residue, µWh or µAh, rounded down -/
def PULSE_RES_UWH_UNITS : Field := fldN 0x41 0x050 31 0 .ro 0 0x20 8
/-- Table 12.9, PULSE.COUNT.COUNT [31:0], RO: pulses since manufacture, wraps -/
def PULSE_COUNT_COUNT : Field := fldN 0x41 0x054 31 0 .ro 0 0x20 8

/-! ### SENS page (0x42), 09_cable_cooling.md -/

/-- Table 9.5, SENS.SAR_STAT.FAST_NOW [15:8], RO: channels converted every frame, ≤ 28 -/
def SENS_SAR_STAT_FAST_NOW : Field := fld 0x42 0x040 15 8 .ro 0
/-- Table 9.5, SENS.SAR_STAT.FAST_CFG [7:0], RO: channels with RATE 10 µs, ≤ 16 -/
def SENS_SAR_STAT_FAST_CFG : Field := fld 0x42 0x040 7 0 .ro 0
/-- Table 9.5, SENS.INVALID_LO.CH [31:0], RO: bit n: channel n invalid, 0–31 -/
def SENS_INVALID_LO_CH : Field := fld 0x42 0x044 31 0 .ro 0
/-- Table 9.5, SENS.INVALID_HI.CH [15:0], RO: channels 32–47 -/
def SENS_INVALID_HI_CH : Field := fld 0x42 0x048 15 0 .ro 0
/-- Table 9.5, SENS.STUCK.SECONDS [15:0], RW: R197 -/
def SENS_STUCK_SECONDS : Field := fld 0x42 0x04C 15 0 .rw 0xa
/-- Table 9.5, SENS.CH_CFG.ZERO [31:16], RW: code at zero -/
def SENS_CH_CFG_ZERO : Field := fldN 0x42 0x100 31 16 .rw 0 0x10 48
/-- Table 9.5, SENS.CH_CFG.KIND [15:12], RW: Table 9.1 -/
def SENS_CH_CFG_KIND : Field := fldN 0x42 0x100 15 12 .rw 0 0x10 48
/-- Table 9.5, SENS.CH_CFG.RATE [9:8], RW: 0b00 1 ms, 0b01 100 µs, 0b10 10 µs -/
def SENS_CH_CFG_RATE : Field := fldN 0x42 0x100 9 8 .rw 0 0x10 48
/-- Table 9.5, SENS.CH_CFG.STUCK_EN [7:7], RW: R197 -/
def SENS_CH_CFG_STUCK_EN : Field := fldN 0x42 0x100 7 7 .rw 0 0x10 48
/-- Table 9.5, SENS.CH_CFG.FILTER [6:4], RW: mean of 2^FILTER codes, 0–6 -/
def SENS_CH_CFG_FILTER : Field := fldN 0x42 0x100 6 4 .rw 0 0x10 48
/-- Table 9.5, SENS.CH_CFG.EN [0:0], RW: channel on -/
def SENS_CH_CFG_EN : Field := fldN 0x42 0x100 0 0 .rw 0 0x10 48
/-- Table 9.5, SENS.CH_GAIN.GAIN [31:0], RW: binary32, unit (Ω for KIND 0x2) per code -/
def SENS_CH_GAIN_GAIN : Field := fldN 0x42 0x104 31 0 .rw 0 0x10 48
/-- Table 9.5, SENS.CH_LIM.HI [31:16], RW: highest valid code -/
def SENS_CH_LIM_HI : Field := fldN 0x42 0x108 31 16 .rw 0xffff 0x10 48
/-- Table 9.5, SENS.CH_LIM.LO [15:0], RW: lowest valid code -/
def SENS_CH_LIM_LO : Field := fldN 0x42 0x108 15 0 .rw 0 0x10 48
/-- Table 9.5, SENS.CH_VAL.VALUE [31:0], RO: binary32 in the unit of KIND -/
def SENS_CH_VAL_VALUE : Field := fldN 0x42 0x10C 31 0 .ro 0 0x10 48

/-! ### EVT page (0x43), 03_register_pages.md -/

/-- Table 3.7, EVT.HEAD.INDEX [12:0], RO: next entry to be written -/
def EVT_HEAD_INDEX : Field := fld 0x43 0x040 12 0 .ro 0
/-- Table 3.7, EVT.TAIL.INDEX [12:0], RW: oldest unread entry; host advances it after reading -/
def EVT_TAIL_INDEX : Field := fld 0x43 0x044 12 0 .rw 0
/-- Table 3.7, EVT.FILL.COUNT [13:0], RO: records between TAIL and HEAD, 0–8,191 -/
def EVT_FILL_COUNT : Field := fld 0x43 0x048 13 0 .ro 0
/-- Table 3.7, EVT.LOST.COUNT [31:0], RC: records overwritten unread -/
def EVT_LOST_COUNT : Field := fld 0x43 0x04C 31 0 .rc 0
/-- Table 3.7, EVT.SUPPRESSED.COUNT [31:0], RC: repeats not logged (R61) -/
def EVT_SUPPRESSED_COUNT : Field := fld 0x43 0x050 31 0 .rc 0
/-- Table 3.7, EVT.LOG_CFG.FILL_IRQ [31:16], RW: FILL at which 0x43_02 EVT LOG_FILL is raised -/
def EVT_LOG_CFG_FILL_IRQ : Field := fld 0x43 0x054 31 16 .rw 0x1000
/-- Table 3.7, EVT.LOG_CFG.MIN_SEV [2:0], RW: lowest severity logged -/
def EVT_LOG_CFG_MIN_SEV : Field := fld 0x43 0x054 2 0 .rw 1
/-- Table 3.7, EVT.APPENDED.COUNT [31:0], RO: records appended since manufacture, wraps -/
def EVT_APPENDED_COUNT : Field := fld 0x43 0x058 31 0 .ro 0

/-! ### DIAG page (0x44), 03_register_pages.md -/

/-- Table 3.8, DIAG.SELFTEST.DURATION_US [31:8], RO: last SELFTEST duration, µs, ≤ 120,000 -/
def DIAG_SELFTEST_DURATION_US : Field := fld 0x44 0x040 31 8 .ro 0
/-- Table 3.8, DIAG.SELFTEST.FIRST_FAIL [7:0], RO: first failing test number; 0 = none -/
def DIAG_SELFTEST_FIRST_FAIL : Field := fld 0x44 0x040 7 0 .ro 0
/-- Table 3.8, DIAG.CYCLE.COUNT [31:0], RO: completed 10 ms diagnostic intervals since reset -/
def DIAG_CYCLE_COUNT : Field := fld 0x44 0x044 31 0 .ro 0
/-- Table 3.8, DIAG.CYCLE_MAX.US [31:0], RO: longest interval since reset, µs -/
def DIAG_CYCLE_MAX_US : Field := fld 0x44 0x048 31 0 .ro 0
/-- Table 3.8, DIAG.RUN_FAIL.TEST [15:0], RO: first failing periodic test since reset -/
def DIAG_RUN_FAIL_TEST : Field := fld 0x44 0x04C 15 0 .ro 0
/-- Table 3.8, DIAG.SRAM_ECC.UNCORR [31:16], RO: uncorrectable words since reset, saturating -/
def DIAG_SRAM_ECC_UNCORR : Field := fld 0x44 0x050 31 16 .ro 0
/-- Table 3.8, DIAG.SRAM_ECC.CORR [15:0], RO: corrected words since reset, saturating -/
def DIAG_SRAM_ECC_CORR : Field := fld 0x44 0x050 15 0 .ro 0
/-- Table 3.8, DIAG.SRAM_ADDR.ADDR [31:0], RO: byte address of the last ECC error -/
def DIAG_SRAM_ADDR_ADDR : Field := fld 0x44 0x054 31 0 .ro 0
/-- Table 3.8, DIAG.D2D_CRC.POWER [31:16], RO: control–power frames rejected -/
def DIAG_D2D_CRC_POWER : Field := fld 0x44 0x058 31 16 .ro 0
/-- Table 3.8, DIAG.D2D_CRC.METROLOGY [15:0], RO: control–metrology frames rejected -/
def DIAG_D2D_CRC_METROLOGY : Field := fld 0x44 0x058 15 0 .ro 0

/-! ### PAIRARB page (0x45), 15_mirror_pair.md -/

/-- Table 15.7, PAIRARB.CFG.HOLDOFF_MS [31:16], RW: time a unit must stay unfailed before it may be selected, 10–10,000 (R380) -/
def PAIRARB_CFG_HOLDOFF_MS : Field := fld 0x45 0x040 31 16 .rw 0x64
/-- Table 15.7, PAIRARB.CFG.EN [3:0], RW: pair k arbitrated -/
def PAIRARB_CFG_EN : Field := fld 0x45 0x040 3 0 .rw 0
/-- Table 15.7, PAIRARB.PAIR_STAT.HOLDOFF [7:7], RO: the unselected unit is not yet qualified (R380) -/
def PAIRARB_PAIR_STAT_HOLDOFF : Field := fldN 0x45 0x080 7 7 .ro 0 0x10 4
/-- Table 15.7, PAIRARB.PAIR_STAT.B_FAIL [6:6], RO: ARB_FLB_Nk low -/
def PAIRARB_PAIR_STAT_B_FAIL : Field := fldN 0x45 0x080 6 6 .ro 0 0x10 4
/-- Table 15.7, PAIRARB.PAIR_STAT.A_FAIL [5:5], RO: ARB_FLA_Nk low -/
def PAIRARB_PAIR_STAT_A_FAIL : Field := fldN 0x45 0x080 5 5 .ro 0 0x10 4
/-- Table 15.7, PAIRARB.PAIR_STAT.B_HB_OK [4:4], RO: R376 -/
def PAIRARB_PAIR_STAT_B_HB_OK : Field := fldN 0x45 0x080 4 4 .ro 0 0x10 4
/-- Table 15.7, PAIRARB.PAIR_STAT.A_HB_OK [3:3], RO: R376 -/
def PAIRARB_PAIR_STAT_A_HB_OK : Field := fldN 0x45 0x080 3 3 .ro 0 0x10 4
/-- Table 15.7, PAIRARB.PAIR_STAT.SELECT [0:0], RO: ARB_OUTk level; 1 = unit A -/
def PAIRARB_PAIR_STAT_SELECT : Field := fldN 0x45 0x080 0 0 .ro 0 0x10 4
/-- Table 15.7, PAIRARB.PAIR_FORCE.UNIT [1:0], RWP: write 0b01 unit A, 0b10 unit B (R381); reads 0 -/
def PAIRARB_PAIR_FORCE_UNIT : Field := fldN 0x45 0x084 1 0 .rwp 0 0x10 4
/-- Table 15.7, PAIRARB.PAIR_COUNT.COUNT [31:0], RO: switches since reset -/
def PAIRARB_PAIR_COUNT_COUNT : Field := fldN 0x45 0x088 31 0 .ro 0 0x10 4

/-! ### SESS page (0x46), 13_billing.md -/

/-- Table 13.10, SESS.HEAD.INDEX [10:0], RO: next entry written -/
def SESS_HEAD_INDEX : Field := fld 0x46 0x040 10 0 .ro 0
/-- Table 13.10, SESS.TAIL.INDEX [10:0], RW: oldest unread entry -/
def SESS_TAIL_INDEX : Field := fld 0x46 0x044 10 0 .rw 0
/-- Table 13.10, SESS.FILL.COUNT [11:0], RO: records between TAIL and HEAD -/
def SESS_FILL_COUNT : Field := fld 0x46 0x048 11 0 .ro 0
/-- Table 13.10, SESS.OPEN.POINTS [15:0], RO: points with an open record -/
def SESS_OPEN_POINTS : Field := fld 0x46 0x04C 15 0 .ro 0
/-- Table 13.10, SESS.SERIAL.NEXT [31:0], RO: serial of the next record -/
def SESS_SERIAL_NEXT : Field := fld 0x46 0x050 31 0 .ro 0
/-- Table 13.10, SESS.READ.GO [31:31], WO: R318 -/
def SESS_READ_GO : Field := fld 0x46 0x054 31 31 .wo 0
/-- Table 13.10, SESS.READ.POINT [3:0], WO: point -/
def SESS_READ_POINT : Field := fld 0x46 0x054 3 0 .wo 0
/-- Table 13.10, SESS.LOST.COUNT [31:0], RC: R319 -/
def SESS_LOST_COUNT : Field := fld 0x46 0x058 31 0 .rc 0
/-- Table 13.10, SESS.SIGN_PENDING.COUNT [7:0], RO: records awaiting signature -/
def SESS_SIGN_PENDING_COUNT : Field := fld 0x46 0x05C 7 0 .ro 0
/-- Table 13.10, SESS.PUB.KEY [31:0], RO: i = 0–16 at 0x100 + 4i; byte 0 in [7:0] of PUB0; 65 bytes, unused bytes 0 -/
def SESS_PUB_KEY : Field := fldN 0x46 0x100 31 0 .ro 0 0x4 17

end F

/-- The block fields of a SYS page. -/
def fieldsSYS : List Field :=
  [F.SYS_CTRL_CONFIG_DONE, F.SYS_DEVICE_VARIANT, F.SYS_DEVICE_CTL_STEP, F.SYS_DEVICE_MET_STEP, F.SYS_DEVICE_PWR_STEP, F.SYS_MODE_GRID_HOST, F.SYS_MODE_PAIRED, F.SYS_MODE_PREVIOUS, F.SYS_MODE_CURRENT, F.SYS_MODE_REQ_REQUEST, F.SYS_RESET_CAUSE_CAUSE, F.SYS_WAKE_SRC_SRC, F.SYS_WAKE_EN_EN, F.SYS_DORMANT_IDLE_SECONDS, F.SYS_WAKE_ALARM_SECONDS, F.SYS_BUTTON_RESET_STUCK, F.SYS_BUTTON_PRESSED, F.SYS_BUTTON_DEFER_PENDING, F.SYS_SW_RESET_KEY, F.SYS_BOOT_IMAGE_FALLBACK, F.SYS_BOOT_CONFIG_SRC, F.SYS_BOOT_CFG_HOST, F.SYS_IMAGE_CMD_KEY, F.SYS_IMAGE_CMD_OP] ++
  [F.SYS_IMAGE_STAT_FIRST_BAD, F.SYS_IMAGE_STAT_RESULT, F.SYS_IMAGE_STAT_SWAP_PENDING, F.SYS_IMAGE_STAT_ACTIVE]

/-- The block fields of a CLK page. -/
def fieldsCLK : List Field :=
  [F.CLK_PLL_STAT_LOCK_TIME, F.CLK_PLL_STAT_XTAL_OK, F.CLK_PLL_STAT_LOCKED, F.CLK_GATE_EN_EN, F.CLK_GATE_STAT_GATED, F.CLK_RESTART_MAX_NS, F.CLK_AON_PPM_OFFSET]

/-- The block fields of a PWR page. -/
def fieldsPWR : List Field :=
  [F.PWR_RAIL_STAT_HOLDUP_LOW, F.PWR_RAIL_STAT_VLS_WARN, F.PWR_RAIL_STAT_UV, F.PWR_VLS_MEAS_MV, F.PWR_VHOLD_MEAS_MV, F.PWR_VLS_THRESH_VWARN, F.PWR_VLS_THRESH_VRESET, F.PWR_VLS_HYST_HYST, F.PWR_VHOLD_WARN_MV, F.PWR_VAULT_STAT_LAST_FLUSH_US, F.PWR_VAULT_STAT_RESULT, F.PWR_VAULT_STAT_ACTIVE, F.PWR_VAULT_COUNT_COUNT, F.PWR_BROWNOUT_REC_COUNT_COUNT, F.PWR_VLS_MIN_MV]

/-- The block fields of a SEAL page. -/
def fieldsSEAL : List Field :=
  [F.SEAL_PWD_DATA_CHARS, F.SEAL_PWD_CMD_OP, F.SEAL_PWD_CMD_LEN, F.SEAL_PWD_STAT_LOCK_S, F.SEAL_PWD_STAT_FAILS, F.SEAL_PWD_STAT_BUSY, F.SEAL_PWD_STAT_SEAL_N, F.SEAL_PWD_STAT_SEAL_SET, F.SEAL_PWD_STAT_SAFETY_SET, F.SEAL_PWD_STAT_SEAL_OPEN, F.SEAL_PWD_STAT_PWD_OPEN, F.SEAL_PWD_IDLE_MIN, F.SEAL_CLOG_HEAD_INDEX, F.SEAL_CLOG_TAIL_INDEX, F.SEAL_CLOG_FILL_COUNT, F.SEAL_CLOG_SERIAL_NEXT]

/-- The block fields of a TIME page. -/
def fieldsTIME : List Field :=
  [F.TIME_CTRL_STEP, F.TIME_CFG_DOMAIN, F.TIME_CFG_LOG_SYNC, F.TIME_CFG_PORT1_ROLE, F.TIME_CFG_PORT0_ROLE, F.TIME_CFG_PORT1_P2P, F.TIME_CFG_PORT0_P2P, F.TIME_CFG_PORT1_ONESTEP, F.TIME_CFG_PORT0_ONESTEP, F.TIME_CFG_TC_P2P, F.TIME_CFG_TC_EN, F.TIME_CFG_SERVO, F.TIME_CFG_ENABLE, F.TIME_SYNC_STATE_HOLDOVER_S, F.TIME_SYNC_STATE_SYNC_OK, F.TIME_SYNC_STATE_STATE, F.TIME_NOW_NS_NS, F.TIME_NOW_SEC_LO_SEC, F.TIME_NOW_SEC_HI_SEC, F.TIME_NOW_FRAC_FRAC, F.TIME_INCR_NS_NS, F.TIME_INCR_FRAC_FRAC, F.TIME_SET_NS_NS, F.TIME_SET_SEC_LO_SEC] ++
  [F.TIME_SET_SEC_HI_SEC, F.TIME_ADJ_NS_NS, F.TIME_ADJ_CFG_REMAIN_US, F.TIME_ADJ_CFG_SLEW_PPM, F.TIME_OFFSET_NS_NS, F.TIME_PATH_DELAY_NS, F.TIME_SERVO_CFG_LOCK_NS, F.TIME_SERVO_CFG_KP_SHIFT, F.TIME_SERVO_CFG_KI_SHIFT, F.TIME_THRESH_UNLOCK_NS, F.TIME_THRESH_STEP_US, F.TIME_HOLDOVER_SENT_MS, F.TIME_HOLDOVER_LOSS_MS, F.TIME_PORT0_LAT_TX_NS, F.TIME_PORT0_LAT_RX_NS, F.TIME_PORT1_LAT_TX_NS, F.TIME_PORT1_LAT_RX_NS, F.TIME_ASYM_NS_NS, F.TIME_UTC_OFFSET_FROM_ANNOUNCE, F.TIME_UTC_OFFSET_SECONDS, F.TIME_LEGAL_STAT_EPOCH, F.TIME_LEGAL_STAT_SLEWING, F.TIME_LEGAL_STAT_STEER_EN, F.TIME_LEGAL_STAT_LEGAL_SET] ++
  [F.TIME_LEGAL_DIFF_MS, F.TIME_STEP_COUNT_COUNT]

/-- The block fields of a TPO page. -/
def fieldsTPO : List Field :=
  [F.TPO_CFG_ARM, F.TPO_CFG_LATE_POLICY, F.TPO_CFG_POLARITY, F.TPO_CFG_MODE, F.TPO_START_NS_NS, F.TPO_START_SEC_LO_SEC, F.TPO_START_SEC_HI_SEC, F.TPO_PERIOD_NS_NS, F.TPO_PERIOD_SEC_SEC, F.TPO_WIDTH_NS_NS, F.TPO_STATUS_SKIPPED, F.TPO_STATUS_MISSED, F.TPO_STATUS_LATE, F.TPO_STATUS_ACTIVE, F.TPO_STATUS_ARMED]

/-- The block fields of a FAB page. -/
def fieldsFAB : List Field :=
  [F.FAB_STATUS_ETYPE_UNSET, F.FAB_PORT0_CFG_AN_EN, F.FAB_PORT0_CFG_IFACE, F.FAB_PORT0_CFG_ENABLE, F.FAB_PORT1_CFG_AN_EN, F.FAB_PORT1_CFG_IFACE, F.FAB_PORT1_CFG_ENABLE, F.FAB_PORT_STAT_P1_AN_DONE, F.FAB_PORT_STAT_P1_SPEED, F.FAB_PORT_STAT_P1_LINK, F.FAB_PORT_STAT_P0_AN_DONE, F.FAB_PORT_STAT_P0_SPEED, F.FAB_PORT_STAT_P0_LINK, F.FAB_ETYPE_ETYPE, F.FAB_VLAN_TAG_EN, F.FAB_VLAN_PCP_SAFETY, F.FAB_VLAN_PCP_SENT, F.FAB_VLAN_PCP_TREE, F.FAB_VLAN_VID, F.FAB_SRC_MAC_LO_MAC, F.FAB_SRC_MAC_HI_MAC, F.FAB_PEER0_MAC_LO_MAC, F.FAB_PEER0_MAC_HI_MAC, F.FAB_PEER1_MAC_LO_MAC] ++
  [F.FAB_PEER1_MAC_HI_MAC, F.FAB_ROUTE_CFG_HOP_LIMIT, F.FAB_ROUTE_CFG_BCAST_FWD, F.FAB_ROUTE_CFG_PASS_OTHER, F.FAB_ROUTE_CFG_DEFAULT_PORT, F.FAB_RX_FRAMES_COUNT, F.FAB_TX_FRAMES_COUNT, F.FAB_DROP_ROUTE_COUNT, F.FAB_DROP_HOP_COUNT, F.FAB_DROP_FORMAT_COUNT]

/-- The block fields of a TREE page. -/
def fieldsTREE : List Field :=
  [F.TREE_SELF_ROOT, F.TREE_SELF_ADDRESS, F.TREE_PARENT_PORT, F.TREE_PARENT_ADDRESS, F.TREE_LEASE_CFG_LEASE_MS, F.TREE_LEASE_CFG_RAMP_MS, F.TREE_RECLAIM_SILENT_EPOCHS, F.TREE_RECLAIM_MARGIN_MS, F.TREE_OWN_FLOOR_W, F.TREE_OWN_CEIL_W, F.TREE_LEASE_STAT_TIGHT, F.TREE_LEASE_STAT_STATE, F.TREE_LEASE_REMAIN_US, F.TREE_TARGET_W, F.TREE_DEPTH_DEPTH, F.TREE_CHILDREN_RECLAIMED, F.TREE_CHILDREN_SILENT, F.TREE_CHILDREN_ACTIVE, F.TREE_CHILDREN_CONFIGURED, F.TREE_EXPIRED_COUNT_COUNT]

/-- The block fields of a ALLOC page. -/
def fieldsALLOC : List Field :=
  [F.ALLOC_EPOCH_CFG_EPOCH_MS, F.ALLOC_EPOCH_CFG_STOP_OFFSET_MS, F.ALLOC_CFG_DEADBAND_KW, F.ALLOC_CFG_ROOT_DT_EN, F.ALLOC_CFG_ENABLE, F.ALLOC_OUT_CFG_WEIGHT, F.ALLOC_OUT_CFG_PRISM, F.ALLOC_OUT_CFG_PRIO, F.ALLOC_OUT_FLOOR_W, F.ALLOC_OUT_CEIL_W, F.ALLOC_OUT_MAX_W, F.ALLOC_OUT_DEMAND_W, F.ALLOC_OUT_CAP_W, F.ALLOC_DT_TARGET_W_W, F.ALLOC_DT_BUDGET_W_W, F.ALLOC_DT_UNCTRL_W_W, F.ALLOC_DT_POINT_POINT, F.ALLOC_DEMAND_UP_W, F.ALLOC_SHED_UP_W, F.ALLOC_CAP_UP_W, F.ALLOC_EPOCH_COUNT_COUNT, F.ALLOC_LAST_EPOCH_CLAUSES, F.ALLOC_LAST_EPOCH_DEFERRED, F.ALLOC_LAST_EPOCH_RESULT] ++
  [F.ALLOC_UNALLOC_W_W]

/-- The block fields of a SENT page. -/
def fieldsSENT : List Field :=
  [F.SENT_CTRL_DIST_EN, F.SENT_CMD_OP, F.SENT_CMD_SLOT, F.SENT_CMD_RESULT_BUSY, F.SENT_CMD_RESULT_SLOT, F.SENT_CMD_RESULT_ERROR, F.SENT_CLAUSE_W0_W0, F.SENT_CLAUSE_W1_W1, F.SENT_CLAUSE_W2_VALUE_A, F.SENT_CLAUSE_W3_VALUE_B, F.SENT_SEL_SLOT, F.SENT_SLOT_STATE_LO_STATE, F.SENT_SLOT_STATE_HI_STATE, F.SENT_TIMING_GUARD_US, F.SENT_TIMING_DECIDE_LEAD_US, F.SENT_TAKE_DELAY_US, F.SENT_DIST_LEAD_OUTCOME_MS, F.SENT_DIST_LEAD_LEAD_US, F.SENT_COMMITTED_COUNT_COUNT, F.SENT_ABORTED_COUNT_COUNT, F.SENT_HALF_COUNT_COUNT, F.SENT_V_STATE_OWNER, F.SENT_V_STATE_PARTICIPANTS, F.SENT_V_STATE_NCLAUSES] ++
  [F.SENT_V_STATE_STATE, F.SENT_V_CFG_MODE, F.SENT_V_CFG_DIST, F.SENT_V_CFG_TD_ZERO, F.SENT_V_CFG_LOOP_SLOT, F.SENT_V_CFG_AUTO_RELEASE, F.SENT_V_STOP_NS_NS, F.SENT_V_STOP_SEC_LO_SEC, F.SENT_V_STOP_SEC_HI_SEC, F.SENT_V_SID_SID, F.SENT_V_VOTES_MISSING, F.SENT_V_VOTES_NO, F.SENT_V_VOTES_YES, F.SENT_V_OUTCOME_MISSING, F.SENT_V_OUTCOME_HALF, F.SENT_V_OUTCOME_DONE, F.SENT_V_OUTCOME_ABORTED, F.SENT_V_FIRST_NO_FACET, F.SENT_V_FIRST_NO_REASON, F.SENT_V_ERROR_CLAUSE, F.SENT_V_ERROR_CODE, F.SENT_V_APPLIED_LATE_DECISION, F.SENT_V_APPLIED_TAKES, F.SENT_V_APPLIED_YIELDS]

/-- The block fields of a OUTLET page. -/
def fieldsOUTLET : List Field :=
  [F.OUTLET_STATUS_STATE, F.OUTLET_STATUS_SELECTED, F.OUTLET_STATUS_SAT, F.OUTLET_STATUS_PRECHARGE_OK, F.OUTLET_STATUS_SLEWING, F.OUTLET_STATUS_DIRECTION, F.OUTLET_VCMD_TARGET, F.OUTLET_VRAMP_MV, F.OUTLET_VSLEW_MV_PER_MS, F.OUTLET_ILIM_IMP_MA, F.OUTLET_ILIM_EXP_MA, F.OUTLET_PLIM_IMP_W, F.OUTLET_PLIM_EXP_W, F.OUTLET_DIR_EXPORT, F.OUTLET_EV_MV_MV, F.OUTLET_ISLEW_UP_MA_PER_MS, F.OUTLET_ISLEW_DOWN_MA_PER_MS, F.OUTLET_FAULT_RAMP_MA_PER_MS, F.OUTLET_PRECHARGE_MA, F.OUTLET_PRECHARGE_TIMEOUT_MS, F.OUTLET_PRE_WIN_WIN_MV, F.OUTLET_LOWCUR_ZERO_A, F.OUTLET_LOWCUR_CHECK_MA, F.OUTLET_FB_WIN_V] ++
  [F.OUTLET_FB_WIN_A, F.OUTLET_FB_WIN_PCT, F.OUTLET_FB_HOLD_US, F.OUTLET_CONTACT_CLOSE_MS, F.OUTLET_CONTACT_OPEN_MS, F.OUTLET_CONTACT_EQ_MS, F.OUTLET_APT_MA_MA, F.OUTLET_THERM_MA_MA, F.OUTLET_SAFE_MA_MA, F.OUTLET_ITGT_MA_MA, F.OUTLET_IHI_MA_MA, F.OUTLET_REF_MA_MA, F.OUTLET_VC_MV_MV, F.OUTLET_IC_MA_MA, F.OUTLET_P_W_W, F.OUTLET_FB_STAT_LOST_V, F.OUTLET_FB_STAT_LOST_I, F.OUTLET_FB_STAT_FROZEN_V, F.OUTLET_FB_STAT_FROZEN_I, F.OUTLET_FB_STAT_MISMATCH_V, F.OUTLET_FB_STAT_MISMATCH_I, F.OUTLET_FB_STAT_HOLD, F.OUTLET_FB_STAT_RAMPING]

/-- The block fields of a GROUP page. -/
def fieldsGROUP : List Field :=
  [F.GROUP_CTRL_FAULT_CLR, F.GROUP_STATUS_LOST, F.GROUP_STATUS_ENABLED, F.GROUP_STATUS_STAGE, F.GROUP_STATUS_FAULT, F.GROUP_STATUS_MAX_ON_ALL, F.GROUP_STATUS_DIRECTION, F.GROUP_STATUS_SWITCHING, F.GROUP_CFG_OFFSET, F.GROUP_CFG_VSNS_CH, F.GROUP_CFG_ALLOWED, F.GROUP_ROUTE_OUTLET, F.GROUP_CAP_W_W, F.GROUP_SHARE_MA_MA, F.GROUP_PH_REF_DAC, F.GROUP_PH_REF_ON_TICKS, F.GROUP_LOST_COUNT_COUNT, F.GROUP_TRAVEL_OPEN_MS, F.GROUP_TRAVEL_CLOSE_MS, F.GROUP_VOUT_MV]

/-- The block fields of a PHASE page. -/
def fieldsPHASE : List Field :=
  [F.PHASE_PERIOD_FT, F.PHASE_DEADTIME_DT_LH, F.PHASE_DEADTIME_DT_HL, F.PHASE_BLANK_MAXON_BLANK, F.PHASE_BLANK_MAXON_MAX_ON, F.PHASE_SLOPE_SLOPE, F.PHASE_CFG_SKIP_A, F.PHASE_CFG_MIN_PHASES, F.PHASE_CFG_SPREAD, F.PHASE_MATRIX_CLOSE_MS, F.PHASE_MATRIX_OPEN_MS, F.PHASE_MATCH_MATCH_MV, F.PHASE_MATCH_MATCH_A, F.PHASE_MATCH_MATCH_MS, F.PHASE_SENSE_WIN_WIN_A, F.PHASE_SENSE_WIN_WIN_PCT, F.PHASE_SENSE_WIN_ONTIME_DEV_PCT, F.PHASE_ZERO_ZERO_WAIT_US, F.PHASE_ZERO_ZERO_A, F.PHASE_LEAVE_LEAVE_MS, F.PHASE_OV_CFG_TRIP, F.PHASE_OV_CFG_RELEASE, F.PHASE_OV_HOLD_RELEASE_TICKS, F.PHASE_OV_STAT_COUNT] ++
  [F.PHASE_OV_STAT_ACTIVE, F.PHASE_SENSE_STAT_MISMATCH, F.PHASE_IMPLIED_MA0_MA]

/-- The block fields of a LOOP page. -/
def fieldsLOOP : List Field :=
  [F.LOOP_SWAP_REQ, F.LOOP_BANK_ACTIVE, F.LOOP_RUN_LO_CLOSED, F.LOOP_RUN_HI_CLOSED, F.LOOP_LOAD_PEAK, F.LOOP_LOAD_MEAN, F.LOOP_MISSED_COUNT, F.LOOP_DEADLINE_LAST_SLOT, F.LOOP_DEADLINE_FAST_LIMIT]

/-- The block fields of a COOL page. -/
def fieldsCOOL : List Field :=
  [F.COOL_STATUS_DEGRADED, F.COOL_STATUS_RUNNING, F.COOL_SHARED_VALVE_CH, F.COOL_SHARED_FAN_CH, F.COOL_SHARED_MEMBERS, F.COOL_SHARED_OUT_VALVE, F.COOL_SHARED_OUT_FAN, F.COOL_PLAUS_RESID_K, F.COOL_PLAUS_RESID_S, F.COOL_PLAUS_ORDER_K, F.COOL_PLAUS_ORDER_S, F.COOL_PRESS_LIM_PRESS_LOW, F.COOL_PENALTY_PENALTY_K, F.COOL_OCFG_EN, F.COOL_OCFG_PIN_POS_CH, F.COOL_OCFG_PIN_NEG_CH, F.COOL_OCFG_T_IN_CH, F.COOL_OCFG_T_OUT_CH, F.COOL_OCH_FLOW_CH, F.COOL_OCH_PRESS_CH, F.COOL_R_PIN_NOHM, F.COOL_R_CORE_NOHM, F.COOL_C_PIN_J_PER_K, F.COOL_C_CORE_J_PER_K] ++
  [F.COOL_C_COOL_J_PER_K, F.COOL_G_PC_W_PER_K, F.COOL_G_PW_W_PER_K, F.COOL_G_CW_W_PER_K, F.COOL_CP_VOL_J_PER_LK, F.COOL_LIMITS_PIN_MAX, F.COOL_LIMITS_CORE_MAX, F.COOL_DERATE_MARGIN, F.COOL_DERATE_K_PIN, F.COOL_DERATE_K_COOL, F.COOL_FLOW_FLOW_MAX, F.COOL_FLOW_FLOW_MIN, F.COOL_FALLBACK_T_IN_FB, F.COOL_FALLBACK_FLOW_FB, F.COOL_COOLING_DT_RISE, F.COOL_COOLING_BOOST_K, F.COOL_PRED_C, F.COOL_HOT_C, F.COOL_CEIL_W_W, F.COOL_ISET_MA, F.COOL_DEMAND_LPM, F.COOL_Q_W_W, F.COOL_TCOOL_C, F.COOL_OSTAT_ORDER] ++
  [F.COOL_OSTAT_INNOV_NEG, F.COOL_OSTAT_INNOV_POS, F.COOL_OSTAT_BAD, F.COOL_OSTAT_BINDING]

/-- The block fields of a LINK page. -/
def fieldsLINK : List Field :=
  [F.LINK_CTRL_RESTART, F.LINK_CTRL_UNLATCH, F.LINK_STATUS_LEVEL_A, F.LINK_STATUS_LEVEL_B, F.LINK_STATUS_COMBINED, F.LINK_STATUS_LSTATE, F.LINK_STATUS_SELECTED, F.LINK_STATUS_LATCH_FB, F.LINK_STATUS_LATCH_CMD, F.LINK_STATUS_PWM_ON, F.LINK_STATUS_PILOT_ACTIVE, F.LINK_CFG_GAP_MS, F.LINK_CFG_DEBOUNCE_MS, F.LINK_CFG_ALLOW_D, F.LINK_CFG_T1S_MODE, F.LINK_CFG_PILOT_MODE, F.LINK_CFG_KIND, F.LINK_LATCH_CH, F.LINK_LATCH_LOCK_DLY_MS, F.LINK_LATCH_FB_CH, F.LINK_LATCH_AUTO_S, F.LINK_MAC_LO_MAC, F.LINK_MAC_HI_MAC, F.LINK_PLCA_NODE_CNT] ++
  [F.LINK_PLCA_NODE_ID, F.LINK_PLCA_TO_TMR, F.LINK_PLCA_BURST_CNT, F.LINK_TIMING_START_DLY_MS, F.LINK_TIMING_BURST_TMR, F.LINK_TIMING_LOSS_MS, F.LINK_CP_PWM_PERIOD_US, F.LINK_CP_PWM_DUTY, F.LINK_CP_SAMP_LOW_MAX, F.LINK_CP_SAMP_DLY_US, F.LINK_SLAC_CFG_MATCH_TO_MS, F.LINK_SLAC_CFG_SOUNDS, F.LINK_SLAC_CFG_SOUND_TO_10MS, F.LINK_SLAC_RETRY_RETRY, F.LINK_SLAC_STAT_ATTEN_DB, F.LINK_SLAC_STAT_SOUNDS_RX, F.LINK_SLAC_STAT_RETRIES, F.LINK_SLAC_STAT_STEP, F.LINK_NID_LO_NID, F.LINK_NID_HI_NID, F.LINK_STATS_LOST, F.LINK_STATS_DROPPED, F.LINK_MEAS_A_LOW, F.LINK_MEAS_A_HIGH] ++
  [F.LINK_MEAS_B_MV, F.LINK_WIN_A_HI, F.LINK_WIN_A_LO, F.LINK_WIN_B_HI, F.LINK_WIN_B_LO, F.LINK_LAST_UP_MS]

/-- The block fields of a VDE page. -/
def fieldsVDE : List Field :=
  [F.VDE_CTRL_EXI_LOAD, F.VDE_STATUS_ACTIVE, F.VDE_STATUS_EXI_LOADING, F.VDE_STATUS_EXI_VALID, F.VDE_PROTO_PREF_EV, F.VDE_PROTO_ISO2_SEC, F.VDE_PROTO_DIN_EN, F.VDE_PROTO_ISO2_EN, F.VDE_PROTO_ISO20_BPT, F.VDE_PROTO_ISO20_EN, F.VDE_TCP_PORT, F.VDE_TCP_RTO_MS, F.VDE_TIMEOUT_SEQ_MS, F.VDE_TIMEOUT_LOOP_MS, F.VDE_HANDSHAKE_HS_MS, F.VDE_MBX_TO_AUTH_MS, F.VDE_MBX_TO_CERT_MS, F.VDE_AUTH_CFG_TO_ALLOW, F.VDE_AUTH_CFG_EIM_EN, F.VDE_AUTH_CFG_PNC_EN, F.VDE_AUTH_CFG_HOST_AUTH, F.VDE_AUTH_CFG_LOCAL_EN, F.VDE_CHECK_MAX_V, F.VDE_CHECK_CHECK_S] ++
  [F.VDE_CHECK_END_V, F.VDE_CHECK_HOLD_HOLD_MS, F.VDE_SCHED_S, F.VDE_STOP_METER_S, F.VDE_STOP_STOP_WAIT_MS, F.VDE_LIST_COUNT, F.VDE_SESSIONS_COUNT, F.VDE_CTX_STATE_PROTO, F.VDE_CTX_STATE_SEC, F.VDE_CTX_STATE_STEP, F.VDE_CTX_STATE_AUTH, F.VDE_CTX_STATE_CONN, F.VDE_CTX_STATE_WAITING, F.VDE_CTX_CTRL_STOP, F.VDE_CTX_SID_LO_SID, F.VDE_CTX_SID_HI_SID, F.VDE_CTX_EVCCID_LO_ID, F.VDE_CTX_EVCCID_HI_ID, F.VDE_CTX_EV_VMAX_MV, F.VDE_CTX_EV_IMAX_MA, F.VDE_CTX_EV_PMAX_W, F.VDE_CTX_DEMAND_W_W, F.VDE_CTX_SOC_PCT, F.VDE_CTX_LAST_REQ_MS] ++
  [F.VDE_CTX_END_REASON, F.VDE_CTX_REJECTS_COUNT]

/-- The block fields of a CRYPT page. -/
def fieldsCRYPT : List Field :=
  [F.CRYPT_STATUS_TLS_OPEN, F.CRYPT_KEYGEN_CURVE, F.CRYPT_KEY_STAT_USABLE, F.CRYPT_KEY_STAT_PRESENT, F.CRYPT_PUB_SEL_CURVE, F.CRYPT_TRUST_CFG_MAX_DEPTH, F.CRYPT_TRUST_CFG_REQ_CLIENT, F.CRYPT_TRUST_CFG_NO_TIME, F.CRYPT_TRUST_STAT_BAD, F.CRYPT_TRUST_STAT_GOOD, F.CRYPT_HS_COUNT_COUNT, F.CRYPT_HS_FAIL_COUNT, F.CRYPT_LAST_FAIL_CONTEXT, F.CRYPT_LAST_FAIL_CODE, F.CRYPT_RNG_STAT_FAIL, F.CRYPT_RNG_STAT_OK, F.CRYPT_PUB_KEY]

/-- The block fields of a LENS page. -/
def fieldsLENS : List Field :=
  [F.LENS_STATUS_UNCAL, F.LENS_STATUS_CAL_BAD, F.LENS_STATUS_METER_OK, F.LENS_CH_EN_EN, F.LENS_CH_LOST_LOST, F.LENS_CH_FROZEN_FROZEN, F.LENS_CH_OVER_OVER, F.LENS_CLK_CFG_EDGE, F.LENS_CLK_CFG_MCLK_EN, F.LENS_CYCLE_COUNT, F.LENS_CAL_SEQ_COUNT, F.LENS_CAL_CRC_CRC, F.LENS_OVR_LIM_LIM, F.LENS_FREEZE_MS, F.LENS_MP_CFG_KIND, F.LENS_MP_CFG_MASK, F.LENS_VM_MV, F.LENS_IM_MA, F.LENS_PM_W, F.LENS_MSTAT_UNVERIFIED, F.LENS_MSTAT_EXPORT, F.LENS_MSTAT_METER_OK, F.LENS_PT_W_W, F.LENS_CAP_CFG_PRE_PCT] ++
  [F.LENS_CAP_CFG_TRIG, F.LENS_CAP_CFG_RAW, F.LENS_CAP_CFG_FIRE, F.LENS_CAP_CFG_ARM, F.LENS_CAP_SEL_LANE3, F.LENS_CAP_SEL_LANE2, F.LENS_CAP_SEL_LANE1, F.LENS_CAP_SEL_LANE0, F.LENS_CAP_TRIG_NS_NS, F.LENS_CAP_TRIG_SEC_LO_SEC, F.LENS_CAP_TRIG_SEC_HI_SEC, F.LENS_CAP_LEVEL_X, F.LENS_CAP_STAT_START, F.LENS_CAP_STAT_SHORT, F.LENS_CAP_STAT_DONE, F.LENS_CAP_STAT_FILLING, F.LENS_CAP_T0_NS_NS, F.LENS_CAP_T0_SEC_LO_SEC, F.LENS_CAP_T0_SEC_HI_EPOCH, F.LENS_CAP_T0_SEC_HI_SEC, F.LENS_CAL_GAIN_GAIN, F.LENS_CAL_OFFSET_CODE, F.LENS_CAL_DELAY_CLOCKS]

/-- The block fields of a GRID page. -/
def fieldsGRID : List Field :=
  [F.GRID_CFG_NPER, F.GRID_CFG_MCLK, F.GRID_CFG_NOM_60, F.GRID_CFG_WIRING, F.GRID_CFG_EN, F.GRID_FREQ_MHZ, F.GRID_REF_PHASE, F.GRID_VRMS_MV, F.GRID_IRMS_MA, F.GRID_P_W, F.GRID_Q_VAR, F.GRID_PF12_PF2, F.GRID_PF12_PF1, F.GRID_PF3T_TOTAL, F.GRID_PF3T_PF3, F.GRID_ANG_V_V3, F.GRID_ANG_V_V2, F.GRID_ANG_I12_I2, F.GRID_ANG_I12_I1, F.GRID_ANG_I3_I3, F.GRID_P_TOTAL_W, F.GRID_Q_TOTAL_VAR, F.GRID_S_TOTAL_VA, F.GRID_WIN_STAT_COUNT] ++
  [F.GRID_WIN_STAT_VALID]

/-- The block fields of a BILL page. -/
def fieldsBILL : List Field :=
  [F.BILL_CTRL_CLOSE_PERIOD, F.BILL_DEMAND_CFG_L_MIN, F.BILL_DEMAND_CFG_SUBINT, F.BILL_DEMAND_CFG_SLIDING, F.BILL_STATE_VAULT_OPEN, F.BILL_STATE_PENDING, F.BILL_BOUNDARY_SEQ_SEQ, F.BILL_CYCLE_SEQ_SEQ, F.BILL_PERIOD_SERIAL_SERIAL, F.BILL_LAST_CLOSE_SEC_LO_SEC, F.BILL_LAST_CLOSE_HI_EPOCH, F.BILL_LAST_CLOSE_HI_SEC, F.BILL_IV_START_SEC_LO_SEC, F.BILL_IV_START_HI_EPOCH, F.BILL_IV_START_HI_SEC, F.BILL_DT_E_WH_WH, F.BILL_DT_TREM_S_S, F.BILL_REPAIRED_REBUILT, F.BILL_REPAIRED_COPIES, F.BILL_UNFLUSHED_COUNT]

/-- The block fields of a TARIFF page. -/
def fieldsTARIFF : List Field :=
  [F.TARIFF_CTRL_ACTIVATE, F.TARIFF_CFG_DEFAULT, F.TARIFF_BANK_ACTIVE, F.TARIFF_BANK_SWITCH_PENDING, F.TARIFF_ACT_SEC_LO_SEC, F.TARIFF_ACT_SEC_HI_SEC, F.TARIFF_NOW_LO_TARIFF, F.TARIFF_NOW_HI_TARIFF, F.TARIFF_LOCAL_DST, F.TARIFF_LOCAL_OFS_MIN, F.TARIFF_NEXT_SEC_LO_SEC, F.TARIFF_NEXT_HI_SEC, F.TARIFF_CAL_STAT_FIRST_BAD, F.TARIFF_CAL_STAT_ENTRIES]

/-- The block fields of a TAMPER page. -/
def fieldsTAMPER : List Field :=
  [F.TAMPER_INPUT_CFG_DEBOUNCE_MS, F.TAMPER_INPUT_CFG_POL1, F.TAMPER_INPUT_CFG_POL0, F.TAMPER_ACTIVE_TYPE, F.TAMPER_PPM_LIM_PPM, F.TAMPER_COUNT_COUNT, F.TAMPER_FIRST_SEC_LO_SEC, F.TAMPER_FIRST_HI_EPOCH, F.TAMPER_FIRST_HI_SEC, F.TAMPER_LAST_SEC_LO_SEC, F.TAMPER_LAST_HI_EPOCH, F.TAMPER_LAST_HI_SEC]

/-- The block fields of a SAFE page. -/
def fieldsSAFE : List Field :=
  [F.SAFE_SIN_CFG_MASK, F.SAFE_SIN_CFG_TEST, F.SAFE_SIN_CFG_ANTI, F.SAFE_SIN_CFG_PAIR, F.SAFE_SIN_CFG_FUNC, F.SAFE_SIN_STAT_FAULT, F.SAFE_SIN_STAT_DEMAND, F.SAFE_NODE_TRIP_LATCHED, F.SAFE_NODE_TRIP_ACTIVE, F.SAFE_DEG_CFG_DEG_PCT, F.SAFE_DEG_CFG_DEG_MIN, F.SAFE_DEG_CFG_DEG_RESET_MIN, F.SAFE_DEG_STAT_REMAIN_S, F.SAFE_DEG_STAT_OUTLETS, F.SAFE_IMD_CFG_PWM_LOSS_MS, F.SAFE_IMD_CFG_PWM_EN, F.SAFE_IMD_CFG_POL, F.SAFE_CONTACT_CFG_FB_DEBOUNCE_MS, F.SAFE_CONTACT_CFG_COIL_EN, F.SAFE_COIL_CMD_LO_CMD, F.SAFE_COIL_CMD_HI_CMD, F.SAFE_FB_LO_CLOSED, F.SAFE_FB_HI_CLOSED, F.SAFE_WELD_LO_WELD] ++
  [F.SAFE_WELD_HI_WELD, F.SAFE_RESTART_KEY, F.SAFE_CLR_OUTLET, F.SAFE_CFG_CRC_CRC, F.SAFE_TRIP_COUNT_COUNT, F.SAFE_OUT_TRIP_LATCHED, F.SAFE_OUT_TRIP_ACTIVE, F.SAFE_OUT_LIM_SF6_TRIP, F.SAFE_OUT_LIM_IMAX_A, F.SAFE_OUT_LIM_VMARGIN_V, F.SAFE_OUT_CFG_DISCH_CH, F.SAFE_OUT_CFG_RESID_MS, F.SAFE_OUT_CFG_IMARGIN_PCT, F.SAFE_OUT_CFG_IMARGIN_10A, F.SAFE_OUT_IMD_OK, F.SAFE_OUT_IMD_FREQ, F.SAFE_OUT_IMD_DUTY]

/-- The block fields of a GSC page. -/
def fieldsGSC : List Field :=
  [F.GSC_HOST_TX_PDU, F.GSC_HOST_TX_STAT_VALID, F.GSC_HOST_TX_STAT_CONN, F.GSC_HOST_RX_PDU, F.GSC_HOST_RX_GO_GO, F.GSC_HOST_RX_GO_CONN, F.GSC_CCFG_EN, F.GSC_CCFG_HOST, F.GSC_CCFG_AGE_EN, F.GSC_CCFG_FWD_SAFE, F.GSC_CCFG_ACTION, F.GSC_CCFG_MASK, F.GSC_CCFG_MAX_GAP, F.GSC_CCFG_ERR_LIM, F.GSC_CCFG_TAG, F.GSC_CPEER_ADDRESS, F.GSC_CID_ID, F.GSC_CTIME_WD_MS, F.GSC_CTIME_PERIOD_MS, F.GSC_CTIME_AGE_MS, F.GSC_CSTAT_ERRORS, F.GSC_CSTAT_RUN, F.GSC_CSTAT_STATE, F.GSC_CCTRL_ACK] ++
  [F.GSC_CRX_LO_DATA, F.GSC_CRX_HI_FLAGS, F.GSC_CRX_HI_DATA, F.GSC_CSEQ_TX, F.GSC_CSEQ_RX, F.GSC_CAGE_US]

/-- The block fields of a MIR page. -/
def fieldsMIR : List Field :=
  [F.MIR_CTRL_UNFAIL, F.MIR_CTRL_FAIL, F.MIR_STATUS_PARTNER_ABSENT, F.MIR_STATUS_SEL_LEVEL, F.MIR_STATUS_SELECTED, F.MIR_STATUS_IMAGE_VALID, F.MIR_STATUS_PARTNER_FAIL, F.MIR_STATUS_PARTNER_HB_OK, F.MIR_STATUS_ALIGNED, F.MIR_STATUS_LANE_UP, F.MIR_CFG_UNIT_B, F.MIR_CFG_EN, F.MIR_SEQ_TX_SEQ, F.MIR_SEQ_RX_SEQ, F.MIR_LANE_ERR_CRC, F.MIR_LANE_ERR_LOST, F.MIR_PARTNER_VARIANT, F.MIR_PARTNER_CTL_STEP, F.MIR_PARTNER_MODE, F.MIR_SWITCHES_COUNT, F.MIR_LAST_GAP_US, F.MIR_HANDOVER_US_US, F.MIR_GLITCH_COUNT]

/-- The block fields of a LSW page. -/
def fieldsLSW : List Field :=
  [F.LSW_STATUS_LINK_LOST, F.LSW_STATUS_CLUSTER_WARN, F.LSW_ON_CH, F.LSW_FAULT_CH, F.LSW_REARM_CH, F.LSW_DISS_PEAK_MW, F.LSW_DISS_MW, F.LSW_CLUSTER_TEMP_C, F.LSW_SUPPLY_GND_LOST, F.LSW_SUPPLY_REVERSE, F.LSW_SUPPLY_OV, F.LSW_SUPPLY_UV, F.LSW_SUPPLY_LINK_LOST, F.LSW_CH_CFG_SAFE_CTL, F.LSW_CH_CFG_OL_EN, F.LSW_CH_CFG_RETRY_N, F.LSW_CH_CFG_INRUSH, F.LSW_CH_CFG_ILIM, F.LSW_CH_TIMING_BLANK_10MS, F.LSW_CH_TIMING_LIMIT_MS, F.LSW_CH_TIMING_RETRY_100MS, F.LSW_CH_TIMING_PWM_HZ, F.LSW_CH_CMD_MODE, F.LSW_CH_CMD_DUTY] ++
  [F.LSW_CH_STAT_RETRIES_LEFT, F.LSW_CH_STAT_OWNER, F.LSW_CH_STAT_LATCHED_OFF, F.LSW_CH_STAT_THERM_LATCH, F.LSW_CH_STAT_OPEN_LOAD, F.LSW_CH_STAT_LIMITING, F.LSW_CH_STAT_BLANKING, F.LSW_CH_STAT_OVERLOAD, F.LSW_CH_STAT_OUT_HIGH, F.LSW_CH_STAT_ON, F.LSW_CUR_MA, F.LSW_TEMP_C]

/-- The block fields of a LSX page. -/
def fieldsLSX : List Field :=
  [F.LSX_CTRL_GO, F.LSX_CTRL_CH, F.LSX_CFG_EN, F.LSX_CFG_SETTLE_US, F.LSX_CFG_FAULT_MV, F.LSX_CHAIN_LEN, F.LSX_SCAN_US_US, F.LSX_XCFG_EN, F.LSX_XCFG_SAFE_CTL, F.LSX_XCFG_RETRY_N, F.LSX_XCFG_ILIM, F.LSX_XCFG_BLANK_10MS, F.LSX_XCFG_RETRY_100MS, F.LSX_XCMD_ON, F.LSX_XGAIN_GAIN, F.LSX_XSTAT_CUR, F.LSX_XSTAT_RETRIES_LEFT, F.LSX_XSTAT_LATCHED_OFF, F.LSX_XSTAT_FAULT_LVL, F.LSX_XSTAT_BLANKING, F.LSX_XSTAT_OVERLOAD, F.LSX_XSTAT_ON]

/-- The block fields of a HOST page. -/
def fieldsHOST : List Field :=
  [F.HOST_PCIE_STAT_SPEED, F.HOST_PCIE_STAT_WIDTH, F.HOST_PCIE_STAT_MSIX_EN, F.HOST_PCIE_STAT_LINK_UP, F.HOST_PCI_ID_DEVICE, F.HOST_PCI_ID_VENDOR, F.HOST_SPI_CFG_DUMMY, F.HOST_SPI_ERR_CRC, F.HOST_SPI_ERR_ABORTED, F.HOST_IRQ_CFG_INTN_EN, F.HOST_VEC_EOI_VECTOR, F.HOST_VEC_STAT_LO_COND, F.HOST_VEC_STAT_HI_COND, F.HOST_PAGE_PEND_PAGE, F.HOST_INTN_MASK_LO_EN, F.HOST_INTN_MASK_HI_EN, F.HOST_MBX_STATE_STATE, F.HOST_MBX_POST_SLOT, F.HOST_MBX_DONE_SLOT, F.HOST_VEC_MAP_MAP]

/-- The block fields of a DMA page. -/
def fieldsDMA : List Field :=
  [F.DMA_CFG_ENABLE, F.DMA_ACTIVE_BUSY, F.DMA_ACTIVE_CHANNEL, F.DMA_PRIO_PRIO, F.DMA_READY_CH, F.DMA_BYTES_LO_BYTES, F.DMA_BYTES_HI_BYTES]

/-- The block fields of a DMACH page. -/
def fieldsDMACH : List Field :=
  [F.DMACH_MODE_MODE, F.DMACH_STATE_STATE, F.DMACH_CMD_OP, F.DMACH_HEAD_LO_ADDR, F.DMACH_HEAD_HI_ADDR, F.DMACH_APPEND_DOORBELL, F.DMACH_APPEND_CNT_COUNT, F.DMACH_SAMPLED_COUNT, F.DMACH_CUR_DESC_LO_ADDR, F.DMACH_CUR_DESC_HI_ADDR, F.DMACH_CUR_SRC_LO_ADDR, F.DMACH_CUR_SRC_HI_ADDR, F.DMACH_CUR_DST_LO_ADDR, F.DMACH_CUR_DST_HI_ADDR, F.DMACH_REMAIN_BYTES, F.DMACH_SH_SRC_LO_ADDR, F.DMACH_SH_SRC_HI_ADDR, F.DMACH_SH_DST_LO_ADDR, F.DMACH_SH_DST_HI_ADDR, F.DMACH_SH_LEN_CTRL, F.DMACH_SH_LEN_LEN, F.DMACH_SH_STAT_ARMED, F.DMACH_PACE_HI, F.DMACH_PACE_LO] ++
  [F.DMACH_PACE_CFG_SRC, F.DMACH_LAST_STATUS_FLAGS, F.DMACH_LAST_STATUS_CODE, F.DMACH_DONE_CNT_COUNT]

/-- The block fields of a LIFE page. -/
def fieldsLIFE : List Field :=
  [F.LIFE_VIEW_DELTA, F.LIFE_BASELINE_KEY, F.LIFE_BASE_SEC_LO_SEC, F.LIFE_BASE_HI_EPOCH, F.LIFE_BASE_HI_SEC, F.LIFE_BASE_COUNT_COUNT, F.LIFE_HOST_INC_AMOUNT, F.LIFE_HOST_INC_INDEX, F.LIFE_HOST_HIST_HIST, F.LIFE_HOST_HIST_BIN, F.LIFE_UPDATE_SEQ_SEQ]

/-- The block fields of a MEM page. -/
def fieldsMEM : List Field :=
  [F.MEM_SCRUB_CFG_HOURS, F.MEM_SCRUB_CFG_EN, F.MEM_SCRUB_POS_BLOCK, F.MEM_SCRUB_PASSES_COUNT, F.MEM_INNER_CORR_COUNT, F.MEM_OUTER_CORR_COUNT, F.MEM_UNCORR_COUNT, F.MEM_LAST_ADDR_UNCORR, F.MEM_LAST_ADDR_ADDR, F.MEM_BAD_COUNT_COUNT, F.MEM_BAD_VALID, F.MEM_BAD_BLOCK]

/-- The block fields of a PULSE page. -/
def fieldsPULSE : List Field :=
  [F.PULSE_CFG_POLARITY, F.PULSE_CFG_AH, F.PULSE_CFG_EXPORT, F.PULSE_CFG_EN, F.PULSE_CFG_POINT, F.PULSE_CONST_UNITS, F.PULSE_TIMING_WIDTH_MS, F.PULSE_TIMING_GAP_MS, F.PULSE_STAT_PENDING, F.PULSE_STAT_OVERFLOW, F.PULSE_STAT_ACTIVE, F.PULSE_RES_UWH_UNITS, F.PULSE_COUNT_COUNT]

/-- The block fields of a SENS page. -/
def fieldsSENS : List Field :=
  [F.SENS_SAR_STAT_FAST_NOW, F.SENS_SAR_STAT_FAST_CFG, F.SENS_INVALID_LO_CH, F.SENS_INVALID_HI_CH, F.SENS_STUCK_SECONDS, F.SENS_CH_CFG_ZERO, F.SENS_CH_CFG_KIND, F.SENS_CH_CFG_RATE, F.SENS_CH_CFG_STUCK_EN, F.SENS_CH_CFG_FILTER, F.SENS_CH_CFG_EN, F.SENS_CH_GAIN_GAIN, F.SENS_CH_LIM_HI, F.SENS_CH_LIM_LO, F.SENS_CH_VAL_VALUE]

/-- The block fields of a EVT page. -/
def fieldsEVT : List Field :=
  [F.EVT_HEAD_INDEX, F.EVT_TAIL_INDEX, F.EVT_FILL_COUNT, F.EVT_LOST_COUNT, F.EVT_SUPPRESSED_COUNT, F.EVT_LOG_CFG_FILL_IRQ, F.EVT_LOG_CFG_MIN_SEV, F.EVT_APPENDED_COUNT]

/-- The block fields of a DIAG page. -/
def fieldsDIAG : List Field :=
  [F.DIAG_SELFTEST_DURATION_US, F.DIAG_SELFTEST_FIRST_FAIL, F.DIAG_CYCLE_COUNT, F.DIAG_CYCLE_MAX_US, F.DIAG_RUN_FAIL_TEST, F.DIAG_SRAM_ECC_UNCORR, F.DIAG_SRAM_ECC_CORR, F.DIAG_SRAM_ADDR_ADDR, F.DIAG_D2D_CRC_POWER, F.DIAG_D2D_CRC_METROLOGY]

/-- The block fields of a PAIRARB page. -/
def fieldsPAIRARB : List Field :=
  [F.PAIRARB_CFG_HOLDOFF_MS, F.PAIRARB_CFG_EN, F.PAIRARB_PAIR_STAT_HOLDOFF, F.PAIRARB_PAIR_STAT_B_FAIL, F.PAIRARB_PAIR_STAT_A_FAIL, F.PAIRARB_PAIR_STAT_B_HB_OK, F.PAIRARB_PAIR_STAT_A_HB_OK, F.PAIRARB_PAIR_STAT_SELECT, F.PAIRARB_PAIR_FORCE_UNIT, F.PAIRARB_PAIR_COUNT_COUNT]

/-- The block fields of a SESS page. -/
def fieldsSESS : List Field :=
  [F.SESS_HEAD_INDEX, F.SESS_TAIL_INDEX, F.SESS_FILL_COUNT, F.SESS_OPEN_POINTS, F.SESS_SERIAL_NEXT, F.SESS_READ_GO, F.SESS_READ_POINT, F.SESS_LOST_COUNT, F.SESS_SIGN_PENDING_COUNT, F.SESS_PUB_KEY]

/-- The page number of instance 0 of a page's kind: the TYPE of its ID register (Table 3.2). -/
def pageKind (p : Nat) : Nat :=
  if 0x0A ≤ p ∧ p ≤ 0x0D then 0x0A
  else if 0x0E ≤ p ∧ p ≤ 0x19 then 0x0E
  else if 0x1D ≤ p ∧ p ≤ 0x20 then 0x1D
  else if 0x2F ≤ p ∧ p ≤ 0x3E then 0x2F
  else p

/-- The instance number of a page within its kind (Table 3.2). -/
def pageInst (p : Nat) : Nat := p - pageKind p

/-- The block fields of the kind of page `p`, written for instance 0 (Table 3.1). -/
def kindFields (p : Nat) : List Field :=
  match pageKind p with
  | 0x00 => fieldsSYS
  | 0x01 => fieldsCLK
  | 0x02 => fieldsPWR
  | 0x03 => fieldsSEAL
  | 0x04 => fieldsTIME
  | 0x05 => fieldsTPO
  | 0x06 => fieldsFAB
  | 0x07 => fieldsTREE
  | 0x08 => fieldsALLOC
  | 0x09 => fieldsSENT
  | 0x0A => fieldsOUTLET
  | 0x0E => fieldsGROUP
  | 0x1A => fieldsPHASE
  | 0x1B => fieldsLOOP
  | 0x1C => fieldsCOOL
  | 0x1D => fieldsLINK
  | 0x21 => fieldsVDE
  | 0x22 => fieldsCRYPT
  | 0x23 => fieldsLENS
  | 0x24 => fieldsGRID
  | 0x25 => fieldsBILL
  | 0x26 => fieldsTARIFF
  | 0x27 => fieldsTAMPER
  | 0x28 => fieldsSAFE
  | 0x29 => fieldsGSC
  | 0x2A => fieldsMIR
  | 0x2B => fieldsLSW
  | 0x2C => fieldsLSX
  | 0x2D => fieldsHOST
  | 0x2E => fieldsDMA
  | 0x2F => fieldsDMACH
  | 0x3F => fieldsLIFE
  | 0x40 => fieldsMEM
  | 0x41 => fieldsPULSE
  | 0x42 => fieldsSENS
  | 0x43 => fieldsEVT
  | 0x44 => fieldsDIAG
  | 0x45 => fieldsPAIRARB
  | 0x46 => fieldsSESS
  | _ => []

end Sys2Proof.Machine
end

