-- ==== Sys2Proof/Machine/State.lean ====
section
/-! DEFINITION. The state of the block: every register field, table byte and piece of hidden state the manual gives it, the
queue of waiting commands, and the state after reset. Plain data throughout. -/
namespace Sys2Proof.Machine

/-- Why the block stops. No command of this block stops it: the manual gives every command an effect. -/
inductive Fault where
  /-- Raised by no meaning. Safe. -/
  | none
deriving DecidableEq, Repr

/-- Why a command is refused. -/
inductive Refusal where
  /-- Raised by the dispatch alone, for a command that has no meaning yet. Safe. -/
  | notModelled (mnemonic : String)
deriving DecidableEq, Repr

/-- An event raised within the command being carried out: its code, instance, data words, and whether it is an error
written to ERR_CODE as well (R46, R59). -/
structure Ev where
  code : EvCode
  inst : Nat
  data : List Nat
  err  : Bool
deriving DecidableEq, Repr

/-- What the block sends outside. -/
inductive Out where
  /-- An MSI-X message of a vector (R429). -/
  | msix (vec addr data : Nat)
  /-- A PTP message leaving a fabric port (R66). -/
  | ptp (port : Nat) (kind : Nat) (msg : PtpMsg)
  /-- A time-triggered output's ball changes level (R76). -/
  | tpo (n : Nat) (level : Bool)
  /-- A phase's gate outputs take the levels PWM_H and PWM_L (R133 to R138). -/
  | pwm (phase : Nat) (high low : Bool)
  /-- A contactor coil output changes (R144). -/
  | coil (i : Nat) (on : Bool)
  /-- The safe-off wire is driven or released (R332). -/
  | safeOff (driven : Bool)
  /-- A safety test output changes level (R335). -/
  | stp (i : Nat) (level : Bool)
  /-- A load-switch channel begins or ends conducting; PWM counts as conducting (R403). -/
  | lsw (c : Nat) (on : Bool)
  /-- The external command chain is shifted out and latched (R415). -/
  | chain (len bits : Nat)
  /-- An Ethernet frame leaves a fabric port (R102, R106). -/
  | fabric (port : Nat) (bytes : List Nat)
  /-- PILOT_OUTn: 0 inactive, 1 active, 2 PWM (Table 10.5). -/
  | pilot (n level : Nat)
  /-- A HomePlug management message to the modem of link n: CM_SET_KEY.REQ 1, SLAC_PARM.CNF 2, ATTEN_CHAR.IND 3,
  SLAC_MATCH.CNF 4, VALIDATE.CNF 5, with its values. -/
  | slac (n msg : Nat) (vals : List Nat)
  /-- A packet or connection action of context n: neighbour solicitation 0 and advertisement 1, echo reply 2, SDP answer 3,
  TCP SYN-ACK 4, RST 5, ACK 6, retransmission 7, close 8; TLS alert 9, hello retry 10, server flight 11, close_notify 12,
  key update 13. -/
  | net (n msg : Nat) (vals : List Nat)
  /-- A dialogue response of context n to the step of Table 11.6: its result code and its values (Table 11.9). -/
  | v2g (n step result : Nat) (vals : List Int)
  /-- POUTk takes a level (R283, R284). -/
  | pulse (k : Nat) (level : Bool)
  /-- PAIRARB drives ARB_OUTk at a level, or leaves it undriven (R380). -/
  | arb (k : Nat) (level : Option Bool)
  /-- FAIL_N takes a level (R377). -/
  | failN (high : Bool)
  /-- HB_OUT takes a level (R376). -/
  | hb (high : Bool)
  /-- A Mirror frame and a status frame leave on the mirror lane (R383). -/
  | mirror (f : MirFrame)
  | mirStatus (st : MirStatus)
  /-- A request crosses the control–metrology link (R12): its kind and its data. -/
  | d2d (kind : Nat) (data : List Nat)
  /-- The answer to a host read: address and data. -/
  | rdata (addr val : Nat)
  /-- A host read completes with status Completer Abort (R424). -/
  | cplAbort (addr : Nat)
  /-- The device's part of a quad-SPI frame (Table 17.2). -/
  | spi (bytes : List Nat)
  /-- The DMA engine writes host memory, or asks for a descriptor (R433, R435). -/
  | hostMem (addr : Nat) (bytes : List Nat)
  | descRead (addr : Nat)
deriving DecidableEq, Repr

/-- The wake detection of one link in DORMANT: its KIND and the bounds of signals A and B, mV (R26, R233). -/
structure WakeWindow where
  kind : Nat
  loA : Int
  hiA : Int
  loB : Int
  hiB : Int
deriving DecidableEq, Repr

/-- Hidden state of modes, resets, supplies and configuration (chapter 02 and R56 to R58). -/
structure SysState where
  /-- held in reset until the rails are good and the button released (R462, R36) -/
  held : Bool := true
  /-- the mode held before VAULT, to which R31 returns -/
  vaultFrom : Mode := .ready
  /-- the mode SAFE_HOLD was entered from (R349) -/
  safeFrom : Mode := .ready
  /-- causes of the reset in progress, Table 2.6 bits, recorded after it (R34); the state after reset is the power-on one -/
  resetCauses : Nat := 1
  /-- the reset came in VAULT (R321, type 13) -/
  vaultReset : Bool := false
  /-- causes of a reset request deferred while outlets ramp (R35) -/
  deferred : Nat := 0
  /-- causes of a reset request held during VAULT (R35) -/
  heldRequest : Nat := 0
  /-- the button is disregarded until seen released for 1 s (R36) -/
  btnIgnored : Bool := false
  /-- VLS has been below VRESET since VAULT was entered (R31) -/
  vresetSeen : Bool := false
  /-- the flush of R30 is running -/
  flushing : Bool := false
  /-- tick at which VAULT was entered -/
  vaultTick : Nat := 0
  /-- causes of the reset that ends this VAULT, Table 2.6 bits (R34) -/
  vaultCauses : Nat := 0
  /-- the condition of the return was met during the flush: lowest VLS and time in VAULT (R31) -/
  recoverDue : Option (Int × Nat) := none
  /-- HOLDUP_SHORT is to be logged when VAULT is left (R469) -/
  holdupShort : Option Int := none
  /-- windows copied from the LINK pages at entry to DORMANT, per link (R26, R233) -/
  wakeWindows : List WakeWindow := []
  /-- the active image has not been loaded since its activation (R57) -/
  imageFresh : Bool := true
  /-- the last check found the inactive image good, and nothing has written it since (R58) -/
  imgGood : Bool := false
  /-- CONFIGURE waits for the host (R38) -/
  waitHost : Bool := false
  /-- SELFTEST passed since reset (R39) -/
  selftestPassed : Bool := false
  /-- leaving SAFE_HOLD requires a reset (R29) -/
  needsReset : Bool := false
  /-- the control–metrology link is lost (R14) -/
  metLost : Bool := false
  /-- the conditions of SEALED_SERVICE hold: the seal was opened with every outlet idle, and is open still (Table 2.2, R22) -/
  sealedSvc : Bool := false
  /-- tick since which READY has lasted with every outlet idle (R25) -/
  idleSince : Nat := 0
deriving DecidableEq, Repr

/-- Hidden state of the event log (R61, R471). -/
structure EvtState where
  /-- per code and instance, one more than the tick of the last logged record -/
  lastLogged : FMap Nat := []
  /-- LOG_FILL is armed -/
  fillArmed : Bool := true
  /-- by page × 32 + group, one more than the tick of the group's last event (R45) -/
  rawTick : FMap Nat := []
deriving DecidableEq, Repr

/-- A delay measurement of a port: the timestamps gathered so far (R66, R67), in ns. -/
structure DelayMeas where
  seqId : Nat := 0
  t1 : Int := 0
  t2 : Int := 0
  t3 : Int := 0
  t4 : Int := 0
  corr : Int := 0
  busy : Bool := false
deriving DecidableEq, Repr

/-- Hidden state of the time base (chapter 04). -/
structure TimeState where
  /-- fabric time in units of 2^−32 ns (R64) -/
  fab : Nat := 0
  /-- legal time in units of 2^−32 ns since the epoch of UTC seconds (R74) -/
  legal : Nat := 0
  /-- legal slew still to be worked off, 2^−32 ns (R74) -/
  legalSlew : Int := 0
  /-- fabric slew still to be worked off, 2^−32 ns (R70) -/
  slew : Int := 0
  /-- servo accumulator (R67) -/
  acc : Int := 0
  /-- consecutive results below LOCK_NS, and above UNLOCK_NS (R68) -/
  lockRun : Nat := 0
  unlockRun : Nat := 0
  /-- the last increments, newest first, at most 128, 2^−32 ns (R68) -/
  incrs : List Nat := []
  /-- tick of the last Sync result, when there has been one (R69) -/
  lastSync : Option Nat := none
  /-- a two-step Sync waiting for its Follow_Up: sequence, receive stamp, corrections (R72) -/
  pendingSync : Option (Nat × Int × Int) := none
  /-- the slave port's last Sync: master and local stamps, ns -/
  syncT1 : Int := 0
  syncT2 : Int := 0
  /-- by port: the delay measurement in progress, and the delay last measured, ns (R67, R73) -/
  delays : FMap DelayMeas := []
  paths : FMap Int := []
  /-- an Announce has confirmed the master; its currentUtcOffset (R66, R74) -/
  announced : Option Int := none
  /-- sequence number of the next message a port originates -/
  txSeq : Nat := 0
  /-- residence times held by port and sequenceId for a two-step Sync (R73), 2^−16 ns -/
  heldResidence : FMap Int := []
  /-- tick at which HOLDOVER was entered -/
  holdoverTick : Nat := 0
deriving DecidableEq, Repr

/-- One time-triggered output (R76 to R79). -/
structure TpoState where
  /-- the number k of its next periodic instance -/
  next : Nat := 0
  /-- fabric time of its next action, 2^−32 ns -/
  due  : Nat := 0
  /-- planned end of the pulse in progress, 2^−32 ns -/
  stop : Option Nat := none
  /-- a one-shot action has run -/
  acted : Bool := false
deriving DecidableEq, Repr

/-- Hidden state of one phase (R136, R153, R154, R158). -/
structure PhaseState where
  /-- a pulse is in progress, the primary switch on -/
  pulse : Bool := false
  /-- the phase takes part in switching -/
  started : Bool := false
  /-- the period in progress runs in the export direction (R138) -/
  exp : Bool := false
  /-- previous on-time, 2.5 ns ticks (R136) -/
  nPrev : Nat := 0
  /-- start code of the period in progress -/
  code : Nat := 0
  /-- tick of the pulse's start -/
  startTick : Nat := 0
  /-- consecutive max-on periods, and those of them in which another phase of the group tripped (R153) -/
  maxOnRun : Nat := 0
  openRun : Nat := 0
  /-- in the period in progress another enabled phase of the group has tripped, and this one reached maximum on-time (R153) -/
  peerTrip : Bool := false
  endedMax : Bool := false
  /-- tick of the on-time's last end, with the two counts of R153 as they stood before it (R158) -/
  endTick : Option Nat := none
  maxOnBefore : Nat := 0
  openBefore : Nat := 0
  /-- GAIN, ZERO and I_OFS of the period in progress (R157) -/
  gain : Nat := 0
  zero : Nat := 0
  ofs : Int := 0
  /-- implied currents of the block in progress, mA, and their number (R154) -/
  impliedSum : Int := 0
  impliedCnt : Nat := 0
  /-- on-times of the block in progress, and over the run of disagreeing blocks -/
  blkOn : Nat := 0
  blkOnCnt : Nat := 0
  runOn : Nat := 0
  runOnCnt : Nat := 0
  /-- ticks and on-times of the pulses of the last 2 ms, newest first (Table 7.6, ONTIME) -/
  hist : List (Nat × Nat) := []
  /-- a truncated or skipped period falls in the block in progress (R158) -/
  spoiled : Bool := false
deriving DecidableEq, Repr

/-- Hidden state of one load-switch channel: internal 0 to 31, external 32 to 95 (chapter 16). -/
structure ChanState where
  /-- the command at the smart-power die (R405) -/
  mode : Nat := 0
  duty : Nat := 0
  /-- it conducts, or its command bit is set -/
  on : Bool := false
  /-- tick of the last turn-off; a channel that has never conducted has been off since reset -/
  offTick : Option Nat := none
  /-- it has shut down and waits for a retry (R412) -/
  shut : Bool := false
  /-- the retry delay has expired while something else kept the channel off (R421, R422) -/
  delayDone : Bool := false
  /-- its own sensor has reached 170 °C and not yet fallen below 150 °C (R408) -/
  hot : Bool := false
  /-- its THERM_LATCH was set by a cluster warning (R411) -/
  byCluster : Bool := false
  /-- the claims on the channel when they were last judged, bit per owner code (R404) -/
  claims : Nat := 0
  /-- the current has exceeded ILIM at the last conversion outside blanking (R416) -/
  above : Bool := false
deriving DecidableEq, Repr

/-- Hidden state of the smart-power die. -/
structure PowerDie where
  /-- the first command after CONFIGURE has reached the die (R405) -/
  live : Bool := false
  /-- the safe-off wire is seen driven -/
  wire : Bool := false
  /-- MIR.CFG.EN as the last command frame carried it, and no command reaches the die: its link is lost or the control die is in
  reset (R15, R32) -/
  paired : Bool := false
  cut : Bool := false
  /-- tick at which the control–power link was lost, and the LSW and LSX fields as last received before (R406) -/
  lostTick : Nat := 0
  stale : FMap Nat := []
deriving DecidableEq, Repr

/-- Hidden state of one sensor ADC channel (R196, R197): its last codes, newest first, and the run of codes out of limits. -/
structure SensChan where
  codes  : List Nat := []
  outRun : Nat := 0
deriving DecidableEq, Repr

/-- Time a lane of the PID engine was busy with one sample: its tick, the lane and nanoseconds (R173). -/
structure LaneUse where
  tick : Nat
  lane : Nat
  ns : Nat
deriving DecidableEq, Repr

/-- Hidden state of the slow loop slots (R167): slots whose next sample is their first since CLOSED, and those of them
whose first output is to equal MANUAL. -/
structure LoopState where
  first : Nat := 0
  preset : Nat := 0
  /-- the samples computed in the last 10 ms, newest first (R173, LOOP.LOAD) -/
  busy : List LaneUse := []
deriving DecidableEq, Repr

/-- One MSI-X table entry in the PCIe layout (R429). -/
structure MsixEntry where
  addr : Nat := 0
  data : Nat := 0
  masked : Bool := true
deriving DecidableEq, Repr

/-- A read result held for a repeated SPI frame (R427): opcode, address, data, and whether the access ended as R424 says. -/
structure SpiHeld where
  op : Nat
  addr : Nat
  data : Nat
  busErr : Bool
deriving DecidableEq, Repr

/-- Hidden state of the host interface (chapter 17). -/
structure HostState where
  /-- conditions of the 64 vectors when they were last judged (R429) -/
  vecCond : Nat := 0
  /-- pending bits of masked vectors -/
  pba : Nat := 0
  msix : FMap MsixEntry := []
  /-- the level of INT_N, true while asserted (R430), and the legacy interrupt (Table 17.1) -/
  intN : Bool := false
  intA : Bool := false
  /-- queued SPI writes, oldest first, and the held read result (R427) -/
  spiQ : List (Nat × Nat) := []
  spiHeld : Option SpiHeld := none
deriving DecidableEq, Repr

/-- Hidden state of one DMA channel (R433 to R440): the descriptor in hand, or the working copy of the shadow set. -/
structure DmaChan where
  /-- the descriptor in hand has been read -/
  fetched : Bool := false
  /-- the tail is fetched again after an append (R438) -/
  again : Bool := false
  direct : Bool := false
  next : Nat := 0
  ctrl : Nat := 0
  src : Nat := 0
  dst : Nat := 0
  len : Nat := 0
  /-- bytes moved, and for an overlapping transfer whether it runs downward (R439) -/
  moved : Nat := 0
  overlap : Bool := false
  down : Bool := false
  /-- a paced descriptor has reached HI and moves records (R440) -/
  flowing : Bool := false
  /-- state to which RESUME returns -/
  resume : Nat := 0
deriving DecidableEq, Repr

/-- Hidden state of the DMA engine: the channels and the channel granted the mover last (R433). -/
structure DmaState where
  chans : FMap DmaChan := []
  last : Nat := 15
deriving DecidableEq, Repr

/-- Hidden state of the lifetime records and the store (chapter 18). -/
structure LifeState where
  /-- increments kept at the control die while its link is lost (R448) -/
  pend : FMap Nat := []
  /-- a baseline is due at the next second; the bytes of table 12 at the last baseline (R451) -/
  baseDue : Bool := false
  base : List Host.Cell := []
  /-- charge through the cable not yet a whole Ah, by outlet, in units of R273 (Table 18.1) -/
  charge : FMap Nat := []
  /-- corrections of the scrub pass in progress (R457) -/
  corr : Nat := 0
  /-- uncorrectable blocks of the configuration images (R456) -/
  imgBad : List Nat := []
deriving DecidableEq, Repr

/-- Sums of one outlet's samples in a metrology cycle (R273, R279): the voltage's letter first, M metering, C control. -/
structure OutAcc where
  svM : Int := 0
  svC : Int := 0
  siM : Int := 0
  siC : Int := 0
  spMM : Int := 0
  spMC : Int := 0
  spCM : Int := 0
  spCC : Int := 0
deriving DecidableEq, Repr

/-- A finished metrology cycle kept for R291: its sequence number, the tick of its end, the channels that were bad in it,
the outlets' sums and the grid's. -/
structure CycRec where
  seq : Nat := 0
  endTick : Nat := 0
  bad : Nat := 0
  accs : FMap OutAcc := []
  spG : Int := 0
deriving DecidableEq, Repr

/-- A loss, freeze or overrange of a Lens channel (R278, R289): the tick and legal seconds and nanoseconds of its onset, its
data (cause or code), whether it has been judged, recorded as tamper, or put down to the supply. -/
structure ChanLoss where
  present : Bool := false
  tick : Nat := 0
  sec : Nat := 0
  ns : Nat := 0
  data : Nat := 0
  judged : Bool := false
  tamper : Bool := false
  supply : Bool := false
deriving DecidableEq, Repr

/-- Sums of VM and IM of one outlet in the 100 µs block in progress (R271). -/
structure BlkAcc where
  sv : Int := 0
  si : Int := 0
  ns : Nat := 0
deriving DecidableEq, Repr

/-- One pulse output (R283 to R285): residue in units of R273, due times of the queued pulses in µs of legal time, and the
phase of the pulse, 1 active, 2 gap. -/
structure PulseState where
  acc : Nat := 0
  due : List Nat := []
  phase : Nat := 0
deriving DecidableEq, Repr

/-- The grid window in progress (R277): samples newest first, each with its stamp in ns and its seven values; the last two
samples of the reference; the positive-going crossings newest first, ns; the frequency is lost; the stamp from which a
window of nominal length runs. -/
structure GridState where
  win : List (Int × List Int) := []
  prev : Option (Int × Int) := none
  cross : List Int := []
  lost : Bool := false
  nomFrom : Int := 0
deriving DecidableEq, Repr

/-- The capture buffer (R286, R287): metering samples stored since ARM, the count at the trigger, lane 0's last word, whether
its last sample crossed CAP_LEVEL upward, whether a Lens event of severity 5 has been logged since ARM, and the stamp of the
last sample, ns. -/
structure CapState where
  total : Nat := 0
  trig : Option Nat := none
  last : Option Int := none
  crossed : Bool := false
  sev5 : Bool := false
  stamp : Int := 0
deriving DecidableEq, Repr

/-- Hidden state of the Lens (chapter 12). -/
structure LensState where
  /-- the metrology die has started and its clocks run (R268) -/
  started : Bool := false
  /-- losses by condition × 32 + channel: 0 lost, 1 frozen, 2 overrange -/
  loss : FMap ChanLoss := []
  /-- last code, and consecutive samples beyond OVR_LIM, by channel -/
  codes : FMap Int := []
  overRun : FMap Nat := []
  /-- the cycle in progress: samples, sums, grid power, channels bad at any time in it, its start in legal ns -/
  ns : Nat := 0
  accs : FMap OutAcc := []
  spG : Int := 0
  badSeen : Nat := 0
  startNs : Nat := 0
  /-- finished cycles, newest first (R291) -/
  hist : List CycRec := []
  /-- channels declared frozen since the last cycle end, with the tick of their first frozen sample (R291) -/
  froz : List (Nat × Nat) := []
  /-- configuration in force, by field key, where it differs from reset (R282) -/
  force : FMap Nat := []
  /-- writes that take effect at the next cycle boundary: tick, field key, value -/
  due : List (Nat × Nat × Nat) := []
  /-- channels that have had a calibration write since CAL_BAD was set -/
  calDone : Nat := 0
  blk : FMap BlkAcc := []
  /-- last block means at the control die, mV and mA, by outlet (R271) -/
  blkV : FMap Int := []
  blkI : FMap Int := []
  pulses : FMap PulseState := []
  grid : GridState := {}
  cap : CapState := {}
deriving DecidableEq, Repr

/-- A request for session readings waiting for the end of its cycle (R315, R318). -/
inductive SessReq where
  | opn (point sid : Nat)
  | cls (point : Nat)
  | read (point : Nat)
deriving DecidableEq, Repr

/-- One point's result of a cycle: 0 nothing, 1 booked, 2 unverified; energy and charge in units of R273. -/
structure PtRes where
  point : Nat
  mode : Nat
  sp : Int
  si : Int
deriving DecidableEq, Repr

/-- The result of one metrology cycle as the Lens hands it over: sequence number, end stamp, points, cycles to book again
under R279 (sequence number, point, unverified units), requests of the cycle, the new time when a step ended it, and
whether it comes from a vault record. -/
structure CycleRes where
  seq : Nat
  sec : Nat
  ns : Nat
  epoch : Nat
  pts : List PtRes
  rebook : List (Nat × Nat × Nat)
  reqs : List SessReq
  step : Option (Nat × Nat)
  vault : Bool
deriving DecidableEq, Repr

/-- A billing entry (Table 13.2): VALUE and FRAC as one number in 2^−32 of the unit. -/
structure BillEnt where
  val : Nat := 0
  sec : Nat := 0
  ns : Nat := 0
  epoch : Nat := 0
  seq : Nat := 0
  period : Nat := 0
  flags : Nat := 0
deriving DecidableEq, Repr

/-- A boundary pending (R313): its sequence number, time, causes by bit (0 tariff switch, 1 interval end, 2 period close by
the calendar, 3 activation, 4 demand configuration, 5 step, 6 restart, 7 period close by the host), the tariffs to come,
and the legal seconds and epoch from which the new intervals run. -/
structure Pending where
  seq : Nat
  sec : Nat
  ns : Nat
  epoch : Nat
  causes : Nat
  tariffs : Nat
  fromSec : Nat
  fromEpoch : Nat
deriving DecidableEq, Repr

/-- A cycle booked, kept for withdrawals (R291, R328): tariffs of the sixteen points, interval serials, and the amounts
handed over, by point × 8 + quantity, 2^−32 of the unit. -/
structure BookRec where
  seq : Nat
  tariffs : Nat
  ivs : FMap Nat
  amts : FMap Int
deriving DecidableEq, Repr

/-- The intent record of R299: the cycle and its estimates in mWh by point. -/
structure Intent where
  seq : Nat
  startNs : Nat
  sec : Nat
  ns : Nat
  epoch : Nat
  est : FMap Nat
  tariffs : Nat
deriving DecidableEq, Repr

/-- The vault record of R300: the partial cycle, whether it has been booked, and DONE. -/
structure VaultRec where
  res : CycleRes
  booked : Bool
  done : Bool
deriving DecidableEq, Repr

/-- A reading: stamp, totals in Wh, UNVERIFIED_WH, and the count of BILL.UNFLUSHED (R318, HOLDUP_SHORT of Table 13.4). -/
structure Reading where
  sec : Nat := 0
  ns : Nat := 0
  epoch : Nat := 0
  imp : Nat := 0
  exp : Nat := 0
  unv : Nat := 0
  unf : Nat := 0
deriving DecidableEq, Repr

/-- An open session record: its ring entry, serial and session ID, and its start reading. -/
structure OpenRec where
  entry : Nat := 0
  serial : Nat := 0
  sid : Nat := 0
  start : Reading := {}
deriving DecidableEq, Repr

/-- Hidden state of the billing engine and the session ring (chapter 13); kept in the ferroelectric store. -/
structure BillState where
  /-- period 0 by (point × 16 + tariff) × 8 + quantity; closed periods, most recent first: blank entry and entries -/
  cur : FMap BillEnt := []
  closed : List (BillEnt × FMap BillEnt) := []
  /-- sequence number of the last cycle, unbounded; registers and entries show its low 32 bits -/
  seq : Nat := 0
  cycleSeq : Nat := 0
  /-- exact remainders by point × 8 + quantity (R273) -/
  rem : FMap Int := []
  /-- demand of the interval in progress by point × 2 + direction, held subintervals newest first (R308, R309) -/
  acc : FMap Int := []
  subs : FMap (List Int) := []
  /-- tariff the interval in progress is booked to, and its serial, by point -/
  ivTar : FMap Nat := []
  ivSer : FMap Nat := []
  /-- end of the interval or subinterval in progress, legal seconds; an interval is open -/
  ivEnd : Nat := 0
  ivOpen : Bool := false
  /-- L, S and SLIDING in force -/
  len : Nat := 15
  sub : Nat := 1
  sliding : Bool := false
  cfgDue : Bool := false
  closeDue : Bool := false
  restartDue : Bool := false
  /-- tariffs are to be judged at the next cycle end; legal seconds at which they were last judged -/
  judgeDue : Bool := false
  judgeSec : Nat := 0
  pend : Option Pending := none
  held : List CycleRes := []
  hist : List BookRec := []
  intent : Option Intent := none
  record : Option VaultRec := none
  /-- session requests of the cycle in progress -/
  reqs : List SessReq := []
  opens : FMap OpenRec := []
  /-- open records are to be closed with INTERRUPTED at the next cycle end (R320) -/
  interrupt : Bool := false
  /-- ring entries awaiting their signature, oldest first -/
  signs : List Nat := []
  /-- count of BILL.UNFLUSHED at the last close of a period -/
  closeUnf : Nat := 0
  /-- last TYPE 2 or TYPE 3 reading by point -/
  reads : FMap Reading := []
deriving DecidableEq, Repr

/-- Hidden state of the protections (R48, R49, R361 to R365). -/
structure ProtState where
  /-- the stored passwords, none while unset: 16 bytes of salt, then the SHA-256 of the salt and the characters -/
  pwSafety : Option (List Nat) := none
  pwSeal : Option (List Nat) := none
  /-- failures since the last success -/
  failsSafety : Nat := 0
  failsSeal : Nat := 0
  /-- tick at which the lockout began -/
  lockSafety : Option Nat := none
  lockSeal : Option Nat := none
  /-- SEAL_N is asserted -/
  sealN : Bool := false
  /-- tick of the last accepted RWP write or of the password's acceptance (R363) -/
  rwpTick : Nat := 0
deriving DecidableEq, Repr

/-- What waits for the Mirror frame that holds its cause (R240, R384): something on a vehicle link, or a Galesh message to an
address with its payload. -/
inductive Held where
  | out (o : Out)
  | galesh (msg dst : Nat) (payload : List Nat)
deriving DecidableEq, Repr

/-- Hidden state of the pair (chapter 15). -/
structure MirState where
  /-- MIR.CTRL.FAIL has been written without a later UNFAIL (R377); the level of FAIL_N -/
  failAsked : Bool := false
  failN : Bool := false
  /-- the level of HB_OUT (R376) -/
  hbOut : Bool := false
  /-- the image as the last frame left it, and the slice the next frame refreshes (R383) -/
  last : List MirRec := []
  sliceNo : Nat := 0
  /-- good frames in a row since the last gap -/
  goodRun : Nat := 0
  /-- the mode held in the image -/
  imageMode : Mode := .ready
  /-- the identities exchanged at alignment agree (R382) -/
  matched : Bool := false
  /-- requests sent to the metrology die since the last frame (R391) -/
  reqs : List (Nat × List Nat) := []
  /-- a configuration valid for MIRROR waits for alignment (Table 2.2) -/
  waitAlign : Bool := false
  /-- the selection was accepted during VAULT (R397) -/
  selDue : Bool := false
  /-- what waits for the next Mirror frame, oldest first (R384) -/
  held : List Held := []
  /-- functions tripped here, by outlet, that the selected unit's frames have not yet shown latched (R18, R334) -/
  ownTrips : FMap Nat := []
  /-- frames received on vehicle links during VAULT or HANDOVER, oldest first, kept for its end (R229, R265) -/
  kept : List Instr := []
  /-- scopes whose coil-off deadline passed in HANDOVER: outlets 0 to 3, 4 node (R393) -/
  coilHeld : Nat := 0
  /-- tick at which HANDOVER last ended -/
  handEnd : Option Nat := none
deriving DecidableEq, Repr

/-- One unit as the arbiter judges it: heartbeat good, FAIL_N low, tick since which it has not been failed, and healthy,
which is unfailed for the whole hold-off (R380). -/
structure ArbUnit where
  hb : Bool := false
  low : Bool := false
  since : Option Nat := none
  healthy : Bool := false
deriving DecidableEq, Repr

/-- The state of the block. -/
structure State where
  /-- register fields by `Field.key`; a field not listed holds its reset value -/
  regs : FMap Nat := []
  /-- BAR2 tables: byte b of table t at t × 0x0100_0000 + b; an unlisted byte reads 0 -/
  mem : List Host.Cell := []
  /-- waiting commands, first in first out (the model's own) -/
  pending : List Instr := []
  /-- everything sent outside, newest first (the model's own) -/
  out : List Out := []
  /-- events raised by the command in progress; empty between commands (the model's own) -/
  evWait : List Ev := []
  /-- index of the next free value (the model's own) -/
  freeCtr : Nat := 0
  /-- 2.5 ns ticks run (R64); no reset sets it back -/
  ticks : Nat := 0
  sys : SysState := {}
  evt : EvtState := {}
  tim : TimeState := {}
  tpo : FMap TpoState := []
  phases : FMap PhaseState := []
  grps : FMap GroupState := []
  outs : FMap OutletState := []
  loop : LoopState := {}
  sens : FMap SensChan := []
  /-- number of the next sensor frame, modulo 100 (R195) -/
  sensFrame : Nat := 0
  cool : FMap CoolState := []
  chans : FMap ChanState := []
  pdie : PowerDie := {}
  safe : SafeState := {}
  host : HostState := {}
  dma : DmaState := {}
  life : LifeState := {}
  /-- words of table entries waiting for their entry's highest word, by table byte (R55) -/
  tabBuf : FMap Nat := []
  slots : FMap SentSlot := []
  sent : SentState := {}
  tree : TreeState := {}
  links : FMap LinkState := []
  ctxs : FMap CtxState := []
  vde : VdeState := {}
  lens : LensState := {}
  bill : BillState := {}
  prot : ProtState := {}
  gsc : FMap GscConn := []
  mir : MirState := {}
  /-- units as the arbiter judges them, by 2 × pair + 1 for unit B (R380) -/
  arb : FMap ArbUnit := []
deriving DecidableEq, Repr

/-- The machine right after reset: every field at its reset value, held until the rails are good. -/
def State.reset : State := {}

end Sys2Proof.Machine
end

