-- ==== Sys2Proof/Machine/Ops.lean ====
section
/-! DEFINITION. The named operations over the state: register fields, table bytes, events, modes, instances of the
variant, and what leaves the block. -/
namespace Sys2Proof.Machine

/-- The answer of a meaning. -/
abbrev Result := Host.Outcome State Fault Refusal

/-! ### Register fields -/

/-- The value of a field, of its width. -/
def State.get (s : State) (f : Field) : Nat := mget f.reset s.regs f.key % 2 ^ f.width

/-- A field set to a value, of which the field's width is kept. -/
def State.set (s : State) (f : Field) (v : Nat) : State :=
  { s with regs := mput f.reset s.regs f.key (v % 2 ^ f.width) }

/-- The signed value of a field (R8). -/
def State.getI (s : State) (f : Field) : Int := toSigned f.width (s.get f)

/-- A field set to the two's complement pattern of an integer. -/
def State.setI (s : State) (f : Field) (z : Int) : State := s.set f (ofSigned f.width z)

/-- A one-bit field as a truth value. -/
def State.on (s : State) (f : Field) : Bool := s.get f != 0

/-- A one-bit field set. -/
def State.setB (s : State) (f : Field) (b : Bool) : State := s.set f (if b then 1 else 0)

/-- Bit `i` of a field. -/
def State.bit (s : State) (f : Field) (i : Nat) : Bool := (s.get f).testBit i

/-- Bit `i` of a field set. -/
def State.setBit (s : State) (f : Field) (i : Nat) (b : Bool) : State := s.set f (setBitOf (s.get f) i b)

/-- One more, wrapping at the field's width. -/
def State.inc (s : State) (f : Field) : State := s.set f (s.get f + 1)

/-- One more, saturating at the field's width. -/
def State.incSat (s : State) (f : Field) : State := s.set f (satInc f.width (s.get f))

/-- A 64-bit value kept in two registers, high and low. -/
def State.get2 (s : State) (hi lo : Field) : Nat := s.get hi * 2 ^ lo.width + s.get lo

def State.set2 (s : State) (hi lo : Field) (v : Nat) : State := (s.set lo v).set hi (v / 2 ^ lo.width)

/-- Fields put back to their reset values. -/
def State.resetFields (s : State) (fs : List Field) : State := fs.foldl (fun s f => s.set f f.reset) s

/-- Do `f` only when `c` holds. -/
def State.when (s : State) (c : Bool) (f : State → State) : State := if c then f s else s

/-- Do `f` for each element of a list, in order. -/
def State.each {α : Type} (s : State) (l : List α) (f : α → State → State) : State := l.foldl (fun s a => f a s) s

/-! ### Table bytes (R42, R54) -/

/-- Byte `b` of table `t` as a key of the table memory. -/
def tbl (t b : Nat) : Nat := t * 0x1000000 + b

/-- The byte at a key; a byte that is not listed reads 0. -/
def memGet : List Host.Cell → Nat → Byte
  | [], _ => 0
  | (a, b) :: t, k => if a = k then b else memGet t k

/-- Insert or replace a byte, keeping the keys rising. -/
def memIns (k : Nat) (v : Byte) : List Host.Cell → List Host.Cell
  | [] => [(k, v)]
  | (a, b) :: t => if k < a then (k, v) :: (a, b) :: t else if a = k then (k, v) :: t else (a, b) :: memIns k v t

/-- Remove a byte. -/
def memDel (k : Nat) : List Host.Cell → List Host.Cell
  | [] => []
  | (a, b) :: t => if a = k then memDel k t else (a, b) :: memDel k t

/-- Write a byte; a byte of 0 is not listed. -/
def memPut (m : List Host.Cell) (k : Nat) (v : Byte) : List Host.Cell := if v = 0 then memDel k m else memIns k v m

/-- The canonical form of the table memory: keys strictly rising, no listed byte 0. -/
def Memory.wf : List Host.Cell → Bool
  | [] => true
  | [(_, v)] => decide (v ≠ 0)
  | (k, v) :: (k', v') :: t => decide (v ≠ 0) && decide (k < k') && Memory.wf ((k', v') :: t)

/-- The byte at `a` of the table memory, as a number. -/
def State.rdByte (s : State) (a : Nat) : Nat := (memGet s.mem a).toNat

def State.wrByte (s : State) (a v : Nat) : State := { s with mem := memPut s.mem a (BitVec.ofNat 8 v) }

/-- `n` bytes from `a`. -/
def State.rdBytes (s : State) (a n : Nat) : List Nat := (List.range n).map fun i => s.rdByte (a + i)

/-- Bytes written from `a` on. -/
def State.wrBytes (s : State) (a : Nat) : List Nat → State
  | [] => s
  | b :: t => (s.wrByte a b).wrBytes (a + 1) t

/-- An `n`-byte number at `a`, least significant byte first (R5). -/
def State.rdLe (s : State) (a n : Nat) : Nat := ofLe (s.rdBytes a n)

def State.wrLe (s : State) (a n v : Nat) : State := s.wrBytes a (leBytes n v)

/-! ### Outputs, events and free values -/

/-- Something leaves the block. -/
def State.emit (s : State) (o : Out) : State := { s with out := o :: s.out }

/-- An event occurs; it is logged at the end of the command, with the command's stamp. -/
def State.ev (s : State) (c : EvCode) (inst : Nat) (data : List Nat) : State :=
  { s with evWait := s.evWait ++ [⟨c, inst, data, false⟩] }

/-- An error is recorded: written to ERR_CODE and logged (R46, R59). -/
def State.err (s : State) (c : EvCode) (inst : Nat) (data : List Nat) : State :=
  { s with evWait := s.evWait ++ [⟨c, inst, data, true⟩] }

/-- A common error of the page addressed (Table 3.4). -/
def State.errC (s : State) (c : Common) (page : Nat) (data : List Nat) : State :=
  s.err (c.ev (pageKind page)) (pageInst page) data

/-- The next free value. -/
def State.free (s : State) : Nat := Config.freeNat s.freeCtr

def State.freeNext (s : State) : State := { s with freeCtr := s.freeCtr + 1 }

/-! ### Time (R64, R74) -/

/-- 2.5 ns ticks in a microsecond and a millisecond. -/
def ticksUs : Nat := 400
def ticksMs : Nat := 400000

/-- One second in the unit of the clocks, 2^−32 ns. -/
def secUnit : Nat := 1000000000 * 2 ^ 32

def State.fabNs (s : State) : Nat := s.tim.fab / 2 ^ 32
def State.fabSec (s : State) : Nat := s.tim.fab / secUnit
def State.fabNsPart (s : State) : Nat := s.fabNs % 1000000000
def State.legalNs (s : State) : Nat := s.tim.legal / 2 ^ 32
def State.legalSec (s : State) : Nat := s.legalNs / 1000000000
def State.legalNsPart (s : State) : Nat := s.legalNs % 1000000000
def State.epoch (s : State) : Nat := s.get F.TIME_LEGAL_STAT_EPOCH

/-- The record stamp of legal time: seconds, nanoseconds, epoch; 12 bytes (Table 0.5). -/
def State.stamp (s : State) : List Nat := leBytes 6 s.legalSec ++ leBytes 4 s.legalNsPart ++ leBytes 2 s.epoch

/-- Ticks passed since tick `t`. -/
def State.since (s : State) (t : Nat) : Nat := s.ticks - t

/-! ### Modes (Table 2.1) -/

def Mode.code : Mode → Nat
  | .dormant => 0 | .waking => 1 | .selftest => 2 | .configure => 3 | .ready => 4 | .deliver => 5 | .mirror => 6
  | .handover => 7 | .degraded => 8 | .safeHold => 9 | .vault => 10 | .sealedService => 11

def Mode.ofCode : Nat → Mode
  | 0 => .dormant | 1 => .waking | 2 => .selftest | 3 => .configure | 4 => .ready | 5 => .deliver | 6 => .mirror
  | 7 => .handover | 8 => .degraded | 9 => .safeHold | 10 => .vault | _ => .sealedService

/-- The mode of the device (R21). -/
def State.mode (s : State) : Mode := Mode.ofCode (s.get F.SYS_MODE_CURRENT)

/-- The modes before SELFTEST has passed. -/
def Mode.early : Mode → Bool
  | .dormant | .waking | .selftest => true
  | _ => false

/-- Host accesses are answered: SELFTEST has passed (R39), also before a VAULT, or the device stands in SAFE_HOLD, where R349 has
the host write its restart whatever mode it was entered from (log entry 107). -/
def State.hostOpen (s : State) : Bool := !(if s.mode = .vault then s.sys.vaultFrom else s.mode).early

/-- Configuration requests over PCIe are answered with Configuration Request Retry Status (R39). -/
def State.configRetry (s : State) : Bool := !s.hostOpen

/-! ### The variant (R1 to R3) -/

def State.is7680 (s : State) : Bool := s.get F.SYS_DEVICE_VARIANT == 0x80
def State.nOutlets (s : State) : Nat := if s.is7680 then 4 else 2
def State.nGroups (s : State) : Nat := if s.is7680 then 12 else 6
def State.outlets (s : State) : List Nat := List.range s.nOutlets
def State.groups (s : State) : List Nat := List.range s.nGroups

/-- The load channel exists on the variant: LS0–LS3 and LS8–LS19 on the GA-7640 (Table 0.2). -/
def State.hasLsw (s : State) (c : Nat) : Bool := if s.is7680 then decide (c < 32) else decide (c < 4) || (decide (8 ≤ c) && decide (c < 20))

/-- The page is present on the variant (R2). -/
def State.hasPage (s : State) (p : Nat) : Bool :=
  decide (p < 0x47) && (s.is7680 ||
    !(p == 0x0C || p == 0x0D || (decide (0x14 ≤ p) && decide (p ≤ 0x19)) || p == 0x1F || p == 0x20 || p == 0x2C || p == 0x24))

/-- A failure of this unit alone, which in a pair acts on its own outputs only: an internal diagnostic failure, or a die-to-die
link of a pair member lost (R378). -/
def State.ownFail (s : State) : Bool :=
  s.safe.internalFailure || (s.on F.MIR_CFG_EN && (s.sys.metLost || s.on F.LSW_STATUS_LINK_LOST))

/-- The exclusive outputs are enabled: the unit is no pair member, or it is the selected one outside HANDOVER (R374). -/
def State.exclusive (s : State) : Bool := !s.on F.MIR_CFG_EN || (s.on F.MIR_STATUS_SELECTED && s.get F.SYS_MODE_CURRENT != 7 && !s.ownFail)

/-- The die that holds a page (Table 3.1). -/
inductive Die where
  | control | metrology | power
deriving DecidableEq, Repr

def dieOf (p : Nat) : Die :=
  if p == 0x2B || p == 0x2C then .power
  else if p == 0x02 || p == 0x03 || (decide (0x23 ≤ p) && decide (p ≤ 0x27)) || p == 0x3F || p == 0x40 || p == 0x41 || p == 0x46 then .metrology
  else .control

/-! ### Common header fields of a page (Table 3.2) -/

def hEvtRaw (p : Nat) : Field := fld p 0x010 31 0 .ro 0
def hEvtEn (p : Nat) : Field := fld p 0x014 31 0 .rw 0
def hErrNew (p : Nat) : Field := fld p 0x00C 31 31 .ro 0
def hErrCount (p : Nat) : Field := fld p 0x020 31 16 .ro 0
def hErrCode (p : Nat) : Field := fld p 0x020 15 0 .ro 0
def hErrNs (p : Nat) : Field := fld p 0x024 29 0 .ro 0
def hErrSec (p : Nat) : Field := fld p 0x028 31 0 .ro 0
def hDiagSel (p : Nat) : Field := fld p 0x030 31 16 .rw 0
def hDiagArm (p : Nat) : Field := fld p 0x030 0 0 .rw 0
/-- Bits of CAP[31:16]: block-specific and not given by the manual (log entry 3). -/
def hCapBlock (p : Nat) : Field := fld p 0x004 31 16 .ro 0

/-- The header fields that hold state. -/
def headerFields (p : Nat) : List Field :=
  [hEvtRaw p, hEvtEn p, hErrNew p, hErrCount p, hErrCode p, hErrNs p, hErrSec p, hDiagSel p, hDiagArm p]

/-- The block's fields of the register at `off` of `page`, for its instance and its place in a repeated group. -/
def fieldsAt (page off : Nat) : List Field :=
  (kindFields page).filterMap fun f =>
    if off < f.off then none
    else if f.stride = 0 then (if off = f.off then some (f.inst (pageInst page)) else none)
    else if (off - f.off) % f.stride = 0 && decide ((off - f.off) / f.stride < f.count) then
      some ((f.inst (pageInst page)).nth ((off - f.off) / f.stride))
    else none

/-- The register word made of the fields at an offset; bits of no field read 0. -/
def State.regWord (s : State) (page off : Nat) : Nat :=
  (fieldsAt page off).foldl (fun w f => w + s.get f * 2 ^ f.lo) 0

/-- The bits of the register at `off` whose access code satisfies `p`. -/
def maskOf (page off : Nat) (p : Access → Bool) : Nat :=
  (fieldsAt page off).foldl (fun w f => if p f.acc then w + (2 ^ f.width - 1) * 2 ^ f.lo else w) 0

/-- The bits of byte `i` of an entry of table `t` that its layout does not give as zero (R6, Tables 6.3, 6.4, 7.6, 11.3, 11.7 and
13.3); `kind` is byte 0 of a calendar entry. -/
def entryMask (t kind i : Nat) : Nat :=
  match t with
  | 3 =>
    if i = 0 then 255 else
    match kind with
    | 0 => 0
    | 1 => if i = 7 ∨ i = 13 then 0 else 255
    | 2 => if i < 4 then 255 else 0
    | 3 => if i < 9 then 255 else 0
    | 4 => if i = 5 ∨ 8 ≤ i then 0 else 255
    | 5 => if i < 6 then 255 else 0
    | 6 => if i = 3 ∨ 6 ≤ i then 0 else 255
    | _ => 255
  | 5 => if i = 2 then 3 else if i = 3 ∨ i = 10 ∨ i = 11 then 0 else 255
  | 6 => if i = 1 then 3 else if i = 3 ∨ (12 ≤ i ∧ i < 16) then 0 else 255
  | 9 => if i = 3 ∨ i = 12 then 3 else 255
  | 10 => if i = 4 ∨ i = 28 then 7 else if i = 7 ∨ i = 29 then 0 else 255
  | 11 => if i = 4 then 0x83 else if 5 ≤ i then 0 else 255
  | _ => 255

/-- An entry, or its bytes from byte `i` on, without the bits its layout gives as zero. -/
def entryBytes (t kind : Nat) : Nat → List Nat → List Nat
  | _, [] => []
  | i, b :: l => b.land (entryMask t kind i) :: entryBytes t kind (i + 1) l

/-- (old and not mask) or (value and mask), `w` bits wide. -/
def masked (w old mask val : Nat) : Nat := ((old.land (2 ^ w - 1 - mask % 2 ^ w)).lor (val.land mask)) % 2 ^ w

/-- The fields of a register whose access code satisfies `p` take the value's bits under the mask. -/
def State.setWord (s : State) (page off mask val : Nat) (p : Access → Bool) : State :=
  s.each (fieldsAt page off) fun f s =>
    s.when (p f.acc && bits mask f.hi f.lo != 0) fun s =>
      s.set f (masked f.width (s.get f) (bits mask f.hi f.lo) (bits val f.hi f.lo))

/-- Every page of the register space. -/
def allPages : List Nat := List.range 0x47

end Sys2Proof.Machine
end

