-- ==== Sys2Proof/Machine/Flags.lean ====
section
/-! DEFINITION. The event flags and what follows from them: EVT_RAW and EVT_PEND (R45), ERR_CODE (R46), the event log
(R60 to R62, R471), interrupt conditions, MSI-X messages and INT_N (R428 to R430); and `finish`, which ends every
command: its events are logged in ascending code order under one stamp (R61), then the interrupts are judged. -/
namespace Sys2Proof.Machine

/-- EVT_PEND: RAW and EN (R45). -/
def State.evtPend (s : State) (p : Nat) : Nat := (s.get (hEvtRaw p)).land (s.get (hEvtEn p))

/-! ### The log ring, table 1 -/

def logSize : Nat := 8192

/-- The 16-bit event code of Table 0.5. -/
def EvCode.code16 (c : EvCode) : Nat := c.page * 256 + c.code

/-- The 32 bytes of an event record (Table 3.5); the data words stand least significant byte first (log entry 9). -/
def State.evRecord (s : State) (e : Ev) : List Nat :=
  s.stamp ++ leBytes 2 e.code.code16 ++ [e.code.sev % 256, e.inst % 256] ++
    slice ((e.data.map fun d => leBytes 4 (d % 2 ^ 32)).flatten) 0 16

/-- Records between TAIL and HEAD. -/
def State.logFill (s : State) : Nat := (s.get F.EVT_HEAD_INDEX + logSize - s.get F.EVT_TAIL_INDEX) % logSize

/-- FILL follows HEAD and TAIL, and LOG_FILL is armed again once FILL is below FILL_IRQ (R471). -/
def State.refreshFill (s : State) : State :=
  let n := s.logFill
  let s := s.set F.EVT_FILL_COUNT n
  if n < s.get F.EVT_LOG_CFG_FILL_IRQ then { s with evt := { s.evt with fillArmed := true } } else s

/-- Make room in a log of 8,191 records: discard the oldest and count it lost (R62). -/
def State.logMakeRoom (s : State) : State :=
  if s.logFill = logSize - 1 then
    (s.set F.EVT_TAIL_INDEX ((s.get F.EVT_TAIL_INDEX + 1) % logSize)).inc F.EVT_LOST_COUNT
  else s

/-- Write one record at HEAD and advance HEAD. -/
def State.logWrite (s : State) (e : Ev) : State :=
  let h := s.get F.EVT_HEAD_INDEX
  ((s.wrBytes (tbl 1 (h * 32)) (s.evRecord e)).set F.EVT_HEAD_INDEX ((h + 1) % logSize)).inc F.EVT_APPENDED_COUNT
    |>.refreshFill

/-- The page an event belongs to: its kind's page plus the instance for the kinds that have instances (R59). -/
def Ev.page (e : Ev) : Nat :=
  if e.code.page = 0x0A ∨ e.code.page = 0x0E ∨ e.code.page = 0x1D ∨ e.code.page = 0x2F then e.code.page + e.inst else e.code.page

/-- The group bit of the event's page (R45): bit c[7:3]; the tick of the event is kept for a write that clears it. -/
def State.setRaw (s : State) (e : Ev) : State :=
  { s with evt := { s.evt with rawTick := mput 0 s.evt.rawTick (e.page * 32 + e.code.code / 8) (s.ticks + 1) } }.setBit
    (hEvtRaw e.page) (e.code.code / 8) true

/-- Groups of a page that have had an event in this tick. -/
def State.rawNow (s : State) (p : Nat) : Nat :=
  (List.range 32).foldl (fun w b => if mget 0 s.evt.rawTick (p * 32 + b) = s.ticks + 1 then w + 2 ^ b else w) 0

/-- Append a record, and LOG_OVERRUN after it when its discard opens an overrun episode (R62). -/
def State.logAppend (s : State) (e : Ev) : State :=
  let lost0 := s.get F.EVT_LOST_COUNT
  let s1 := (s.logMakeRoom).logWrite e
  if lost0 = 0 ∧ s1.get F.EVT_LOST_COUNT ≠ 0 then
    let s2 := s1.logMakeRoom
    let o : Ev := ⟨E.EVT_LOG_OVERRUN, 0, [s2.get F.EVT_LOST_COUNT], false⟩
    (s2.logWrite o).setRaw o
  else s1

/-- The key under which repeats of a code and instance are judged (R61). -/
def Ev.key (e : Ev) : Nat := e.code.code16 * 256 + e.inst

/-- An event of severity 0 to 3 that repeats within 1 ms of its last logged record (R61). -/
def State.suppressed (s : State) (e : Ev) : Bool :=
  decide (e.code.sev ≤ 3) && (let t := mget 0 s.evt.lastLogged e.key; t != 0 && decide (s.ticks + 1 - t ≤ ticksMs))

/-- Log one event by R61 and R62. -/
def State.logOne (s : State) (e : Ev) : State :=
  if e.code.sev ≤ 2 ∧ e.code.sev < s.get F.EVT_LOG_CFG_MIN_SEV then s
  else if s.suppressed e then s.inc F.EVT_SUPPRESSED_COUNT
  else
    let s := s.logAppend e
    { s with evt := { s.evt with lastLogged := mput 0 s.evt.lastLogged e.key (s.ticks + 1) } }

/-- The entry of the ring before entry `i`. -/
def logPrev (i : Nat) : Nat := (i + logSize - 1) % logSize

/-- The record of entry `i` stands after one of an equal stamp and a greater code (R61); LOG_OVERRUN keeps its own place
(R62). -/
def State.logUnsorted (s : State) (i : Nat) : Bool :=
  let a := tbl 1 (i * 32)
  let b := tbl 1 (logPrev i * 32)
  let ov := E.EVT_LOG_OVERRUN.code16
  s.rdBytes b 12 == s.rdBytes a 12 && decide (s.rdLe (a + 12) 2 < s.rdLe (b + 12) 2) && s.rdLe (a + 12) 2 != ov &&
    s.rdLe (b + 12) 2 != ov

/-- Two neighbouring records change places. -/
def State.logSwap (s : State) (i : Nat) : State :=
  let a := tbl 1 (i * 32)
  let b := tbl 1 (logPrev i * 32)
  (s.wrBytes a (s.rdBytes b 32)).wrBytes b (s.rdBytes a 32)

/-- The record of entry `i` moves to its place by code among the `n` unread records before it that have its stamp. -/
def State.logSinkFrom (s : State) : Nat → Nat → State
  | 0, _ => s
  | n + 1, i => if s.logUnsorted i then (s.logSwap i).logSinkFrom n (logPrev i) else s

/-- Records with equal stamps stand in ascending code order (R61): the last record moves to its place. -/
def State.logSink (s : State) : State := s.logSinkFrom (s.logFill - 1) (logPrev (s.get F.EVT_HEAD_INDEX))

/-- LOG_FILL: raised at the first moment FILL is at or above FILL_IRQ while armed (R471). -/
def State.judgeFill (s : State) : State :=
  if s.evt.fillArmed ∧ s.get F.EVT_LOG_CFG_FILL_IRQ ≤ s.logFill then
    let e : Ev := ⟨E.EVT_LOG_FILL, 0, [s.logFill], false⟩
    ({ s with evt := { s.evt with fillArmed := false } }.setRaw e).logOne e
  else s

/-! ### The rings the host reads out (R440, R471, R472) -/

/-- The ring of PACE_CFG.SRC: table, record bytes, entries. -/
def paceRing (k : Nat) : Nat × Nat × Nat := match k with | 0 => (1, 32, 8192) | 1 => (2, 128, 2048) | _ => (4, 32, 1024)
def ringTailField (k : Nat) : Field := match k with | 0 => F.EVT_TAIL_INDEX | 1 => F.SESS_TAIL_INDEX | _ => F.SEAL_CLOG_TAIL_INDEX
def ringFillField (k : Nat) : Field := match k with | 0 => F.EVT_FILL_COUNT | 1 => F.SESS_FILL_COUNT | _ => F.SEAL_CLOG_FILL_COUNT
def State.ringTail (s : State) (k : Nat) : Nat := s.get (ringTailField k)
def State.ringFill (s : State) (k : Nat) : Nat := s.get (ringFillField k)

/-- A ring's TAIL is moved on to `v`; FILL follows. -/
def State.setTail (s : State) (k v : Nat) : State :=
  let n := (paceRing k).2.2
  let adv := (v + n - s.ringTail k) % n
  let f := s.ringFill k
  let s := (s.set (ringTailField k) v).set (ringFillField k) (f - adv)
  s.when (k == 0) State.refreshFill

/-- Number of a ring in `paceRing`'s order, and the page and offset of its TAIL. -/
def ringNo : Ring → Nat
  | .evt => 0 | .sess => 1 | .clog => 2
def ringPage : Ring → Nat
  | .evt => 0x43 | .sess => 0x46 | .clog => 0x03
def ringOff : Ring → Nat
  | .evt => 0x044 | .sess => 0x044 | .clog => 0x070

/-- TAIL moves only within the unread records (R472). -/
def State.tailWrite (s : State) (r : Ring) (v : Nat) : State :=
  let k := ringNo r
  let n := (paceRing k).2.2
  let t := v % n
  if s.ringFill k < (t + n - s.ringTail k) % n then s.errC .tailRange (ringPage r) [ringOff r] else s.setTail k t

/-- LOG_CFG: FILL_IRQ at or below FILL raises LOG_FILL at once. -/
def State.logCfg (s : State) (v : Nat) : State :=
  (((s.set F.EVT_LOG_CFG_FILL_IRQ (v / 2 ^ 16)).set F.EVT_LOG_CFG_MIN_SEV v).refreshFill).judgeFill

/-! ### Errors and events -/

/-- Write an error into ERR_CODE, ERR_TIME, COUNT and ERR_NEW (R46). ERR_TIME is fabric time, or legal time on a
metrology-die page. `first` is false when an error of a lower code stands for the same tick. -/
def State.setError (s : State) (e : Ev) (first : Bool) : State :=
  let p := e.page
  let met := dieOf p == .metrology
  let s := s.incSat (hErrCount p)
  if first then
    (((s.set (hErrCode p) e.code.code16).setB (hErrNew p) true).set (hErrNs p) (if met then s.legalNsPart else s.fabNsPart)).set
      (hErrSec p) (if met then s.legalSec else s.fabSec)
  else s

/-! ### Lifetime counters (R447, R448) -/

/-- Lifetime counter `i` as table 12 holds it. -/
def State.lifeCount (s : State) (i : Nat) : Nat := s.rdLe (tbl 12 (8 * i)) 8

/-- Add to a counter, saturating. -/
def State.lifeStore (s : State) (i n : Nat) : State := s.wrLe (tbl 12 (8 * i)) 8 (satTo 64 (s.lifeCount i + n))

/-- The control die adds to a counter; while its link is lost it keeps the increment, up to 2^32. -/
def State.lifeAdd (s : State) (i n : Nat) : State :=
  if s.sys.metLost then { s with life := { s.life with pend := mput 0 s.life.pend i (min (2 ^ 32) (mget 0 s.life.pend i + n)) } }
  else s.lifeStore i n

/-- The lifetime counter an event adds to, and whether the metrology die counts it itself (Table 18.1). -/
def lifeOf (e : Ev) : Option (Bool × Nat) :=
  let d := fun i => e.data.getD i 0
  if e.code = E.PWR_VAULT_ENTER then some (true, 19)
  else if e.code = E.PWR_BROWNOUT_RECOVERED then some (true, 20)
  else if e.code = E.SYS_MODE_CHANGE ∧ d 1 = 9 then some (false, 22)
  else if e.code = E.MIR_HANDOVER_DONE then some (false, 23)
  else if e.code = E.SENT_COMMITTED then some (false, 24)
  else if e.code = E.SENT_HALF then some (false, 25)
  else if e.code = E.TREE_LEASE_EXPIRED then some (false, 26)
  else if e.code = E.VDE_SESSION_START ∧ e.inst < 4 then some (false, 64 + 16 * e.inst)
  else if e.code = E.LINK_PLUGGED ∧ e.inst < 4 then some (false, 64 + 16 * e.inst + 7)
  else if e.code = E.SAFE_TRIP ∧ d 1 < 4 then some (false, 64 + 16 * d 1 + 8)
  else if e.code = E.LINK_LATCHED ∧ e.inst < 4 then some (false, 64 + 16 * e.inst + 11)
  else if (e.code = E.SAFE_FB_MISMATCH ∨ e.code = E.SAFE_WELD) ∧ d 0 < 48 then some (false, 129 + 2 * d 0)
  else if e.code = E.GSC_TIMEOUT then some (false, 436)
  else if e.code = E.MIR_IMAGE_GAP then some (false, 437)
  else if e.code = E.TIME_UNLOCKED then some (false, 438)
  else if e.code = E.SEAL_PWD_LOCKOUT then some (true, 439)
  else if e.code = E.MEM_CORRECTED_OUTER then some (true, 440)
  else if e.code = E.MEM_UNCORRECTABLE then some (true, 441)
  else none

/-- An event adds to its lifetime counter. -/
def State.countLife (s : State) (e : Ev) : State :=
  match lifeOf e with
  | some (true, i) => s.lifeStore i 1
  | some (false, i) => s.lifeAdd i 1
  | none => s

/-- One event takes place: its group bit, its error registers, its record. -/
def State.takeEvent (s : State) (errs : List Nat) (e : Ev) : State :=
  let s := (s.setRaw e).countLife e
  let s := if e.err then s.setError e (!errs.contains e.page) else s
  (((s.logOne e).logSink).judgeFill).logSink

/-- The events of a command in ascending code order; `errs` are the pages whose ERR_CODE this tick has written. -/
def State.takeEvents (s : State) (errs : List Nat) : List Ev → State
  | [] => s
  | e :: t => (s.takeEvent errs e).takeEvents (if e.err then e.page :: errs else errs) t

/-- Insert by ascending code, after equals. -/
def evInsert (e : Ev) : List Ev → List Ev
  | [] => [e]
  | a :: t => if e.code.code16 < a.code.code16 then e :: a :: t else a :: evInsert e t

def evSort (l : List Ev) : List Ev := l.foldl (fun acc e => evInsert e acc) []

/-- Log the waiting events of this command. -/
def State.flushEvents (s : State) : State :=
  ({ s with evWait := [] }).takeEvents [] (evSort s.evWait)

/-! ### Interrupts (R428 to R430) -/

/-- The byte of VEC_MAP of page `p`. -/
def State.vecMap (s : State) (p : Nat) : Nat := bits (s.get (F.HOST_VEC_MAP_MAP.nth (p / 4))) (8 * (p % 4) + 7) (8 * (p % 4))

/-- The 64 vector conditions as one number (R428). -/
def State.vecConditions (s : State) : Nat :=
  allPages.foldl (fun c p =>
    let m := s.vecMap p
    if s.evtPend p != 0 && decide (m < 128) then setBitOf c (m % 64) true else c) 0

/-- Send vector `v`'s message, or hold it in the PBA while the vector is masked (R429). -/
def State.sendVector (s : State) (v : Nat) : State :=
  let e := mget {} s.host.msix v
  if e.masked then { s with host := { s.host with pba := setBitOf s.host.pba v true } }
  else s.emit (.msix v e.addr e.data)

/-- INT_N is asserted (R430). -/
def State.intNow (s : State) (cond : Nat) : Bool :=
  s.on F.HOST_IRQ_CFG_INTN_EN &&
    (cond.land (s.get F.HOST_INTN_MASK_HI_EN * 2 ^ 32 + s.get F.HOST_INTN_MASK_LO_EN)) != 0

/-- The legacy interrupt: a vector's condition is 1, its MSI-X entry is not masked, and MSI-X is disabled (Table 17.1). -/
def State.intaNow (s : State) (cond : Nat) : Bool :=
  s.on F.HOST_PCIE_STAT_LINK_UP && !s.on F.HOST_PCIE_STAT_MSIX_EN &&
    (List.range 64).any fun v => cond.testBit v && !(mget ({} : MsixEntry) s.host.msix v).masked

/-- Judge the conditions: a vector that rises sends its message while the host has MSI-X enabled; INT_N follows. -/
def State.settle (s : State) : State :=
  let cond := s.vecConditions
  if cond = s.host.vecCond then { s with host := { s.host with intN := s.intNow cond, intA := s.intaNow cond } }
  else
    let old := s.host.vecCond
    let s := { s with host := { s.host with vecCond := cond, intN := s.intNow cond, intA := s.intaNow cond } }
    s.each ((List.range 64).filter fun v => cond.testBit v && !old.testBit v) fun v s =>
      s.when (s.on F.HOST_PCIE_STAT_MSIX_EN) fun s => s.sendVector v

/-! ### Which host accesses take effect (R2, R39, R385, R406, R424) -/

/-- Fields of the register come from the Mirror on the standby (Table 15.3): control-die pages other than MIR, HOST, DMA,
DMACH, EVT and DIAG, and the load-switch commands. -/
def mirroredPlace (page off : Nat) : Bool :=
  match dieOf page with
  | .control => !(page == 0x2A || page == 0x2D || page == 0x2E || (decide (0x2F ≤ page) && decide (page ≤ 0x3E)) || page == 0x43 || page == 0x44)
  | .power => decide (0x100 ≤ off) && (if page == 0x2B then decide (off < 0x300) && off % 16 == 8 else decide (off < 0x500) && off % 16 == 4)
  | .metrology => false

/-- A mirrored register (R385): one of those places that holds an RW, RWP or RWT field. DIAG_INJ has its own rule in MIRROR
(R47). -/
def mirroredReg (page off : Nat) : Bool :=
  mirroredPlace page off && (off == 0x014 || (fieldsAt page off).any fun f =>
    f.acc == .rw || f.acc == .rwp || f.acc == .rwt || f.acc == .rwpW1c)

/-- A host access to `page` runs `f` where it reaches the page (R2, R39, R424). -/
def State.hostReach (s : State) (page off : Nat) (f : State → State) : State :=
  if !s.hostOpen then s
  else if !s.hasPage page then s
  else if dieOf page == .metrology && s.sys.metLost then s.err E.HOST_D2D_ABORT 0 [page * 0x1000 + off]
  else f s

/-- A host write to the register at `off` of `page` runs `f` where it reaches the register. -/
def State.hostWrites (s : State) (page off : Nat) (f : State → State) : State :=
  s.hostReach page off fun s =>
    if s.mode == .mirror && mirroredReg page off then s.err E.MIR_STANDBY_WRITE 0 [page, off]
    else if page == 0x2B && s.on F.LSW_STATUS_LINK_LOST then s.err E.LSW_LINK_DOWN 0 [off]
    else if page == 0x2C && s.on F.LSW_STATUS_LINK_LOST then s.err E.LSX_LINK_DOWN 0 [off]
    else f s

/-! ### Host accesses to tables (R42, R54, R385, R424) -/

/-- Bytes of table `t` (Table 3.3); table 13 ends with the last sample its fourth lane can hold (R286). -/
def tableSize (t : Nat) : Nat :=
  match t with
  | 0 => 16384 * 64 | 1 => 8192 * 32 | 2 => 2048 * 128 | 3 => 1024 * 16 | 4 => 1024 * 32 | 5 => 4096 * 32 | 6 => 64 * 2048
  | 7 => 0x80000 | 8 => 64 * 64 | 9 => 72 * 16 | 10 => 256 * 32 | 11 => 4096 * 8 | 12 => 0x5000 | 13 => 3 * 0x140000 + 4 * 312500
  | 14 => 16 * 4096 | _ => 0x100000

/-- The table lies in the ferroelectric store or the Lens, behind the control–metrology link. -/
def tableMet (t : Nat) : Bool := t < 7 || t == 12 || t == 13 || t == 15

/-- The page of the block that owns a table. -/
def tablePage (t : Nat) : Nat :=
  match t with
  | 0 => 0x25 | 1 => 0x43 | 2 => 0x46 | 3 => 0x26 | 4 => 0x03 | 5 => 0x21 | 6 => 0x22 | 7 => 0x21 | 8 => 0x1B | 9 => 0x1A
  | 10 => 0x07 | 11 => 0x06 | 12 => 0x3F | 13 => 0x23 | 14 => 0x2D | _ => 0x00

/-- A host write to a table runs `f` where it reaches the table. -/
def State.tableWrites (s : State) (t off : Nat) (f : State → State) : State :=
  if !s.hostOpen then s
  else if tableSize t ≤ off then s.err E.EVT_TABLE_RANGE 0 [t, off]
  else if s.mode == .mirror && decide (8 ≤ t) && decide (t ≤ 11) then s.err E.MIR_STANDBY_WRITE 0 [tablePage t, off]
  else if tableMet t && s.sys.metLost then s.err E.HOST_D2D_ABORT 0 [0x10000000 + t * 0x1000000 + off]
  else f s

/-- FAIL_N is to be high (R377, R378). -/
def State.failNow (s : State) : Bool :=
  (match s.mode with
   | .ready | .deliver | .degraded | .handover => true
   | .mirror => s.on F.MIR_STATUS_IMAGE_VALID
   | _ => false) && !s.ownFail && !s.mir.failAsked

/-- FAIL_N follows. -/
def State.settleFail (s : State) : State :=
  if s.mir.failN = s.failNow then s else { s with mir := { s.mir with failN := s.failNow } }.emit (.failN s.failNow)

/-- What ends every command: its events are logged, then the interrupts and FAIL_N follow. -/
def State.done (s : State) : State := ((s.flushEvents).settle).settleFail

/-- The answer of a command that has had its effect. -/
def State.finish (s : State) : Result := .next s.done

end Sys2Proof.Machine
end

