-- ==== Sys2Proof/Machine/Protect.lean ====
section
/-! DEFINITION. The protections (R48 to R51), the change log (R364, R365) and the tamper records (R321). -/
namespace Sys2Proof.Machine

/-! ### Tamper records (R321) -/

/-- An occurrence of tamper type `t` at a legal second and epoch. -/
def State.tamperAt (s : State) (t sec ep : Nat) : State :=
  let first := s.get (F.TAMPER_COUNT_COUNT.nth t) == 0
  let s := s.incSat (F.TAMPER_COUNT_COUNT.nth t)
  let s := s.when first fun s =>
    ((s.set (F.TAMPER_FIRST_SEC_LO_SEC.nth t) sec).set (F.TAMPER_FIRST_HI_SEC.nth t) (sec / 2 ^ 32)).set (F.TAMPER_FIRST_HI_EPOCH.nth t) ep
  let s := ((s.set (F.TAMPER_LAST_SEC_LO_SEC.nth t) sec).set (F.TAMPER_LAST_HI_SEC.nth t) (sec / 2 ^ 32)).set (F.TAMPER_LAST_HI_EPOCH.nth t) ep
  s.ev (tamperEv t) 0 [t, s.get (F.TAMPER_COUNT_COUNT.nth t)]

def State.tamper (s : State) (t : Nat) : State := s.tamperAt t s.legalSec s.epoch

/-- A condition that persists counts once per episode. -/
def State.tamperBegin (s : State) (t : Nat) : State :=
  if s.bit F.TAMPER_ACTIVE_TYPE t then s else (s.setBit F.TAMPER_ACTIVE_TYPE t true).tamper t

def State.tamperEnd (s : State) (t : Nat) : State := s.setBit F.TAMPER_ACTIVE_TYPE t false

/-! ### The change log, table 4 (R364, R365) -/

def clogSize : Nat := 1024

def State.sealOpen (s : State) : Bool := s.on F.SEAL_PWD_STAT_SEAL_OPEN
def State.pwdOpen (s : State) : Bool := s.on F.SEAL_PWD_STAT_PWD_OPEN

/-- Entries a record may take: while the seal is open one is held for its closing. -/
def State.clogFree (s : State) : Nat := clogSize - s.get F.SEAL_CLOG_FILL_COUNT - (if s.sealOpen then 1 else 0)

/-- Writes to RWS and RWP fields are refused (R365). -/
def State.clogFull (s : State) : Bool := decide (1016 ≤ s.get F.SEAL_CLOG_FILL_COUNT)

/-- The record of Table 14.7. -/
def State.clogRecord (s : State) (page kind off old new : Nat) : List Nat :=
  let body := s.stamp ++ [page % 256, kind] ++ leBytes 2 off ++ leBytes 4 old ++ leBytes 4 new ++ leBytes 4 (s.get F.SEAL_CLOG_SERIAL_NEXT)
  body ++ leBytes 4 (crc32 body)

/-- Append a change-log record. -/
def State.clogAppend (s : State) (page kind off old new : Nat) : State :=
  let h := s.get F.SEAL_CLOG_HEAD_INDEX
  ((((s.wrBytes (tbl 4 (32 * h)) (s.clogRecord page kind off old new)).set F.SEAL_CLOG_HEAD_INDEX ((h + 1) % clogSize)).inc
    F.SEAL_CLOG_FILL_COUNT).inc F.SEAL_CLOG_SERIAL_NEXT)

/-! ### Writes to protected registers (R50, R51) -/

/-- An accepted write of an RWS field: its change-log record and tamper type 12; the CALc registers are no tamper (R321). -/
def State.rwsLogged (s : State) (page off old new : Nat) : State :=
  (s.clogAppend page 1 off old new).when (!(page == 0x23 && decide (0x200 ≤ off))) fun s => s.tamper 12

/-- An accepted write of an RWP field: its change-log record; the idle time of the password starts anew (R363). -/
def State.rwpLogged (s : State) (page off old new : Nat) : State :=
  { s with prot := { s.prot with rwpTick := s.ticks } }.clogAppend page 2 off old new

/-- The block of `page` is an RWS one when `rws`, else an RWP one. A write runs `f`, which answers none where the block
itself refuses the value and `no` records why; `wo` is what the log shows of a write-only field. -/
def State.guarded (s : State) (rws : Bool) (page off : Nat) (wo : Option Nat) (no : State → State) (f : State → Option State) : State :=
  if !(if rws then s.sealOpen else s.pwdOpen) then s.errC (if rws then .writeSealed else .writeNeedsPassword) page [off]
  else if s.clogFull then s.err E.SEAL_LOG_FULL 0 [page, off]
  else match f s with
    | none => no s
    | some s' =>
      let old := if wo.isSome then 0 else s.regWord page off
      let new := match wo with | some v => v | none => s'.regWord page off
      if rws then s'.rwsLogged page off old new else s'.rwpLogged page off old new

end Sys2Proof.Machine
end

