-- ==== Sys2Proof/Machine/Arbiter.lean ====
section
/-! DEFINITION. The pair arbiter PAIRARB (chapter 15, R380 and R381). -/
namespace Sys2Proof.Machine

def ArbUnit.failed (u : ArbUnit) : Bool := !u.hb || u.low

def arbKey (k : Nat) (isB : Bool) : Nat := 2 * k + (if isB then 1 else 0)
def State.arbUnit (s : State) (k : Nat) (isB : Bool) : ArbUnit := mget {} s.arb (arbKey k isB)
def State.setArbUnit (s : State) (k : Nat) (isB : Bool) (u : ArbUnit) : State := { s with arb := mput {} s.arb (arbKey k isB) u }

/-- Pair `k` is arbitrated. -/
def State.arbOn (s : State) (k : Nat) : Bool := s.bit F.PAIRARB_CFG_EN k

/-- Unit B is the selected one of pair `k`. -/
def State.arbSelB (s : State) (k : Nat) : Bool := !s.on (F.PAIRARB_PAIR_STAT_SELECT.nth k)

/-- A unit's number in events and in PAIRk_FORCE: 1 unit A, 2 unit B. -/
def unitNo (isB : Bool) : Nat := if isB then 2 else 1

/-- The unit has been unfailed without a break for HOLDOFF_MS. -/
def State.arbQualified (s : State) (k : Nat) (isB : Bool) : Bool :=
  let u := s.arbUnit k isB
  !u.failed && (match u.since with
    | none => false
    | some t => decide (s.get F.PAIRARB_CFG_HOLDOFF_MS * ticksMs ≤ s.since t))

/-- A unit that becomes healthy is logged, and HOLDOFF follows the unselected unit. -/
def State.refreshArb (s : State) (k : Nat) : State :=
  let s := s.each [false, true] fun isB s =>
    let u := s.arbUnit k isB
    let q := s.arbQualified k isB
    if u.healthy = q then s else
    (s.setArbUnit k isB { u with healthy := q }).when (q && s.arbOn k) fun s => s.ev E.PAIRARB_UNIT_RESTORED 0 [k, unitNo isB]
  s.setB (F.PAIRARB_PAIR_STAT_HOLDOFF.nth k) (s.arbOn k && !s.arbQualified k (!s.arbSelB k))

/-- The inputs of one unit change: its STAT bits, and what the arbiter judges from them. -/
def State.arbChange (s : State) (k : Nat) (isB hbOk failLow : Bool) : State :=
  let old := s.arbUnit k isB
  let new : ArbUnit := { old with hb := hbOk, low := failLow }
  let new := if new.failed then { new with since := none } else if old.failed then { new with since := some s.ticks } else new
  let s := s.setArbUnit k isB new
  let s := if isB then (s.setB (F.PAIRARB_PAIR_STAT_B_HB_OK.nth k) hbOk).setB (F.PAIRARB_PAIR_STAT_B_FAIL.nth k) failLow
    else (s.setB (F.PAIRARB_PAIR_STAT_A_HB_OK.nth k) hbOk).setB (F.PAIRARB_PAIR_STAT_A_FAIL.nth k) failLow
  let s := s.when (s.arbOn k && new.failed && !old.failed) fun s =>
    (s.ev E.PAIRARB_UNIT_FAILED 0 [k, unitNo isB, if hbOk then 2 else 1]).when (s.arbUnit k (!isB)).failed fun s =>
      s.ev E.PAIRARB_BOTH_FAILED 0 [k]
  s.refreshArb k

/-- ARB_UNIT_STATE_CHANGE (R376, R380): a unit of a pair is judged failed or unfailed from its heartbeat and FAIL_N. -/
def execArbUnitStateChange (k : Fin 4) (isB hbOk failLow : Bool) (s : State) : Result := (s.arbChange k isB hbOk failLow).finish

/-- The output of pair `k` selects a unit. -/
def State.arbSelect (s : State) (k : Nat) (isB : Bool) : State :=
  let s := s.setB (F.PAIRARB_PAIR_STAT_SELECT.nth k) (!isB)
  (s.emit (.arb k (some !isB))).refreshArb k

/-- The output of pair `k` moves to the other unit. -/
def State.arbSwitch (s : State) (k : Nat) (isB : Bool) : State :=
  if s.arbSelB k = isB then s.arbSelect k isB else
  ((s.arbSelect k isB).inc (F.PAIRARB_PAIR_COUNT_COUNT.nth k)).ev E.PAIRARB_SWITCHED 0 [k, unitNo isB]

/-- ARB_SWITCH (R379, R380): the active unit is failed and the other healthy. -/
def execArbSwitch (k : Fin 4) (s : State) : Result :=
  let act := s.arbSelB k
  (s.when (s.arbOn k && (s.arbUnit k act).failed && s.arbQualified k (!act)) fun s => s.arbSwitch k (!act)).finish

/-- A write of PAIRARB.CFG: a pair newly enabled drives the level read on its ball, one disabled leaves it undriven. -/
def State.arbCfgWrite (s : State) (v levels : Nat) : State :=
  let old := s.get F.PAIRARB_CFG_EN
  let s := (s.set F.PAIRARB_CFG_EN v).set F.PAIRARB_CFG_HOLDOFF_MS (v / 2 ^ 16)
  s.each (List.range 4) fun k s =>
    if v.testBit k && !old.testBit k then s.arbSelect k (!levels.testBit k)
    else if !v.testBit k && old.testBit k then (s.emit (.arb k none)).refreshArb k
    else s.refreshArb k

/-- PAIRARB_ENABLE (R380). -/
def execPairarbEnable (value : Word) (levels : Fin 16) (s : State) : Result :=
  (s.hostWrites 0x45 0x040 fun s => s.arbCfgWrite value.toNat levels).finish

/-- A write of PAIRk_FORCE: the named unit is selected unless it is failed or the pair is not arbitrated. -/
def State.arbForce (s : State) (k v : Nat) : State :=
  let u := v % 4
  let off := 0x084 + 16 * k
  s.guarded false 0x45 off (some v) (fun s => s.err E.PAIRARB_FORCE_REFUSED 0 [k, u]) fun s =>
    if u = 0 ∨ u = 3 ∨ !s.arbOn k ∨ (s.arbUnit k (u == 2)).failed then none else some (s.arbSwitch k (u == 2))

/-- PAIRARB_FORCE (R381). -/
def execPairarbForce (k : Fin 4) (value : Word) (s : State) : Result :=
  (s.hostWrites 0x45 (0x084 + 16 * k) fun s => s.arbForce k value.toNat).finish

end Sys2Proof.Machine
end

