-- ==== Sys2Proof/Machine/Calendar.lean ====
section
/-! DEFINITION. The tariff calendar (R302 to R306): dates, local time and daylight time, the tariff in force at a minute, the
ends of billing periods, and the check of a bank. -/
namespace Sys2Proof.Machine

/-! ### Dates: days since 1970-01-01, Gregorian calendar -/

/-- Days since 1970-01-01 of a date. -/
def daysOf (y m d : Nat) : Int :=
  let y' : Int := if m ≤ 2 then (y : Int) - 1 else y
  let era := y' / 400
  let yoe := y' - era * 400
  let mp : Int := if m > 2 then m - 3 else m + 9
  let doy := (153 * mp + 2) / 5 + d - 1
  era * 146097 + (yoe * 365 + yoe / 4 - yoe / 100 + doy) - 719468

/-- Year, month and day of a day number. -/
def civilOf (z0 : Int) : Nat × Nat × Nat :=
  let z := z0 + 719468
  let era := z / 146097
  let doe := z - era * 146097
  let yoe := (doe - doe / 1460 + doe / 36524 - doe / 146096) / 365
  let doy := doe - (365 * yoe + yoe / 4 - yoe / 100)
  let mp := (5 * doy + 2) / 153
  let d := doy - (153 * mp + 2) / 5 + 1
  let m := if mp < 10 then mp + 3 else mp - 9
  ((yoe + era * 400 + (if m ≤ 2 then 1 else 0)).toNat, m.toNat, d.toNat)

/-- 1 Monday to 7 Sunday. -/
def weekdayOf (days : Int) : Nat := ((days + 3) % 7).toNat + 1

/-- The `week`-th weekday `wd` of a month; 5 is the last. -/
def nthWeekday (y m week wd : Nat) : Int :=
  if week ≤ 4 then
    let first := daysOf y m 1
    first + ((wd : Int) - weekdayOf first) % 7 + 7 * ((week : Int) - 1)
  else
    let last := (if m = 12 then daysOf (y + 1) 1 1 else daysOf y (m + 1) 1) - 1
    last - ((weekdayOf last : Int) - wd) % 7

/-! ### Entries (Table 13.3) -/

/-- The entries in use of bank `b`: number within table 3 and bytes. -/
def State.calBank (s : State) (b : Nat) : List (Nat × List Nat) :=
  (List.range 512).filterMap fun i =>
    let e := 512 * b + i
    if s.rdByte (tbl 3 (16 * e)) = 0 then none else some (e, s.rdBytes (tbl 3 (16 * e)) 16)

def ck (e : List Nat) : Nat := e.getD 0 0
def cb (e : List Nat) (i : Nat) : Nat := e.getD i 0
def cw (e : List Nat) (i : Nat) : Nat := ofLe (slice e i 2)

/-- The entry of a kind, or zeros. -/
def firstOf (l : List (Nat × List Nat)) (k : Nat) : List Nat :=
  match l.find? fun x => ck x.2 == k with
  | some x => x.2
  | none => []

/-! ### Local time (R304) -/

/-- STD_OFS, minutes. -/
def stdOfs (z : List Nat) : Int := toSigned 16 (cw z 2)

/-- Start and end of daylight time of a year, minutes in standard local time. -/
def dstSpan (z : List Nat) (y : Nat) : Int × Int :=
  (nthWeekday y (cb z 4) (cb z 5) (cb z 6) * 1440 + cw z 8, nthWeekday y (cb z 10) (cb z 11) (cb z 12) * 1440 + cw z 14 - cb z 1)

/-- Daylight time is in force at a minute of standard local time. -/
def inDst (z : List Nat) (t : Int) : Bool :=
  if cb z 1 = 0 then false else
  let (a, b) := dstSpan z (civilOf (t / 1440)).1
  if a ≤ b then decide (a ≤ t) && decide (t < b) else decide (a ≤ t) || decide (t < b)

/-- Local offset at a minute of UTC. -/
def localOfs (z : List Nat) (utc : Int) : Int := stdOfs z + (if inDst z (utc + stdOfs z) then cb z 1 else 0)

/-- The local minute by which switches are judged: in the second pass of a repeated hour, the last minute of the first. -/
def switchMinute (z : List Nat) (utc : Int) : Int :=
  let t := utc + stdOfs z
  let b := (dstSpan z (civilOf (t / 1440)).1).2
  if cb z 1 ≠ 0 ∧ !inDst z t ∧ b ≤ t ∧ t < b + cb z 1 then b + cb z 1 - 1 else utc + localOfs z utc

/-- The UTC minute at which a local minute first comes, the end of the gap for one that is skipped. -/
def utcOf (z : List Nat) (loc : Int) : Int :=
  let u2 := loc - stdOfs z
  let u1 := u2 - cb z 1
  if inDst z (u1 + stdOfs z) then u1
  else if inDst z (u2 + stdOfs z) then (dstSpan z (civilOf ((u2 + stdOfs z) / 1440)).1).1 - stdOfs z
  else u2

/-! ### The tariff in force (R305) -/

/-- The day profile of a local date: a SPECIAL day, else by season and weekday. -/
def dayProfile (l : List (Nat × List Nat)) (day : Int) : Option Nat :=
  let (y, m, d) := civilOf day
  match l.find? fun x => ck x.2 == 5 && (cw x.2 2 == 0 || cw x.2 2 == y) && cb x.2 4 == m && cb x.2 5 == d with
  | some x => some (cb x.2 1)
  | none =>
    let seasons := (l.filter fun x => ck x.2 == 2).map fun x => (cb x.2 1 * 32 + cb x.2 2, cb x.2 3)
    let past := seasons.filter fun x => decide (x.1 ≤ m * 32 + d)
    let pick := (if past.isEmpty then seasons else past).foldl (fun (a : Option (Nat × Nat)) x =>
      match a with | none => some x | some b => if b.1 < x.1 then some x else a) none
    match pick with
    | none => none
    | some (_, w) => (l.find? fun x => ck x.2 == 3 && cb x.2 1 == w).map fun x => cb x.2 (1 + weekdayOf day)

/-- SWITCH entries of a day profile. -/
def switchesOf (l : List (Nat × List Nat)) (p : Nat) : List (List Nat) := (l.filter fun x => ck x.2 == 4 && cb x.2 1 == p).map fun x => x.2

/-- The tariff of a point at a local minute, `dflt` when no entry qualifies. -/
def tariffOf (l : List (Nat × List Nat)) (dflt p : Nat) (loc : Int) : Nat :=
  match dayProfile l (loc / 1440) with
  | none => dflt
  | some d =>
    let q := (switchesOf l d).filter fun e => decide ((cw e 2 : Int) ≤ loc % 1440) && (cw e 6 == 0 || (cw e 6).testBit p)
    match q.foldl (fun (a : Option (List Nat)) e => match a with | none => some e | some b => if cw b 2 < cw e 2 then some e else a) none with
    | none => dflt
    | some e => cb e 4

/-- The tariffs of the sixteen points at a UTC second, four bits each. -/
def State.tariffsAt (s : State) (bank sec : Nat) : Nat :=
  let l := s.calBank bank
  let loc := switchMinute (firstOf l 1) (sec / 60 : Nat)
  (List.range 16).foldl (fun w p => w + tariffOf l (s.get F.TARIFF_CFG_DEFAULT) p loc * 16 ^ p) 0

/-! ### Billing periods (R306) -/

/-- The period ends within a year of a UTC minute, in UTC minutes. -/
def periodEnds (l : List (Nat × List Nat)) (utc : Int) : List Int :=
  match l.find? fun x => ck x.2 == 6 with
  | none => []
  | some (_, e) =>
    let z := firstOf l 1
    let (y, m, _) := civilOf ((utc + localOfs z utc) / 1440)
    (List.range 27).filterMap fun i =>
      let k := 12 * y + (m - 1) + i - 13
      let mm := k % 12 + 1
      if (mm - 1) % max 1 (cb e 1) = 0 then some (utcOf z (daysOf (k / 12) mm (cb e 2) * 1440 + cw e 4)) else none

/-- The latest period end at or before a UTC second, in seconds. -/
def State.lastPeriodEnd (s : State) (bank sec : Nat) : Option Nat :=
  match (periodEnds (s.calBank bank) (sec / 60 : Nat)).filter fun e => decide (e * 60 ≤ (sec : Int)) with
  | [] => none
  | a :: t => some ((t.foldl max a) * 60).toNat

/-- The next calendar switch or period end after a UTC second; 0 when there is none within a year (NEXT_SEC). -/
def State.nextChange (s : State) (bank sec : Nat) : Nat :=
  let l := s.calBank bank
  let z := firstOf l 1
  let utc : Int := (sec / 60 : Nat)
  let day0 := (utc + localOfs z utc) / 1440
  let ofDay := fun (i : Nat) =>
    match dayProfile l (day0 + i) with
    | none => []
    | some d => ((switchesOf l d).map fun e => utcOf z ((day0 + i) * 1440 + cw e 2)).filter fun u => decide (utc < u)
  let sw := match (List.range 367).find? fun i => !(ofDay i).isEmpty with
    | none => []
    | some i => ofDay i
  match sw ++ (periodEnds l utc).filter fun e => decide (utc < e) with
  | [] => 0
  | a :: t => ((t.foldl min a) * 60).toNat

/-! ### The check of a bank (R303) -/

def between (x a b : Nat) : Bool := decide (a ≤ x) && decide (x ≤ b)
def zeros (e : List Nat) (a b : Nat) : Bool := (List.range 16).all fun i => !(between i a b) || cb e i == 0

/-- Every field of an entry lies within its range. -/
def entryRange (e : List Nat) : Bool :=
  match ck e with
  | 1 => between (cb e 1) 0 120 && decide (-720 ≤ stdOfs e) && decide (stdOfs e ≤ 840) && between (cb e 4) 1 12 && between (cb e 5) 1 5 &&
      between (cb e 6) 1 7 && zeros e 7 7 && decide (cw e 8 ≤ 1439) && between (cb e 10) 1 12 && between (cb e 11) 1 5 &&
      between (cb e 12) 1 7 && zeros e 13 13 && decide (cw e 14 ≤ 1439)
  | 2 => between (cb e 1) 1 12 && between (cb e 2) 1 31 && decide (cb e 3 ≤ 31) && zeros e 4 15
  | 3 => decide (cb e 1 ≤ 31) && (List.range 7).all (fun i => decide (cb e (2 + i) ≤ 63)) && zeros e 9 15
  | 4 => decide (cb e 1 ≤ 63) && decide (cw e 2 ≤ 1439) && decide (cb e 4 ≤ 15) && zeros e 5 5 && zeros e 8 15
  | 5 => decide (cb e 1 ≤ 63) && between (cb e 4) 1 12 && between (cb e 5) 1 31 && zeros e 6 15
  | 6 => between (cb e 1) 1 12 && between (cb e 2) 1 28 && zeros e 3 3 && decide (cw e 4 ≤ 1439) && zeros e 6 15
  | _ => false

/-- The check an entry fails: 1 a field out of range, 2 a second ZONE or PERIOD, 3 an identifier not defined, 4 a SWITCH that
overlaps an earlier one. -/
def entryCheck (l : List (Nat × List Nat)) (x : Nat × List Nat) : Nat :=
  let e := x.2
  let before := l.filter fun y => decide (y.1 < x.1)
  let hasDay := fun d => l.any fun y => ck y.2 == 4 && cb y.2 1 == d
  if !entryRange e then 1
  else if (ck e = 1 ∨ ck e = 6) ∧ before.any (fun y => ck y.2 == ck e) then 2
  else if ck e = 2 ∧ !l.any (fun y => ck y.2 == 3 && cb y.2 1 == cb e 3) then 3
  else if ck e = 3 ∧ !(List.range 7).all (fun i => hasDay (cb e (2 + i))) then 3
  else if ck e = 5 ∧ !hasDay (cb e 1) then 3
  else if ck e = 4 ∧ before.any (fun y => ck y.2 == 4 && cb y.2 1 == cb e 1 && cw y.2 2 == cw e 2 &&
      (cw y.2 6 == 0 || cw e 6 == 0 || (cw y.2 6).land (cw e 6) != 0)) then 4
  else 0

/-- The first failing entry of a bank and its check, none when the bank is valid. -/
def State.bankBad (s : State) (b : Nat) : Option (Nat × Nat) :=
  let l := s.calBank b
  (l.find? fun x => entryCheck l x != 0).map fun x => (x.1, entryCheck l x)

end Sys2Proof.Machine
end

