-- ==== Sys2Proof/Machine/Power.lean ====
section
/-! DEFINITION. Shared operations of the power path (chapters 02, 07, 08 and 14): modes, outlet states, routing stages,
coils, loop slots of the outlets, and the actions of the safety logic (Table 14.1). -/
namespace Sys2Proof.Machine

/-! ### Encodings -/

def OState.code : OState → Nat
  | .idle => 0 | .link => 1 | .session => 2 | .check => 3 | .precharge => 4 | .energy => 5 | .stopping => 6 | .weldcheck => 7
  | .release => 8 | .fault => 9

def OState.ofCode : Nat → OState
  | 0 => .idle | 1 => .link | 2 => .session | 3 => .check | 4 => .precharge | 5 => .energy | 6 => .stopping | 7 => .weldcheck
  | 8 => .release | _ => .fault

def Stage.code : Stage → Nat
  | .unrouted => 0 | .matching => 1 | .closing => 2 | .routed => 3 | .leaving => 4 | .unloading => 5 | .opening => 6
  | .held => 7 | .fault => 8

def Stage.ofCode : Nat → Stage
  | 0 => .unrouted | 1 => .matching | 2 => .closing | 3 => .routed | 4 => .leaving | 5 => .unloading | 6 => .opening
  | 7 => .held | _ => .fault

def State.ostate (s : State) (n : Nat) : OState := OState.ofCode (s.get (F.OUTLET_STATUS_STATE.inst n))
def State.stage (s : State) (g : Nat) : Stage := Stage.ofCode (s.get (F.GROUP_STATUS_STAGE.inst g))
def State.route (s : State) (g : Nat) : Nat := s.get (F.GROUP_ROUTE_OUTLET.inst g)

def State.outSt (s : State) (n : Nat) : OutletState := mget {} s.outs n
def State.setOut (s : State) (n : Nat) (o : OutletState) : State := { s with outs := mput {} s.outs n o }
def State.modOut (s : State) (n : Nat) (f : OutletState → OutletState) : State := s.setOut n (f (s.outSt n))

def State.grp (s : State) (g : Nat) : GroupState := mget {} s.grps g
def State.setGrp (s : State) (g : Nat) (v : GroupState) : State := { s with grps := mput {} s.grps g v }
def State.modGrp (s : State) (g : Nat) (f : GroupState → GroupState) : State := s.setGrp g (f (s.grp g))

def State.phs (s : State) (p : Nat) : PhaseState := mget {} s.phases p
def State.setPhs (s : State) (p : Nat) (v : PhaseState) : State := { s with phases := mput {} s.phases p v }
def State.modPhs (s : State) (p : Nat) (f : PhaseState → PhaseState) : State := s.setPhs p (f (s.phs p))

/-- The outlet exists on the variant. -/
def State.hasOutlet (s : State) (n : Nat) : Bool := decide (n < s.nOutlets)
def State.hasGroup (s : State) (g : Nat) : Bool := decide (g < s.nGroups)

/-- Outlet measurements last taken: mV and mA. -/
def State.vc (s : State) (n : Nat) : Int := s.getI (F.OUTLET_VC_MV_MV.inst n)
def State.ic (s : State) (n : Nat) : Int := s.getI (F.OUTLET_IC_MA_MA.inst n)

/-- |IC| within LOWCUR.ZERO_A. -/
def State.icZero (s : State) (n : Nat) : Bool := decide ((s.ic n).natAbs ≤ s.get (F.OUTLET_LOWCUR_ZERO_A.inst n) * 1000)

/-! ### Coils, feedbacks and welds (Table 7.3, R341, R342) -/

def State.coilOn (s : State) (i : Nat) : Bool :=
  if i < 32 then s.bit F.SAFE_COIL_CMD_LO_CMD i else s.bit F.SAFE_COIL_CMD_HI_CMD (i - 32)
def State.fbClosed (s : State) (i : Nat) : Bool := if i < 32 then s.bit F.SAFE_FB_LO_CLOSED i else s.bit F.SAFE_FB_HI_CLOSED (i - 32)
def State.welded (s : State) (i : Nat) : Bool := if i < 32 then s.bit F.SAFE_WELD_LO_WELD i else s.bit F.SAFE_WELD_HI_WELD (i - 32)
def State.setFb (s : State) (i : Nat) (b : Bool) : State :=
  if i < 32 then s.setBit F.SAFE_FB_LO_CLOSED i b else s.setBit F.SAFE_FB_HI_CLOSED (i - 32) b
def State.setWeld (s : State) (i : Nat) (b : Bool) : State :=
  if i < 32 then s.setBit F.SAFE_WELD_LO_WELD i b else s.setBit F.SAFE_WELD_HI_WELD (i - 32) b

def mainPos (n : Nat) : Nat := 48 + 2 * n
def mainNeg (n : Nat) : Nat := 49 + 2 * n
def prechargeCoil (n : Nat) : Nat := 56 + n
def matrixCoil (g o : Nat) : Nat := 4 * g + o

/-- Closings of a contactor, and openings of a main one under current, are counted (Table 18.1). -/
def State.countCoil (s : State) (i : Nat) (b : Bool) : State :=
  if b then s.lifeAdd (if i < 48 then 128 + 2 * i else if i < 56 then 64 + 16 * ((i - 48) / 2) + 3 + i % 2 else 64 + 16 * (i - 56) + 5) 1
  else s.when (decide (48 ≤ i) && decide (i < 56) && i % 2 == 0 && !s.icZero ((i - 48) / 2)) fun s => s.lifeAdd (64 + 16 * ((i - 48) / 2) + 6) 1

/-- A pair member that has failed by itself turns its COIL balls off, whatever their commands (R378). -/
def State.coilsCut (s : State) : Bool := s.on F.MIR_CFG_EN && s.ownFail

/-- Command a coil; its ball follows. Energising starts a new travel. -/
def State.setCoil (s : State) (i : Nat) (b : Bool) : State :=
  if s.coilOn i = b then s else
  let s := s.countCoil i b
  let s := if i < 32 then s.setBit F.SAFE_COIL_CMD_LO_CMD i b else s.setBit F.SAFE_COIL_CMD_HI_CMD (i - 32) b
  let s := s.when b fun s => { s with safe := { s.safe with travelled := setBitOf s.safe.travelled i false } }
  s.when (!(b && s.coilsCut)) fun s => s.emit (.coil i b)

/-- De-energise an outlet's main and precharge coils. -/
def State.outletCoilsOff (s : State) (n : Nat) : State :=
  ((s.setCoil (mainPos n) false).setCoil (mainNeg n) false).setCoil (prechargeCoil n) false

/-- The outlet a contactor belongs to (Table 7.3). -/
def coilOutlet (i : Nat) : Nat := if i < 48 then i % 4 else if i < 56 then (i - 48) / 2 else i - 56

/-- The contactor's group and outlet are present on the variant (R1). -/
def State.hasCoil (s : State) (i : Nat) : Bool := (decide (48 ≤ i) || s.hasGroup (i / 4)) && s.hasOutlet (coilOutlet i)

/-- The contactor is monitored: COIL_EN for coils 48 to 59, CFG.ALLOWED for matrix coils (R341). -/
def State.monitored (s : State) (i : Nat) : Bool :=
  s.hasCoil i && if i < 48 then s.bit (F.GROUP_CFG_ALLOWED.inst (i / 4)) (i % 4) else s.bit F.SAFE_CONTACT_CFG_COIL_EN (i - 48)

/-- The contactor is reported faulted (R341, R144). -/
def State.contactorFaulted (s : State) (i : Nat) : Bool :=
  !s.monitored i || (decide (i < 48) && s.stage (i / 4) == .fault) || s.welded i

/-! ### Phase table, capacity and switching (R141, R142, R133) -/

def phaseBase (p : Nat) : Nat := tbl 9 (16 * p)
def State.phGain (s : State) (p : Nat) : Nat := s.rdLe (phaseBase p) 2
def State.phZero (s : State) (p : Nat) : Nat := s.rdLe (phaseBase p + 2) 2 % 1024
def State.phRated (s : State) (p : Nat) : Nat := s.rdLe (phaseBase p + 4) 4
def State.phImax (s : State) (p : Nat) : Nat := s.rdLe (phaseBase p + 8) 2
def State.phOfs (s : State) (p : Nat) : Int := toSigned 16 (s.rdLe (phaseBase p + 10) 2)
def State.phEnabled (s : State) (p : Nat) : Bool := s.rdByte (phaseBase p + 12) % 2 == 1
def State.phLost (s : State) (p : Nat) : Bool := s.rdByte (phaseBase p + 12) / 2 % 2 == 1
def State.phReason (s : State) (p : Nat) : Nat := s.rdByte (phaseBase p + 13)
/-- Write STATE and REASON of a phase table entry (Table 7.6). -/
def State.setPhase (s : State) (p : Nat) (enabled lost : Bool) (reason : Nat) : State :=
  (s.wrByte (phaseBase p + 12) ((if enabled then 1 else 0) + (if lost then 2 else 0))).wrByte (phaseBase p + 13) reason

def groupPhases (g : Nat) : List Nat := (List.range 6).map fun k => 6 * g + k
def State.enabledPhases (s : State) (g : Nat) : List Nat := (groupPhases g).filter fun p => s.phEnabled p

/-- The group is in FAULT, or runs to it. -/
def State.grpFaulted (s : State) (g : Nat) : Bool := s.stage g == .fault || (s.grp g).faultAfter

/-- CAP_W of a group (R142). -/
def State.grpCap (s : State) (g : Nat) : Nat :=
  let ph := s.enabledPhases g
  if s.grpFaulted g || decide (ph.length < s.get F.PHASE_CFG_MIN_PHASES) then 0 else (ph.map s.phRated).sum

/-- The outlet's capacity: the groups whose committed routing names it (R142). -/
def State.outletCap (s : State) (n : Nat) : Nat :=
  ((s.groups.filter fun g => s.route g == n).map s.grpCap).sum

/-- The outlet's fast slots are CLOSED (R167: LOOP.RUN_LO). -/
def State.slotsClosed (s : State) (n : Nat) : Bool := s.bit F.LOOP_RUN_LO_CLOSED (4 * n)

/-- The mode permits gate drive (Table 2.1). -/
def Mode.gateDrive : Mode → Bool
  | .ready | .deliver | .degraded => true
  | _ => false

/-- A gate cut is in force on outlet `n` or on the node. -/
def State.cutFor (s : State) (n : Nat) : Bool := s.safe.nodeCut || (decide (n < 4) && (s.outSt n).gateCut)

/-- The coil column of Table 2.1 asks for open contactors in some mode whose conditions hold (R22). VAULT keeps the rule of the
mode it was entered from. -/
def State.coilsBarred (s : State) : Bool :=
  s.sys.sealedSvc ||
  match if s.mode == .vault then s.sys.vaultFrom else s.mode with
  | .ready | .deliver | .degraded | .mirror | .handover | .vault => false
  | _ => true

/-- No mode, deselection or gate cut toward outlet `o` keeps the gates low (R133, Table 2.1, R22). -/
def State.gatesFree (s : State) (o : Nat) : Bool := s.mode.gateDrive && s.exclusive && !s.coilsBarred && !s.cutFor o

/-- Group `g` is at a stage in which it switches, and nothing keeps its gates low (R133). -/
def State.grpMay (s : State) (g : Nat) : Bool :=
  let o := (s.grp g).phys
  match s.stage g with
  | .matching => s.gatesFree (s.route g)
  | .routed | .leaving => !(s.grp g).coilCut && s.slotsClosed o && s.gatesFree o
  | _ => false

/-- Phases that go on to their next period start: those of a group that has just entered UNLOADING, or left MATCHING by a
yield (R147). -/
def State.grpEnding (s : State) (g : Nat) : Bool :=
  let o := (s.grp g).phys
  match s.stage g with
  | .unloading => s.coilOn (matrixCoil g o) && s.slotsClosed o && s.gatesFree o
  | .unrouted => s.gatesFree 0xFF
  | _ => false

/-- The phases of group `g` switch: at least MIN_PHASES of them are enabled (R133, R142). -/
def State.grpSwitches (s : State) (g : Nat) : Bool :=
  s.grpMay g && decide (s.get F.PHASE_CFG_MIN_PHASES ≤ (s.enabledPhases g).length)

/-- A phase stops: its gate outputs go low (R133). -/
def State.stopPhase (s : State) (p : Nat) : State :=
  let v := s.phs p
  if v.started then (s.setPhs p { v with
    pulse := false, started := false, nPrev := 0, maxOnRun := 0, openRun := 0, peerTrip := false, endedMax := false }).emit (.pwm p false false)
  else s

/-- STATUS and CAP_W of a group follow its stage, its phases and what it may do. A group that may not switch stops; one below
MIN_PHASES, or leaving its outlet, stops phase by phase at the period starts (R142, R147). -/
def State.refreshGroup (s : State) (g : Nat) : State :=
  let en := (List.range 6).foldl (fun m k => setBitOf m k (s.phEnabled (6 * g + k))) 0
  let lost := (List.range 6).foldl (fun m k => setBitOf m k (s.phLost (6 * g + k))) 0
  let sw := s.grpSwitches g
  let stop := !s.grpMay g && !s.grpEnding g
  let s := ((s.set (F.GROUP_STATUS_ENABLED.inst g) en).set (F.GROUP_STATUS_LOST.inst g) lost).set (F.GROUP_CAP_W_W.inst g) (s.grpCap g)
  let s := (s.setB (F.GROUP_STATUS_FAULT.inst g) (s.grpFaulted g)).setB (F.GROUP_STATUS_SWITCHING.inst g) sw
  let s := s.when (!sw) fun s =>
    ((s.modGrp g fun v => { v with maxOnAll := false }).setB (F.GROUP_STATUS_MAX_ON_ALL.inst g) false).set (F.GROUP_SHARE_MA_MA.inst g) 0
  s.when stop fun s => s.each (groupPhases g) fun p s => s.stopPhase p

def State.refreshGroups (s : State) : State := s.each s.groups fun g s => s.refreshGroup g

/-- BELOW_MIN when a group falls below MIN_PHASES (R142). -/
def State.judgeMin (s : State) (g : Nat) : State :=
  let n := (s.enabledPhases g).length
  let low := decide (n < s.get F.PHASE_CFG_MIN_PHASES)
  if low && !(s.grp g).belowMin then (s.modGrp g fun v => { v with belowMin := true }).err E.GROUP_BELOW_MIN g [n]
  else s.modGrp g fun v => { v with belowMin := low, shareOut := v.shareOut && low }

/-- The groups in ROUTED or LEAVING on outlet `o`, in ascending number (R141, R149). -/
def State.joined (s : State) (o : Nat) : List Nat :=
  s.groups.filter fun g => (s.stage g == .routed || s.stage g == .leaving) && (s.grp g).phys == o

/-- The groups among which the reference of outlet `o` is split: those joined, less those whose share has moved on (R142), and
one in UNLOADING until its next period start (R147). -/
def State.sharing (s : State) (o : Nat) : List Nat :=
  s.groups.filter fun g => (s.grp g).phys == o &&
    match s.stage g with
    | .routed | .leaving => !(s.grp g).shareOut
    | .unloading => (s.grp g).weight != 0
    | _ => false

/-- Position of `g` in a list. -/
def indexIn (g : Nat) : List Nat → Nat
  | [] => 0
  | a :: t => if a = g then 0 else indexIn g t + 1

/-- The interleave offset a group is to run at, in 78.125 ps units (R140). -/
def State.wantOffset (s : State) (g : Nat) : Nat :=
  let t := s.get F.PHASE_PERIOD_FT
  let l := s.joined (s.grp g).phys
  if s.on F.PHASE_CFG_SPREAD && l.contains g then indexIn g l * t / (6 * l.length)
  else s.get (F.GROUP_CFG_OFFSET.inst g) * t / 720

/-- A group whose offset changes lengthens one period of each of its phases (R140). -/
def State.refreshOffsets (s : State) : State :=
  s.each s.groups fun g s =>
    let v := s.grp g
    let w := s.wantOffset g
    if v.offset = w then s else s.setGrp g { v with offset := w, shiftDue := 63 }

/-- A phase enters an outlet's split with no block of R154 begun. -/
def State.freshBlock (s : State) (p : Nat) : State :=
  s.modPhs p fun v => { v with impliedSum := 0, impliedCnt := 0, blkOn := 0, blkOnCnt := 0, spoiled := false }

/-- A group takes a stage. On reaching ROUTED its weight is its number of enabled phases (R141); in UNLOADING it keeps its
weight to the next period start (R147). -/
def State.setStage (s : State) (g : Nat) (st : Stage) : State :=
  let s := s.when (st == .fault && s.stage g != .fault) fun s => s.lifeAdd (296 + g) 1
  let s := s.set (F.GROUP_STATUS_STAGE.inst g) st.code
  let s := match st with
    | .routed =>
      (s.each (groupPhases g) fun p s => s.freshBlock p).modGrp g fun v => { v with weight := (s.enabledPhases g).length, weightDue := false, shareOut := false }
    | .leaving | .unloading => s
    | _ => s.modGrp g fun v => { v with weight := 0 }
  (s.refreshOffsets).refreshGroup g

/-- Routing stages advance in every mode but VAULT and HANDOVER (R162). -/
def State.stagesRun (s : State) : Bool := !(s.mode == .vault || s.mode == .handover)

/-! ### The pilot output (R222, Table 10.5) -/

/-- PILOT_OUTn: 0 inactive, 1 active, 2 PWM. On a CCS link the inactive level is static high and the active one static low
(log entry 25). -/
def State.pilotLevel (s : State) (n : Nat) : Nat :=
  let kind := s.get (F.LINK_CFG_KIND.inst n)
  let pm := s.get (F.LINK_CFG_PILOT_MODE.inst n)
  let o := OState.ofCode (s.get (F.OUTLET_STATUS_STATE.inst n))
  if kind == 0 || kind == 3 || !s.hostOpen || !s.exclusive then 0
  else if pm = 1 then 0
  else if pm = 2 then 1
  else if o == .fault || s.mode == .safeHold then (if kind = 2 then 1 else 0)
  else match o with
    | .idle => 0
    | .link =>
      let l := s.get (F.LINK_STATUS_LSTATE.inst n)
      if kind = 2 ∧ (l = 3 ∨ l = 4 ∨ (l = 6 ∧ s.on (F.LINK_STATUS_PWM_ON.inst n)) ∨ (l = 5 ∧ s.on (F.LINK_STATUS_PWM_ON.inst n))) then 2 else 0
    | .session | .weldcheck | .release => if kind = 2 then 2 else 0
    | _ => if kind = 2 then 2 else 1

/-- The ball and its STATUS bits follow; during VAULT and HANDOVER they hold (R232). -/
def State.refreshPilot (s : State) (n : Nat) : State :=
  if !s.stagesRun then s else
  let l := s.pilotLevel n
  let old := if s.on (F.LINK_STATUS_PWM_ON.inst n) then 2 else if s.on (F.LINK_STATUS_PILOT_ACTIVE.inst n) then 1 else 0
  let s := (s.setB (F.LINK_STATUS_PWM_ON.inst n) (l == 2)).setB (F.LINK_STATUS_PILOT_ACTIVE.inst n) (l == 1)
  if l = old then s else s.emit (.pilot n l)

def State.refreshPilots (s : State) : State := s.each s.outlets fun n s => s.refreshPilot n

/-! ### Modes (Table 2.2) -/

/-- On leaving SELFTEST or SEALED_SERVICE, DIAG_INJ.ARM clears on every page (R47). -/
def State.clearInjection (s : State) : State := s.each allPages fun p s => s.setB (hDiagArm p) false

/-- SEALED_SERVICE is left: injection ends, and the pilots follow the outlets again (R47, R222). -/
def State.leaveSealed (s : State) : State := s.clearInjection.each s.outlets fun n s => s.set (F.LINK_CFG_PILOT_MODE.inst n) 0

/-- The mode changes, logged with its trigger; PREVIOUS takes the mode left (R23). The trigger is the number of the row
of Table 2.2 in the manual's order, from 1 (log entry 9). -/
def State.setMode (s : State) (m : Mode) (trigger : Nat) : State :=
  let old := s.mode
  if old = m then s else
  let s := (s.set F.SYS_MODE_PREVIOUS old.code).set F.SYS_MODE_CURRENT m.code
  let s := s.when (old == .selftest) State.clearInjection
  let s := s.when (old == .sealedService) State.leaveSealed
  let s := { s with sys := { s.sys with idleSince := s.ticks } }
  ((s.ev E.SYS_MODE_CHANGE 0 [old.code, m.code, trigger]).refreshGroups).refreshPilots

/-- Some present outlet is in OUT_ENERGY. -/
def State.anyEnergy (s : State) : Bool := s.outlets.any fun n => s.ostate n == .energy

/-- Some present outlet has a degraded condition and has not been given up for it (R350; Table 2.2). -/
def State.anyDegraded (s : State) : Bool := s.outlets.any fun n => (s.outSt n).degCond != 0 && !(s.outSt n).src.testBit 6

/-- READY, DELIVER, DEGRADED and SEALED_SERVICE follow the outlets, the degraded conditions and the seal (Table 2.2, R22). -/
def State.serviceMode (s : State) : Mode :=
  if s.anyDegraded then .degraded else if s.sys.sealedSvc then .sealedService else if s.anyEnergy then .deliver else .ready

/-- The row of Table 2.2 by which `old` passes to `new` among these modes. -/
def serviceTrigger (old new : Mode) : Nat :=
  if new == .degraded then 13 else if old == .degraded then 14 else if new == .sealedService then 11 else if old == .sealedService then 12
  else if new == .deliver then 8 else 9

def State.refreshMode (s : State) : State :=
  match s.mode with
  | .ready | .deliver | .degraded | .sealedService => s.setMode s.serviceMode (serviceTrigger s.mode s.serviceMode)
  | _ => s

/-! ### Loop slots of the outlets (R164, R166, Table 8.5) -/

def slotBase (k : Nat) : Nat := tbl 8 (64 * k)
def State.slotState (s : State) (k : Nat) : Nat := s.rdByte (slotBase k) % 4

/-- Set the STATE of a slot, shown in RUN as well. -/
def State.setSlotState (s : State) (k st : Nat) : State :=
  let b := s.rdByte (slotBase k)
  let s := s.wrByte (slotBase k) (b / 4 * 4 + st)
  if k < 32 then s.setBit F.LOOP_RUN_LO_CLOSED k (st == 2) else s.setBit F.LOOP_RUN_HI_CLOSED (k - 32) (st == 2)

/-- I and D of a slot cleared, with PV_PREV given and OUT 0, and the STATUS flags cleared but MISSED (Table 8.1). -/
def State.initSlot (s : State) (k : Nat) (pv : F32) : State :=
  ((s.wrLe (slotBase k + 44) 8 0).wrLe (slotBase k + 52) 4 pv).wrLe (slotBase k + 56) 4 0 |>.wrLe (slotBase k + 60) 2 0

/-- A fast slot goes OFF: its output and integrator read 0; NONFINITE stays until the slot next closes (Table 8.5, R172). -/
def State.offSlot (s : State) (k : Nat) : State :=
  let non := s.rdByte (slotBase k + 60) / 16 % 2
  ((s.setSlotState k 0).initSlot k (s.rdLe (slotBase k + 52) 4)).wrByte (slotBase k + 60) (16 * non)

/-- mV and mA as binary32 volts and amperes (R169). -/
def milli (z : Int) : F32 := f32OfRat z 1000

/-- The measurement of fast slot 4n + j in the active direction (Table 8.3). -/
def State.fastPv (s : State) (n j : Nat) : F32 :=
  let ex := s.on (F.OUTLET_STATUS_DIRECTION.inst n)
  let sgn := fun (z : Int) => if ex then -z else z
  match j with
  | 0 => milli (sgn (s.vc n))
  | 1 => milli (sgn (s.ic n))
  | 2 => f32Mul (milli (s.vc n)) (milli (sgn (s.ic n)))
  | _ => s.get (F.COOL_PRED_C.nth n)

/-- The reference of an outlet, µA of magnitude, shown signed in REF_MA and rounded toward zero (R169, R174). -/
def State.setRef (s : State) (n ua : Nat) : State :=
  let ma : Int := (ua / 1000 : Nat)
  let s := s.modOut n fun o => { o with refUa := ua }
  s.setI (F.OUTLET_REF_MA_MA.inst n) (if s.on (F.OUTLET_STATUS_DIRECTION.inst n) then -ma else ma)

def State.setIhi (s : State) (n ua : Nat) : State :=
  (s.modOut n fun o => { o with ihiUa := ua }).set (F.OUTLET_IHI_MA_MA.inst n) (ua / 1000)

def State.setVramp (s : State) (n : Nat) (uv : Int) : State :=
  ((s.modOut n fun o => { o with vrampUv := uv }).setI (F.OUTLET_VRAMP_MV.inst n) (Int.tdiv uv 1000)).setB
    (F.OUTLET_STATUS_SLEWING.inst n) (decide (uv ≠ s.getI (F.OUTLET_VCMD_TARGET.inst n) * 1000))

/-- The fast slots pass from OFF to CLOSED: I, D and the reference start at 0, PV_PREV is the present measurement, VRAMP
starts from VC, the checks of R184 and R185 begin with empty windows (R179, R192). -/
def State.closeSlots (s : State) (n : Nat) : State :=
  let s := s.each (List.range 4) fun j s => (s.setSlotState (4 * n + j) 2).initSlot (4 * n + j) (s.fastPv n j)
  let s := ((s.setRef n 0).setIhi n 0).setVramp n (s.vc n * 1000)
  (s.modOut n fun o => { o with fbRunV := 0, fbRunI := 0, senseRun := 0, missRun := 0, reaction := .none }).refreshGroups

/-- The fast slots go OFF: outputs 0, integrators 0, reference 0, IHI 0 (Table 8.5); the groups stop switching. -/
def State.openSlots (s : State) (n : Nat) : State :=
  let s := s.each (List.range 4) fun j s => s.offSlot (4 * n + j)
  let s := ((s.setRef n 0).setIhi n 0).setVramp n (s.vc n * 1000)
  let s := (s.setB (F.OUTLET_FB_STAT_HOLD.inst n) false).setB (F.OUTLET_FB_STAT_RAMPING.inst n) false
  (s.modOut n fun o => { o with reaction := .none, dirRamp := false, resetRamp := 0, missRun := 0 }).refreshGroups

/-! ### Safety ceilings (R331, R352) -/

def State.degraded (s : State) (n : Nat) : Bool := (s.outSt n).degCond != 0

/-- SAFE_MA of outlet `n` (R331). -/
def State.safeMa (s : State) (n : Nat) : Nat :=
  let o := s.outSt n
  let base := s.get (F.SAFE_OUT_LIM_IMAX_A.nth n) * 1000
  let base := if s.degraded n then min base (s.get F.SAFE_DEG_CFG_DEG_PCT * 30000) else base
  let base := if o.reaction == .ramp then min base (o.refUa / 1000) else base
  if s.cutFor n then 0 else base

def State.refreshSafeMa (s : State) (n : Nat) : State := s.set (F.OUTLET_SAFE_MA_MA.inst n) (s.safeMa n)

/-! ### Degraded conditions (R350, R351) -/

/-- Ticks the degraded timer of outlet `n` has run. -/
def State.degElapsed (s : State) (n : Nat) : Nat :=
  let o := s.outSt n
  o.degTicks + (if o.degCond = 0 then 0 else s.since o.degSince)

/-- DEG_STAT: the degraded outlets and the least time left among them, in seconds (R352). -/
def State.refreshDegStat (s : State) : State :=
  let l := s.outlets.filter fun n => s.degraded n
  let lim := s.get F.SAFE_DEG_CFG_DEG_MIN * 60
  let left := l.map fun n => lim - s.degElapsed n / 400000000
  (s.set F.SAFE_DEG_STAT_OUTLETS (l.foldl (fun m n => setBitOf m n true) 0)).set F.SAFE_DEG_STAT_REMAIN_S
    (match left with | [] => 0 | a :: t => satTo 16 (t.foldl min a))

/-- A degraded condition of outlet `n` begins or ends: bit 0 COOL, 1 insulation monitor, 2 + c GSC connection c. The
first one starts the timer and is logged; the end of each is logged; the timer pauses when none is left. -/
def State.setDegCond (s : State) (n b : Nat) (on : Bool) : State :=
  let o := s.outSt n
  if o.degCond.testBit b = on then s else
  let c := setBitOf o.degCond b on
  let s := s.setOut n { o with
    degCond := c,
    degTicks := if c = 0 then s.degElapsed n else o.degTicks,
    degSince := if o.degCond = 0 || c = 0 then s.ticks else o.degSince }
  let s := if on then s.when (decide (o.degCond = 0)) fun s => s.ev E.SAFE_DEGRADED_START 0 [n, b] else s.ev E.SAFE_DEGRADED_END 0 [n]
  let s := s.when (!s.outlets.all fun m => s.degraded m) fun s => s.setBit F.SAFE_NODE_TRIP_ACTIVE 1 false
  ((s.refreshSafeMa n).refreshDegStat).refreshMode

/-! ### Joining an outlet (R146, R148, R160) -/

/-- Energise the matrix contactor: stage CLOSING. -/
def State.startClosing (s : State) (g o : Nat) : State :=
  ((s.modGrp g fun v => { v with phys := o, coilCut := false, leaveAfterClose := false }).setStage g .closing).setCoil (matrixCoil g o) true

/-- Choose the first stage of a join to outlet `o` from V_g and V_o (R146 step 1). -/
def State.beginJoin (s : State) (g o : Nat) : State :=
  let vg := s.getI (F.GROUP_VOUT_MV.inst g)
  let vo := s.vc o
  if (vg - vo).natAbs ≤ s.get F.PHASE_MATCH_MATCH_MV then s.startClosing g o
  else (s.modGrp g fun v => { v with phys := o, coilCut := false }).setStage g .matching

/-- A join to outlet `o` may not begin: the outlet is in OUT_FAULT, VAULT or HANDOVER holds the stages, or the mode asks for open
contactors (R160, R162, Table 2.1). -/
def State.joinHeld (s : State) (o : Nat) : Bool := s.ostate o == .fault || !s.stagesRun || s.coilsBarred

/-- The committed routing of a group is carried out: from stage 1 of R146, or, for a group that the safety logic has cut from
the same outlet, through CLOSING (R160). -/
def State.joinNow (s : State) (g : Nat) : State :=
  let o := s.route g
  if (s.grp g).coilCut && (s.grp g).phys == o then s.startClosing g o else s.beginJoin g o

/-- A group with a committed routing begins its join, or waits in HELD. -/
def State.joinOrHold (s : State) (g : Nat) : State :=
  let o := s.route g
  if o = 0xFF then s else if s.joinHeld o then s.setStage g .held else s.joinNow g

/-- A group passes to UNROUTED (R147). -/
def State.unroute (s : State) (g o : Nat) : State :=
  ((s.setGrp g { s.grp g with phys := 0xFF, coilCut := false }).setStage g .unrouted).ev E.GROUP_RELEASED g [o]

/-- Outlet `n` no longer keeps groups in HELD (R160): those routed to it begin their joins, and one that was cut from it while
LEAVING, and has no routing since, is released (log entry 106). -/
def State.releaseHeld (s : State) (n : Nat) : State :=
  if s.joinHeld n then s else
  s.each (s.groups.filter fun g => s.stage g == .held) fun g s =>
    if s.route g = n then s.joinNow g
    else if s.route g = 0xFF ∧ (s.grp g).phys = n then s.unroute g n
    else s

/-- Every outlet that holds no group lets its groups go on. -/
def State.releaseAll (s : State) : State := s.each s.outlets fun n s => s.releaseHeld n

/-- The groups whose energised matrix coils the safety logic opens stop switching and go to HELD once they read open (R160). -/
def State.cutMatrix (s : State) : State :=
  s.each (s.groups.filter fun g => (s.stage g == .routed || s.stage g == .leaving) && s.coilOn (matrixCoil g (s.grp g).phys)) fun g s =>
    (s.modGrp g fun v => { v with coilCut := true }).refreshGroup g

/-- Every coil is de-energised, the matrix coils of joined groups among them. -/
def State.allCoilsOff (s : State) : State := s.cutMatrix.each (List.range 60) fun i s => s.setCoil i false

/-- SEALED_SERVICE begins to hold: gates and coils are off (Table 2.1); the mode follows by the order of R22. -/
def State.beginSealed (s : State) : State :=
  (({ s with sys := { s.sys with sealedSvc := true } }).allCoilsOff).refreshMode

/-- SEALED_SERVICE ends: the mode follows, and the groups that waited go on. -/
def State.endSealed (s : State) : State :=
  if !s.sys.sealedSvc then s else
  let s := { s with sys := { s.sys with sealedSvc := false } }
  ((((s.leaveSealed).refreshMode).refreshGroups).refreshPilots).releaseAll

/-! ### Outlet states (R179) -/

/-- In OUT_CHECK, once a group is ROUTED to the outlet, the contactor sequence begins with main negative (R180). -/
def State.startMains (s : State) (n : Nat) : State :=
  if s.ostate n == .check && (s.outSt n).seq == 0 && !s.slotsClosed n && (s.groups.any fun g => s.stage g == .routed && (s.grp g).phys == n)
  then (s.modOut n fun o => { o with seq := 1 }).setCoil (mainNeg n) true else s

/-- Groups LEAVING an outlet that is not in OUT_ENERGY pass to UNLOADING (R147). -/
def State.leaveAll (s : State) (n : Nat) : State :=
  if s.ostate n == .energy || !s.stagesRun then s else
  s.each (s.groups.filter fun g => s.stage g == .leaving && (s.grp g).phys == n && !(s.grp g).coilCut) fun g s => s.setStage g .unloading

/-- The outlet changes state, logged; leaving OUT_FAULT releases held groups; the mode follows (R179, R160, Table 2.2). -/
def State.setOState (s : State) (n : Nat) (st : OState) : State :=
  let old := s.ostate n
  if old = st then s else
  let s := (s.set (F.OUTLET_STATUS_STATE.inst n) st.code).ev E.OUTLET_STATE_CHANGE n [old.code, st.code]
  let s := s.when (old == .precharge) fun s => s.setB (F.OUTLET_STATUS_PRECHARGE_OK.inst n) false
  let s := s.modOut n fun o => { o with since := s.ticks, seq := 0 }
  let s := { s with sys := { s.sys with idleSince := s.ticks } }
  let s := match st with
    | .idle | .link | .session | .weldcheck | .release | .fault => s.when (s.slotsClosed n) fun s => s.openSlots n
    | _ => s.modOut n fun o => { o with resetRamp := 0 }
  let s := match st with
    | .session | .check | .precharge | .energy => s
    | _ => s.set (F.VDE_CTX_DEMAND_W_W.nth n) 0
  let s := match st with
    | .check => (s.setB (F.OUTLET_STATUS_DIRECTION.inst n) false).startMains n
    | .precharge => s.setB (F.OUTLET_STATUS_DIRECTION.inst n) false
    | _ => s
  let s := s.leaveAll n
  let s := s.when (old == .fault) fun s =>
    (s.modOut n fun o => { o with gateCut := false, coilDue := .none }).releaseHeld n
  (((s.refreshSafeMa n).refreshPilot n).refreshGroups).refreshMode

/-! ### Actions of the safety logic (Table 14.1) -/

/-- Gate cut of an outlet: its gates are forced low, SAFE_MA is 0, its coils fall due, the outlet enters OUT_FAULT. -/
def State.gateCutOutlet (s : State) (n : Nat) : State :=
  let s := s.modOut n fun o => { o with gateCut := true, coilDue := .afterCut, reaction := .none }
  ((s.setOState n .fault).refreshGroups).refreshSafeMa n

/-- The reaction of R187: hold, then ramp to 0; a reaction already running goes on (R191). With the slots OFF there is
nothing to ramp, and the outlet enters OUT_FAULT at once. -/
def State.faultRamp (s : State) (n : Nat) : State :=
  if s.slotsClosed n then
    s.when ((s.outSt n).reaction == .none) fun s =>
      (s.modOut n fun o => { o with reaction := .hold }).setB (F.OUTLET_FB_STAT_HOLD.inst n) true
  else
    let s := s.modOut n fun o => { o with coilDue := if o.coilDue == .none then .afterRamp else o.coilDue }
    s.setOState n .fault

/-- A trip of function SFk on outlet `n`: ACTIVE, LATCHED, counted, logged (R333). -/
def State.tripOut (s : State) (n k : Nat) : State :=
  if s.bit (F.SAFE_OUT_TRIP_ACTIVE.nth n) (k - 1) && s.bit (F.SAFE_OUT_TRIP_LATCHED.nth n) (k - 1) then s else
  let s := s.when (s.mode == .mirror) fun s =>
    { s with mir := { s.mir with ownTrips := mput 0 s.mir.ownTrips n (setBitOf (mget 0 s.mir.ownTrips n) (k - 1) true) } }
  (((s.setBit (F.SAFE_OUT_TRIP_ACTIVE.nth n) (k - 1) true).setBit (F.SAFE_OUT_TRIP_LATCHED.nth n) (k - 1) true).inc
    F.SAFE_TRIP_COUNT_COUNT).ev E.SAFE_TRIP 0 [k, n]

def State.clearActive (s : State) (n k : Nat) : State := s.setBit (F.SAFE_OUT_TRIP_ACTIVE.nth n) (k - 1) false

/-- Latch a source of Table 14.3 on outlet `n`. -/
def State.latchSrc (s : State) (n b : Nat) : State := s.modOut n fun o => { o with src := setBitOf o.src b true }

/-- Enter SAFE_HOLD by a row of Table 2.2 (Table 14.1, node scope): every gate low, the safe-off wire driven, every outlet not idle
to OUT_FAULT, every coil due. The mode it was entered from is kept for R349. -/
def State.enterSafeHold (s : State) (row : Nat) : State :=
  let wasVault := s.mode == .vault
  let from_ := if wasVault then s.sys.vaultFrom else s.mode
  let s := { s with safe := { s.safe with nodeCut := true, nodeCoilDue := true, safeOff := true } }
  let s := s.when (from_ != .safeHold) fun s => { s with sys := { s.sys with safeFrom := from_ } }
  let s := if wasVault then { s with sys := { s.sys with vaultFrom := .safeHold } }
    else if s.mode == .dormant then s else s.setMode .safeHold row
  let s := s.emit (.safeOff true)
  let s := s.each s.outlets fun n s => s.when (s.ostate n != .idle) fun s => s.setOState n .fault
  (s.refreshGroups).each s.outlets fun n s => s.refreshSafeMa n

/-- A node-scope trip: bit `b` of NODE_TRIP (0 SF1, 1 DEGRADED expiry, 2 GSC, 3 internal failure), then SAFE_HOLD. -/
def State.tripNode (s : State) (b : Nat) : State :=
  let s := if s.bit F.SAFE_NODE_TRIP_ACTIVE b && s.bit F.SAFE_NODE_TRIP_LATCHED b then s else
    (((s.setBit F.SAFE_NODE_TRIP_ACTIVE b true).setBit F.SAFE_NODE_TRIP_LATCHED b true).inc F.SAFE_TRIP_COUNT_COUNT).ev E.SAFE_TRIP 0 [1, 0xFF]
  if s.mode == .safeHold then s else s.enterSafeHold (if b = 1 then 15 else 16)

/-- An internal diagnostic failure with node reaction: leaving SAFE_HOLD then needs a reset (R347). -/
def State.internalFail (s : State) : State :=
  { s with safe := { s.safe with internalFailure := true } }.tripNode 3

/-- A contactor is welded: SF5 (R342). A main or precharge contactor trips its outlet; a matrix contactor holds its group
in FAULT and trips the outlet it is joined to. -/
def State.weld (s : State) (i : Nat) : State :=
  let s := (s.setWeld i true).ev E.SAFE_WELD 0 [i]
  let s := { s with safe := { s.safe with weldedSince := setBitOf s.safe.weldedSince i true } }
  if i < 48 then
    let g := i / 4
    let o := i % 4
    let s := (s.modGrp g fun v => { v with faultAfter := false }).setStage g .fault
    (s.tripOut o 5).setOState o .fault
  else
    let n := coilOutlet i
    ((s.tripOut n 5).modOut n fun o => { o with coilDue := if o.coilDue == .none then .afterRamp else o.coilDue }).setOState n .fault

end Sys2Proof.Machine
end

