-- ==== Sys2Proof/Machine/LoadSwitch.lean ====
section
/-! DEFINITION. Protected load switch channels (chapter 16): commands and owners, current limit, overload, thermal latch
and retries, open load and supply faults, and the external switches. Channels 0 to 31 are internal, 32 + x is external
switch x. The events of a channel carry its number as INST, as Table 16.3 shows (log entry 113). -/
namespace Sys2Proof.Machine

def State.chan (s : State) (c : Nat) : ChanState := mget {} s.chans c
def State.setChan (s : State) (c : Nat) (v : ChanState) : State := { s with chans := mput {} s.chans c v }
def State.modChan (s : State) (c : Nat) (f : ChanState → ChanState) : State := s.setChan c (f (s.chan c))

/-! ### Fields of either kind of channel -/

def chRetriesLeft (c : Nat) : Field := if c < 32 then F.LSW_CH_STAT_RETRIES_LEFT.nth c else F.LSX_XSTAT_RETRIES_LEFT.nth (c - 32)
def chLatchedOff (c : Nat) : Field := if c < 32 then F.LSW_CH_STAT_LATCHED_OFF.nth c else F.LSX_XSTAT_LATCHED_OFF.nth (c - 32)
def chOverload (c : Nat) : Field := if c < 32 then F.LSW_CH_STAT_OVERLOAD.nth c else F.LSX_XSTAT_OVERLOAD.nth (c - 32)
def chBlanking (c : Nat) : Field := if c < 32 then F.LSW_CH_STAT_BLANKING.nth c else F.LSX_XSTAT_BLANKING.nth (c - 32)
/-- THERM_LATCH, or FAULT_LVL which takes its place (R416). -/
def chLatch (c : Nat) : Field := if c < 32 then F.LSW_CH_STAT_THERM_LATCH.nth c else F.LSX_XSTAT_FAULT_LVL.nth (c - 32)
def chRetryN (c : Nat) : Field := if c < 32 then F.LSW_CH_CFG_RETRY_N.nth c else F.LSX_XCFG_RETRY_N.nth (c - 32)
def chBlank (c : Nat) : Field := if c < 32 then F.LSW_CH_TIMING_BLANK_10MS.nth c else F.LSX_XCFG_BLANK_10MS.nth (c - 32)
def chSafeCtl (c : Nat) : Field := if c < 32 then F.LSW_CH_CFG_SAFE_CTL.nth c else F.LSX_XCFG_SAFE_CTL.nth (c - 32)
def chLatchedEv (c : Nat) : EvCode := if c < 32 then E.LSW_LATCHED_OFF else E.LSX_LATCHED_OFF
def chNum (c : Nat) : Nat := if c < 32 then c else c - 32

/-- The channel exists on the variant (R400, R415). -/
def State.hasChan (s : State) (c : Nat) : Bool := if c < 32 then s.hasLsw c else s.is7680 && decide (c < 96)

/-- The channels of the variant. -/
def State.chanList (s : State) : List Nat := (List.range 96).filter fun c => s.hasChan c

/-! ### Commands and what a channel does (R403, R405, R407, R414) -/

/-- The command in the register page: mode and duty. -/
def State.chCmd (s : State) (c : Nat) : Nat × Nat :=
  if c < 32 then (s.get (F.LSW_CH_CMD_MODE.nth c), s.get (F.LSW_CH_CMD_DUTY.nth c))
  else (if s.on F.LSX_CFG_EN && s.on (F.LSX_XCFG_EN.nth (c - 32)) then s.get (F.LSX_XCMD_ON.nth (c - 32)) else 0, 0)

/-- The command asks for conduction: on, or PWM with a duty above 0; the reserved mode counts as off. -/
def ChanState.commanded (v : ChanState) : Bool := v.mode == 1 || (v.mode == 2 && v.duty != 0)

/-- A supply condition of Table 16.2 holds the channels off. -/
def State.supplyBad (s : State) : Bool :=
  s.on F.LSW_SUPPLY_UV || s.on F.LSW_SUPPLY_OV || s.on F.LSW_SUPPLY_REVERSE || s.on F.LSW_SUPPLY_GND_LOST

/-- Commands no longer reach the smart-power die: its link is lost, or the control die is in reset. The die holds every channel, or,
where the last command frame carried MIR.CFG.EN, switches all of them off (R15, R32). -/
def State.cutPower (s : State) : State :=
  if s.pdie.cut then s else { s with pdie := { s.pdie with cut := true, paired := s.on F.MIR_CFG_EN } }

/-- The channel may conduct (R15, R378, R407). -/
def State.chanMay (s : State) (c : Nat) : Bool :=
  let v := s.chan c
  s.pdie.live && s.mode != .dormant && !s.on (chLatch c) && !s.on (chLatchedOff c) && !v.shut &&
  !(s.on (chSafeCtl c) && s.pdie.wire) && !s.supplyBad && !(s.pdie.cut && s.pdie.paired) && !(s.on F.MIR_CFG_EN && s.ownFail)

/-- FAULT bit of a channel: LATCHED_OFF, THERM_LATCH, OVERLOAD or OPEN_LOAD. -/
def State.refreshFault (s : State) (c : Nat) : State :=
  s.when (decide (c < 32)) fun s =>
    s.setBit F.LSW_FAULT_CH c (s.on (chLatchedOff c) || s.on (chLatch c) || s.on (chOverload c) || s.on (F.LSW_CH_STAT_OPEN_LOAD.nth c))

/-- The channel begins or ends conducting; a turn-on after 100 ms off starts blanking, unless its time is 0 (R409). The output of a
conducting channel stands above 2.0 V (R413). -/
def State.driveChan (s : State) (c : Nat) (on : Bool) : State :=
  let v := s.chan c
  if v.on = on then s else
  if on then
    let rested := match v.offTick with | none => true | some t => decide (100 * ticksMs ≤ s.since t)
    let s := (s.setChan c { v with on := true }).when rested fun s => s.setB (chBlanking c) (s.get (chBlank c) != 0)
    if c < 32 then (((s.setB (F.LSW_CH_STAT_ON.nth c) true).setB (F.LSW_CH_STAT_OUT_HIGH.nth c) true).setBit F.LSW_ON_CH c true).emit (.lsw c true) else s
  else
    let s := (s.setChan c { v with on := false, offTick := some s.ticks, above := false }).setB (chBlanking c) false
    if c < 32 then ((((s.setB (F.LSW_CH_STAT_ON.nth c) false).setB (F.LSW_CH_STAT_OUT_HIGH.nth c) false).setB (F.LSW_CH_STAT_LIMITING.nth c) false).setBit F.LSW_ON_CH c false).emit (.lsw c false)
    else s

/-- A retry: RETRIES_LEFT falls, the retry is logged, the wait ends (R412). -/
def State.retryNow (s : State) (c : Nat) : State :=
  let left := s.get (chRetriesLeft c) - 1
  (((s.set (chRetriesLeft c) left).modChan c fun v => { v with shut := false, delayDone := false }).ev E.LSW_RETRY (chNum c) [chNum c, left])

/-- Commands reach the die unless the control–power link is lost or the mode holds them (R405). -/
def State.cmdFlows (s : State) : Bool := !s.on F.LSW_STATUS_LINK_LOST && !s.pdie.cut && s.stagesRun

/-- A channel follows its command and its protections; a command to off abandons a retry delay (R412, R420 to R422). -/
def State.refreshChan (s : State) (c : Nat) : State :=
  if !s.hasChan c then s else
  let cmd := s.chCmd c
  let s := s.when s.cmdFlows fun s => s.modChan c fun v => { v with mode := cmd.1, duty := cmd.2 }
  let s := s.when (!(s.chan c).commanded) fun s => s.modChan c fun v => { v with shut := false, delayDone := false }
  let ready := { s with chans := mput {} s.chans c { s.chan c with shut := false } }.chanMay c
  let s := s.when ((s.chan c).shut && (s.chan c).delayDone && (s.chan c).commanded && ready && decide (0 < s.get (chRetriesLeft c))) fun s => s.retryNow c
  (s.driveChan c ((s.chan c).commanded && s.chanMay c)).refreshFault c

def State.refreshChans (s : State) : State := s.each s.chanList fun c s => s.refreshChan c

/-- Active time-triggered outputs appear at, or leave, their balls with the exclusive outputs (R374). -/
def State.tpoBalls (s : State) (on : Bool) : State :=
  s.each ((List.range 8).filter fun n => s.on (F.TPO_STATUS_ACTIVE.nth n)) fun n s =>
    s.emit (.tpo n (on != s.on (F.TPO_CFG_POLARITY.nth n)))

/-- A pair member's own outputs follow a failure of this unit alone, or its end: coil balls, exclusive outputs and load-switch
channels (R378). `old` is the state before. -/
def State.ownOutputs (s old : State) : State :=
  if s.coilsCut = old.coilsCut then s else
  let s := s.each ((List.range 60).filter fun i => s.coilOn i) fun i s => s.emit (.coil i (!s.coilsCut))
  let s := s.when (s.exclusive != old.exclusive) fun s => s.tpoBalls s.exclusive
  ((s.refreshGroups).refreshPilots).refreshChans

/-- A shutdown by overload, by the thermal latch or by the fault level: with no retry left the channel latches off (R412). Those of
an internal channel are counted (Table 18.1). -/
def State.shutdownChan (s : State) (c : Nat) : State :=
  let s := s.when (decide (c < 32)) fun s => s.lifeAdd (340 + c) 1
  let s := if s.get (chRetriesLeft c) = 0 then (s.setB (chLatchedOff c) true).ev (chLatchedEv c) (chNum c) [chNum c]
    else s.modChan c fun v => { v with shut := true, delayDone := false }
  s.refreshChan c

/-! ### Owners (R404) -/

/-- The claims on internal channel `c`: bit 4 discharge, 3 latch, 2 shared fan or valve, 1 slow slot. -/
def State.claimsOf (s : State) (c : Nat) : Nat :=
  (if s.outlets.any (fun n => s.get (F.SAFE_OUT_CFG_DISCH_CH.nth n) == c) then 16 else 0) +
  (if s.outlets.any (fun n => s.get (F.LINK_LATCH_CH.inst n) == c) then 8 else 0) +
  (if s.get F.COOL_SHARED_VALVE_CH == c || s.get F.COOL_SHARED_FAN_CH == c then 4 else 0) +
  (if (List.range 48).any (fun k => s.rdByte (slotBase (16 + k) + 3) == 0x20 + c) then 2 else 0)

/-- The owner code of a set of claims: the first of the listed blocks. -/
def ownerOf (claims : Nat) : Nat :=
  if claims.testBit 4 then 4 else if claims.testBit 3 then 3 else if claims.testBit 2 then 2 else if claims.testBit 1 then 1 else 0

/-- Owner `o` sets mode and duty of channel `c`. -/
def State.ownerDrive (s : State) (o c mode duty : Nat) : State :=
  if s.hasLsw c && decide (c < 32) && s.get (F.LSW_CH_STAT_OWNER.nth c) == o then
    ((s.set (F.LSW_CH_CMD_MODE.nth c) mode).set (F.LSW_CH_CMD_DUTY.nth c) duty).refreshChan c
  else s

/-- The discharge, or the latch, of some outlet on channel `c` is to be energised (R221, R339). -/
def State.dischOn (s : State) (c : Nat) : Bool := s.outlets.any fun n => s.get (F.SAFE_OUT_CFG_DISCH_CH.nth n) == c && (s.outSt n).disch
def State.latchOn (s : State) (c : Nat) : Bool := s.outlets.any fun n => s.get (F.LINK_LATCH_CH.inst n) == c && s.on (F.LINK_STATUS_LATCH_CMD.inst n)

/-- OWNER follows the claims; a conflict that arises or changes is logged. A new owner of the kind that is on or off sets the channel at
once; COOL and the slots do so with their next output. -/
def State.refreshOwners (s : State) : State :=
  s.each ((List.range 32).filter fun c => s.hasLsw c) fun c s =>
    let k := s.claimsOf c
    let v := s.chan c
    if v.claims = k then s else
    let was := s.get (F.LSW_CH_STAT_OWNER.nth c)
    let s := (s.setChan c { v with claims := k }).set (F.LSW_CH_STAT_OWNER.nth c) (ownerOf k)
    let s := s.when (ownerOf k != was && decide (3 ≤ ownerOf k)) fun s =>
      s.ownerDrive (ownerOf k) c (if (if ownerOf k = 4 then s.dischOn c else s.latchOn c) then 1 else 0) 0
    s.when (decide (1 < popBits 5 k)) fun s => s.ev E.LSW_CH_CONFLICT c [c, k]

/-- A host write to CHc_CMD. -/
def State.chCmdWrite (s : State) (c v : Nat) : State :=
  if !s.hasLsw c then s
  else
    let o := s.get (F.LSW_CH_STAT_OWNER.nth c)
    if o ≠ 0 then s.err E.LSW_CH_OWNED c [c, o]
    else ((s.set (F.LSW_CH_CMD_MODE.nth c) (bits v 31 30)).set (F.LSW_CH_CMD_DUTY.nth c) (bits v 13 0)).refreshChan c

/-- LSW_CMD_WRITE (R403, R404, R409, R420). -/
def execLswCmdWrite (c : Fin 32) (value : Word) (s : State) : Result :=
  (s.hostWrites 0x2B (0x108 + c * 0x10) fun s => s.chCmdWrite c value.toNat).finish

/-- LSW_LINK_DOWN_WRITE (R406): a write while the link is lost is dropped and recorded. -/
def execLswLinkDownWrite (isLsx : Bool) (off : Nat) (s : State) : Result :=
  (s.when (s.on F.LSW_STATUS_LINK_LOST) fun s => s.hostWrites (if isLsx then 0x2C else 0x2B) off id).finish

/-! ### The safe-off wire (R407, R421) -/

/-- The channels the safe-off wire switches off, as a bit mask of the internal ones. -/
def State.safeCtlMask (s : State) : Nat :=
  (List.range 32).foldl (fun m c => setBitOf m c (s.hasLsw c && s.on (chSafeCtl c))) 0

/-- SAFE_OFF (R15, R407). -/
def execSafeOff (s : State) : Result :=
  (s.when (!s.pdie.wire) fun s =>
    (({ s with pdie := { s.pdie with wire := true } }.ev E.LSW_SAFE_OFF 0 [s.safeCtlMask]).refreshChans)).finish

/-- SAFE_OFF_RELEASE (R407, R421). -/
def execSafeOffRelease (s : State) : Result :=
  (s.when s.pdie.wire fun s => { s with pdie := { s.pdie with wire := false } }.refreshChans).finish

/-! ### Current limit, overload and thermal protection (R408 to R412) -/

/-- LSW_LIMITING (R408). -/
def execLswLimiting (c : Fin 32) (curMa : Int) (s : State) : Result :=
  (s.when (s.hasLsw c && (s.chan c).on) fun s =>
    (s.setB (F.LSW_CH_STAT_LIMITING.nth c) true).setI (F.LSW_CUR_MA.nth c) curMa).finish

/-- LSW_THERMAL_SHUTDOWN (R408, R412, R419): 170 °C at the channel's own sensor. -/
def execLswThermalShutdown (c : Fin 32) (temp : Int) (s : State) : Result :=
  (s.when (s.hasLsw c && !(s.chan c).hot) fun s =>
    let s := (s.modChan c fun v => { v with hot := true }).setI (F.LSW_TEMP_C.nth c) temp
    let was := s.on (chLatch c)
    let s := (s.setB (chLatch c) true).ev E.LSW_THERMAL_SHUTDOWN c [c, ofSigned 32 temp]
    if was || !(s.chan c).on then s.refreshChan c else s.shutdownChan c).finish

/-- The thermal latch clears when its causes have gone (R408, R411); the retry delay starts then. -/
def State.tryClearLatch (s : State) (c : Nat) : State :=
  let v := s.chan c
  let cool := !v.hot && decide (s.getI (F.LSW_TEMP_C.nth c) < 1500)
  let warn := v.byCluster && s.bit F.LSW_STATUS_CLUSTER_WARN (c / 8)
  if s.on (chLatch c) && cool && !warn then
    (((s.setChan c { v with byCluster := false, delayDone := false }).setB (chLatch c) false).ev E.LSW_THERMAL_CLEAR c [c]).refreshChan c
  else s

/-- LSW_THERMAL_CLEAR (R408). -/
def execLswThermalClear (c : Fin 32) (temp : Int) (s : State) : Result :=
  (s.when (s.hasLsw c && (s.chan c).hot) fun s =>
    ((s.modChan c fun v => { v with hot := false }).setI (F.LSW_TEMP_C.nth c) temp).tryClearLatch c).finish

/-- LSW_BLANK_END (R409). -/
def execLswBlankEnd (c : Fin 96) (s : State) : Result := (s.when (s.hasChan c) fun s => s.setB (chBlanking c) false).finish

/-- LSW_OVERLOAD (R410, R412). -/
def execLswOverload (c : Fin 32) (curMa : Int) (s : State) : Result :=
  (s.when (s.hasLsw c && (s.chan c).on && s.on (F.LSW_CH_STAT_LIMITING.nth c) && !s.on (chBlanking c)) fun s =>
    (((s.setI (F.LSW_CUR_MA.nth c) curMa).setB (chOverload c) true).ev E.LSW_OVERLOAD c [c, ofSigned 32 curMa]).shutdownChan c).finish

/-- The variant has a channel in the cluster (R400). -/
def State.hasCluster (s : State) (k : Nat) : Bool := (List.range 8).any fun i => s.hasLsw (8 * k + i)

/-- LSW_CLUSTER_WARN (R411, R418): channels of the cluster that are LIMITING switch off. -/
def execLswClusterWarn (k : Fin 4) (temp : Int) (s : State) : Result :=
  (let l := (List.range 32).filter fun c => s.hasLsw c && c / 8 == k.val && s.on (F.LSW_CH_STAT_LIMITING.nth c)
   s.when (s.hasCluster k && !s.bit F.LSW_STATUS_CLUSTER_WARN k) fun s =>
    let s := (s.setBit F.LSW_STATUS_CLUSTER_WARN k true).setI (F.LSW_CLUSTER_TEMP_C.nth k) temp
    let s := s.ev E.LSW_CLUSTER_WARN 0 [k, ofSigned 32 temp, l.foldl (fun m c => setBitOf m c true) 0]
    s.each l fun c s => ((s.modChan c fun v => { v with byCluster := true }).setB (chLatch c) true).shutdownChan c).finish

/-- LSW_CLUSTER_CLEAR (R411). -/
def execLswClusterClear (k : Fin 4) (temp : Int) (s : State) : Result :=
  (s.when (s.bit F.LSW_STATUS_CLUSTER_WARN k) fun s =>
    let s := ((s.setBit F.LSW_STATUS_CLUSTER_WARN k false).setI (F.LSW_CLUSTER_TEMP_C.nth k) temp).ev E.LSW_CLUSTER_CLEAR 0 [k]
    s.each ((List.range 32).filter fun c => s.hasLsw c && c / 8 == k.val && (s.chan c).byCluster) fun c s => s.tryClearLatch c).finish

/-- LSW_RETRY (R412, R421, R422): the retry delay expires. -/
def execLswRetry (c : Fin 96) (s : State) : Result :=
  (s.when (s.hasChan c && (s.chan c).shut && !s.on (chLatch c)) fun s =>
    (s.modChan c fun v => { v with delayDone := true }).refreshChan c).finish

/-- LSW_RETRY_RELOAD (R412): ten seconds of conduction without a shutdown. -/
def execLswRetryReload (c : Fin 96) (s : State) : Result :=
  (s.when (s.hasChan c && (s.chan c).on) fun s => s.set (chRetriesLeft c) (s.get (chRetryN c))).finish

/-- Rearm one channel: the latches clear, the thermal one only with its cause absent; the retries are reloaded (R412). -/
def State.rearm (s : State) (c : Nat) : State :=
  let v := s.chan c
  let cause := if c < 32 then v.hot || (v.byCluster && s.bit F.LSW_STATUS_CLUSTER_WARN (c / 8)) else s.on (chLatch c)
  let s := ((s.setB (chLatchedOff c) false).setB (chOverload c) false).set (chRetriesLeft c) (s.get (chRetryN c))
  let s := s.when (!cause) fun s => (s.setB (chLatch c) false).modChan c fun v => { v with byCluster := false }
  ((s.modChan c fun v => { v with shut := false, delayDone := false }).ev E.LSW_REARMED (chNum c) [chNum c]).refreshChan c

/-- LSW_REARM (R412). -/
def execLswRearm (value : Word) (s : State) : Result :=
  (s.hostWrites 0x2B 0x048 fun s => s.each ((List.range 32).filter fun c => s.hasLsw c && value.toNat.testBit c) fun c s => s.rearm c).finish

/-! ### Open load, dissipation and supply (R401, R413, R414, R422) -/

/-- LSW_OPEN_LOAD (R413, R417): in a pair it is not judged while the partner's mirrored command is on. -/
def execLswOpenLoad (c : Fin 32) (s : State) : Result :=
  (s.when (s.hasLsw c && s.on (F.LSW_CH_CFG_OL_EN.nth c) && !(s.chan c).on && !(s.on F.MIR_CFG_EN && (s.chan c).commanded)) fun s =>
    (((s.setB (F.LSW_CH_STAT_OUT_HIGH.nth c) true).setB (F.LSW_CH_STAT_OPEN_LOAD.nth c) true).ev E.LSW_OPEN_LOAD c [c]).refreshFault c).finish

/-- A clearing write to CHc_STAT: OVERLOAD clears; OPEN_LOAD only while its condition is absent, which a conducting channel does not
judge (R413). -/
def State.chStatClear (s : State) (c v : Nat) : State :=
  let s := s.when (v.testBit 2) fun s => s.setB (chOverload c) false
  (s.when (v.testBit 5 && ((s.chan c).on || !s.on (F.LSW_CH_STAT_OUT_HIGH.nth c))) fun s => s.setB (F.LSW_CH_STAT_OPEN_LOAD.nth c) false).refreshFault c

/-- The channel's present limit in mA: INRUSH during blanking, else ILIM (R408). -/
def State.chanLimit (s : State) (c : Nat) : Nat :=
  100 * s.get (if s.on (chBlanking c) then F.LSW_CH_CFG_INRUSH.nth c else F.LSW_CH_CFG_ILIM.nth c)

/-- A channel whose current is clearly below its limit, by the tolerance of Table 16.1, limits no more (R408, log entry 113). -/
def State.judgeLimiting (s : State) (c : Nat) (ma : Int) : State :=
  s.when (decide (10 * ma < 9 * s.chanLimit c)) fun s => s.setB (F.LSW_CH_STAT_LIMITING.nth c) false

/-- Dissipation of one conducting channel in nW: I² × R_on, with R_on of Table 16.1 at its temperature (R400). -/
def dissNw (c : Nat) (cur temp : Int) : Nat :=
  (cur * cur * (if c < 8 then 10 else 40) * (100000 + 45 * (temp - 250)) / 100000).toNat

/-- What the die has measured at channel `c`: its current, its temperature, and whether its output is above 2.0 V (R401, R413). -/
def State.measured (s : State) (c : Nat) (ma : Int) (o : LswOut) : State :=
  (((s.setI (F.LSW_CUR_MA.nth c) ma).setI (F.LSW_TEMP_C.nth c) o.temp).setB (F.LSW_CH_STAT_OUT_HIGH.nth c) o.high).judgeLimiting c ma

/-- The measurement of channel `c` in a list of them. -/
def lswOut (out : List LswOut) (c : Nat) : LswOut := out.getD c ⟨0, false⟩

/-- LSW_DISS_CHECK (R401): the measured currents (mA), temperatures and outputs of the channels, and the sum of the dissipation. -/
def execLswDissCheck (curMa : List Int) (out : List LswOut) (s : State) : Result :=
  (let l := (List.range 32).filter fun c => s.hasLsw c
   let s := s.each l fun c s => s.measured c (curMa.getD c 0) (lswOut out c)
   let mw := satTo 16 (((l.filter fun c => (s.chan c).on).map fun c => dissNw c (curMa.getD c 0) (lswOut out c).temp).sum / 1000000)
   (s.set F.LSW_DISS_MW mw).set F.LSW_DISS_PEAK_MW (max mw (s.get F.LSW_DISS_PEAK_MW))).finish

/-- LSW_DISS_HIGH (R401). -/
def execLswDissHigh (s : State) : Result :=
  (s.when (decide (4000 < s.get F.LSW_DISS_MW)) fun s => s.ev E.LSW_DISS_HIGH 0 [s.get F.LSW_DISS_MW]).finish

/-- The bit and the code of a supply condition: 0 UV, 1 OV, 2 REVERSE, 3 GND_LOST (Table 16.2). -/
def supplyField (cond : Nat) : Field :=
  match cond with
  | 0 => F.LSW_SUPPLY_UV
  | 1 => F.LSW_SUPPLY_OV
  | 2 => F.LSW_SUPPLY_REVERSE
  | _ => F.LSW_SUPPLY_GND_LOST

/-- LSW_SUPPLY_FAULT (R414). -/
def execLswSupplyFault (cond : Fin 4) (vlsMv : Int) (s : State) : Result :=
  (s.when (!s.on (supplyField cond)) fun s =>
    let s := s.setB (supplyField cond) true
    let s := match cond.val with
      | 0 => s.ev E.LSW_SUPPLY_UV 0 [ofSigned 32 vlsMv]
      | 1 => s.ev E.LSW_SUPPLY_OV 0 [ofSigned 32 vlsMv]
      | 2 => s.ev E.LSW_SUPPLY_REVERSE 0 []
      | _ => s.ev E.LSW_GND_LOST 0 []
    s.refreshChans).finish

/-- LSW_SUPPLY_RECOVER (R414, R422). -/
def execLswSupplyRecover (cond : Fin 4) (s : State) : Result :=
  (s.when (s.on (supplyField cond)) fun s => (s.setB (supplyField cond) false).refreshChans).finish

/-! ### External switches (R415, R416) -/

/-- LSX_CHAIN_SHIFT (R415). -/
def execLsxChainShift (s : State) : Result :=
  (s.when (s.is7680 && s.on F.LSX_CFG_EN) fun s =>
    let n := s.get F.LSX_CHAIN_LEN
    let s := s.each (List.range 64) fun x s => s.setB (F.LSX_XSTAT_ON.nth x) ((s.chan (32 + x)).on && decide (x < n))
    s.emit (.chain n ((List.range (min n 64)).foldl (fun m x => setBitOf m x (s.chan (32 + x)).on) 0))).finish

/-- The scan period: SETTLE_US + 5 µs for each enabled channel. -/
def State.scanUs (s : State) : Nat :=
  ((List.range 64).filter fun x => s.on (F.LSX_XCFG_EN.nth x)).length * (s.get F.LSX_CFG_SETTLE_US + 5)

/-- One conversion of channel `x`: its current, its fault level and whether it exceeds ILIM (R415, R416). -/
def State.lsxConvert (s : State) (x mv : Nat) : State :=
  let c := 32 + x
  let ma := (f32Trunc (f32Mul (f32OfInt (mv : Int)) (s.get (F.LSX_XGAIN_GAIN.nth x)))).toNat
  let s := (s.set (F.LSX_XSTAT_CUR.nth x) (satTo 16 (ma / 100))).set F.LSX_SCAN_US_US s.scanUs
  let s := s.modChan c fun v => { v with above := v.on && !s.on (chBlanking c) && decide (s.get (F.LSX_XCFG_ILIM.nth x) * 100 < ma) }
  if s.get F.LSX_CFG_FAULT_MV < mv then
    if s.on (chLatch c) then s
    else
      let s := (s.setB (chLatch c) true).ev E.LSX_FAULT x [x, mv]
      if (s.chan c).on then s.shutdownChan c else s.refreshChan c
  else s.when (s.on (chLatch c)) fun s => (s.setB (chLatch c) false).refreshChan c

/-- LSX_SCAN_CONVERSION (R415, R416). -/
def execLsxScanConversion (x : Fin 64) (senseMv : Nat) (s : State) : Result :=
  (s.when (s.is7680 && s.on F.LSX_CFG_EN && s.on (F.LSX_XCFG_EN.nth x)) fun s => s.lsxConvert x senseMv).finish

/-- LSX_OVERLOAD (R416): above ILIM at every conversion for 10 ms, outside blanking. -/
def execLsxOverload (x : Fin 64) (s : State) : Result :=
  (s.when (s.is7680 && (s.chan (32 + x)).on && (s.chan (32 + x)).above) fun s =>
    ((s.setB (chOverload (32 + x)) true).ev E.LSX_OVERLOAD x [x, s.get (F.LSX_XSTAT_CUR.nth x)]).shutdownChan (32 + x)).finish

/-- LSX_REARM (R416): a write to LSX.CTRL with GO. -/
def execLsxRearm (value : Word) (s : State) : Result :=
  (s.hostWrites 0x2C 0x008 fun s => s.when (value.toNat.testBit 31) fun s => s.rearm (32 + value.toNat % 64)).finish

/-- ILIM and INRUSH lie within the current limit of Table 16.1, in 0.1 A (a light channel from 8 on), and INRUSH is not
below ILIM. -/
def lswCfgOk (c v : Nat) : Bool :=
  let ilim := bits v 15 8
  let inrush := bits v 23 16
  let lim := if c < 8 then (20, 240) else (5, 80)
  decide (lim.1 ≤ ilim) && decide (ilim ≤ inrush) && decide (inrush ≤ lim.2)

end Sys2Proof.Machine
end

