-- ==== Sys2Proof/Machine/Groups.lean ====
section
/-! DEFINITION. Converter phases and groups (chapter 07): switching periods, the sharing of the outlet reference, the
routing stages, overvoltage truncation, group faults and the detection of failed phases. -/
namespace Sys2Proof.Machine

/-! ### Timing fields (R134, R135) -/

/-- The timing conditions of R135 on a period, two dead times, BLANK and MAX_ON. -/
def timingOk (t dtHl dtLh blank maxOn : Nat) : Bool :=
  decide (51200 ≤ t) && decide (t ≤ 640000) && decide (16 ≤ blank) && decide (blank ≤ 160) &&
  decide (0x1000 ≤ maxOn) && decide (maxOn ≤ 0xF800) &&
  decide (maxOn * t + (dtHl + dtLh + 512) * 65536 ≤ t * 65536) && decide (blank * 32 * 65536 < maxOn * t)

/-- A group is in a stage other than UNROUTED or FAULT (R134). -/
def State.anyGroupBusy (s : State) : Bool := s.groups.any fun g => !(s.stage g == .unrouted || s.stage g == .fault)

def State.periodWrite (s : State) (v : Nat) : State :=
  let t := bits v 19 0
  if s.anyGroupBusy then s.err E.PHASE_PERIOD_BUSY 0 [v]
  else if timingOk t (s.get F.PHASE_DEADTIME_DT_HL) (s.get F.PHASE_DEADTIME_DT_LH) (s.get F.PHASE_BLANK_MAXON_BLANK)
      (s.get F.PHASE_BLANK_MAXON_MAX_ON) then (s.set F.PHASE_PERIOD_FT t).refreshOffsets
  else s.err E.PHASE_BAD_TIMING 0 [0x040]

/-- PHASE_PERIOD_WRITE (R134, R135). -/
def execPhasePeriodWrite (value : Word) (s : State) : Result :=
  (s.hostWrites 0x1A 0x040 fun s => s.periodWrite value.toNat).finish

def State.timingWrite (s : State) (isBlank : Bool) (v : Nat) : State :=
  if isBlank then
    if timingOk (s.get F.PHASE_PERIOD_FT) (s.get F.PHASE_DEADTIME_DT_HL) (s.get F.PHASE_DEADTIME_DT_LH) (bits v 23 16) (bits v 15 0)
    then (s.set F.PHASE_BLANK_MAXON_BLANK (bits v 23 16)).set F.PHASE_BLANK_MAXON_MAX_ON (bits v 15 0)
    else s.err E.PHASE_BAD_TIMING 0 [0x048]
  else
    if timingOk (s.get F.PHASE_PERIOD_FT) (bits v 11 0) (bits v 27 16) (s.get F.PHASE_BLANK_MAXON_BLANK) (s.get F.PHASE_BLANK_MAXON_MAX_ON)
    then (s.set F.PHASE_DEADTIME_DT_HL (bits v 11 0)).set F.PHASE_DEADTIME_DT_LH (bits v 27 16)
    else s.err E.PHASE_BAD_TIMING 0 [0x044]

/-- PHASE_TIMING_WRITE (R135). -/
def execPhaseTimingWrite (isBlank : Bool) (value : Word) (s : State) : Result :=
  (s.hostWrites 0x1A (if isBlank then 0x048 else 0x044) fun s => s.timingWrite isBlank value.toNat).finish

/-- A write to OVn_CFG: refused when RELEASE is at or above TRIP (R150). -/
def State.ovCfgWrite (s : State) (n v : Nat) : State :=
  if bits v 25 16 ≤ bits v 9 0 then s.err E.PHASE_BAD_TIMING 0 [0x080 + n * 0x10]
  else (s.set (F.PHASE_OV_CFG_TRIP.nth n) (bits v 25 16)).set (F.PHASE_OV_CFG_RELEASE.nth n) (bits v 9 0)

/-! ### Shares and start codes (R136 to R141) -/

/-- The sum of the weights of the groups that share outlet `o`'s reference. -/
def State.weightSum (s : State) (o : Nat) : Nat := ((s.sharing o).map fun g => (s.grp g).weight).sum

/-- The signed reference of outlet `o`, µA. -/
def State.refSigned (s : State) (o : Nat) : Int :=
  let u : Int := (s.outSt o).refUa
  if s.on (F.OUTLET_STATUS_DIRECTION.inst o) then -u else u

/-- The share of a group, µA: MATCH_A per phase while matching, in export if V_g is above V_o, else reference × W_g / ΣW (R141,
R146). -/
def State.groupShareUa (s : State) (g : Nat) : Int :=
  match s.stage g with
  | .matching =>
    let u : Int := (s.get F.PHASE_MATCH_MATCH_A * 1000000 * (s.enabledPhases g).length : Nat)
    if s.vc (s.route g) < s.getI (F.GROUP_VOUT_MV.inst g) then -u else u
  | .routed | .leaving =>
    let w := s.weightSum (s.grp g).phys
    if w = 0 || (s.grp g).shareOut then 0 else Int.tdiv (s.refSigned (s.grp g).phys * ((s.grp g).weight : Nat)) (w : Nat)
  | _ => 0

/-- `num/den` to the nearest integer, ties upward. -/
def roundDiv (num : Int) (den : Nat) : Int := (2 * num + den) / ((2 * den : Nat) : Int)

/-- The DAC start code of R136 for a group share of `ua` µA over `n` phases. -/
def State.startCode (s : State) (p : Nat) (ua : Int) (n nPrev : Nat) : Nat :=
  let d : Nat := n
  let pk := min ((ua.natAbs : Int) + s.phOfs p * 10000 * d) ((s.phImax p * 1000000 * d : Nat) : Int)
  let den : Nat := d * 3125000000 * 65536
  let step := pk * ((s.phGain p * 2 * 65536 : Nat) : Int)
  let ramp : Int := (s.get F.PHASE_SLOPE_SLOPE * nPrev * d * 3125000000 : Nat)
  let zero : Int := (s.phZero p * den : Nat)
  (clampI 0 1023 (roundDiv (if ua < 0 then zero - step - ramp else zero + step + ramp) den)).toNat

/-- MAX_ON × T in 2.5 ns ticks. -/
def State.maxOnTicks (s : State) : Nat := s.get F.PHASE_BLANK_MAXON_MAX_ON * s.get F.PHASE_PERIOD_FT / (65536 * 32)

/-- The comparator threshold after `on` ticks, in 2^−16 codes, clamped to the DAC's range (R137). -/
def State.threshold (s : State) (p on : Nat) : Int :=
  let v := s.phs p
  let m : Int := (s.get F.PHASE_SLOPE_SLOPE * on : Nat)
  clampI 0 (1023 * 65536) (if v.exp then (v.code * 65536 : Nat) + m else (v.code * 65536 : Nat) - m)

/-- The implied current of a phase whose on-time ended after `on` ticks, mA, signed, by the entry its period began with (R154,
R157). -/
def State.impliedMa (s : State) (p on : Nat) : Int :=
  let v := s.phs p
  let th := s.threshold p on
  let z : Int := (v.zero * 65536 : Nat)
  let gain : Int := (v.gain * 65536 : Nat)
  let mag := fun (x : Int) => Int.tdiv (x * 1562500) gain - v.ofs * 10
  if gain = 0 then 0 else if v.exp then -(mag (z - th)) else mag (th - z)

/-! ### Losing and regaining phases (R155, R156) -/

/-- A phase stops being enabled for reason 1 or 2: LOST, counted and logged. Its outputs are held low from the end of the period
in progress (R155). -/
def State.losePhase (s : State) (p reason : Nat) : State :=
  let g := p / 6
  let s := (s.setPhase p false true reason).inc (F.GROUP_LOST_COUNT_COUNT.inst g)
  ((s.ev E.GROUP_PHASE_LOST g [p, reason]).judgeMin g).refreshGroup g

/-- A PHASE disable Clause stops the phase in the same way (R156). -/
def State.disablePhase (s : State) (p : Nat) : State := ((s.setPhase p false (s.phLost p) 4).judgeMin (p / 6)).refreshGroup (p / 6)

/-- Detection applies to a phase afresh (R155). -/
def PhaseState.fresh (v : PhaseState) : PhaseState :=
  { v with maxOnRun := 0, openRun := 0, peerTrip := false, endedMax := false, runOn := 0, runOnCnt := 0 }

/-- A PHASE enable Clause: a lost phase is logged; detection starts afresh (R155). -/
def State.enablePhase (s : State) (p : Nat) : State :=
  let was := s.phLost p
  let s := ((s.setPhase p true false 0).modPhs p PhaseState.fresh).when was fun s => s.ev E.GROUP_PHASE_ENABLED (p / 6) [p]
  (s.judgeMin (p / 6)).refreshGroup (p / 6)

/-! ### Periods -/

/-- A group in MATCHING has reached the window: it goes to CLOSING (R146). -/
def State.matchReached (s : State) (g : Nat) : Bool :=
  s.stage g == .matching && s.stagesRun && !s.coilsBarred &&
    decide ((s.getI (F.GROUP_VOUT_MV.inst g) - s.vc (s.route g)).natAbs ≤ s.get F.PHASE_MATCH_MATCH_MV)

/-- What a period start of one of its phases does to a group: a weight due is renewed, the weight of a group in UNLOADING becomes 0,
and the share of one below MIN_PHASES moves to the other groups (R141, R142, R147). -/
def State.groupPeriod (s : State) (g : Nat) : State :=
  s.modGrp g fun v => { v with
    weight := if s.stage g == .unloading then 0 else if v.weightDue then (s.enabledPhases g).length else v.weight
    weightDue := false
    shareOut := v.shareOut || v.belowMin }

/-- A period without a peer's trip ends the run of R153; a new one has seen neither its own maximum on-time nor a peer's trip. -/
def PhaseState.newPeriod (v : PhaseState) : PhaseState :=
  { v with openRun := if v.endedMax && !v.peerTrip then 0 else v.openRun, peerTrip := false, endedMax := false, endTick := none }

/-- 2 ms in ticks, the span of ONTIME (Table 7.6). -/
def onTimeSpan : Nat := 800000

/-- ONTIME of a phase table entry: the mean of the on-times that ended in the last 2 ms (Table 7.6); 0 for a phase that has been
off for all of them (DEDUCED, log entry 45). -/
def State.ageOnTime (s : State) (p : Nat) : State :=
  if (s.phs p).hist.isEmpty then s else
  let h := (s.phs p).hist.takeWhile fun x => decide (s.since x.1 < onTimeSpan)
  let s := s.modPhs p fun v => { v with hist := h }
  s.wrLe (phaseBase p + 14) 2 (if h.length = 0 then 0 else satTo 16 ((h.map fun x => x.2).sum / h.length))

/-- An on-time of `on` ticks enters ONTIME. -/
def State.showOnTime (s : State) (p on : Nat) : State :=
  (s.modPhs p fun v => { v with hist := (s.ticks, on) :: v.hist }).ageOnTime p

/-- The start of a period of phase `p` for its group, its counts and ONTIME; a lengthened period is now over (R140). -/
def State.startPeriod (s : State) (p : Nat) : State :=
  (((s.groupPeriod (p / 6)).modGrp (p / 6) fun v => { v with shiftDue := setBitOf v.shiftDue (p % 6) false }).modPhs p PhaseState.newPeriod).ageOnTime p

/-- A period without a pulse, skipped under R139 or while truncation is active (R150): both gates stay low, and the block of R154
is left out (R158). -/
def State.skipPeriod (s : State) (p : Nat) (ex : Bool) : State :=
  (s.modPhs p fun v => { v with pulse := false, started := true, exp := ex, nPrev := 0, impliedCnt := v.impliedCnt + 1, spoiled := true }).emit
    (.pwm p false false)

/-- The pulse of a period begins, with the entry of the phase table that it runs by (R136, R157). -/
def State.startPulse (s : State) (p : Nat) (ex : Bool) (code : Nat) : State :=
  let s := s.modPhs p fun v => { v with
    pulse := true, started := true, exp := ex, code := code, startTick := s.ticks, gain := s.phGain p, zero := s.phZero p, ofs := s.phOfs p }
  ((s.set ((F.GROUP_PH_REF_DAC.inst (p / 6)).nth (p % 6)) code).emit (.pwm p false false)).emit (.pwm p (!ex) ex)

/-- The period of a switching phase begins: the direction is the sign of its share, then a skip or a pulse (R136 to R139, R150). -/
def State.switchPeriod (s : State) (p : Nat) : State :=
  let g := p / 6
  let o := (s.grp g).phys
  let n := (s.enabledPhases g).length
  let ua := s.groupShareUa g
  let ex := decide (ua < 0)
  let v := s.phs p
  let s := (s.setI (F.GROUP_SHARE_MA_MA.inst g) (Int.tdiv ua 1000)).setB (F.GROUP_STATUS_DIRECTION.inst g) ex
  if s.on (F.PHASE_OV_STAT_ACTIVE.nth o) && s.stage g != .matching then
    (s.skipPeriod p ex).modOut o fun x => { x with truncSkipped := x.truncSkipped + 1 }
  else if ua.natAbs < s.get F.PHASE_CFG_SKIP_A * 1000000 * n then s.skipPeriod p ex
  else s.startPulse p ex (s.startCode p ua n (if v.started then v.nPrev else 0))

/-- The period of phase `p` begins. A group that has matched goes to CLOSING; a phase that may not switch, or is no longer enabled,
stops (R133, R142, R146, R147, R155). -/
def State.periodStart (s : State) (p : Nat) : State :=
  let g := p / 6
  let s := s.startPeriod p
  if s.matchReached g then s.startClosing g (s.route g)
  else if !s.phEnabled p || !s.grpSwitches g then s.stopPhase p
  else s.switchPeriod p

/-- PERIOD_START (R136, R138, R139, R146). -/
def execPeriodStart (p : Fin 72) (s : State) : Result := (s.when (s.hasGroup (p / 6)) fun s => s.periodStart p).finish

/-- The on-time of phase `p` ends after `on` ticks; the other switch follows (Table 7.2). -/
def State.endPulse (s : State) (p on : Nat) : State :=
  let v := s.phs p
  let i := s.impliedMa p on
  let s := s.setPhs p { v with
    pulse := false, nPrev := on, impliedSum := v.impliedSum + i, impliedCnt := v.impliedCnt + 1,
    blkOn := v.blkOn + on, blkOnCnt := v.blkOnCnt + 1, endTick := some s.ticks, maxOnBefore := v.maxOnRun, openBefore := v.openRun }
  let s := (s.set ((F.GROUP_PH_REF_ON_TICKS.inst (p / 6)).nth (p % 6)) on).showOnTime p on
  (s.emit (.pwm p false false)).emit (.pwm p v.exp (!v.exp))

/-- A trip of another phase of the group in this one's period (R153). -/
def PhaseState.seeTrip (v : PhaseState) : PhaseState :=
  { v with peerTrip := true, openRun := if v.endedMax && !v.peerTrip then v.openRun + 1 else v.openRun }

/-- A trip of phase `p`: its run of max-on periods ends, and the other enabled phases of its group have seen a trip (R153). -/
def State.noteTrip (s : State) (p : Nat) : State :=
  let g := p / 6
  let s := s.each ((s.enabledPhases g).filter fun q => q != p) fun q s => s.modPhs q PhaseState.seeTrip
  let s := s.modPhs p fun v => { v with maxOnRun := 0, openRun := 0 }
  (s.modGrp g fun v => { v with maxOnAll := false }).setB (F.GROUP_STATUS_MAX_ON_ALL.inst g) false

/-- COMPARATOR_TRIP (R137): the first edge after blanking ends the on-time; an edge inside it is ignored. -/
def execComparatorTrip (p : Fin 72) (onTicks : Nat) (s : State) : Result :=
  (s.when (s.hasGroup (p / 6) && (s.phs p).pulse && decide (s.get F.PHASE_BLANK_MAXON_BLANK ≤ onTicks) && decide (onTicks < s.maxOnTicks))
    fun s => (s.endPulse p onTicks).noteTrip p).finish

/-- A period reaches maximum on-time; it counts toward R153 once a peer has tripped in it. -/
def PhaseState.reachMax (v : PhaseState) : PhaseState :=
  { v with maxOnRun := v.maxOnRun + 1, endedMax := true, openRun := if v.peerTrip then v.openRun + 1 else v.openRun }

/-- MAX_ON_EXPIRY (Table 7.2, R153). -/
def execMaxOnExpiry (p : Fin 72) (s : State) : Result :=
  (s.when (s.hasGroup (p / 6) && (s.phs p).pulse) fun s => (s.endPulse p s.maxOnTicks).modPhs p PhaseState.reachMax).finish

/-- PHASE_OPEN_DETECTED (R153, R155): reason 1 when another phase tripped in each of the three periods; MAX_ON_ALL when
every enabled phase has reached maximum on-time in three. -/
def execPhaseOpenDetected (p : Fin 72) (s : State) : Result :=
  (let g := p.val / 6
   if !s.hasGroup g || !s.phEnabled p then s
   else if 3 ≤ (s.phs p).openRun then s.losePhase p 1
   else if (s.enabledPhases g).all (fun q => decide (3 ≤ (s.phs q).maxOnRun)) && !(s.grp g).maxOnAll then
     ((s.modGrp g fun v => { v with maxOnAll := true }).setB (F.GROUP_STATUS_MAX_ON_ALL.inst g) true).ev E.GROUP_MAX_ON_ALL g [(s.grp g).phys]
   else s).finish

/-! ### The sense check (R154, R158) -/

/-- The enabled phases that can serve outlet `n`. -/
def State.outletPhases (s : State) (n : Nat) : List Nat := ((s.joined n).map s.enabledPhases).flatten

/-- The phases whose current flows to outlet `n`, those of groups about to unload among them. -/
def State.carrying (s : State) (n : Nat) : List Nat :=
  ((s.groups.filter fun g => (s.grp g).phys == n && (s.stage g == .routed || s.stage g == .leaving || s.stage g == .unloading)).map groupPhases).flatten

/-- Insert into an ascending list. -/
def natInsert (x : Nat) : List Nat → List Nat
  | [] => [x]
  | a :: t => if x ≤ a then x :: a :: t else a :: natInsert x t

/-- Twice the median of a list; the mean of the middle two for an even length. -/
def median2 (l : List Nat) : Nat :=
  let l := l.foldr natInsert []
  l.getD ((l.length - 1) / 2) 0 + l.getD (l.length / 2) 0

/-- The mean on-time of a phase over the run of disagreeing blocks. -/
def State.runMean (s : State) (p : Nat) : Nat := (s.phs p).runOn / max 1 (s.phs p).runOnCnt

/-- The phase that deviates most from twice the median `m2`; of equals the lowest number. -/
def State.worstPhase (s : State) (m2 : Nat) : List Nat → Option (Nat × Nat)
  | [] => none
  | p :: t =>
    let d := ((2 * s.runMean p : Nat) - (m2 : Int)).natAbs
    match s.worstPhase m2 t with
    | some (q, e) => if e ≤ d then some (p, d) else some (q, e)
    | none => some (p, d)

def State.addRun (s : State) (p : Nat) : State :=
  s.modPhs p fun v => { v with runOn := v.runOn + v.blkOn, runOnCnt := v.runOnCnt + v.blkOnCnt }

def State.clearRun (s : State) (p : Nat) : State := s.modPhs p fun v => { v with runOn := 0, runOnCnt := 0 }

/-- A flag of R184 or R185 is set on the outlet: the sense check is suspended (R154, R185). -/
def State.fbFlagged (s : State) (n : Nat) : Bool :=
  s.on (F.OUTLET_FB_STAT_LOST_V.inst n) || s.on (F.OUTLET_FB_STAT_LOST_I.inst n) ||
  s.on (F.OUTLET_FB_STAT_FROZEN_V.inst n) || s.on (F.OUTLET_FB_STAT_FROZEN_I.inst n) ||
  s.on (F.OUTLET_FB_STAT_MISMATCH_V.inst n) || s.on (F.OUTLET_FB_STAT_MISMATCH_I.inst n)

/-- Twenty disagreeing blocks: a phase is found stuck, or the mismatch is flagged once (R154). -/
def State.senseFail (s : State) (n : Nat) (implied ic : Int) : State :=
  let l := s.outletPhases n
  let m2 := median2 (l.map s.runMean)
  let flag := fun (s : State) => s.when (!(s.outSt n).senseEpisode) fun s =>
    (((s.modOut n fun o => { o with senseEpisode := true }).setBit F.PHASE_SENSE_STAT_MISMATCH n true)).ev E.PHASE_SENSE_MISMATCH 0
      [n, ofSigned 32 implied, ofSigned 32 ic]
  let s := match s.worstPhase m2 l with
    | some (p, d) => if d * 100 > s.get F.PHASE_SENSE_WIN_ONTIME_DEV_PCT * m2 then s.losePhase p 2 else flag s
    | none => flag s
  (s.each l fun p s => s.clearRun p).modOut n fun o => { o with senseRun := 0 }

/-- A 100 µs block of outlet `n` ends with a mean control current of `ic` mA. -/
def State.senseBlock (s : State) (n : Nat) (ic : Int) : State :=
  let l := s.carrying n
  let implied : Int := (l.map fun p => let v := s.phs p; if v.impliedCnt = 0 then 0 else Int.tdiv v.impliedSum v.impliedCnt).foldl (· + ·) 0
  let skip := s.fbFlagged n || l.any fun p => (s.phs p).spoiled
  let lim := s.get F.PHASE_SENSE_WIN_WIN_A * 100000 + s.get F.PHASE_SENSE_WIN_WIN_PCT * ic.natAbs
  let bad := decide (lim < (implied - ic).natAbs * 100)
  let s := s.setI (F.PHASE_IMPLIED_MA0_MA.nth n) implied
  let s :=
    if skip then s
    else if bad then
      let s := (s.each l fun p s => s.addRun p).modOut n fun o => { o with senseRun := o.senseRun + 1 }
      s.when (decide (20 ≤ (s.outSt n).senseRun)) fun s => s.senseFail n implied ic
    else
      ((s.each l fun p s => s.clearRun p).modOut n fun o => { o with senseRun := 0, senseEpisode := false }).setBit F.PHASE_SENSE_STAT_MISMATCH n false
  s.each l fun p s => s.freshBlock p

/-- SENSE_BLOCK (R154, R155, R158). -/
def execSenseBlock (n : Fin 4) (icMean : Int) (s : State) : Result :=
  (s.when (s.hasOutlet n && s.slotsClosed n && s.mode.gateDrive) fun s => s.senseBlock n icMean).finish

/-! ### Overvoltage truncation (R149, R150) -/

/-- A pulse cut short by truncation: no new pulse starts. One that ended by trip or maximum on-time in this tick counts as truncated:
the counts of R153 stand as before it (R158). -/
def State.truncatePhase (s : State) (p : Nat) : State :=
  let v := s.phs p
  if v.pulse then
    ((s.endPulse p (s.since v.startTick)).modPhs p fun v => { v with spoiled := true }).emit (.pwm p false false)
  else if v.started && v.endTick == some s.ticks then
    (s.setPhs p { v with spoiled := true, maxOnRun := v.maxOnBefore, openRun := v.openBefore, endedMax := false }).emit (.pwm p false false)
  else s

def State.ovTruncate (s : State) (n : Nat) : State :=
  let s := (s.setB (F.PHASE_OV_STAT_ACTIVE.nth n) true).incSat (F.PHASE_OV_STAT_COUNT.nth n)
  let s := s.modOut n fun o => { o with truncSkipped := 0 }
  (s.each ((s.joined n).map groupPhases).flatten fun p s => s.truncatePhase p).ev E.PHASE_OV_TRUNCATE 0 [n]

/-- OV_TRUNCATE (R149, R158). -/
def execOvTruncate (n : Fin 4) (s : State) : Result :=
  (s.when (s.hasOutlet n && !s.on (F.PHASE_OV_STAT_ACTIVE.nth n)) fun s => s.ovTruncate n).finish

/-- OV_RELEASE (R150). -/
def execOvRelease (n : Fin 4) (s : State) : Result :=
  (s.when (s.hasOutlet n && s.on (F.PHASE_OV_STAT_ACTIVE.nth n)) fun s =>
    let k := (s.outSt n).truncSkipped
    let s := s.each ((s.joined n).map groupPhases).flatten fun p s => s.modPhs p fun v => { v with nPrev := 0 }
    (((s.setB (F.PHASE_OV_STAT_ACTIVE.nth n) false).modOut n fun o => { o with truncSkipped := 0 }).clearActive n 2).ev E.PHASE_OV_RELEASE 0 [n, k]).finish

/-! ### Group faults (R151, R152, R161, R340) -/

/-- A group goes to FAULT with reason 3 on its enabled phases; in contactor travel once the travel ends (R151, R161). -/
def State.groupFault (s : State) (g : Nat) (code : EvCode) (data : List Nat) : State :=
  let st := s.stage g
  let s := s.each (s.enabledPhases g) fun p s => (s.setPhase p false (s.phLost p) 3).stopPhase p
  let s := s.ev code g data
  match st with
  | .closing | .opening => ((s.modGrp g fun v => { v with faultAfter := true }).judgeMin g).refreshGroup g
  | _ => (s.judgeMin g).setStage g .fault

/-- GFLT falls: the gates of the group are low at once; its stage changes once stages may (R151, R162). -/
def State.gfltLow (s : State) (g : Nat) : State :=
  let s := s.modGrp g fun v => { v with gflt := true, gfltDue := !s.stagesRun }
  if s.stagesRun then s.groupFault g E.GROUP_FAULT_INPUT [(s.stage g).code]
  else s.each (groupPhases g) fun p s => s.stopPhase p

/-- GROUP_FAULT_INPUT (R151, R161). -/
def execGroupFaultInput (g : Fin 12) (s : State) : Result :=
  (s.when (s.hasGroup g) fun s => s.gfltLow g).finish

/-- The group faults met during VAULT or HANDOVER act at its end (R162). -/
def State.gfltCatchUp (s : State) : State :=
  s.each (s.groups.filter fun g => (s.grp g).gfltDue) fun g s =>
    (s.modGrp g fun v => { v with gfltDue := false }).groupFault g E.GROUP_FAULT_INPUT [(s.stage g).code]

/-- FAULT_CLR (R152): only an unrouted group with its contactor open and GFLT high leaves FAULT; during VAULT and HANDOVER no stage
changes (R162). -/
def State.faultClr (s : State) (g : Nat) (high : Bool) : State :=
  let s := s.modGrp g fun v => { v with gflt := !high }
  let o := (s.grp g).phys
  if s.stagesRun && s.stage g == .fault && s.route g == 0xFF && high && (o == 0xFF || !s.fbClosed (matrixCoil g o)) &&
      (List.range 4).all (fun o => !s.fbClosed (matrixCoil g o)) then
    let s := s.each ((groupPhases g).filter fun p => s.phReason p == 3) fun p s => s.setPhase p true (s.phLost p) 0
    ((s.setGrp g { s.grp g with phys := 0xFF, faultAfter := false, coilCut := false, leaveAfterClose := false }).setStage g .unrouted).judgeMin g
  else s

/-- FAULT_CLR (R152). -/
def execFaultClr (g : Fin 12) (gfltHigh : Bool) (s : State) : Result :=
  (s.hostWrites (0x0E + g) 0x008 fun s => s.faultClr g gfltHigh).finish

/-! ### Routing stages (Table 7.4, R146 to R148, R160 to R162) -/

/-- UNLOADING: the phases are off and the zero window is watched (R147 step 2). -/
def State.startUnloading (s : State) (g : Nat) : State := s.setStage g .unloading

/-- The group is off its contactor: UNROUTED, and RELEASED is logged; a take that has applied begins its join (R147,
R148). A group that is to fault goes to FAULT (R152, R161). -/
def State.released (s : State) (g : Nat) : State :=
  let o := (s.grp g).phys
  let v := { s.grp g with coilCut := false }
  if v.faultAfter then (s.setGrp g { v with faultAfter := false, phys := 0xFF }).setStage g .fault
  else if s.route g = 0xFF then s.unroute g o
  else (((s.setGrp g { v with phys := 0xFF }).setStage g .held).ev E.GROUP_RELEASED g [o]).joinOrHold g

/-- A routing take (R146, R148, R160). -/
def State.routeTake (s : State) (g o : Nat) : State :=
  let s := s.set (F.GROUP_ROUTE_OUTLET.inst g) o
  match s.stage g with
  | .unrouted | .held => s.joinOrHold g
  | _ => s.refreshGroup g

/-- A routing yield (R147, R152). -/
def State.routeYield (s : State) (g : Nat) : State :=
  let o := s.route g
  let s := s.set (F.GROUP_ROUTE_OUTLET.inst g) 0xFF
  match s.stage g with
  | .routed => if s.ostate o == .energy then s.setStage g .leaving else (s.setStage g .leaving).startUnloading g
  | .matching | .held => s.unroute g o
  | .closing => (s.modGrp g fun v => { v with leaveAfterClose := true }).refreshGroup g
  | .fault => if (s.grp g).phys < 4 ∧ s.fbClosed (matrixCoil g (s.grp g).phys) then
      (s.modGrp g fun v => { v with faultAfter := true }).startUnloading g else s.refreshGroup g
  | _ => s.refreshGroup g

/-- MATCH_TIMEOUT (R146). -/
def execMatchTimeout (g : Fin 12) (s : State) : Result :=
  (s.when (s.hasGroup g && s.stage g == .matching && s.stagesRun) fun s =>
    if s.matchReached g then s.startClosing g (s.route g)
    else (s.setStage g .fault).ev E.GROUP_MATCH_TIMEOUT g
      [s.route g, s.get (F.GROUP_VOUT_MV.inst g), s.get (F.OUTLET_VC_MV_MV.inst (s.route g))]).finish

/-- The travel of a closing contactor is over (R146 step 3). -/
def State.matrixClosed (s : State) (g ms : Nat) : State :=
  let o := (s.grp g).phys
  let s := (s.setFb (matrixCoil g o) true).set (F.GROUP_TRAVEL_CLOSE_MS.inst g) (satTo 16 ms)
  let s := { s with safe := { s.safe with travelled := setBitOf s.safe.travelled (matrixCoil g o) true } }
  if (s.grp g).faultAfter then (s.modGrp g fun v => { v with faultAfter := false }).setStage g .fault
  else if (s.grp g).leaveAfterClose then (s.modGrp g fun v => { v with leaveAfterClose := false }).startUnloading g
  else ((s.setStage g .routed).ev E.GROUP_JOINED g [o]).startMains o

/-- MATRIX_CLOSED (R146, R161). -/
def execMatrixClosed (g : Fin 12) (travelMs : Nat) (s : State) : Result :=
  (s.when (s.hasGroup g && s.stage g == .closing && s.stagesRun && s.coilOn (matrixCoil g (s.grp g).phys)) fun s => s.matrixClosed g travelMs).finish

/-- CONTACTOR_CLOSE_TIMEOUT (R146): the coil is de-energised and the group goes to FAULT; no safety function trips. -/
def execContactorCloseTimeout (g : Fin 12) (s : State) : Result :=
  (s.when (s.hasGroup g && s.stage g == .closing && s.stagesRun) fun s =>
    let i := matrixCoil g (s.grp g).phys
    let s := (s.setCoil i false).modGrp g fun v => { v with faultAfter := false, leaveAfterClose := false }
    (s.setStage g .fault).ev E.GROUP_CONTACTOR_TIMEOUT g [i, 1]).finish

/-- The reference of the group's outlet is within the remaining capacity at the outlet's voltage (R147 step 1). -/
def State.refWithinCap (s : State) (o : Nat) : Bool :=
  decide ((s.outSt o).refUa * (s.vc o).natAbs ≤ s.outletCap o * 1000000000)

/-- LEAVING_DONE (R147). -/
def execLeavingDone (g : Fin 12) (s : State) : Result :=
  (s.when (s.hasGroup g && s.stage g == .leaving && s.stagesRun && (s.ostate (s.grp g).phys != .energy || s.refWithinCap (s.grp g).phys)) fun s =>
    s.startUnloading g).finish

/-- LEAVE_TIMEOUT (R147). -/
def execLeaveTimeout (g : Fin 12) (s : State) : Result :=
  (s.when (s.hasGroup g && s.stage g == .leaving && s.stagesRun) fun s =>
    (s.startUnloading g).ev E.GROUP_LEAVE_TIMEOUT g [(s.grp g).phys, s.get (F.OUTLET_REF_MA_MA.inst (s.grp g).phys)]).finish

/-- ZERO_CONFIRMED (R147 steps 2 and 3). In FAULT after ZERO_TIMEOUT only the matrix coil falls (Table 14.3). -/
def execZeroConfirmed (g : Fin 12) (s : State) : Result :=
  (if !s.hasGroup g || !s.stagesRun then s
   else match s.stage g with
   | .unloading => (s.setCoil (matrixCoil g (s.grp g).phys) false).setStage g .opening
   | .fault => s.when (s.grp g).coilOffDue fun s =>
      (s.setCoil (matrixCoil g (s.grp g).phys) false).modGrp g fun v => { v with coilOffDue := false }
   | _ => s).finish

/-- ZERO_TIMEOUT (R147, Table 14.3): FAULT with the contactor closed; a fault ramp on the outlet. -/
def execZeroTimeout (g : Fin 12) (s : State) : Result :=
  (s.when (s.hasGroup g && s.stage g == .unloading && s.stagesRun) fun s =>
    let o := (s.grp g).phys
    let s := (s.modGrp g fun v => { v with faultAfter := false, coilOffDue := true }).setStage g .fault
    ((s.ev E.GROUP_ZERO_TIMEOUT g [o]).latchSrc o 3).faultRamp o).finish

/-- MATRIX_OPENED (R147, R148, R160, R161): the feedback reads open at the end of OPENING, or after the safety logic has
de-energised the coil of a group. -/
def execMatrixOpened (g : Fin 12) (travelMs : Nat) (s : State) : Result :=
  (s.when (s.hasGroup g && s.stagesRun && decide ((s.grp g).phys < 4) && !s.coilOn (matrixCoil g (s.grp g).phys)) fun s =>
    let s := (s.setFb (matrixCoil g (s.grp g).phys) false).set (F.GROUP_TRAVEL_OPEN_MS.inst g) (satTo 16 travelMs)
    let s := { s with safe := { s.safe with weldedSince := setBitOf s.safe.weldedSince (matrixCoil g (s.grp g).phys) false } }
    match s.stage g with
    | .opening | .unloading => s.released g
    | .routed | .leaving => s.when (s.grp g).coilCut fun s => (s.setStage g .held).when (s.route g != (s.grp g).phys && s.route g != 0xFF) fun s => s.joinOrHold g
    | _ => s).finish

/-- MATRIX_OPEN_TIMEOUT (R147): treated as a weld (SF5); the group goes to FAULT. -/
def execMatrixOpenTimeout (g : Fin 12) (s : State) : Result :=
  (s.when (s.hasGroup g && s.stage g == .opening && s.stagesRun) fun s =>
    let i := matrixCoil g (s.grp g).phys
    (s.ev E.GROUP_CONTACTOR_TIMEOUT g [i, 0]).weld i).finish

end Sys2Proof.Machine
end

