-- ==== Sys2Proof/Machine/Loops.lean ====
section
/-! DEFINITION. The outlet loops (chapter 08): the PID law, the four fast slots of an outlet with their target, clamp and
ramps, the contactor sequence, precharge and stopping, and the watch over the control feedback. -/
namespace Sys2Proof.Machine

/-! ### The PID law (R170, R171) -/

/-- The terms of one evaluation. -/
structure Pid where
  e : F32
  p : F32
  d : F32
  c : F32
  v : F32
  u : F32
deriving DecidableEq, Repr

/-- One evaluation with coefficients k = [KP, KI_T, DA, DB]. -/
def pidEval (k : List F32) (i d pvPrev sp pv lo hi : F32) : Pid :=
  let g := fun j => k.getD j 0
  let e := f32Sub sp pv
  let p := f32Mul (g 0) e
  let d := f32Sub (f32Mul (g 2) d) (f32Mul (g 3) (f32Sub pv pvPrev))
  let c := f32Add i (f32Mul (g 1) e)
  let v := f32Add (f32Add p c) d
  ⟨e, p, d, c, v, f32Min (f32Max v lo) hi⟩

/-- A term is not finite (R172). -/
def Pid.bad (x : Pid) : Bool := f32NonFinite x.p || f32NonFinite x.d || f32NonFinite x.c || f32NonFinite x.v

/-- Saturated with the error pushing further: u differs from v and e has the sign of v − u. -/
def Pid.sat (x : Pid) : Bool := (f32Lt x.v x.u && f32Lt x.e 0) || (f32Lt x.u x.v && f32Lt 0 x.e)

/-! ### Slots (Table 8.1) -/

def State.slotWord (s : State) (k off : Nat) : Nat := s.rdLe (slotBase k + off) 4
def State.setSlotWord (s : State) (k off v : Nat) : State := s.wrLe (slotBase k + off) 4 v
def State.slotRate (s : State) (k : Nat) : Nat :=
  if k < 16 then max 4000 (min 400000 (s.slotWord k 4)) else max 200000 (min 4000000000 (s.slotWord k 4))
/-- The active bank of a fast slot, B when true. -/
def State.slotBank (s : State) (k : Nat) : Bool := s.rdByte (slotBase k) / 4 % 2 == 1
def State.slotCoef (s : State) (k : Nat) (b : Bool) : List F32 :=
  (List.range 4).map fun j => s.slotWord k ((if b then 24 else 8) + 4 * j)

/-- The flag byte of a slot's STATUS: SAT, SELECTED, TRACKING, NONFINITE. -/
def State.setSlotFlags (s : State) (k : Nat) (sat sel trk non : Bool) : State :=
  s.wrByte (slotBase k + 60) ((if sat then 128 else 0) + (if sel then 64 else 0) + (if trk then 32 else 0) + (if non then 16 else 0))

/-- Swap the banks of fast slot `k`: BANK flips, REQ clears, the swap is logged (R168). -/
def State.flipBank (s : State) (k : Nat) : State :=
  let nb := !s.slotBank k
  let b := s.rdByte (slotBase k)
  let s := s.wrByte (slotBase k) (if nb then b + 4 else b - 4)
  ((s.setBit F.LOOP_BANK_ACTIVE k nb).setBit F.LOOP_SWAP_REQ k false).ev E.LOOP_SWAPPED 0 [k, if nb then 1 else 0]

/-- The fast slots present on the variant (R164). -/
def State.fastSlots (s : State) : Nat := 4 * s.nOutlets

/-- Swap requests on slots that are OFF act at once (R168). -/
def State.swapOff (s : State) : State :=
  s.each ((List.range s.fastSlots).filter fun k => s.bit F.LOOP_SWAP_REQ k && s.slotState k == 0) fun k s => s.flipBank k

/-- Request bank swaps; a request stands until it is carried out (R168, R193). -/
def State.swapReq (s : State) (v : Nat) : State :=
  (s.set F.LOOP_SWAP_REQ ((s.get F.LOOP_SWAP_REQ).lor (v % 2 ^ s.fastSlots))).swapOff

/-- LOOP_SWAP_REQ (R168, R193). -/
def execLoopSwapReq (value : Word) (s : State) : Result := (s.hostWrites 0x1B 0x040 fun s => s.swapReq value.toNat).finish

/-! ### Target, clamp and ramps (R16, R175, R176, R177) -/

def State.exporting (s : State) (n : Nat) : Bool := s.on (F.OUTLET_STATUS_DIRECTION.inst n)

/-- The Aperture term of R175, mA. -/
def State.aptMa (s : State) (n : Nat) : Nat :=
  let v := (max (s.vc n) 150000).toNat
  if s.exporting n then (-(s.getI (F.ALLOC_OUT_FLOOR_W.nth n))).toNat * 1000000 / v
  else (s.getI (F.ALLOC_OUT_CEIL_W.nth n)).toNat * 1000000 / v

/-- The magnitude of the target ITGT, mA (R16, R175). -/
def State.targetMa (s : State) (n : Nat) : Nat :=
  let lim := if s.exporting n then s.get (F.OUTLET_ILIM_EXP_MA.inst n) else s.get (F.OUTLET_ILIM_IMP_MA.inst n)
  min (min lim (s.aptMa n)) (min (s.get (F.OUTLET_THERM_MA_MA.inst n)) (s.safeMa n))

/-- The power limit of slot 4n + 2 (Table 8.3), W. -/
def State.powerLimit (s : State) (n : Nat) : Nat :=
  if s.exporting n then min (s.get (F.OUTLET_PLIM_EXP_W.inst n)) (-(s.getI (F.ALLOC_OUT_FLOOR_W.nth n))).toNat
  else min (s.get (F.OUTLET_PLIM_IMP_W.inst n)) (s.getI (F.ALLOC_OUT_CEIL_W.nth n)).toNat

/-- µA that a rate in mA per ms moves in one sample of `ticks`. -/
def slewUa (rate ticks : Nat) : Nat := rate * ticks / 400

/-- A ramp to 0 is in force on IHI: stopping, a direction change, or a deferred reset (R35, R176, R183). -/
def State.rampsDown (s : State) (n : Nat) : Bool := s.ostate n == .stopping || (s.outSt n).dirRamp || (s.outSt n).resetRamp != 0

/-- The rate of that ramp, mA per ms: a deferred reset reaches zero within 200 ms (R35). -/
def State.downRate (s : State) (n : Nat) : Nat := max (s.get (F.OUTLET_ISLEW_DOWN_MA_PER_MS.inst n)) (((s.outSt n).resetRamp + 199999) / 200000)

/-- The committed direction differs from the active one, which in OUT_CHECK and OUT_PRECHARGE is import whatever is committed
(R176). -/
def State.dirDiffers (s : State) (n : Nat) : Bool :=
  !(s.ostate n == .check || s.ostate n == .precharge) && s.on (F.OUTLET_DIR_EXPORT.inst n) != s.exporting n

/-- A committed direction that differs from the active one starts the ramp of R176. -/
def State.judgeDirection (s : State) (n : Nat) : State := s.modOut n fun o => { o with dirRamp := s.dirDiffers n }

/-- IHI for this sample (R175, R176, R183, R189), µA. -/
def State.nextIhi (s : State) (n ticks : Nat) : Nat :=
  let o := s.outSt n
  let tgt := s.targetMa n * 1000
  let h := if s.rampsDown n then min tgt (o.ihiUa - slewUa (s.downRate n) ticks)
    else min tgt (o.ihiUa + slewUa (s.get (F.OUTLET_ISLEW_UP_MA_PER_MS.inst n)) ticks)
  match s.ostate n with
  | .check => min h (s.get (F.OUTLET_LOWCUR_CHECK_MA.inst n) * 1000)
  | .precharge => min h (s.get (F.OUTLET_PRECHARGE_MA.inst n) * 1000)
  | _ => h

/-- VRAMP for this sample, µV (R177, R178). -/
def State.nextVramp (s : State) (n ticks : Nat) : Int :=
  let t : Int := s.getI (F.OUTLET_VCMD_TARGET.inst n) * 1000
  let v := (s.outSt n).vrampUv
  let step : Int := (s.get (F.OUTLET_VSLEW_MV_PER_MS.inst n) * ticks / 400 : Nat)
  if v < t then min t (v + step) else max t (v - step)

/-- The setpoint of fast slot 4n + j (Table 8.3). -/
def State.fastSp (s : State) (n j : Nat) : F32 :=
  match j with
  | 0 => f32OfRat (if s.exporting n then -(s.outSt n).vrampUv else (s.outSt n).vrampUv) 1000000
  | 1 => milli ((s.targetMa n : Nat) : Int)
  | 2 => f32OfInt ((s.powerLimit n : Nat) : Int)
  | _ => f32Sub (f32OfRat (s.get (F.COOL_LIMITS_PIN_MAX.nth n) : Int) 10) (f32OfRat (s.get (F.COOL_DERATE_MARGIN.nth n) : Int) 10)

/-! ### Reactions of the outlet (R186, R187) -/

/-- A detection under R172, R173, R184 or R185 while the slots are CLOSED: latched for the safety logic, then R187. -/
def State.loopReact (s : State) (n : Nat) : State :=
  s.when (s.slotsClosed n) fun s => ((s.latchSrc n 2).faultRamp n).refreshSafeMa n

/-- A fast slot's term is not finite (R172). -/
def State.nonFinite (s : State) (n k : Nat) : State :=
  let b := s.rdByte (slotBase k + 60)
  let s := s.wrByte (slotBase k + 60) (setBitOf b 4 true)
  (((s.ev E.LOOP_NONFINITE 0 [k]).ev E.OUTLET_LOOP_FAULT n [k])).loopReact n

/-! ### The fast sample (R165, R168, R171, R190) -/

/-- Evaluate fast slot 4n + j with a bank. -/
def State.fastEval (s : State) (n j : Nat) (bank : Bool) (i hi : F32) : Pid :=
  let k := 4 * n + j
  pidEval (s.slotCoef k bank) i (s.slotWord k 48) (s.slotWord k 52) (s.fastSp n j) (s.fastPv n j) 0 hi

/-- A requested swap comes first: the integrator is preset when BUMPLESS is set (R168, R190). -/
def State.fastSwap (s : State) (n j : Nat) (hi : F32) : State :=
  let k := 4 * n + j
  if !s.bit F.LOOP_SWAP_REQ k then s else
  let old := s.slotBank k
  if s.rdByte (slotBase k) / 8 % 2 = 1 then
    let a := s.fastEval n j old (s.slotWord k 44) hi
    let b := s.fastEval n j (!old) 0 hi
    (s.setSlotWord k 44 (f32Sub (f32Sub (f32Sub a.u b.p) b.d) b.c)).flipBank k
  else s.flipBank k

/-- The slot j with the smallest output; the lowest j on a tie (R171). -/
def selectMin : List (Nat × Pid) → Option (Nat × Pid)
  | [] => none
  | x :: t => match selectMin t with
    | none => some x
    | some y => if f32Lt y.2.u x.2.u then some y else some x

/-- Write back one slot after selection: `sel` is the selected slot's number and output. -/
def State.fastStore (s : State) (n sel : Nat) (ref : F32) (x : Nat × Pid) : State :=
  let k := 4 * n + x.1
  let y := x.2
  let s := (s.setSlotWord k 48 y.d).setSlotWord k 52 (s.fastPv n x.1)
  if x.1 = sel then
    let s := if y.sat then s else s.setSlotWord k 44 y.c
    (s.setSlotWord k 56 y.u).setSlotFlags k y.sat true false false
  else ((s.setSlotWord k 44 (f32Sub (f32Sub ref y.p) y.d)).setSlotWord k 56 ref).setSlotFlags k false false true false

/-- The four slots sample, select and clamp; the reference follows (R165, R170, R171). -/
def State.fastCompute (s : State) (n : Nat) : State :=
  let hi := f32OfRat ((s.outSt n).ihiUa : Int) 1000000
  let s := s.each (List.range 4) fun j s => s.fastSwap n j hi
  let xs := (List.range 4).map fun j => (j, s.fastEval n j (s.slotBank (4 * n + j)) (s.slotWord (4 * n + j) 44) hi)
  match xs.filter fun x => x.2.bad with
  | [] => match selectMin xs with
    | none => s
    | some (j, y) =>
      let s := s.each xs fun x s => s.fastStore n j y.u x
      let s := (s.set (F.OUTLET_STATUS_SELECTED.inst n) j).setB (F.OUTLET_STATUS_SAT.inst n) y.sat
      let s := s.setRef n ((f32Trunc (f32Mul y.u (f32OfInt 1000))).toNat * 1000)
      s.each ((List.range 4).filter fun j => f32NonFinite (s.slotWord (4 * n + j) 44)) fun j s => s.nonFinite n (4 * n + j)
  | l =>
    let s := s.each l fun x s => s.nonFinite n (4 * n + x.1)
    s.setRef n (min (s.outSt n).ihiUa (s.outSt n).refUa)

/-- A sample of the hold or the ramp of R187: the slots do not compute. The reference stays, or falls at FAULT_RAMP, and is never
above IHI, which follows a falling target, a stop or direction ramp that was in progress, and the fault ramp (R175, R189, R191). -/
def State.fastRamp (s : State) (n ticks : Nat) : State :=
  let o := s.outSt n
  let h := min o.ihiUa (s.nextIhi n ticks)
  match o.reaction with
  | .ramp =>
    let r := min h (o.refUa - slewUa (s.get (F.OUTLET_FAULT_RAMP_MA_PER_MS.inst n)) ticks)
    ((s.setIhi n r).setRef n r).refreshSafeMa n
  | _ => (s.setIhi n h).setRef n (min h o.refUa)

/-- Nanoseconds in which a lane was busy over the last `span` ticks. -/
def State.laneBusy (s : State) (span lane : Nat) : Nat :=
  ((s.loop.busy.filter fun x => x.lane == lane && decide (s.since x.tick < span)).map fun x => x.ns).sum

/-- A lane has computed for `ns` ns: LOAD shows the mean of the busiest lane over 10 ms, and the highest occupancy of any lane in any
10 µs, in units of 0.01 % (R173, Table 8.7). -/
def State.showLoad (s : State) (lane ns : Nat) : State :=
  let busy := (⟨s.ticks, lane, ns⟩ :: s.loop.busy).takeWhile fun x => decide (s.since x.tick < 4000000)
  let s := { s with loop := { s.loop with busy := busy } }
  let most := fun (span : Nat) => ((List.range 5).map (s.laneBusy span)).foldl max 0
  (s.set F.LOOP_LOAD_MEAN (satTo 16 (most 4000000 / 1000))).set F.LOOP_LOAD_PEAK (satTo 16 (max (most 4000) (s.get F.LOOP_LOAD_PEAK)))

/-- The measurements of a sample: VC, IC and their product, rounded toward zero. -/
def State.measure (s : State) (n : Nat) (vc ic : Int) : State :=
  ((s.setI (F.OUTLET_VC_MV_MV.inst n) vc).setI (F.OUTLET_IC_MA_MA.inst n) ic).setI (F.OUTLET_P_W_W.inst n) (Int.tdiv (vc * ic) 1000000)

/-- PRECHARGE_OK clears when its condition fails (R181). -/
def State.prechargeOk (s : State) (n : Nat) : Bool :=
  decide ((s.vc n - s.getI (F.OUTLET_EV_MV_MV.inst n)).natAbs ≤ s.get (F.OUTLET_PRE_WIN_WIN_MV.inst n))

/-- An outlet that a deferred reset has brought to zero current passes to OUT_STOPPING (R35). -/
def State.resetStop (s : State) (n : Nat) : State :=
  s.when ((s.outSt n).resetRamp != 0 && s.ostate n == .energy && decide ((s.outSt n).refUa = 0) && s.icZero n) fun s => s.setOState n .stopping

def State.fastSample (s : State) (n : Nat) (vc ic : Int) : State :=
  let ticks := s.slotRate (4 * n)
  let s := (s.measure n vc ic).when (!s.fbFlagged n) fun s => s.modOut n fun o => { o with lastIc := ic.natAbs }
  let s := s.when (!s.prechargeOk n) fun s => s.setB (F.OUTLET_STATUS_PRECHARGE_OK.inst n) false
  let s := s.refreshSafeMa n
  let s := s.set (F.OUTLET_APT_MA_MA.inst n) (s.aptMa n)
  let tgt : Int := (s.targetMa n : Nat)
  let s := s.setI (F.OUTLET_ITGT_MA_MA.inst n) (if s.exporting n then -tgt else tgt)
  let s := (s.modOut n fun o => { o with missRun := 0 }).judgeDirection n
  if !s.slotsClosed n then (s.setVramp n (vc * 1000)).swapOff
  else if (s.outSt n).reaction != .none then s.fastRamp n ticks
  else
      let s := s.showLoad n 480
      let s := s.setVramp n (s.nextVramp n ticks)
      ((s.setIhi n (s.nextIhi n ticks)).fastCompute n).resetStop n

/-- FAST_SAMPLE (R165, R171, R174 to R178, R189 to R193). In VAULT and HANDOVER the slots do not compute (R192). -/
def execFastSample (n : Fin 4) (vc ic : Int) (s : State) : Result :=
  (s.when (s.hasOutlet n && s.stagesRun && s.mode != .dormant) fun s => s.fastSample n vc ic).finish

/-- SAMPLE_DEADLINE_MISS (R173). -/
def State.deadlineMiss (s : State) (k : Nat) : State :=
  let m := satTo 16 (s.rdLe (slotBase k + 62) 2 + 1)
  let s := ((s.wrLe (slotBase k + 62) 2 m).incSat F.LOOP_MISSED_COUNT).set F.LOOP_DEADLINE_LAST_SLOT k
  let s := s.ev E.LOOP_DEADLINE_MISSED 0 [k]
  if k < 16 then
    let n := k / 4
    let s := s.modOut n fun o => { o with missRun := o.missRun + 1 }
    s.when (s.slotsClosed n && decide ((s.outSt n).missRun = s.get F.LOOP_DEADLINE_FAST_LIMIT)) fun s =>
      (s.ev E.LOOP_DEADLINE_FAULT 0 [n]).loopReact n
  else s

/-- SAMPLE_DEADLINE_MISS (R173). -/
def execSampleDeadlineMiss (slot : Fin 64) (s : State) : Result :=
  (s.when (s.stagesRun && (decide (16 ≤ slot.val) || decide (slot.val < s.fastSlots)) && s.slotState slot == 2) fun s => s.deadlineMiss slot).finish

/-- DIRECTION_ZERO_REACHED (R176 step 2). -/
def execDirectionZeroReached (n : Fin 4) (s : State) : Result :=
  (s.when (s.hasOutlet n && s.stagesRun && s.dirDiffers n && decide ((s.outSt n).ihiUa = 0) && s.icZero n) fun s =>
    let s := s.setB (F.OUTLET_STATUS_DIRECTION.inst n) (s.on (F.OUTLET_DIR_EXPORT.inst n))
    let s := s.each (List.range 4) fun j s => s.wrLe (slotBase (4 * n + j) + 44) 8 0
    ((s.modOut n fun o => { o with dirRamp := false }).setRef n 0).setVramp n (s.vc n * 1000)).finish

/-! ### Contactors, precharge and stopping (R180 to R183) -/

/-- A routed group's output is within 20 V of the outlet (R180 step 3). -/
def State.equalised (s : State) (n : Nat) : Bool :=
  (s.joined n).any fun g => decide ((s.getI (F.GROUP_VOUT_MV.inst g) - s.vc n).natAbs ≤ 20000)

/-- The contactor's feedback reads closed after its coil was energised: its travel has ended. -/
def State.fbArrived (s : State) (i : Nat) : State :=
  { s.setFb i true with safe := { s.safe with travelled := setBitOf s.safe.travelled i true } }

/-- The contactor's feedback reads open. -/
def State.fbGone (s : State) (i : Nat) : State :=
  { s.setFb i false with safe := { s.safe with weldedSince := setBitOf s.safe.weldedSince i false } }

def State.seqStep (s : State) (n : Nat) : State :=
  let nextSeq := fun (k : Nat) (s : State) => s.modOut n fun o => { o with seq := k }
  match (s.outSt n).seq with
  | 1 => nextSeq 2 ((s.fbArrived (mainNeg n)).setCoil (prechargeCoil n) true)
  | 2 => nextSeq 3 (s.fbArrived (prechargeCoil n))
  | 3 => s.when (s.equalised n) fun s => nextSeq 4 (s.setCoil (mainPos n) true)
  | 4 => nextSeq 5 ((s.fbArrived (mainPos n)).setCoil (prechargeCoil n) false)
  | 5 => nextSeq 0 (s.fbGone (prechargeCoil n)) |>.closeSlots n
  | _ => s

/-- The coil and the direction of travel named by MAIN_TIMEOUT at a step of R180. -/
def seqCoil (n seq : Nat) : List Nat :=
  match seq with
  | 1 => [mainNeg n, 1]
  | 2 => [prechargeCoil n, 1]
  | 3 => [mainPos n, 1]
  | 4 => [mainPos n, 1]
  | _ => [prechargeCoil n, 0]

/-- MAIN_TIMEOUT (R180, Table 14.3): the safety logic cuts the outlet's gates and forces OUT_FAULT. -/
def execMainTimeout (n : Fin 4) (s : State) : Result :=
  (s.when (s.hasOutlet n && s.ostate n == .check && s.stagesRun && decide ((s.outSt n).seq ≠ 0)) fun s =>
    ((s.ev E.OUTLET_MAIN_TIMEOUT n (seqCoil n (s.outSt n).seq)).latchSrc n 1).gateCutOutlet n).finish

/-- PRECHARGE_DONE (R181). -/
def execPrechargeDone (n : Fin 4) (s : State) : Result :=
  (s.when (s.hasOutlet n && s.ostate n == .precharge && s.prechargeOk n && !s.on (F.OUTLET_STATUS_PRECHARGE_OK.inst n)) fun s =>
    (s.setB (F.OUTLET_STATUS_PRECHARGE_OK.inst n) true).ev E.OUTLET_PRECHARGE_DONE n
      [s.get (F.OUTLET_VC_MV_MV.inst n), s.get (F.OUTLET_EV_MV_MV.inst n)]).finish

/-- PRECHARGE_TIMEOUT (R181). -/
def execPrechargeTimeout (n : Fin 4) (s : State) : Result :=
  (s.when (s.hasOutlet n && s.ostate n == .precharge && !s.on (F.OUTLET_STATUS_PRECHARGE_OK.inst n)) fun s =>
    (s.ev E.OUTLET_PRECHARGE_TIMEOUT n [s.get (F.OUTLET_VC_MV_MV.inst n), s.get (F.OUTLET_EV_MV_MV.inst n)]).setOState n .stopping).finish

/-- STOP_ZERO_REACHED (R183 steps 2 and 3). -/
def execStopZeroReached (n : Fin 4) (s : State) : Result :=
  (s.when (s.hasOutlet n && s.ostate n == .stopping && decide ((s.outSt n).refUa = 0) && s.icZero n && s.stagesRun) fun s =>
    let s := s.when (s.slotsClosed n) fun s => s.openSlots n
    (s.outletCoilsOff n).modOut n fun o => { o with seq := 6 }).finish

/-- The main and precharge feedbacks whose coils are off read open (R341). -/
def State.fbAllOpen (s : State) (n : Nat) : State :=
  s.each ([mainPos n, mainNeg n, prechargeCoil n].filter fun i => !s.coilOn i) fun i s => s.fbGone i

/-- STOP_CONTACTORS_OPEN (R183 step 3): the feedbacks read open, in whatever state; a stop goes on to OUT_WELDCHECK (log
entry 99). -/
def execStopContactorsOpen (n : Fin 4) (s : State) : Result :=
  (s.when (s.hasOutlet n) fun s =>
    (s.fbAllOpen n).when (s.ostate n == .stopping && decide ((s.outSt n).seq = 6)) fun t => t.setOState n .weldcheck).finish

/-- STOP_OPEN_TIMEOUT (R183): a main contactor still reads closed and is treated as welded (SF5). -/
def execStopOpenTimeout (n : Fin 4) (posClosed negClosed : Bool) (s : State) : Result :=
  (s.when (s.hasOutlet n && s.ostate n == .stopping && decide ((s.outSt n).seq = 6) && (posClosed || negClosed)) fun s =>
    let s := s.ev E.OUTLET_MAIN_TIMEOUT n [if posClosed then mainPos n else mainNeg n, 0]
    let s := if posClosed then (s.setFb (mainPos n) true).weld (mainPos n) else s.fbGone (mainPos n)
    if negClosed then (s.setFb (mainNeg n) true).weld (mainNeg n) else s.fbGone (mainNeg n)).finish

/-! ### Lost or frozen feedback (R184 to R187, R191, R192) -/

/-- Flag a loss: cause 0 clock, 1 VC data, 2 IC data, 3 control–metrology link (R184). -/
def State.fbLost (s : State) (n cause : Nat) : State :=
  let s := s.when (cause != 2) fun s => s.setB (F.OUTLET_FB_STAT_LOST_V.inst n) true
  let s := s.when (cause != 1) fun s => s.setB (F.OUTLET_FB_STAT_LOST_I.inst n) true
  let s := s.modOut n fun o => { o with fbLive := o.fbLive.lor (if cause = 1 then 1 else if cause = 2 then 2 else 3) }
  (s.ev E.OUTLET_FB_LOST n [if cause = 1 then 0 else if cause = 2 then 1 else 2, cause]).loopReact n

/-- FB_LOST (R184, R186, R191, R192). -/
def execFbLost (n : Fin 4) (cause : Fin 4) (s : State) : Result :=
  (s.when (s.hasOutlet n && s.stagesRun) fun s => s.fbLost n cause).finish

/-- FB_FROZEN (R185). -/
def execFbFrozen (n : Fin 4) (isI : Bool) (s : State) : Result :=
  (s.when (s.hasOutlet n && s.stagesRun && s.slotsClosed n) fun s =>
    let s := s.setB (if isI then F.OUTLET_FB_STAT_FROZEN_I.inst n else F.OUTLET_FB_STAT_FROZEN_V.inst n) true
    (s.ev E.OUTLET_FB_FROZEN n (if isI then [1, s.get (F.OUTLET_IC_MA_MA.inst n)] else [0, s.get (F.OUTLET_VC_MV_MV.inst n)])).loopReact n).finish

/-- Control and metering means disagree by more than `win` units of 1,000 plus `pct` % of the metering mean (R185). -/
def fbDisagrees (ctl met : Int) (win pct : Nat) : Bool := decide (win * 100000 + pct * met.natAbs < (ctl - met).natAbs * 100)

/-- FB_MISMATCH_BLOCK (R185): means of VC, VM in mV and IC, IM in mA over a 100 µs block. -/
def execFbMismatchBlock (n : Fin 4) (vc vm ic im : Int) (s : State) : Result :=
  (s.when (s.hasOutlet n && s.stagesRun && s.slotsClosed n) fun s =>
    let pct := s.get (F.OUTLET_FB_WIN_PCT.inst n)
    let bv := fbDisagrees vc vm (s.get (F.OUTLET_FB_WIN_V.inst n)) pct
    let bi := fbDisagrees ic im (s.get (F.OUTLET_FB_WIN_A.inst n)) pct
    let s := s.modOut n fun o => { o with fbRunV := if bv then o.fbRunV + 1 else 0, fbRunI := if bi then o.fbRunI + 1 else 0 }
    let o := s.outSt n
    let s := s.when (decide (o.fbRunV = 20)) fun s =>
      ((s.setB (F.OUTLET_FB_STAT_MISMATCH_V.inst n) true).ev E.OUTLET_FB_MISMATCH n [0, ofSigned 32 vc, ofSigned 32 vm]).loopReact n
    s.when (decide (o.fbRunI = 20)) fun s =>
      ((s.setB (F.OUTLET_FB_STAT_MISMATCH_I.inst n) true).ev E.OUTLET_FB_MISMATCH n [1, ofSigned 32 ic, ofSigned 32 im]).loopReact n).finish

/-- FB_HOLD_END (R187 step 2). -/
def execFbHoldEnd (n : Fin 4) (s : State) : Result :=
  (s.when (s.hasOutlet n && s.stagesRun && (s.outSt n).reaction == .hold) fun s =>
    let s := s.modOut n fun o => { o with reaction := .ramp }
    ((s.setB (F.OUTLET_FB_STAT_HOLD.inst n) false).setB (F.OUTLET_FB_STAT_RAMPING.inst n) true).refreshSafeMa n).finish

/-- The ramp of R187 is over: the outlet enters OUT_FAULT, its coils due as after a fault ramp. -/
def State.rampDone (s : State) (n : Nat) : State :=
  (s.modOut n fun o => { o with coilDue := if o.coilDue == .none then .afterRamp else o.coilDue, reaction := .none }).setOState n .fault

/-- FAULT_RAMP_DONE (R187 step 3). -/
def execFaultRampDone (n : Fin 4) (s : State) : Result :=
  (s.when (s.hasOutlet n && s.stagesRun && (s.outSt n).reaction == .ramp && decide ((s.outSt n).refUa = 0)) fun s => s.rampDone n).finish

/-- The checks of R153 and R154 begin again whole (R162). -/
def State.restartChecks (s : State) : State :=
  let s := s.each (List.range 72) fun p s => s.modPhs p fun v => { started := v.started, hist := v.hist }
  let s := s.each s.groups fun g s => (s.modGrp g fun v => { v with maxOnAll := false }).setB (F.GROUP_STATUS_MAX_ON_ALL.inst g) false
  (s.each s.outlets fun n s => s.modOut n fun o => { o with senseRun := 0, senseEpisode := false }).set F.PHASE_SENSE_STAT_MISMATCH 0

/-- The restart of R33 after VAULT or HANDOVER: phases with n_prev 0 and fresh counts (R162); each outlet in a CLOSED state
from reference 0, or into OUT_FAULT where a reaction of R187 was running (R192). Group faults that waited act, and so does a
control–metrology link that is still lost (R14, R184). -/
def State.restartOutlets (s : State) : State :=
  let s := s.restartChecks
  let s := s.each (s.outlets.filter fun n => s.slotsClosed n) fun n s =>
    if (s.outSt n).reaction != .none then s.rampDone n else s.closeSlots n
  let s := s.gfltCatchUp
  s.when s.sys.metLost fun s => s.each (s.outlets.filter fun n => (s.outSt n).fbLive != 3) fun n s => s.fbLost n 3

end Sys2Proof.Machine
end

