-- ==== Sys2Proof/Machine/Cooling.lean ====
section
/-! DEFINITION. The sensor ADC, the thermal observer and the slow loop slots (chapter 09, R167 to R172, R198). -/
namespace Sys2Proof.Machine

def State.coolOf (s : State) (n : Nat) : CoolState := mget {} s.cool n
def State.setCool (s : State) (n : Nat) (v : CoolState) : State := { s with cool := mput {} s.cool n v }
def State.modCool (s : State) (n : Nat) (f : CoolState → CoolState) : State := s.setCool n (f (s.coolOf n))
def State.sensOf (s : State) (c : Nat) : SensChan := mget {} s.sens c
def State.setSens (s : State) (c : Nat) (v : SensChan) : State := { s with sens := mput {} s.sens c v }

/-- Channel `c` is marked invalid (R197). -/
def State.chInvalid (s : State) (c : Nat) : Bool := if c < 32 then s.bit F.SENS_INVALID_LO_CH c else s.bit F.SENS_INVALID_HI_CH (c - 32)
def State.setInvalid (s : State) (c : Nat) (b : Bool) : State :=
  if c < 32 then s.setBit F.SENS_INVALID_LO_CH c b else s.setBit F.SENS_INVALID_HI_CH (c - 32) b
def State.chVal (s : State) (c : Nat) : F32 := s.get (F.SENS_CH_VAL_VALUE.nth c)

/-! ### Conversion (R196, Table 9.1) -/

/-- Twice a platinum sensor's resistance ratio at t = n / 2^20 °C, exact, times 10^15 × 2^80 (IEC 60751, log entry 22). -/
def ptRatio (n : Int) : Int :=
  let q := (2 : Int) ^ 20
  let base := (10 : Int) ^ 15 * q ^ 4 + 39083 * (10 : Int) ^ 8 * n * q ^ 3 - 5775 * (10 : Int) ^ 5 * n * n * q ^ 2
  if n < 0 then base - 4183 * (n - 100 * q) * n * n * n else base

/-- The largest n, found bit by bit from `lo`, whose ratio does not exceed `r` (in the same scale). -/
def ptSolve (r : Int) : Nat → Int → Int
  | 0, n => n
  | k + 1, n => let m := n + (2 : Int) ^ k; ptSolve r k (if ptRatio m ≤ r ∧ m ≤ 250 * (2 : Int) ^ 20 then m else n)

/-- The temperature of a platinum sensor of 1,000 Ω at 0 °C whose resistance is the binary32 `r`, over −50 °C to +250 °C. -/
def ptTemp (r : F32) : F32 :=
  if f32NonFinite r then r else
  -- r = f32Val r / 2^150 Ω; ratio × 10^15 × 2^80 = f32Val × 10^12 × 2^80 / 2^150
  let target := f32Val r * (10 : Int) ^ 12 / (2 : Int) ^ 70
  f32OfRat (ptSolve target 29 (-50 * (2 : Int) ^ 20)) (2 ^ 20)

/-- The value of channel `c` from the mean of its last 2^FILTER codes. -/
def State.convert (s : State) (c : Nat) (codes : List Nat) : F32 :=
  let l := codes.take (2 ^ s.get (F.SENS_CH_CFG_FILTER.nth c))
  let n := max 1 l.length
  let x := f32Mul (f32OfRat ((l.sum : Int) - (s.get (F.SENS_CH_CFG_ZERO.nth c) * n : Nat)) n) (s.get (F.SENS_CH_GAIN_GAIN.nth c))
  if s.get (F.SENS_CH_CFG_KIND.nth c) = 2 then ptTemp x else x

/-! ### Roles of an outlet (R199, R209, R210) -/

/-- The channel of a role: 0 pin +, 1 pin −, 2 inlet, 3 outlet, 4 flow, 5 pressure; 0x3F for none. -/
def State.roleCh (s : State) (n r : Nat) : Nat :=
  match r with
  | 0 => s.get (F.COOL_OCFG_PIN_POS_CH.nth n)
  | 1 => s.get (F.COOL_OCFG_PIN_NEG_CH.nth n)
  | 2 => s.get (F.COOL_OCFG_T_IN_CH.nth n)
  | 3 => s.get (F.COOL_OCFG_T_OUT_CH.nth n)
  | 4 => s.get (F.COOL_OCH_FLOW_CH.nth n)
  | _ => s.get (F.COOL_OCH_PRESS_CH.nth n)

def State.roleFitted (s : State) (n r : Nat) : Bool := decide (s.roleCh n r < 48)

/-- A role's channel is invalid (cause 1) or implausible (cause 2); 0 when it is good. It is judged whether or not the observer runs
(R209, R210). -/
def State.roleCause (s : State) (n r : Nat) : Nat :=
  if !s.roleFitted n r then 0
  else if s.chInvalid (s.roleCh n r) then 1
  else
    let f := match r with
      | 0 => s.on (F.COOL_OSTAT_INNOV_POS.nth n)
      | 1 => s.on (F.COOL_OSTAT_INNOV_NEG.nth n)
      | 2 => s.on (F.COOL_OSTAT_ORDER.nth n)
      | 3 => s.on (F.COOL_OSTAT_ORDER.nth n)
      | _ => false
    if f then 2 else 0

/-- The role has a sensor and it is good. -/
def State.roleGood (s : State) (n r : Nat) : Bool := s.roleFitted n r && s.roleCause n r == 0

/-- The roles of outlet `n` are judged again: changes are logged, and a failed role marked "yes" in Table 9.2 is a degraded
condition, declared once (R209, R210). -/
def State.refreshRoles (s : State) (n : Nat) : State :=
  let s := s.each (List.range 6) fun r s =>
    let bad := s.roleCause n r != 0
    if s.bit (F.COOL_OSTAT_BAD.nth n) (5 - r) = bad then s
    else
      let s := s.setBit (F.COOL_OSTAT_BAD.nth n) (5 - r) bad
      if bad then s.ev E.COOL_SENSOR_INVALID 0 [n, r, s.roleCause n r] else s.ev E.COOL_SENSOR_RESTORED 0 [n, r]
  let first := (List.range 5).find? fun r => s.bit (F.COOL_OSTAT_BAD.nth n) (5 - r)
  if s.bit F.COOL_STATUS_DEGRADED n = first.isSome then s
  else
    let s := s.setBit F.COOL_STATUS_DEGRADED n first.isSome
    let s := match first with | some r => s.ev E.COOL_DEGRADED_DECLARED 0 [n, r] | none => s
    s.setDegCond n 0 first.isSome

def State.refreshAllRoles (s : State) : State := s.each s.outlets fun n s => s.refreshRoles n

/-! ### Slow slots and their sources (Table 8.2, R198) -/

/-- The channel a slow slot measures, or 0x3F for a role without a sensor; none for the predicted hot spot. -/
def State.pvChan (s : State) (src : Nat) : Option Nat :=
  if src < 0x30 then some src
  else if src % 4 = 0 then none
  else some (s.roleCh ((src - 0x40) / 4) (if src % 4 = 1 then 3 else if src % 4 = 2 then 4 else 5))

/-- The measurement of a slow slot. -/
def State.slowPv (s : State) (src : Nat) : F32 :=
  match s.pvChan src with
  | some c => s.chVal c
  | none => s.get (F.COOL_PRED_C.nth ((src - 0x40) / 4))

/-- The measurement of a slow slot comes from an invalid channel. -/
def State.pvInvalid (s : State) (src : Nat) : Bool :=
  match s.pvChan src with
  | some c => decide (48 ≤ c) || s.chInvalid c
  | none => false

/-- A slow slot's output reaches its destination: a channel's duty, or the outlet's cooling command (Table 8.2, R404). -/
def State.slowDrive (s : State) (k : Nat) (u : F32) : State :=
  let d := s.rdByte (slotBase k + 3)
  let s := s.setSlotWord k 56 u
  if 0x20 ≤ d ∧ d < 0x40 then s.ownerDrive 1 (d - 0x20) 2 (clampI 0 10000 (f32RoundInt (f32Mul u (f32OfInt 10000)))).toNat
  else if 0x60 ≤ d ∧ d < 0x64 then s.modCool (d - 0x60) fun v => { v with cmd := u }
  else s

/-- A slow slot passes to OPEN with output MANUAL, and the reason is logged (R172, R198). -/
def State.slotOpen (s : State) (k : Nat) : State :=
  ((s.setSlotState k 1).ev E.LOOP_NONFINITE 0 [k]).slowDrive k (s.slotWord k 40)

/-- CLOSED slow slots whose measurement has become invalid pass to OPEN (R198). -/
def State.openInvalid (s : State) : State :=
  s.each ((List.range 48).filter fun k => s.slotState (16 + k) == 2 && s.pvInvalid (s.rdByte (slotBase (16 + k) + 1))) fun k s =>
    s.slotOpen (16 + k)

/-- The setpoint of a slow slot. -/
def State.slowSp (s : State) (k : Nat) : F32 :=
  let src := s.rdByte (slotBase k + 2)
  if src = 0 then s.slotWord k 24
  else if src < 0x80 then s.get (F.COOL_DEMAND_LPM.nth (src - 0x40))
  else s.slotWord (src - 0x80) 56

/-- One sample of a CLOSED slow slot (R170 to R172); its first sample after OPEN starts from MANUAL (R167). -/
def State.slowClosed (s : State) (k : Nat) : State :=
  let pv := s.slowPv (s.rdByte (slotBase k + 1))
  let sp := s.slowSp k
  let first := s.loop.first.testBit k
  let preset := s.loop.preset.testBit k
  let prev := if first then pv else s.slotWord k 52
  let lo := s.slotWord k 28
  let hi := s.slotWord k 32
  let co := s.slotCoef k false
  let x0 := pidEval co 0 (s.slotWord k 48) prev sp pv lo hi
  let i := if preset then f32Sub (f32Sub (f32Sub (s.slotWord k 40) x0.p) x0.d) x0.c else s.slotWord k 44
  let x := pidEval co i (s.slotWord k 48) prev sp pv lo hi
  let s := { s with loop := { s.loop with first := setBitOf s.loop.first k false, preset := setBitOf s.loop.preset k false } }
  if x.bad then
    (s.wrByte (slotBase k + 60) (setBitOf (s.rdByte (slotBase k + 60)) 4 true)).slotOpen k
  else
    let s := (s.setSlotWord k 48 x.d).setSlotWord k 52 pv
    let s := if x.sat then s.setSlotWord k 44 i else s.setSlotWord k 44 x.c
    ((s.setSlotFlags k x.sat false false ((s.rdByte (slotBase k + 60)).testBit 4)).showLoad 4 120).slowDrive k x.u

def State.slowSample (s : State) (k : Nat) : State :=
  match s.slotState k with
  | 2 => if s.pvInvalid (s.rdByte (slotBase k + 1)) then s.slotOpen k else s.slowClosed k
  | 1 => s.slowDrive k (s.slotWord k 40)
  | _ => (s.wrLe (slotBase k + 44) 8 0).slowDrive k 0

/-- SLOW_SAMPLE of slot 16 + slot (R165, R170 to R172, R198). -/
def execSlowSample (slot : Fin 48) (s : State) : Result :=
  (s.when (s.stagesRun && s.mode != .dormant) fun s => s.slowSample (16 + slot)).finish

/-! ### Writing the slot table (R167) -/

/-- Reserved sources and destinations of Table 8.2. -/
def pvOk (v : Nat) : Bool := decide (v < 0x30) || (decide (0x40 ≤ v) && decide (v < 0x50))
def spOk (v : Nat) : Bool := v == 0 || (decide (0x40 ≤ v) && decide (v < 0x44)) || (decide (0x80 ≤ v) && decide (v < 0xC0))
def dstOk (v : Nat) : Bool := v == 0 || (decide (0x20 ≤ v) && decide (v < 0x40)) || (decide (0x60 ≤ v) && decide (v < 0x64))

/-- Following setpoint sources from slot `j` leads to slot `k` within `fuel` steps. -/
def State.cascades (s : State) (k : Nat) : Nat → Nat → Bool
  | 0, _ => false
  | fuel + 1, j =>
    let src := s.rdByte (slotBase j + 2)
    if src < 0x80 || 0xC0 ≤ src then false else if src - 0x80 = k then true else if src - 0x80 < 16 then false else s.cascades k fuel (src - 0x80)

def State.badSlot (s : State) (k cause : Nat) : State := s.err E.LOOP_BAD_SLOT_CFG 0 [k, cause]
def State.slotLocked (s : State) (k off : Nat) : State := s.err E.LOOP_SLOT_LOCKED 0 [k, off]

/-- A write of word 0 of a slow slot with its new sources already judged: STATE and what follows from it. -/
def State.slowWord0 (s : State) (k v : Nat) : State :=
  let st := s.slotState k
  let nst := v % 4
  let b1 := bits v 15 8
  let b2 := bits v 23 16
  let b3 := bits v 31 24
  let same := b1 == s.rdByte (slotBase k + 1) && b2 == s.rdByte (slotBase k + 2) && b3 == s.rdByte (slotBase k + 3)
  if nst = 3 then s.badSlot k 5
  else if !(pvOk b1 && spOk b2 && dstOk b3) then s.badSlot k 2
  else if st = 2 ∧ !same then s.slotLocked k 0
  else
    let put := fun (s : State) => ((((s.wrByte (slotBase k + 1) b1).wrByte (slotBase k + 2) b2).wrByte (slotBase k + 3) b3).wrByte (slotBase k)
      (s.rdByte (slotBase k) / 4 * 4 % 8 + st + (if v.testBit 3 then 8 else 0))).refreshOwners
    let t := put s
    if nst = 2 ∧ st ≠ 2 then
      let rate := s.slotWord k 4
      if rate < 200000 ∨ 4000000000 < rate then s.badSlot k 1
      else if !f32Lt (s.slotWord k 28) (s.slotWord k 32) then s.badSlot k 3
      else if t.cascades k 64 k then s.badSlot k 4
      else
        let t := (t.setSlotState k 2).wrByte (slotBase k + 60) (setBitOf (t.rdByte (slotBase k + 60)) 4 false)
        { t with loop := { first := setBitOf t.loop.first k true, preset := setBitOf t.loop.preset k (st == 1) } }
    else
      let t := t.setSlotState k nst
      match nst with
      | 0 => (t.wrLe (slotBase k + 44) 8 0).slowDrive k 0
      | 1 => t.slowDrive k (t.slotWord k 40)
      | _ => t

/-- A host write to word `w` of slot `k` (R167). -/
def State.slotWrite (s : State) (k w v : Nat) : State :=
  let off := 4 * w
  if 11 ≤ w then s
  else if k < 16 then
    if s.fastSlots ≤ k then s
    else if w = 0 then
      if v % 4 = 3 then s.badSlot k 5
      else s.wrByte (slotBase k) (setBitOf (s.rdByte (slotBase k)) 3 (v.testBit 3))
    else if w = 1 then
      if s.slotState k != 0 then s.slotLocked k off
      else if v < 4000 ∨ 400000 < v then s.badSlot k 1 else s.setSlotWord k off v
    else if w = 10 then s.setSlotWord k off v
    else
      let isB := decide (6 ≤ w)
      if isB == s.slotBank k && s.slotState k != 0 then s.slotLocked k off else s.setSlotWord k off v
  else if w = 0 then s.slowWord0 k v
  else if w = 10 then s.setSlotWord k off v
  else if s.slotState k = 2 then s.slotLocked k off
  else if w = 9 then s
  else s.setSlotWord k off v

/-- LOOP_SLOT_WRITE (R167). -/
def execLoopSlotWrite (slot : Fin 64) (word : Fin 16) (value : Word) (s : State) : Result :=
  (s.tableWrites 8 (64 * slot + 4 * word) fun s => s.slotWrite slot word value.toNat).finish

/-! ### The sensor ADC (R195 to R197) -/

/-- A channel is judged invalid or valid again; the roles and slots that use it follow. -/
def State.afterValidity (s : State) : State := (s.refreshAllRoles).openInvalid

/-- A group's output voltage is that of its sensor channel (R146). -/
def State.groupVolts (s : State) (c : Nat) : State :=
  s.each (s.groups.filter fun g => s.get (F.GROUP_CFG_VSNS_CH.inst g) == c) fun g s =>
    s.setI (F.GROUP_VOUT_MV.inst g) (f32Trunc (f32Mul (s.chVal c) (f32OfInt 1000)))

/-- One conversion of channel `c`. -/
def State.sensSample (s : State) (c code : Nat) : State :=
  let v := s.sensOf c
  let out := decide (code < s.get (F.SENS_CH_LIM_LO.nth c)) || decide (s.get (F.SENS_CH_LIM_HI.nth c) < code)
  let v' : SensChan := { codes := (code :: v.codes).take 64, outRun := if out then v.outRun + 1 else 0 }
  let s := s.setSens c v'
  if s.chInvalid c then s
  else if v'.outRun = 3 then ((s.setInvalid c true).ev E.SENS_CH_INVALID 0 [c, code]).afterValidity
  else (s.set (F.SENS_CH_VAL_VALUE.nth c) (s.convert c v'.codes)).groupVolts c

def State.chEnabled (s : State) (c : Nat) : Bool := s.on (F.SENS_CH_CFG_EN.nth c)
def State.chRate (s : State) (c : Nat) : Nat := s.get (F.SENS_CH_CFG_RATE.nth c)

/-- Channel `c` is one of the two of a link that is not disabled: it is converted every 100 µs whatever its RATE (R216). -/
def State.linkChan (s : State) (c : Nat) : Bool := decide (40 ≤ c) && s.hasOutlet ((c - 40) / 2) && s.get (F.LINK_CFG_KIND.inst ((c - 40) / 2)) != 0

/-- CP of outlet `n` carries PWM, and is sampled twice in each of its periods (R218). -/
def State.cpRuns (s : State) (n : Nat) : Bool :=
  s.hasOutlet n && s.get (F.LINK_CFG_KIND.inst n) == 2 && s.on (F.LINK_STATUS_PWM_ON.inst n)

/-- Channel `c` is that of a CP with PWM. -/
def State.cpChan (s : State) (c : Nat) : Bool := decide (40 ≤ c) && c % 2 == 0 && s.cpRuns ((c - 40) / 2)

/-- µs from the rising edge of CP to its two samples, DLY_US after each edge. -/
def State.cpHighAt (s : State) (n : Nat) : Nat := s.get (F.LINK_CP_SAMP_DLY_US.inst n)
def State.cpLowAt (s : State) (n : Nat) : Nat :=
  s.get (F.LINK_CP_PWM_DUTY.inst n) * s.get (F.LINK_CP_PWM_PERIOD_US.inst n) / 1000 + s.get (F.LINK_CP_SAMP_DLY_US.inst n)

/-- The instant `at` µs after a rising edge lies in the frame that ends now: the edges fall at whole multiples of PERIOD_US past a whole
second of fabric time (R222). -/
def State.cpSampled (s : State) (n at_ : Nat) : Bool :=
  let p := s.get (F.LINK_CP_PWM_PERIOD_US.inst n)
  s.cpRuns n && decide ((s.fabNsPart / 1000 % p + p - at_ % p) % p < 10)

/-- The channels of the first pass: RATE 10 µs, and the voltage channels of the groups in MATCHING. -/
def State.fastPass (s : State) : List Nat :=
  (List.range 48).filter fun c => (s.chEnabled c && s.chRate c == 2 && !s.cpChan c) ||
    s.groups.any fun g => s.stage g == .matching && s.get (F.GROUP_CFG_VSNS_CH.inst g) == c

/-- Channels a frame converts in its three passes (R195), with those of the links every 100 µs (R216) and the high plateau of CP when
its instant lies in the frame (R218). -/
def State.frameChannels (s : State) (f : Nat) : List Nat :=
  let rest := (List.range 48).filter fun c => !s.fastPass.contains c && !s.cpChan c
  s.fastPass ++ (rest.filter fun c => ((s.chEnabled c && s.chRate c == 1) || s.linkChan c) && c % 10 == f % 10) ++
    (rest.filter fun c => s.chEnabled c && s.chRate c == 0 && !s.linkChan c && c % 100 == f % 100) ++
    ((List.range 48).filter fun c => s.cpChan c && s.cpSampled ((c - 40) / 2) (s.cpHighAt ((c - 40) / 2)))

/-- The channels with RATE 10 µs, enabled or not (R195). -/
def State.fastRated (s : State) : List Nat := (List.range 48).filter fun c => s.chRate c == 2

/-- SAR_STAT: channels converted every frame, and channels with RATE 10 µs. -/
def State.refreshSar (s : State) : State :=
  (s.set F.SENS_SAR_STAT_FAST_NOW s.fastPass.length).set F.SENS_SAR_STAT_FAST_CFG s.fastRated.length

/-- A frame of the converter on the codes at its inputs. -/
def State.sensFrameRun (s : State) (codes : List Nat) : State :=
  let s := s.each (s.frameChannels s.sensFrame) fun c s => s.sensSample c (min 65535 (codes.getD c 0))
  { s with sensFrame := (s.sensFrame + 1) % 100 }.refreshSar

/-- SENS_CH_STUCK (R197). -/
def execSensChStuck (c : Fin 48) (s : State) : Result :=
  (s.when (s.chEnabled c && s.on (F.SENS_CH_CFG_STUCK_EN.nth c) && !s.chInvalid c) fun s =>
    ((s.setInvalid c true).ev E.SENS_CH_STUCK 0 [c, (s.sensOf c).codes.headD 0]).afterValidity).finish

/-- SENS_CH_VALID (R197). -/
def execSensChValid (c : Fin 48) (s : State) : Result :=
  (s.when (s.chInvalid c) fun s =>
    (((s.setInvalid c false).setSens c { s.sensOf c with outRun := 0 }).ev E.SENS_CH_VALID 0 [c]).afterValidity).finish

def State.sensCfgWrite (s : State) (c v : Nat) : State :=
  let kind := bits v 15 12
  if 5 < kind then s.err E.SENS_BAD_CFG 0 [c, kind]
  else if bits v 9 8 = 2 ∧ 16 ≤ (s.fastRated.filter fun d => d != c).length then s.err E.SENS_FAST_LIMIT 0 [c]
  else
    let s := ((s.set (F.SENS_CH_CFG_ZERO.nth c) (bits v 31 16)).set (F.SENS_CH_CFG_KIND.nth c) kind).set (F.SENS_CH_CFG_RATE.nth c) (bits v 9 8)
    let s := (s.setB (F.SENS_CH_CFG_STUCK_EN.nth c) (v.testBit 7)).set (F.SENS_CH_CFG_FILTER.nth c) (bits v 6 4)
    (s.setB (F.SENS_CH_CFG_EN.nth c) (v.testBit 0)).refreshSar

/-- SENS_CFG_WRITE (R195, Table 9.1). -/
def execSensCfgWrite (c : Fin 48) (value : Word) (s : State) : Result :=
  (s.hostWrites 0x42 (0x100 + c * 0x10) fun s => s.sensCfgWrite c value.toNat).finish

/-! ### The thermal observer (R199 to R205) -/

/-- The observer runs from READY onwards, in MIRROR too, and not in DORMANT (R199). -/
def Mode.observes : Mode → Bool
  | .dormant | .waking | .selftest | .configure => false
  | _ => true

/-- A field of tenths, hundredths or nano-units as binary32. -/
def State.scaled (s : State) (f : Field) (den : Nat) : F32 := f32OfRat (s.get f : Int) den

def f32Half (x : F32) : F32 := f32Mul x (f32OfRat 1 2)
/-- 1 ms in seconds. -/
def dtSec : F32 := f32OfRat 1 1000

/-- Present flow, L/min (Table 9.2). -/
def State.flowNow (s : State) (n : Nat) : F32 :=
  if s.roleGood n 4 then s.chVal (s.roleCh n 4) else s.scaled (F.COOL_FALLBACK_FLOW_FB.nth n) 100

/-- What stands for the coolant inlet temperature (Table 9.2): 0 its sensor, 1 the larger of T_IN_FB and the outlet temperature,
2 T_IN_FB. -/
def State.tInSource (s : State) (n : Nat) : Nat := if s.roleGood n 2 then 0 else if s.roleGood n 3 then 1 else 2

/-- The coolant inlet temperature by a source. -/
def State.tInFrom (s : State) (n src : Nat) : F32 :=
  let fb := s.scaled (F.COOL_FALLBACK_T_IN_FB.nth n) 10
  match src with
  | 0 => s.chVal (s.roleCh n 2)
  | 1 => f32Max fb (s.chVal (s.roleCh n 3))
  | _ => fb

/-- Heat carried away by a flow, per conductor, W/K. -/
def State.gFlow (s : State) (n : Nat) (flow : F32) : F32 :=
  f32Mul (f32Div (f32Half flow) (f32OfInt 60)) (s.get (F.COOL_CP_VOL_J_PER_LK.nth n))

/-- The temperature factor 1 + 0.00393 × (t − 20). -/
def cuFactor (t : F32) : F32 := f32Add (f32OfInt 1) (f32Mul (f32OfRat 393 100000) (f32Sub t (f32OfInt 20)))

/-- One conductor: [tp_new, tc_new, tw_new, pp, pc] from [tp, tc, tw], i², flow conductance and inlet temperature (R201). -/
def State.conductor (s : State) (n : Nat) (tp tc tw i2 gf tin : F32) : List F32 :=
  let g := fun (f : Field) => s.get (f.nth n)
  let pp := f32Mul (f32Mul i2 (s.scaled (F.COOL_R_PIN_NOHM.nth n) 1000000000)) (cuFactor tp)
  let pc := f32Mul (f32Mul i2 (s.scaled (F.COOL_R_CORE_NOHM.nth n) 1000000000)) (cuFactor tc)
  let qpc := f32Mul (g F.COOL_G_PC_W_PER_K) (f32Sub tp tc)
  let qpw := f32Mul (g F.COOL_G_PW_W_PER_K) (f32Sub tp tw)
  let qcw := f32Mul (g F.COOL_G_CW_W_PER_K) (f32Sub tc tw)
  [f32Add tp (f32Mul (f32Div dtSec (g F.COOL_C_PIN_J_PER_K)) (f32Sub (f32Sub pp qpc) qpw)),
   f32Add tc (f32Mul (f32Div dtSec (g F.COOL_C_CORE_J_PER_K)) (f32Sub (f32Add pc qpc) qcw)),
   f32Add tw (f32Mul (f32Div dtSec (g F.COOL_C_COOL_J_PER_K)) (f32Sub (f32Add qpw qcw) (f32Mul gf (f32Sub tw tin)))), pp, pc]

/-- Row `i` column `j` of a 5 × 5 matrix kept by rows. -/
def m5 (m : List F32) (i j : Nat) : F32 := m.getD (5 * i + j) 0

/-- Product of two 5 × 5 matrices, each sum taken from the left. -/
def m5Mul (a b : List F32) : List F32 :=
  ((List.range 5).map fun i => (List.range 5).map fun j =>
    (List.range 5).foldl (fun acc k => f32Add acc (f32Mul (m5 a i k) (m5 b k j))) 0).flatten

/-- `m` to the power whose bits, lowest first, are given: repeated squaring from the lowest bit. -/
def m5Pow : List Bool → List F32 → List F32 → List F32
  | [], acc, _ => acc
  | b :: t, acc, m => m5Pow t (if b then m5Mul acc m else acc) (m5Mul m m)

/-- The bits of 10,000, lowest first. -/
def bits10000 : List Bool := (List.range 14).map fun i => Nat.testBit 10000 i

def m5One : List F32 := ((List.range 5).map fun i => (List.range 5).map fun j => if i = j then f32OfInt 1 else 0).flatten

/-- The one-step matrix of R202 on [tp, tc, tw, i2, t_in], its resistances at PIN_MAX and CORE_MAX. -/
def State.stepMatrix (s : State) (n : Nat) (gf : F32) : List F32 :=
  let g := fun (f : Field) => s.get (f.nth n)
  let one := f32OfInt 1
  let kp := f32Div dtSec (g F.COOL_C_PIN_J_PER_K)
  let kc := f32Div dtSec (g F.COOL_C_CORE_J_PER_K)
  let kw := f32Div dtSec (g F.COOL_C_COOL_J_PER_K)
  let pc := g F.COOL_G_PC_W_PER_K
  let pw := g F.COOL_G_PW_W_PER_K
  let cw := g F.COOL_G_CW_W_PER_K
  let rp := f32Mul (s.scaled (F.COOL_R_PIN_NOHM.nth n) 1000000000) (cuFactor (s.scaled (F.COOL_LIMITS_PIN_MAX.nth n) 10))
  let rc := f32Mul (s.scaled (F.COOL_R_CORE_NOHM.nth n) 1000000000) (cuFactor (s.scaled (F.COOL_LIMITS_CORE_MAX.nth n) 10))
  [f32Sub one (f32Mul kp (f32Add pc pw)), f32Mul kp pc, f32Mul kp pw, f32Mul kp rp, 0] ++
  [f32Mul kc pc, f32Sub one (f32Mul kc (f32Add pc cw)), f32Mul kc cw, f32Mul kc rc, 0] ++
  [f32Mul kw pw, f32Mul kw cw, f32Sub one (f32Mul kw (f32Add (f32Add pw cw) gf)), 0, f32Mul kw gf] ++
  [0, 0, 0, one, 0] ++ [0, 0, 0, 0, one]

/-- The prediction rows of both conductors, with the flow and the inlet temperature's source as they stand now (R202, R212). -/
def State.recompute (s : State) (n : Nat) : State :=
  let m := m5Pow bits10000 m5One (s.stepMatrix n (s.gFlow n (s.flowNow n)))
  s.modCool n fun v => { v with op := m.take 10 ++ m.take 10, tinSrc := s.tInSource n }

/-- OPERATOR_RECOMPUTE (R202). -/
def execOperatorRecompute (s : State) : Result :=
  (s.each (s.outlets.filter fun n => (s.coolOf n).running) fun n s => s.recompute n).finish

/-- Start the observer from the measured temperatures (R200). -/
def State.startObserver (s : State) (n : Nat) : State :=
  let p0 := s.chVal (s.roleCh n 0)
  let p1 := s.chVal (s.roleCh n 1)
  let core := f32Half (f32Add p0 p1)
  let w := if s.roleFitted n 3 then s.chVal (s.roleCh n 3) else s.chVal (s.roleCh n 2)
  ((s.setCool n { running := true, tp0 := p0, tp1 := p1, tc0 := core, tc1 := core, tw0 := w, tw1 := w }).setBit F.COOL_STATUS_RUNNING n true).recompute n

def State.stopObserver (s : State) (n : Nat) : State :=
  ((s.modCool n fun v => { v with running := false }).setBit F.COOL_STATUS_RUNNING n false).refreshRoles n

/-- The observer runs or stops as EN and the mode say (R199). -/
def State.followObserver (s : State) (n : Nat) : State :=
  let want := s.on (F.COOL_OCFG_EN.nth n) && s.mode.observes
  if want = (s.coolOf n).running then s else if want then (s.startObserver n).refreshRoles n else s.stopObserver n

/-- The node at which the model is unstable at FLOW_MAX, 0 pin, 1 core, 2 coolant (R199). -/
def State.unstableNode (s : State) (n : Nat) : Option Nat :=
  let g := fun (f : Field) => s.get (f.nth n)
  let ok := fun (sum c : F32) => f32Lt (f32Div (f32Mul dtSec sum) c) (f32OfRat 1 2)
  let gf := s.gFlow n (s.scaled (F.COOL_FLOW_FLOW_MAX.nth n) 100)
  if !ok (f32Add (g F.COOL_G_PC_W_PER_K) (g F.COOL_G_PW_W_PER_K)) (g F.COOL_C_PIN_J_PER_K) then some 0
  else if !ok (f32Add (g F.COOL_G_PC_W_PER_K) (g F.COOL_G_CW_W_PER_K)) (g F.COOL_C_CORE_J_PER_K) then some 1
  else if !ok (f32Add (f32Add (g F.COOL_G_PW_W_PER_K) (g F.COOL_G_CW_W_PER_K)) gf) (g F.COOL_C_COOL_J_PER_K) then some 2
  else none

/-- A host write to OCFGn. -/
def State.ocfgWrite (s : State) (n v : Nat) : State :=
  let put := fun (s : State) =>
    ((((s.setB (F.COOL_OCFG_EN.nth n) (v.testBit 31)).set (F.COOL_OCFG_PIN_POS_CH.nth n) (bits v 29 24)).set (F.COOL_OCFG_PIN_NEG_CH.nth n) (bits v 21 16)).set
      (F.COOL_OCFG_T_IN_CH.nth n) (bits v 13 8)).set (F.COOL_OCFG_T_OUT_CH.nth n) (bits v 5 0)
  if !v.testBit 31 then ((put s).followObserver n).refreshRoles n
  else if bits v 29 24 = 0x3F ∨ bits v 21 16 = 0x3F then s.err E.COOL_BAD_MODEL 0 [n, 0]
  else match s.unstableNode n with
    | some k => s.err E.COOL_BAD_MODEL 0 [n, k]
    | none => ((put s).followObserver n).refreshRoles n

/-- COOL_OBSERVER_ENABLE (R199, R200). -/
def execCoolObserverEnable (n : Fin 4) (value : Word) (s : State) : Result :=
  (s.hostWrites 0x1C (0x080 + n * 0x40) fun s => s.when (s.hasOutlet n) fun s => s.ocfgWrite n value.toNat).finish

/-- The maxima of the heated nodes: pins lowered by PENALTY_K with their sensor (Table 9.2). -/
def State.nodeMax (s : State) (n k : Nat) : F32 :=
  if k % 2 = 1 then s.scaled (F.COOL_LIMITS_CORE_MAX.nth n) 10
  else
    let p := s.scaled (F.COOL_LIMITS_PIN_MAX.nth n) 10
    if s.bit (F.COOL_OSTAT_BAD.nth n) (5 - k / 2) then f32Sub p (s.scaled F.COOL_PENALTY_PENALTY_K 10) else p

/-- α_k and β_k of heated node k: 0 pin +, 1 core +, 2 pin −, 3 core − (R202). -/
def State.alphaBeta (s : State) (n k : Nat) (tin : F32) : F32 × F32 :=
  let v := s.coolOf n
  let row := fun j => v.op.getD (5 * k + j) 0
  let st := if k < 2 then [v.tp0, v.tc0, v.tw0] else [v.tp1, v.tc1, v.tw1]
  let a := f32Add (f32Add (f32Add (f32Mul (row 0) (st.getD 0 0)) (f32Mul (row 1) (st.getD 1 0))) (f32Mul (row 2) (st.getD 2 0))) (f32Mul (row 4) tin)
  (a, row 3)

/-- A limit current: min over the nodes of sqrt((max − margin − α) / β), clamped to 0 … 3,000 A (R203). -/
def State.limitCurrent (s : State) (n : Nat) (margin tin : F32) : F32 :=
  (List.range 4).foldl (fun acc k =>
    let ab := s.alphaBeta n k tin
    let m := f32Sub (f32Sub (s.nodeMax n k) margin) ab.1
    if f32Le m 0 then f32OfInt 0 else f32Min acc (f32Sqrt (f32Div m ab.2))) (f32OfInt 3000)

/-- The least margin m_k at current i². -/
def State.leastMargin (s : State) (n : Nat) (i2 tin : F32) : F32 :=
  (List.range 4).foldl (fun acc k =>
    let ab := s.alphaBeta n k tin
    f32Min acc (f32Sub (s.nodeMax n k) (f32Add ab.1 (f32Mul ab.2 i2)))) (f32Inf false)

/-- The current of R201 for an update, A: the measured mean, or its replacement while the feedback is flagged; 0 in
OUT_FAULT and VAULT (R213). -/
def State.observerI (s : State) (n ma : Nat) : F32 :=
  if s.ostate n == .fault || s.mode == .vault then 0
  else if s.fbFlagged n then f32Max (milli ((s.outSt n).lastIc : Int)) (milli ((s.getI (F.OUTLET_REF_MA_MA.inst n)).natAbs : Int))
  else milli (ma : Int)

/-- The pump slot of outlet `n` has an output above 0.1 (R208). -/
def State.pumpRuns (s : State) (n : Nat) : Bool :=
  (List.range 48).any fun k => s.rdByte (slotBase (16 + k) + 1) == 0x42 + 4 * n && f32Lt (f32OfRat 1 10) (s.slotWord (16 + k) 56)

/-- BINDING follows THERM, logged at each change (R204). -/
def State.setBinding (s : State) (n ma : Nat) : State :=
  let b := decide (ma < 3000000)
  if s.on (F.COOL_OSTAT_BINDING.nth n) = b then s
  else (s.setB (F.COOL_OSTAT_BINDING.nth n) b).ev (if b then E.COOL_CEILING_BINDING else E.COOL_CEILING_CLEAR) 0 (if b then [n, ma] else [n])

/-- The millisecond update of outlet `n` (R201, R203 to R205, R208). A fallback inlet temperature acts in R201 at once, and in the
prediction from the following recomputation (R212). -/
def State.observe (s : State) (n ma : Nat) : State :=
  let v := s.coolOf n
  let i := s.observerI n ma
  let i2 := f32Mul i i
  let flow := s.flowNow n
  let tin := s.tInFrom n (s.tInSource n)
  let tp := s.tInFrom n v.tinSrc
  let gf := s.gFlow n flow
  let a := s.conductor n v.tp0 v.tc0 v.tw0 i2 gf tin
  let b := s.conductor n v.tp1 v.tc1 v.tw1 i2 gf tin
  let at' := fun (l : List F32) j => l.getD j 0
  let kp := f32OfRat (s.get (F.COOL_DERATE_K_PIN.nth n) : Int) 256
  let kw := f32OfRat (s.get (F.COOL_DERATE_K_COOL.nth n) : Int) 256
  let in0 := f32Sub (s.chVal (s.roleCh n 0)) (at' a 0)
  let in1 := f32Sub (s.chVal (s.roleCh n 1)) (at' b 0)
  let inw := f32Sub (s.chVal (s.roleCh n 3)) (f32Half (f32Add (at' a 2) (at' b 2)))
  let corr := fun (good : Bool) (x k d : F32) => if good then f32Add x (f32Mul k d) else x
  let resid := f32OfInt (s.get F.COOL_PLAUS_RESID_K : Int)
  let heat := f32Add (f32Add (at' a 3) (at' a 4)) (f32Add (at' b 3) (at' b 4))
  let s := s.setCool n { v with
    tp0 := corr (s.roleGood n 0) (at' a 0) kp in0, tp1 := corr (s.roleGood n 1) (at' b 0) kp in1,
    tc0 := at' a 1, tc1 := at' b 1,
    tw0 := corr (s.roleGood n 3) (at' a 2) kw inw, tw1 := corr (s.roleGood n 3) (at' b 2) kw inw,
    pinBad0 := s.roleFitted n 0 && f32Lt resid (f32Abs in0), pinBad1 := s.roleFitted n 1 && f32Lt resid (f32Abs in1),
    orderBad := s.roleFitted n 2 && s.roleFitted n 3 && s.roleGood n 4 && f32Lt (s.scaled (F.COOL_FLOW_FLOW_MIN.nth n) 100) flow &&
      f32Lt (s.scaled F.COOL_PLAUS_ORDER_K 10) (f32Sub (s.chVal (s.roleCh n 2)) (s.chVal (s.roleCh n 3))),
    pressBad := s.roleGood n 5 && f32Lt (s.chVal (s.roleCh n 5)) (f32OfInt (s.get F.COOL_PRESS_LIM_PRESS_LOW : Int)) && s.pumpRuns n,
    flowBad := s.roleGood n 4 && f32Lt flow (f32Half (s.get (F.COOL_DEMAND_LPM.nth n))) }
  let margin := s.scaled (F.COOL_DERATE_MARGIN.nth n) 10
  let milliAmp := fun (x : F32) => (f32Trunc (f32Mul x (f32OfInt 1000))).toNat
  let therm := milliAmp (s.limitCurrent n 0 tp)
  let iset := milliAmp (s.limitCurrent n margin tp)
  let mk := s.leastMargin n i2 tp
  let tgt := s.get (F.OUTLET_VCMD_TARGET.inst n)
  let boost := f32Lt mk (f32OfInt (s.get (F.COOL_COOLING_BOOST_K.nth n) : Int))
  let fmax := s.scaled (F.COOL_FLOW_FLOW_MAX.nth n) 100
  let fmin := s.scaled (F.COOL_FLOW_FLOW_MIN.nth n) 100
  let want := f32Div (f32Mul heat (f32OfInt 60)) (f32Mul (s.get (F.COOL_CP_VOL_J_PER_LK.nth n)) (s.scaled (F.COOL_COOLING_DT_RISE.nth n) 10))
  let demand := if boost then fmax
    else if f32Le i (f32OfInt (s.get (F.OUTLET_LOWCUR_ZERO_A.inst n) : Int)) then fmin else f32Min (f32Max want fmin) fmax
  let w := s.coolOf n
  let hot := f32Max (f32Max w.tp0 w.tc0) (f32Max w.tp1 w.tc1)
  let s := (((s.set (F.COOL_PRED_C.nth n) (f32Sub (s.scaled (F.COOL_LIMITS_PIN_MAX.nth n) 10) mk)).set (F.COOL_HOT_C.nth n) hot).set
    (F.OUTLET_THERM_MA_MA.inst n) therm).set (F.COOL_ISET_MA.nth n) iset
  let s := ((s.set (F.COOL_CEIL_W_W.nth n) (iset * (if tgt = 0 then 1500000 else tgt) / 1000000)).set (F.COOL_DEMAND_LPM.nth n) demand).set
    (F.COOL_Q_W_W.nth n) (f32Trunc heat).toNat
  (s.set (F.COOL_TCOOL_C.nth n) (f32Half (f32Add w.tw0 w.tw1))).setBinding n therm

/-- The shared fan and valve in split range, from the largest cooling command of the members (R206). -/
def State.driveShared (s : State) : State :=
  let m := s.get F.COOL_SHARED_MEMBERS
  let c := (s.outlets.filter fun n => m.testBit n).foldl (fun acc n => f32Max acc (s.coolOf n).cmd) 0
  let c2 := f32Mul (f32OfInt 2) c
  let duty := fun (x : F32) => (clampI 0 10000 (f32RoundInt (f32Mul x (f32OfInt 10000)))).toNat
  let valve := duty (f32Min (f32OfInt 1) c2)
  let fan := duty (f32Max 0 (f32Sub c2 (f32OfInt 1)))
  let s := (s.set F.COOL_SHARED_OUT_VALVE valve).set F.COOL_SHARED_OUT_FAN fan
  (s.ownerDrive 2 (s.get F.COOL_SHARED_VALVE_CH) 2 valve).ownerDrive 2 (s.get F.COOL_SHARED_FAN_CH) 2 fan

/-- OBSERVER_UPDATE (R201 to R206, R208, R213) with the mean |IC| of the millisecond on each outlet, mA. -/
def execObserverUpdate (i0 i1 i2 i3 : Nat) (s : State) : Result :=
  (s.when (s.mode != .dormant) fun s =>
    let s := s.each s.outlets fun n s => s.followObserver n
    let s := s.each (s.outlets.filter fun n => (s.coolOf n).running) fun n s => s.observe n ([i0, i1, i2, i3].getD n 0)
    (s.refreshAllRoles).driveShared).finish

/-! ### Plausibility (R208) -/

/-- PIN_IMPLAUSIBLE (R208, R209). -/
def execPinImplausible (n : Fin 4) (neg : Bool) (s : State) : Result :=
  (s.when ((s.coolOf n).running && (if neg then (s.coolOf n).pinBad1 else (s.coolOf n).pinBad0)) fun s =>
    (s.setB (if neg then F.COOL_OSTAT_INNOV_NEG.nth n else F.COOL_OSTAT_INNOV_POS.nth n) true).refreshRoles n).finish

/-- ORDER_IMPLAUSIBLE (R208, R209). -/
def execOrderImplausible (n : Fin 4) (s : State) : Result :=
  (s.when ((s.coolOf n).running && (s.coolOf n).orderBad) fun s => (s.setB (F.COOL_OSTAT_ORDER.nth n) true).refreshRoles n).finish

/-- PRESS_LOW (R208). -/
def execPressLow (n : Fin 4) (s : State) : Result :=
  (s.when ((s.coolOf n).running && (s.coolOf n).pressBad) fun s => s.ev E.COOL_PRESS_LOW 0 [n, s.chVal (s.roleCh n 5)]).finish

/-- FLOW_LOW (R208). -/
def execFlowLow (n : Fin 4) (s : State) : Result :=
  (s.when ((s.coolOf n).running && (s.coolOf n).flowBad) fun s =>
    s.ev E.COOL_FLOW_LOW 0 [n, s.flowNow n, s.get (F.COOL_DEMAND_LPM.nth n)]).finish

/-- A clearing write to OSTATn: a flag clears only while its check is met (R208). -/
def State.ostatClear (s : State) (n v : Nat) : State :=
  let c := s.coolOf n
  let s := s.when (v.testBit 7 && !c.pinBad0) fun s => s.setB (F.COOL_OSTAT_INNOV_POS.nth n) false
  let s := s.when (v.testBit 8 && !c.pinBad1) fun s => s.setB (F.COOL_OSTAT_INNOV_NEG.nth n) false
  (s.when (v.testBit 9 && !c.orderBad) fun s => s.setB (F.COOL_OSTAT_ORDER.nth n) false).refreshRoles n

/-- COOL_FLAG_CLEAR (R208, R209). -/
def execCoolFlagClear (n : Fin 4) (value : Word) (s : State) : Result :=
  (s.hostWrites 0x1C (0x19C + n * 0x20) fun s => s.ostatClear n value.toNat).finish

end Sys2Proof.Machine
end

