-- ==== Sys2Proof/Machine/TimeBase.lean ====
section
/-! DEFINITION. The time base (chapter 04): the running of fabric and legal time, the increment, steps and slews of the
host servo, the time-triggered outputs, and the PTP messages that change no clock state. -/
namespace Sys2Proof.Machine

/-! ### The increment (R64) -/

/-- The limits 2.4975 ns and 2.5025 ns in units of 2^−32 ns, rounded inward. -/
def incrMin : Nat := 10726680822
def incrMax : Nat := 10748155658

/-- INCR_NS and INCR_FRAC together, in units of 2^−32 ns. -/
def State.incrReg (s : State) : Nat := s.get F.TIME_INCR_NS_NS * 2 ^ 32 + s.get F.TIME_INCR_FRAC_FRAC

/-- The increment per tick: what the registers hold, held within the limits. -/
def State.incr (s : State) : Nat := max incrMin (min incrMax s.incrReg)

/-- The registers take an increment as it is asked for; one outside the limits records INCR_CLAMPED (log entry 97). -/
def State.setIncr (s : State) (v : Nat) : State :=
  let s := (s.set F.TIME_INCR_NS_NS (v / 2 ^ 32)).set F.TIME_INCR_FRAC_FRAC (v % 2 ^ 32)
  s.when (decide (v < incrMin) || decide (incrMax < v)) fun s => s.err E.TIME_INCR_CLAMPED 0 [v / 2 ^ 32, v % 2 ^ 32]

/-- The servo's increment, which the device holds within the limits itself. -/
def State.servoIncrSet (s : State) (v : Int) : State :=
  let c := (clampI incrMin incrMax v).toNat
  let s := (s.set F.TIME_INCR_NS_NS (c / 2 ^ 32)).set F.TIME_INCR_FRAC_FRAC (c % 2 ^ 32)
  s.when (decide ((c : Int) ≠ v)) fun s => s.err E.TIME_INCR_CLAMPED 0 [v.toNat / 2 ^ 32, v.toNat % 2 ^ 32]

/-- The host's write is refused because the hardware servo owns the clock (R70). -/
def State.servoOwns (s : State) (off : Nat) : State := s.err E.TIME_SERVO_OWNS 0 [off]

/-- The host servo is selected (R70). -/
def State.hostServo (s : State) : Bool := s.on F.TIME_CFG_SERVO

def State.incrWrite (s : State) (isFrac : Bool) (v : Nat) : State :=
  if s.hostServo then
    let n : Nat := if isFrac then s.get F.TIME_INCR_NS_NS * 2 ^ 32 + v else (v % 16) * 2 ^ 32 + s.get F.TIME_INCR_FRAC_FRAC
    s.setIncr n
  else s.servoOwns (if isFrac then 0x05C else 0x058)

/-- TIME_INCR_WRITE (R64, R70). -/
def execTimeIncrWrite (isFrac : Bool) (value : Word) (s : State) : Result :=
  (s.hostWrites 0x04 (if isFrac then 0x05C else 0x058) fun s => s.incrWrite isFrac value.toNat).finish

/-! ### Reading the clock (R65) -/

/-- A read of NOW_NS copies the whole clock. -/
def State.copyNow (s : State) : State :=
  (((s.set F.TIME_NOW_NS_NS s.fabNsPart).set F.TIME_NOW_SEC_LO_SEC s.fabSec).set F.TIME_NOW_SEC_HI_SEC (s.fabSec / 2 ^ 32)).set
    F.TIME_NOW_FRAC_FRAC s.tim.fab

/-- TIME_NOW_READ (R65). -/
def execTimeNowRead (s : State) : Result := (s.hostReach 0x04 0x048 State.copyNow).finish

/-! ### Time-triggered outputs (R76 to R79) -/

def State.tpoOf (s : State) (n : Nat) : TpoState := mget {} s.tpo n
def State.setTpo (s : State) (n : Nat) (t : TpoState) : State := { s with tpo := mput {} s.tpo n t }

def tpoMode (s : State) (n : Nat) : Nat := s.get (F.TPO_CFG_MODE.nth n)
/-- A number of nanoseconds in the unit of the clocks, 2^−32 ns. -/
def nsUnits (n : Nat) : Nat := n * 2 ^ 32

/-- START, PERIOD and WIDTH of output `n`, 2^−32 ns. -/
def tpoStart (s : State) (n : Nat) : Nat :=
  (s.get (F.TPO_START_SEC_HI_SEC.nth n) * 2 ^ 32 + s.get (F.TPO_START_SEC_LO_SEC.nth n)) * secUnit + nsUnits (s.get (F.TPO_START_NS_NS.nth n))
def tpoPeriod (s : State) (n : Nat) : Nat := s.get (F.TPO_PERIOD_SEC_SEC.nth n) * secUnit + nsUnits (s.get (F.TPO_PERIOD_NS_NS.nth n))
def tpoWidth (s : State) (n : Nat) : Nat := nsUnits (s.get (F.TPO_WIDTH_NS_NS.nth n))

/-- The ball of output `n` takes the level of its state and polarity, while exclusive outputs are enabled. -/
def State.tpoBall (s : State) (n : Nat) : State :=
  s.when s.exclusive fun s => s.emit (.tpo n (s.on (F.TPO_STATUS_ACTIVE.nth n) != s.on (F.TPO_CFG_POLARITY.nth n)))

/-- Output `n` becomes active or inactive; its ball follows. -/
def State.tpoDrive (s : State) (n : Nat) (active : Bool) : State :=
  if s.on (F.TPO_STATUS_ACTIVE.nth n) = active then s else (s.setB (F.TPO_STATUS_ACTIVE.nth n) active).tpoBall n

/-- The first instance k with START + k × PERIOD at or after `t` (R78). -/
def tpoFirst (start period t : Nat) : Nat := if t ≤ start ∨ period = 0 then 0 else (t - start + period - 1) / period

/-- Output `n` is judged against the time `now` of an arming write or a step: R77 for one-shots, R78 for periodic ones. -/
def State.tpoJudge (s : State) (n : Nat) : State :=
  let lim := s.tim.fab + nsUnits 50
  let t := s.tpoOf n
  let start := tpoStart s n
  match tpoMode s n with
  | 0 => s
  | 3 =>
    let k := tpoFirst start (tpoPeriod s n) lim
    let s' := s.setTpo n { t with next := k, due := start + k * tpoPeriod s n }
    if t.next < k then
      ((s'.setB (F.TPO_STATUS_LATE.nth n) true).set (F.TPO_STATUS_SKIPPED.nth n) (satTo 16 (k - t.next))).ev E.TPO_LATE 0
        [n, satTo 16 (k - t.next)]
    else s'
  | _ =>
    if t.acted then s
    else if start < lim then
      if s.on (F.TPO_CFG_LATE_POLICY.nth n) then
        (((s.setB (F.TPO_CFG_ARM.nth n) false).setB (F.TPO_STATUS_ARMED.nth n) false).setB (F.TPO_STATUS_MISSED.nth n) true).ev
          E.TPO_MISSED 0 [n, start / secUnit, start % secUnit / 2 ^ 32]
      else
        ((s.setTpo n { t with due := lim }).setB (F.TPO_STATUS_LATE.nth n) true).ev E.TPO_LATE 0 [n, 0]
    else s.setTpo n { t with due := start }

/-- The timing of output `n` breaks R76; the two tests of PERIOD are the periodic mode's alone (log entry 105). -/
def tpoBadTiming (s : State) (n : Nat) : Bool :=
  match tpoMode s n with
  | 2 => decide (tpoWidth s n < nsUnits 5)
  | 3 => decide (tpoWidth s n < nsUnits 5) || decide (tpoPeriod s n < nsUnits 100) || decide (tpoPeriod s n ≤ tpoWidth s n)
  | _ => false

def State.tpoDisarm (s : State) (n : Nat) : State :=
  (((s.setB (F.TPO_CFG_ARM.nth n) false).setB (F.TPO_STATUS_ARMED.nth n) false).setTpo n {}).tpoDrive n false

/-- An arming write: refused with ARM left at 0, or the output is armed and judged; a pulse in progress keeps its end, and an
output that is off becomes inactive. -/
def State.tpoArm (s : State) (n : Nat) : State :=
  if tpoBadTiming s n then (s.tpoDisarm n).err E.TPO_BAD_TIMING 0 [n]
  else
    (((s.setB (F.TPO_CFG_ARM.nth n) true).setB (F.TPO_STATUS_ARMED.nth n) true).setTpo n { stop := (s.tpoOf n).stop }).tpoJudge n
      |>.when (tpoMode s n == 0) fun s => s.tpoDrive n false

/-- TPO_ARM (R76 to R78). -/
def execTpoArm (n : Fin 8) (s : State) : Result := (s.hostWrites 0x05 (0x040 + n * 0x20) fun s => s.tpoArm n).finish

/-- TPO_DISARM (R76). -/
def execTpoDisarm (n : Fin 8) (s : State) : Result := (s.hostWrites 0x05 (0x040 + n * 0x20) fun s => s.tpoDisarm n).finish

/-- The outputs run: after SELFTEST, with the control die powered (chapter 04, Time-triggered outputs). -/
def State.tpoRuns (s : State) : Bool := s.hostOpen && !s.sys.held

/-- The programmed instant of output `n` has come. -/
def State.tpoStartNow (s : State) (n : Nat) : State :=
  let t := s.tpoOf n
  match tpoMode s n with
  | 0 => s
  | 1 => (s.setTpo n { t with acted := true }).tpoDrive n true
  | 2 => if t.acted then s else
      (s.setTpo n { t with acted := true, stop := some (t.due + tpoWidth s n) }).tpoDrive n true
  | _ => (s.setTpo n { t with next := t.next + 1, due := t.due + tpoPeriod s n, stop := some (t.due + tpoWidth s n) }).tpoDrive n true

/-- TPO_START (R76). -/
def execTpoStart (n : Fin 8) (s : State) : Result :=
  (s.when (s.tpoRuns && s.on (F.TPO_STATUS_ARMED.nth n)) fun s => s.tpoStartNow n).finish

/-- A pulse ends; STATUS of a one-shot pulse then shows it no longer armed, while CFG.ARM stays (log entry 105). -/
def State.tpoEndNow (s : State) (n : Nat) : State :=
  let s := (s.setTpo n { s.tpoOf n with stop := none }).tpoDrive n false
  s.when (tpoMode s n == 2) fun s => s.setB (F.TPO_STATUS_ARMED.nth n) false

/-- TPO_PULSE_END (R76). -/
def execTpoPulseEnd (n : Fin 8) (s : State) : Result :=
  (s.when (s.on (F.TPO_STATUS_ACTIVE.nth n) && (s.tpoOf n).stop.isSome) fun s => s.tpoEndNow n).finish

/-- A write to START, PERIOD or WIDTH of output `n`: ignored with ARMED_WRITE while armed (R76). -/
def State.tpoLocked (s : State) (n : Nat) : Bool := s.on (F.TPO_CFG_ARM.nth n)

/-- After a step of fabric time every armed output is judged again; a pulse whose end now lies in the past ends, a periodic
one as a one-shot one (R79, log entry 105). -/
def State.tpoRejudge (s : State) : State :=
  s.each (List.range 8) fun n s =>
    let s := s.when (s.on (F.TPO_STATUS_ARMED.nth n)) fun s => s.tpoJudge n
    match (s.tpoOf n).stop with
    | some e => s.when (decide (e ≤ s.tim.fab)) fun s => s.tpoEndNow n
    | none => s

/-- A write to TPO under a mask: the bits of CFG it names, then ARM where it names that; START, PERIOD and WIDTH are locked
while the output is armed (R76). A refused arming write still takes MODE, LATE_POLICY and POLARITY (log entry 105). -/
def State.writeTpo (s : State) (off mask v : Nat) : Option State :=
  if off < 0x040 then none
  else
    let n := (off - 0x040) / 0x20
    let r := (off - 0x040) % 0x20
    if 8 ≤ n then none
    else if r = 0 then
      let pol := s.on (F.TPO_CFG_POLARITY.nth n)
      let s := s.setWord 0x05 off (mask.land 0x7F) v fun a => a == .rw
      let s := s.when (s.on (F.TPO_CFG_POLARITY.nth n) != pol) fun s => s.tpoBall n
      some (if !mask.testBit 7 then s else if v.testBit 7 then s.tpoArm n else s.tpoDisarm n)
    else if 4 ≤ r ∧ r ≤ 0x18 ∧ s.tpoLocked n then some (s.err E.TPO_ARMED_WRITE 0 [n, off])
    else none

/-! ### Clock states (R66, R68, R69, Table 4.1) -/

def State.modTim (s : State) (f : TimeState → TimeState) : State := { s with tim := f s.tim }

/-- SYNC_OK changes; a fall is noted for the Sentences it ends (R99). -/
def State.syncIs (s : State) (ok : Bool) : State :=
  let fell := s.on F.TIME_SYNC_STATE_SYNC_OK && !ok
  { s.setB F.TIME_SYNC_STATE_SYNC_OK ok with sent := { s.sent with syncFell := s.sent.syncFell || fell } }

/-- LOCKING is entered, from LOCKED with UNLOCKED. -/
def State.toLocking (s : State) : State :=
  let st := s.get F.TIME_SYNC_STATE_STATE
  ((s.set F.TIME_SYNC_STATE_STATE 1).modTim fun t => { t with unlockRun := 0 }).when (st == 2) fun s =>
    s.ev E.TIME_UNLOCKED 0 [s.get F.TIME_OFFSET_NS_NS]

/-- The slave port exists: its role is read by R66 and R68. -/
def State.hasSlave (s : State) : Bool := s.get F.TIME_CFG_PORT0_ROLE == 2 || s.get F.TIME_CFG_PORT1_ROLE == 2

/-- PATH_DELAY shows the slave port's delay; without a slave port, the one measured last (log entry 105). -/
def State.showPath (s : State) (port : Nat) : State :=
  s.when (!s.hasSlave || (if port = 0 then s.get F.TIME_CFG_PORT0_ROLE else s.get F.TIME_CFG_PORT1_ROLE) == 2) fun s =>
    s.setI F.TIME_PATH_DELAY_NS (mget 0 s.tim.paths port)

/-- STATE after a new configuration: FREE with PTP disabled, GRANDMASTER without a slave port, and FREE again when a slave
port appears (Table 4.1); PATH_DELAY shows the slave port's. -/
def State.ptpState (s : State) : State :=
  let free := fun (s : State) => ((s.set F.TIME_SYNC_STATE_STATE 0).modTim fun t => { t with lockRun := 0, unlockRun := 0 }).syncIs false
  let st := s.get F.TIME_SYNC_STATE_STATE
  let s := if !s.on F.TIME_CFG_ENABLE then free s
    else if !s.hasSlave then ((s.set F.TIME_SYNC_STATE_STATE 4).modTim fun t => { t with lockRun := 0, unlockRun := 0 }).syncIs true
    else if st = 4 then free s else s
  s.when s.hasSlave fun s => s.showPath (if s.get F.TIME_CFG_PORT0_ROLE = 2 then 0 else 1)

/-- A write of TIME.CFG; two slave ports are refused (R66). -/
def State.timeCfg (s : State) (v : Nat) : State :=
  if bits v 11 10 = 2 ∧ bits v 9 8 = 2 then s.err E.TIME_BAD_ROLE 0 [v]
  else (s.setWord 0x04 0x040 0xFFFFFFFF v fun a => a == .rw).ptpState

/-! ### Steps and slews (R70) -/

/-- Step fabric time to `v` (2^−32 ns), logged with the source (0 servo, 1 host): the outputs are judged again, and a clock
that follows a master is LOCKING (R68, R79). -/
def State.stepFab (s : State) (v source : Nat) : State :=
  let d : Int := (v : Int) - s.tim.fab
  let s := { s with tim := { s.tim with fab := v % (2 ^ 48 * secUnit) } }
  let s := ((s.inc F.TIME_STEP_COUNT_COUNT).ev E.TIME_STEP 0
    [ofSigned 64 (Int.tdiv d (2 ^ 32)) % 2 ^ 32, ofSigned 64 (Int.tdiv d (2 ^ 32)) / 2 ^ 32, source]).tpoRejudge
  s.when (s.on F.TIME_CFG_ENABLE && s.hasSlave) fun s =>
    ((s.modTim fun t => { t with lockRun := 0 }).toLocking).syncIs false

/-- The SET registers as a time in 2^−32 ns. -/
def State.setTarget (s : State) : Nat :=
  (s.get F.TIME_SET_SEC_HI_SEC * 2 ^ 32 + s.get F.TIME_SET_SEC_LO_SEC) * secUnit + s.get F.TIME_SET_NS_NS * 2 ^ 32

/-- ADJ_CFG.REMAIN_US shows the slew left, saturating. -/
def State.showSlew (s : State) : State :=
  s.set F.TIME_ADJ_CFG_REMAIN_US (satTo 16 (s.tim.slew.natAbs / (1000 * 2 ^ 32)))

def State.adjWrite (s : State) (v : Nat) : State :=
  if s.hostServo then { s with tim := { s.tim with slew := toSigned 32 v * 2 ^ 32 } }.showSlew else s.servoOwns 0x06C

/-- TIME_ADJ_WRITE (R70). -/
def execTimeAdjWrite (value : Word) (s : State) : Result := (s.hostWrites 0x04 0x06C fun s => s.adjWrite value.toNat).finish

def State.adjCfgWrite (s : State) (v : Nat) : State :=
  let p := v % 2 ^ 16
  if 1 ≤ p ∧ p ≤ 1000 then s.set F.TIME_ADJ_CFG_SLEW_PPM p else s.err E.TIME_BAD_SLEW 0 [v]

/-- ADJ_CFG_WRITE (R70). -/
def execAdjCfgWrite (value : Word) (s : State) : Result := (s.hostWrites 0x04 0x070 fun s => s.adjCfgWrite value.toNat).finish

/-- UTC_OFFSET: SECONDS ignores writes while it shows the announced offset, from the write that sets FROM_ANNOUNCE on (R74,
log entry 105). -/
def State.utcWrite (s : State) (v : Nat) : State :=
  let s := s.setB F.TIME_UTC_OFFSET_FROM_ANNOUNCE (v.testBit 16)
  if s.on F.TIME_UTC_OFFSET_FROM_ANNOUNCE && s.hasSlave then
    match s.tim.announced with
    | some u => s.setI F.TIME_UTC_OFFSET_SECONDS u
    | none => s
  else s.set F.TIME_UTC_OFFSET_SECONDS v

/-- A write to TIME beside CTRL and ADJ (R66, R70, R74). -/
def State.writeTime (s : State) (off v : Nat) : Option State :=
  match off with
  | 0x040 => some (s.timeCfg v)
  | 0x058 => some (s.incrWrite false v)
  | 0x05C => some (s.incrWrite true v)
  | 0x060 | 0x064 | 0x068 => if s.hostServo then none else some (s.servoOwns off)
  | 0x070 => some (s.adjCfgWrite v)
  | 0x094 => some (s.utcWrite v)
  | _ => none

/-! ### The running of time -/

/-- At most `rate` of the remaining amount `left` is worked off, with its sign. -/
def slewStep (left rate : Int) : Int := clampI (-rate) rate left

/-- One 2.5 ns tick of fabric time with its host slew, which goes on when the servo takes the clock over (R64, R70, log entry
105). -/
def State.tickFab (s : State) : State :=
  let a := slewStep s.tim.slew ((s.incr * s.get F.TIME_ADJ_CFG_SLEW_PPM / 1000000 : Nat) : Int)
  let s := { s with tim := { s.tim with fab := ((s.tim.fab : Int) + s.incr + a).toNat % (2 ^ 48 * secUnit), slew := s.tim.slew - a } }
  s.when (decide (a ≠ 0)) State.showSlew

/-- Legal time advances by `u` (2^−32 ns) with at most 500 ppm of its slew (R74). -/
def State.tickLegal (s : State) (u : Nat) : State :=
  let a := slewStep s.tim.legalSlew ((u / 2000 : Nat) : Int)
  let s := { s with tim := { s.tim with legal := ((s.tim.legal : Int) + u + a).toNat, legalSlew := s.tim.legalSlew - a } }
  s.when (decide (a ≠ 0 ∧ s.tim.legalSlew = 0)) fun s => s.setB F.TIME_LEGAL_STAT_SLEWING false

/-- SYNC_STATE.HOLDOVER_S counts the seconds in holdover (R68). -/
def State.tickHoldover (s : State) : State :=
  s.when (s.get F.TIME_SYNC_STATE_STATE == 3) fun s =>
    s.set F.TIME_SYNC_STATE_HOLDOVER_S (satTo 16 (s.since s.tim.holdoverTick / 400000000))

/-- The heartbeat runs: from SELFTEST onwards, not in reset, and the clock monitor is good (R376, R29). -/
def State.beats (s : State) : Bool :=
  !(s.mode == .dormant || s.mode == .waking) && !s.sys.held && s.on F.CLK_PLL_STAT_LOCKED && s.on F.CLK_PLL_STAT_XTAL_OK

/-- HB_OUT toggles, every 50 µs, while the heartbeat runs (R376). -/
def State.beat (s : State) : State :=
  s.when s.beats fun s => { s with mir := { s.mir with hbOut := !s.mir.hbOut } }.emit (.hb (!s.mir.hbOut))

/-- Idle: one 2.5 ns tick passes; legal time counts in 40 ns steps (R64, R74). In DORMANT one period of the 32.768 kHz
crystal passes and only legal time runs (log entry 7). -/
def State.idleTick (s : State) : State :=
  match s.mode with
  | .dormant => { s with ticks := s.ticks + 12207 }.tickLegal (1000000000 * 2 ^ 17)
  | _ =>
    let s := { s with ticks := s.ticks + 1 }
    let s := s.when (decide (s.ticks % 16 = 0)) fun s => s.tickLegal (40 * 2 ^ 32)
    let s := s.when (decide (s.ticks % 20000 = 0)) State.beat
    (s.tickFab).tickHoldover

/-! ### PTP messages (R66, R72, R73) -/

/-- Roles of a port: 0 disabled, 1 master, 2 slave, 3 passive; a standby's master ports act as passive (R386). -/
def State.ptpRole (s : State) (port : Nat) : Nat :=
  let r := if port = 0 then s.get F.TIME_CFG_PORT0_ROLE else s.get F.TIME_CFG_PORT1_ROLE
  if r = 1 ∧ s.mode = .mirror then 3 else r

def State.ptpP2p (s : State) (port : Nat) : Bool := if port = 0 then s.on F.TIME_CFG_PORT0_P2P else s.on F.TIME_CFG_PORT1_P2P
def State.ptpOneStep (s : State) (port : Nat) : Bool := if port = 0 then s.on F.TIME_CFG_PORT0_ONESTEP else s.on F.TIME_CFG_PORT1_ONESTEP

/-- PTP is on, the port takes part and the message is of the device's domain (R66). -/
def State.ptpAccepts (s : State) (port : Nat) (m : PtpMsg) : Bool :=
  s.on F.TIME_CFG_ENABLE && s.ptpRole port != 0 && m.domain == s.get F.TIME_CFG_DOMAIN

/-- The stamp of a frame received or sent now, ns (R71). -/
def State.rxStamp (s : State) (port : Nat) : Int :=
  (s.fabNs : Int) - (if port = 0 then s.get F.TIME_PORT0_LAT_RX_NS else s.get F.TIME_PORT1_LAT_RX_NS)
def State.txStamp (s : State) (port : Nat) : Int :=
  (s.fabNs : Int) + (if port = 0 then s.get F.TIME_PORT0_LAT_TX_NS else s.get F.TIME_PORT1_LAT_TX_NS)

/-- Kinds of PTP message as they leave a port. -/
def ptpSync : Nat := 0
def ptpDelayReq : Nat := 1
def ptpPdelayReq : Nat := 2
def ptpPdelayResp : Nat := 3
def ptpFollowUp : Nat := 8
def ptpDelayResp : Nat := 9
def ptpPdelayRespFollowUp : Nat := 10
def ptpAnnounce : Nat := 11

/-- The port's own message: sequence number, timestamp, correction. -/
def State.ptpOwn (s : State) (port kind seqId : Nat) (ts corr : Int) (two : Bool) : State :=
  s.emit (.ptp port kind ⟨s.get F.TIME_CFG_DOMAIN, seqId, two, ts.toNat, corr, s.getI F.TIME_UTC_OFFSET_SECONDS⟩)

/-- Residence time of an event message that passes from `port` to the other, 2^−16 ns: egress stamp less ingress stamp, each
with its port's latency; the time it takes within the switch, which no rule gives, is a free value (R71, R73). -/
def State.residence (s : State) (port : Nat) : Int := (s.txStamp (1 - port) - s.rxStamp port) * 65536 + (s.free : Nat)

/-- A frame is switched to the other port. With TC_EN an event message gains its residence time; a two-step Sync's is held for
its Follow_Up; TC_P2P adds the ingress port's peer delay to Sync and leaves Delay_Req and Delay_Resp alone (R73). -/
def State.ptpForward (s : State) (port kind : Nat) (m : PtpMsg) : State :=
  let tc := s.on F.TIME_CFG_TC_EN
  let p2p := s.on F.TIME_CFG_TC_P2P
  let res := s.residence port
  let peer : Int := if p2p then mget 0 s.tim.paths port * 65536 else 0
  let key := port * 65536 + m.seqId
  if kind = ptpSync ∧ tc then
    if m.twoStep then
      ((s.modTim fun t => { t with heldResidence := mput 0 t.heldResidence key (res + peer) }).freeNext).emit (.ptp (1 - port) kind m)
    else s.freeNext.emit (.ptp (1 - port) kind { m with corr := m.corr + res + peer })
  else if kind = ptpFollowUp ∧ tc then
    let h := mget 0 s.tim.heldResidence key
    (s.modTim fun t => { t with heldResidence := mput 0 t.heldResidence key 0 }).emit (.ptp (1 - port) kind { m with corr := m.corr + h })
  else if tc ∧ (kind = ptpPdelayReq ∨ kind = ptpPdelayResp ∨ (kind = ptpDelayReq ∧ !p2p)) then
    s.freeNext.emit (.ptp (1 - port) kind { m with corr := m.corr + res })
  else s.emit (.ptp (1 - port) kind m)

/-- PTP_DELAY_REQ_RX (R66, R73): a master port answers; otherwise the frame is switched. -/
def execPtpDelayReqRx (port : Fin 2) (f : PtpMsg) (s : State) : Result :=
  (if s.ptpAccepts port f && s.ptpRole port == 1 then s.ptpOwn port ptpDelayResp f.seqId (s.rxStamp port) f.corr false
   else s.ptpForward port ptpDelayReq f).finish

/-- The path delay from a complete measurement of four timestamps (R67). -/
def DelayMeas.path (d : DelayMeas) : Int := ((d.t2 - d.t1) + (d.t4 - d.t3) - Int.tdiv d.corr 65536) / 2

/-- The measurement in progress of a port. -/
def State.delayOf (s : State) (port : Nat) : DelayMeas := mget {} s.tim.delays port
def State.setDelay (s : State) (port : Nat) (d : DelayMeas) : State := s.modTim fun t => { t with delays := mput {} t.delays port d }

/-- A measurement of a port is complete: its delay, not below 0. -/
def State.setPath (s : State) (port : Nat) (d : DelayMeas) (v : Int) : State :=
  ((s.setDelay port d).modTim fun t => { t with paths := mput 0 t.paths port (max 0 v) }).showPath port

/-- PTP_DELAY_RESP_RX (R66): the fourth timestamp completes the measurement on an end-to-end slave port. -/
def execPtpDelayRespRx (port : Fin 2) (f : PtpMsg) (s : State) : Result :=
  (if s.ptpAccepts port f && s.ptpRole port == 2 && !s.ptpP2p port then
     let d := s.delayOf port
     s.when (d.busy && d.seqId == f.seqId) fun s =>
       let d := { d with t1 := s.tim.syncT1, t2 := s.tim.syncT2, t4 := (f.ts : Int), corr := d.corr + f.corr, busy := false }
       s.setPath port d d.path
   else s.ptpForward port ptpDelayResp f).finish

/-- PTP_PDELAY_REQ_RX (R66): answered by a P2P port with its receive and transmit times; otherwise switched. -/
def execPtpPdelayReqRx (port : Fin 2) (f : PtpMsg) (s : State) : Result :=
  (if s.ptpAccepts port f && s.ptpP2p port then
     ((s.ptpOwn port ptpPdelayResp f.seqId (s.rxStamp port) f.corr true).ptpOwn port ptpPdelayRespFollowUp f.seqId (s.txStamp port) f.corr false)
   else s.ptpForward port ptpPdelayReq f).finish

/-- PTP_PDELAY_RESP_RX (R66): the peer's receive time; a one-step response completes the measurement. -/
def execPtpPdelayRespRx (port : Fin 2) (f : PtpMsg) (s : State) : Result :=
  (if s.ptpAccepts port f && s.ptpP2p port then
     let d := s.delayOf port
     s.when (d.busy && d.seqId == f.seqId) fun s =>
       if f.twoStep then s.setDelay port { d with t2 := (f.ts : Int), t4 := s.rxStamp port, corr := d.corr + f.corr }
       else
         let d := { d with t2 := 0, t3 := 0, t4 := s.rxStamp port, t1 := d.t1, corr := d.corr + f.corr, busy := false }
         s.setPath port d ((d.t4 - d.t1 - Int.tdiv d.corr 65536) / 2)
   else s.ptpForward port ptpPdelayResp f).finish

/-- PTP_PDELAY_RESP_FOLLOW_UP_RX (R66): the peer's transmit time completes a two-step peer delay measurement. -/
def execPtpPdelayRespFollowUpRx (port : Fin 2) (f : PtpMsg) (s : State) : Result :=
  (if s.ptpAccepts port f && s.ptpP2p port then
     let d := s.delayOf port
     s.when (d.busy && d.seqId == f.seqId) fun s =>
       let d := { d with t3 := (f.ts : Int), corr := d.corr + f.corr, busy := false }
       s.setPath port d d.path
   else s.ptpForward port ptpPdelayRespFollowUp f).finish

/-- PTP_ANNOUNCE_RX (R66, R74): on the slave port it confirms the master and supplies currentUtcOffset. -/
def execPtpAnnounceRx (port : Fin 2) (f : PtpMsg) (s : State) : Result :=
  (if s.ptpAccepts port f && s.ptpRole port == 2 then
     let s := { s with tim := { s.tim with announced := some f.utc } }
     s.when (s.on F.TIME_UTC_OFFSET_FROM_ANNOUNCE) fun s => s.setI F.TIME_UTC_OFFSET_SECONDS f.utc
   else s.ptpForward port ptpAnnounce f).finish

def State.nextSeq (s : State) : State := { s with tim := { s.tim with txSeq := (s.tim.txSeq + 1) % 65536 } }

/-- PTP_SYNC_TX (R72): one-step, with the sub-nanosecond part in correctionField, or followed by a Follow_Up. -/
def execPtpSyncTx (port : Fin 2) (s : State) : Result :=
  (s.when (s.on F.TIME_CFG_ENABLE && s.ptpRole port == 1) fun s =>
    let q := s.tim.txSeq
    let t := s.txStamp port
    if s.ptpOneStep port then (s.ptpOwn port ptpSync q t ((s.tim.fab % 2 ^ 32 / 65536 : Nat) : Int) false).nextSeq
    else ((s.ptpOwn port ptpSync q 0 0 true).ptpOwn port ptpFollowUp q t ((s.tim.fab % 2 ^ 32 / 65536 : Nat) : Int) false).nextSeq).finish

/-- DELAY_REQ_TX (R67): the slave port, or a P2P port, opens a delay measurement and takes its transmit stamp. -/
def execDelayReqTx (port : Fin 2) (s : State) : Result :=
  (s.when (s.on F.TIME_CFG_ENABLE && (s.ptpRole port == 2 || (s.ptpP2p port && s.ptpRole port != 0))) fun s =>
    let q := s.tim.txSeq
    let t := s.txStamp port
    if s.ptpP2p port then ((s.setDelay port { seqId := q, t1 := t, busy := true }).ptpOwn port ptpPdelayReq q 0 0 false).nextSeq
    else ((s.setDelay port { seqId := q, t3 := t, busy := true }).ptpOwn port ptpDelayReq q 0 0 false).nextSeq).finish

/-- ANNOUNCE_TX (R66): a master port announces the UTC offset in use. -/
def execAnnounceTx (port : Fin 2) (s : State) : Result :=
  (s.when (s.on F.TIME_CFG_ENABLE && s.ptpRole port == 1) fun s => (s.ptpOwn port ptpAnnounce s.tim.txSeq 0 0 false).nextSeq).finish

/-- TC_FOLLOW_UP_TIMEOUT (R73): a held residence time is released. -/
def execTcFollowUpTimeout (port : Fin 2) (seqId : Nat) (s : State) : Result :=
  { s with tim := { s.tim with heldResidence := mput 0 s.tim.heldResidence (port * 65536 + seqId) 0 } }.finish

/-- HOLDOVER_ENTER (R68): no Sync for LOSS_MS while LOCKED; the hardware servo's increment freezes at the mean of the last 128
before the loss, the host's own stays (R70). -/
def execHoldoverEnter (s : State) : Result :=
  (s.when (s.get F.TIME_SYNC_STATE_STATE == 2 && decide (s.get F.TIME_HOLDOVER_LOSS_MS * ticksMs ≤ s.since (s.tim.lastSync.getD 0))) fun s =>
    let l := s.tim.incrs
    let s := if l.isEmpty || s.hostServo then s else s.servoIncrSet ((l.sum / l.length : Nat) : Int)
    let s := s.modTim fun t => { t with holdoverTick := s.ticks }
    ((s.set F.TIME_SYNC_STATE_STATE 3).set F.TIME_SYNC_STATE_HOLDOVER_S 0).ev E.TIME_HOLDOVER 0 [s.get F.TIME_OFFSET_NS_NS]).finish

end Sys2Proof.Machine
end

