-- ==== Sys2Proof/Machine/Lens.lean ====
section
/-! DEFINITION. The Lens (chapter 12): samples and their scaling, the metrology cycle, the checks on the measuring channels,
the grid port, calibration under seal, the pulse outputs and the capture buffer. -/
namespace Sys2Proof.Machine

def State.modLens (s : State) (f : LensState → LensState) : State := { s with lens := f s.lens }

/-- A Lens event of severity 5 is logged: trigger 3 of the capture buffer (R287). -/
def State.lensEv5 (s : State) (e : EvCode) (data : List Nat) : State :=
  (s.ev e 0 data).modLens fun l => { l with cap := { l.cap with sev5 := true } }

/-! ### Configuration in force (R282) -/

/-- A configuration field as it is in force: writes act from the first cycle boundary strictly after them. -/
def State.lget (s : State) (f : Field) : Nat := mget f.reset s.lens.force f.key

/-- The register at `off` of `page` has been written: its fields take effect at the next boundary. -/
def State.lensDefer (s : State) (page off : Nat) : State :=
  s.modLens fun l => { l with due := l.due ++ (fieldsAt page off).map fun f => (s.ticks, f.key, s.get f) }

def State.nChan (s : State) : Nat := if s.is7680 then 23 else 8

/-- The channel is present and on. -/
def State.chanOn (s : State) (c : Nat) : Bool := decide (c < s.nChan) && (s.lget F.LENS_CH_EN_EN).testBit c

/-- VC and IC of an outlet (Table 12.1). -/
def isControl (c : Nat) : Bool := decide (c < 16) && decide (2 ≤ c % 4)

/-- The clock of the channel's modulator is on. -/
def State.clockOn (s : State) (c : Nat) : Bool :=
  (s.lget F.LENS_CLK_CFG_MCLK_EN).testBit (if c < 16 then c / 4 else s.lget F.GRID_CFG_MCLK)

/-- The metrology die samples: it has started, and DORMANT has not been entered (R268). -/
def State.lensRuns (s : State) : Bool := s.lens.started && s.mode != .dormant

/-! ### Calibration (R270, R281, R282) -/

def State.calBad (s : State) : Bool := s.on F.LENS_STATUS_CAL_BAD

/-- The gain in force; 0 while CAL_BAD is set. -/
def State.calGain (s : State) (c : Nat) : F32 := if s.calBad then 0 else s.lget (F.LENS_CAL_GAIN_GAIN.nth c)

/-- The set in use as bytes: per channel GAIN, OFFSET and DELAY (log entry 29). -/
def State.calBytes (s : State) : List Nat :=
  ((List.range 23).map fun c => leBytes 4 (s.calGain c) ++ leBytes 4 (s.lget (F.LENS_CAL_OFFSET_CODE.nth c)) ++
    leBytes 4 (s.lget (F.LENS_CAL_DELAY_CLOCKS.nth c))).flatten

/-- UNCAL and CAL_CRC follow the set in use (R281). -/
def State.refreshCal (s : State) : State :=
  let uncal := !s.calBad && (List.range 23).any fun c => s.chanOn c && f32Zero? (s.calGain c)
  (s.setB F.LENS_STATUS_UNCAL uncal).set F.LENS_CAL_CRC_CRC (crc32 s.calBytes)

/-- x of a code (R270): mV or mA. A product that is not a number has no stated integer: a free value (log entry 1). -/
def State.lensX (s : State) (c : Nat) (code : Int) : Int :=
  let v := f32Mul (f32Sub (f32OfInt code) (f32OfInt (toSigned 32 (s.lget (F.LENS_CAL_OFFSET_CODE.nth c))))) (s.calGain c)
  if f32Nan? v then toSigned 32 (s.free % 2 ^ 32) else clampI (-2147483648) 2147483647 (f32RoundEven v)

/-- LENS_CAL_WRITE (R282): GAIN, OFFSET or DELAY of a channel, in SEALED_SERVICE only. -/
def execLensCalWrite (c : Fin 23) (reg : Fin 3) (value : Word) (s : State) : Result :=
  let off := 0x200 + 16 * c.val + 4 * reg.val
  (s.hostWrites 0x23 off fun s =>
    if s.sealOpen && s.mode != .sealedService then s.err E.LENS_NOT_SERVICE 0 [off]
    else s.guarded true 0x23 off none id fun s =>
      let s := match reg.val with
        | 0 => s.set (F.LENS_CAL_GAIN_GAIN.nth c) value.toNat
        | 1 => s.set (F.LENS_CAL_OFFSET_CODE.nth c) value.toNat
        | _ => s.set (F.LENS_CAL_DELAY_CLOCKS.nth c) value.toNat
      let s := (s.inc F.LENS_CAL_SEQ_COUNT).lensDefer 0x23 off
      let s := s.modLens fun l => { l with calDone := setBitOf l.calDone c true }
      let s := s.when (s.calBad && (List.range s.nChan).all fun k => s.lens.calDone.testBit k) fun s =>
        (s.setB F.LENS_STATUS_CAL_BAD false).tamperEnd 11
      some (s.lensEv5 E.LENS_CAL_WRITTEN [c, reg, s.get F.LENS_CAL_SEQ_COUNT])).finish

/-! ### Losses of channels (R278, R289) -/

def lossReg : Nat → Field
  | 0 => F.LENS_CH_LOST_LOST | 1 => F.LENS_CH_FROZEN_FROZEN | _ => F.LENS_CH_OVER_OVER

def State.lossOf (s : State) (k c : Nat) : ChanLoss := mget {} s.lens.loss (32 * k + c)
def State.setLoss (s : State) (k c : Nat) (l : ChanLoss) : State := s.modLens fun e => { e with loss := mput {} e.loss (32 * k + c) l }

/-- The channel is lost or frozen. -/
def State.chanBad (s : State) (c : Nat) : Bool := s.bit F.LENS_CH_LOST_LOST c || s.bit F.LENS_CH_FROZEN_FROZEN c

/-- METER_OK of the outlets follows VM and IM (R279). -/
def State.refreshMeter (s : State) : State :=
  s.each s.outlets fun n s =>
    let ok := !s.chanBad (4 * n) && !s.chanBad (4 * n + 1)
    (s.setB (F.LENS_MSTAT_METER_OK.nth n) ok).setBit F.LENS_STATUS_METER_OK n ok

/-- Channels lost or frozen now. -/
def State.badMask (s : State) : Nat := (s.get F.LENS_CH_LOST_LOST).lor (s.get F.LENS_CH_FROZEN_FROZEN)

/-- A condition begins, with its onset `ago` ms back. One that begins during VAULT has the supply as its cause (R289). -/
def State.lossBegin (s : State) (k c ago data : Nat) : State :=
  if (s.lossOf k c).present then s else
  let t := s.legalNs - ago * 1000000
  let s := (s.setBit (lossReg k) c true).setLoss k c
    { present := true, tick := s.ticks - ago * ticksMs, sec := t / 1000000000, ns := t % 1000000000, data := data, supply := s.mode == .vault }
  (s.modLens fun l => { l with badSeen := if k < 2 then setBitOf l.badSeen c true else l.badSeen }).refreshMeter

def lossEv : Nat → EvCode
  | 0 => E.LENS_CH_LOST | 1 => E.LENS_CH_FROZEN | _ => E.LENS_OVERRANGE

/-- The judgement of R289 on a metering or grid channel: supply, or tamper type 2 + k with the onset as its time. -/
def State.judgeLoss (s : State) (k c : Nat) (supply : Bool) : State :=
  let l := s.lossOf k c
  if !l.present || l.judged then s
  else if isControl c then s.setLoss k c { l with judged := true }
  else if supply then
    (s.setLoss k c { l with judged := true, supply := true }).when (k == 0) fun s => s.lensEv5 E.LENS_CH_LOST [c, 2, l.sec, l.ns]
  else
    (((s.setLoss k c { l with judged := true, tamper := true }).lensEv5 (lossEv k) [c, l.data, l.sec, l.ns]).setBit F.TAMPER_ACTIVE_TYPE (2 + k) true).tamperAt
      (2 + k) l.sec s.epoch

/-- At VAULT entry every loss not yet judged is put down to the supply. -/
def State.judgeSupply (s : State) : State :=
  s.each (List.range 3) fun k s => s.each (List.range 23) fun c s => s.judgeLoss k c true

/-- LENS_CH_LOST (R278): cause 0 clock, 1 data. -/
def execLensChLost (c : Fin 23) (data : Bool) (s : State) : Result :=
  (s.when (s.lensRuns && s.chanOn c) fun s => s.lossBegin 0 c 0 (if data then 1 else 0)).finish

/-- LENS_CH_FROZEN (R278, R291): the onset is the first frozen sample. -/
def execLensChFrozen (c : Fin 23) (s : State) : Result :=
  (s.when (s.lensRuns && s.chanOn c && !(s.lossOf 1 c).present) fun s =>
    let ago := s.lget F.LENS_FREEZE_MS
    let s := s.lossBegin 1 c ago (ofSigned 32 (mget 0 s.lens.codes c))
    s.when (!isControl c && s.mode != .vault) fun s => s.modLens fun l => { l with froz := l.froz ++ [(c.val, s.ticks - ago * ticksMs)] }).finish

/-- LENS_LOSS_JUDGED (R289). -/
def execLensLossJudged (c : Fin 23) (kind : Fin 3) (s : State) : Result := (s.judgeLoss kind c (s.mode == .vault || (s.lossOf kind c).supply)).finish

/-- The data of a control channel are back (R184, log entry 102). -/
def State.fbBack (s : State) (c kind : Nat) : State :=
  s.when (kind == 0 && isControl c) fun s => s.modOut (c / 4) fun o => { o with fbLive := setBitOf o.fbLive (c % 4 - 2) false }

/-- LENS_CH_RESTORED (R278): the flag clears, and the tamper episode ends with its last channel. -/
def execLensChRestored (c : Fin 23) (kind : Fin 3) (s : State) : Result :=
  let l := s.lossOf kind c
  ((s.fbBack c kind).when l.present fun s =>
    let s := ((s.setBit (lossReg kind) c false).setLoss kind c {}).ev E.LENS_CH_RESTORED 0 [c, s.since l.tick / ticksMs]
    let s := s.when (l.tamper && !(List.range 23).any fun d => (s.lossOf kind d).tamper) fun s => s.tamperEnd (2 + kind)
    s.refreshMeter).finish

/-! ### Samples (R269 to R273, R276, R286) -/

/-- The signed code of a channel (R269): a metering or grid raw value, or the last of a control channel's four. -/
def codeOf (raw ctl : List Nat) (c : Nat) : Int :=
  if isControl c then ((min (ctl.getD ((2 * (c / 4) + c % 4 - 2) * 4 + 3) 131072) 262144 : Nat) - 131072 : Int) * 64
  else (min (raw.getD c 8388608) 16777216 : Nat) - 8388608

/-- Code of control sample `i` of a metering period. -/
def ctlCode (ctl : List Nat) (c i : Nat) : Int :=
  ((min (ctl.getD ((2 * (c / 4) + c % 4 - 2) * 4 + i) 131072) 262144 : Nat) - 131072 : Int) * 64

/-- One sample of an outlet's four channels into its sums. -/
def OutAcc.add (a : OutAcc) (vm im vc ic : Int) : OutAcc :=
  { svM := a.svM + vm, svC := a.svC + vc, siM := a.siM + im, siC := a.siC + ic,
    spMM := a.spMM + vm * im, spMC := a.spMC + vm * ic, spCM := a.spCM + vc * im, spCC := a.spCC + vc * ic }

/-- Overrange after three consecutive codes beyond OVR_LIM (R278). -/
def State.overCheck (s : State) (c : Nat) (code : Int) : State :=
  let run := if code.natAbs > s.lget F.LENS_OVR_LIM_LIM * 128 then mget 0 s.lens.overRun c + 1 else 0
  let s := s.modLens fun l => { l with overRun := mput 0 l.overRun c (min run 3), codes := mput 0 l.codes c code }
  s.when (decide (3 ≤ run)) fun s => s.lossBegin 2 c 0 (ofSigned 32 code)

def State.gridOn (s : State) : Bool := s.is7680 && s.lget F.GRID_CFG_EN != 0
def State.threeWire (s : State) : Bool := s.lget F.GRID_CFG_WIRING == 1

/-- Instantaneous grid power of the seven values V1 V2 V3 I1 I2 I3 IN (R276). -/
def State.gridPower (s : State) (x : List Int) : Int :=
  let g := fun i => x.getD i 0
  if s.threeWire then g 0 * g 3 + g 1 * g 5 else g 0 * g 3 + g 1 * g 4 + g 2 * g 5

/-- The grid window takes a sample; a positive-going zero crossing of the reference is placed by interpolation (R277). -/
def State.gridSample (s : State) (stamp : Int) (x : List Int) : State :=
  let ref := s.get F.GRID_REF_PHASE
  s.modLens fun l =>
    let g := l.grid
    let v := x.getD (ref - 1) 0
    let cross := match g.prev with
      | some (t0, v0) => if ref ≠ 0 ∧ v0 < 0 ∧ 0 ≤ v then (t0 + (stamp - t0) * (-v0) / (v - v0)) :: g.cross else g.cross
      | none => g.cross
    { l with grid := { g with win := (stamp, x) :: g.win, prev := some (stamp, v), cross := cross } }

/-- Samples of a lane's channel in one metering period: one, or four of a control channel. -/
def laneWords (xs : List Int) (c : Nat) (four : List Int) : List Nat :=
  (if isControl c then four else [xs.getD c 0]).map (ofSigned 32)

/-- The last of a lane's words, and whether one of them crosses `level` upward. -/
def crossUp (level : Int) : Option Int → List Int → Option Int × Bool
  | prev, [] => (prev, false)
  | prev, x :: t =>
    let (last, more) := crossUp level (some x) t
    (last, more || (match prev with | some a => decide (a < level) && decide (level ≤ x) | none => false))

def laneSel (s : State) (l : Nat) : Nat :=
  match l with
  | 0 => s.get F.LENS_CAP_SEL_LANE0 | 1 => s.get F.LENS_CAP_SEL_LANE1 | 2 => s.get F.LENS_CAP_SEL_LANE2 | _ => s.get F.LENS_CAP_SEL_LANE3

/-- Metering periods a lane still fills after the trigger (R287). -/
def State.capPost (s : State) : Nat := 78125 * (100 - min 100 (s.get F.LENS_CAP_CFG_PRE_PCT)) / 100

/-- The capture lanes take a metering period's samples over the control–metrology link, as rings of one second (R286, R287). -/
def State.capSample (s : State) (stamp : Int) (xs codes : List Int) (ctlX ctlC : Nat → List Int) : State :=
  let cap := s.lens.cap
  let full := match cap.trig with | some t => decide (t + s.capPost ≤ cap.total) | none => false
  if !s.on F.LENS_CAP_STAT_FILLING || full || s.sys.metLost then s else
  let raw := s.on F.LENS_CAP_CFG_RAW
  let pos := cap.total % 78125
  let words := fun c => if 23 ≤ c then [] else laneWords (if raw then codes else xs) c (if raw then ctlC c else ctlX c)
  let s := s.each (List.range 4) fun l s =>
    let w := words (laneSel s l)
    s.wrBytes (tbl 13 (l * 0x140000 + 4 * pos * w.length)) (w.map (leBytes 4)).flatten
  let (last, crossed) := crossUp (s.getI F.LENS_CAP_LEVEL_X) cap.last ((words (laneSel s 0)).map (toSigned 32))
  s.modLens fun e => { e with cap := { e.cap with total := cap.total + 1, last := last, crossed := crossed, stamp := stamp } }

/-- One metering sample instant (R273): the raw values of the 23 channels, and the four raw values each of the eight control
channels whose last coincides with it. A channel that is off or has no clock gives 0. -/
def State.lensSample (s : State) (raw ctl : List Nat) : State :=
  let live := fun c => s.chanOn c && s.clockOn c
  let codes := (List.range 23).map fun c => if live c then codeOf raw ctl c else 0
  let xs := (List.range 23).map fun c => if live c then s.lensX c (codes.getD c 0) else 0
  let ctlC := fun c => (List.range 4).map fun i => if live c then ctlCode ctl c i else 0
  let ctlX := fun c => (List.range 4).map fun i => if live c then s.lensX c (ctlCode ctl c i) else 0
  let stamp : Int := (s.legalNs : Int) - 19125
  let g := fun c => xs.getD c 0
  let s := s.freeNext
  let s := s.modLens fun l => { l with
    ns := l.ns + 1,
    accs := s.outlets.foldl (fun m n => mput {} m n ((mget {} m n).add (g (4 * n)) (g (4 * n + 1)) (g (4 * n + 2)) (g (4 * n + 3)))) l.accs,
    blk := s.outlets.foldl (fun m n => let b := mget {} m n; mput {} m n { sv := b.sv + g (4 * n), si := b.si + g (4 * n + 1), ns := b.ns + 1 }) l.blk }
  let s := s.when s.gridOn fun s =>
    (s.modLens fun l => { l with spG := l.spG + s.gridPower (xs.drop 16) }).gridSample stamp (xs.drop 16)
  let s := s.each ((List.range 23).filter live) fun c s => s.overCheck c (codes.getD c 0)
  s.capSample stamp xs codes ctlX ctlC

/-- LENS_SAMPLE (R273). -/
def execLensSample (raw ctl : List Nat) (s : State) : Result := (s.when s.lensRuns fun s => s.lensSample raw ctl).finish

/-- The means of a block; an outlet without samples keeps its last (R271). -/
def State.sendBlock (s : State) : State :=
  let l := s.lens
  let mean := fun (f : BlkAcc → Int) (m : FMap Int) => s.outlets.foldl (fun a n =>
    let b := mget {} l.blk n
    if b.ns = 0 then a else mput 0 a n (Int.tdiv (f b) b.ns)) m
  s.modLens fun l => { l with blk := [], blkV := mean BlkAcc.sv l.blkV, blkI := mean BlkAcc.si l.blkI }

/-- LENS_BLOCK_SEND (R271): the block means of VM and IM reach the control die. -/
def execLensBlockSend (s : State) : Result :=
  (s.when (s.lensRuns && !s.sys.metLost) State.sendBlock).finish

/-! ### The metrology cycle (R272 to R274, R279, R291) -/

/-- An outlet's result with the channels of `bad` out: mode 0 nothing, 1 booked, 2 unverified; sums of voltage, current and
power (R279). -/
def outRes (a : OutAcc) (bad n : Nat) : Nat × Int × Int × Int :=
  let vm := !bad.testBit (4 * n)
  let im := !bad.testBit (4 * n + 1)
  let vc := !bad.testBit (4 * n + 2)
  let ic := !bad.testBit (4 * n + 3)
  if vm && im then (1, a.svM, a.siM, a.spMM)
  else if !(vm || vc) || !(im || ic) then (0, 0, 0, 0)
  else (2, if vm then a.svM else a.svC, if im then a.siM else a.siC,
    if vm then a.spMC else if im then a.spCM else a.spCC)

/-- A metering loss of outlet `n` that the supply explains: nothing is booked (R289). -/
def State.supplyLoss (s : State) (n : Nat) : Bool :=
  [4 * n, 4 * n + 1].any fun c => [0, 1].any fun k =>
    let l := s.lossOf k c
    l.present && (l.supply || (s.mode == .vault && !l.judged))

def State.ptKind (s : State) (m : Nat) : Nat := s.lget (F.LENS_MP_CFG_KIND.nth (m - 5))
/-- Outlets in the MASK of point `m`. -/
def State.ptOuts (s : State) (m : Nat) : List Nat := s.outlets.filter fun n => (s.lget (F.LENS_MP_CFG_MASK.nth (m - 5))).testBit n

/-- The points of the variant and configuration (Table 12.3). -/
def State.points (s : State) : List Nat :=
  s.outlets ++ (if s.gridOn then [4] else []) ++
    (List.range 11).filterMap fun i => if s.ptKind (5 + i) = 1 ∨ (s.ptKind (5 + i) = 2 ∧ s.gridOn) then some (5 + i) else none

/-- Grid channels the wiring uses (R275). -/
def State.gridChans (s : State) : List Nat := if s.threeWire then [16, 17, 19, 21] else [16, 17, 18, 19, 20, 21, 22]

/-- The result of point `p` from the outlets' results and the grid's power. -/
def State.ptRes (s : State) (p : Nat) (res : Nat → Nat × Int × Int × Int) (gridOk : Bool) (spG : Int) : PtRes :=
  if p < 4 then let (m, _, si, sp) := res p; ⟨p, m, sp, si⟩
  else if p = 4 then ⟨4, if gridOk then 1 else 0, if gridOk then spG else 0, 0⟩
  else
    let outs := (s.ptOuts p).map res
    let mode := if outs.any fun o => o.1 == 0 then 0 else if outs.any fun o => o.1 == 2 then 2 else 1
    let sp := (outs.map fun o => o.2.2.2).foldl (· + ·) 0
    let si := (outs.map fun o => o.2.2.1).foldl (· + ·) 0
    if s.ptKind p = 1 then ⟨p, mode, sp, si⟩
    else ⟨p, if gridOk then mode else 0, spG - sp, 0⟩

/-- R291: a cycle of the history is booked again without channel `c`: the points concerned and their unverified units. A grid
channel concerns point 4 and the points of kind 2. -/
def State.rebookCycle (s : State) (c : Nat) (r : CycRec) : CycRec × List (Nat × Nat × Nat) :=
  if r.bad.testBit c then (r, []) else
  let bad := setBitOf r.bad c true
  let res := fun n => outRes (mget {} r.accs n) bad n
  let pts := s.points.filter fun p =>
    if 16 ≤ c then s.gridChans.contains c && (p == 4 || (decide (5 ≤ p) && s.ptKind p == 2))
    else p == c / 4 || (decide (5 ≤ p) && (s.ptOuts p).contains (c / 4))
  ({ r with bad := bad }, pts.map fun p =>
    let x := s.ptRes p res (s.gridChans.all fun g => !bad.testBit g) r.spG
    (r.seq, p, if x.mode = 2 then x.sp.natAbs else 0))

/-- All cycles after an onset. -/
def State.rebookSince (s : State) (c tick : Nat) : List CycRec → List CycRec × List (Nat × Nat × Nat)
  | [] => ([], [])
  | r :: t =>
    if r.endTick ≤ tick then (r :: t, [])
    else
      let (r', l) := s.rebookCycle c r
      let (t', l') := s.rebookSince c tick t
      (r' :: t', l ++ l')

/-- The points' means at the end of a cycle: VM, IM, PM, MSTAT and PT_W (R273). -/
def State.showCycle (s : State) (res : Nat → Nat × Int × Int × Int) (pts : List PtRes) (ns : Nat) : State :=
  let s := s.when (decide (ns ≠ 0)) fun s =>
    (s.each s.outlets fun n s =>
      let (m, sv, si, sp) := res n
      if m = 0 then s else
      (((s.setI (F.LENS_VM_MV.nth n) (Int.tdiv sv ns)).setI (F.LENS_IM_MA.nth n) (Int.tdiv si ns)).setI (F.LENS_PM_W.nth n)
        (Int.tdiv (Int.tdiv sp ns) 1000000))).each pts fun r s => s.setI (F.LENS_PT_W_W.nth r.point) (Int.tdiv (Int.tdiv r.sp ns) 1000000)
  s.each s.outlets fun n s =>
    let (m, _, _, sp) := res n
    (s.setB (F.LENS_MSTAT_UNVERIFIED.nth n) (m == 2)).setB (F.LENS_MSTAT_EXPORT.nth n) (m == 1 && decide (sp < 0))

/-- The control die takes the points' mean powers of a cycle for the means of its epoch (R125, R126). -/
def State.noteMeans (s : State) (pts : List Nat) : State :=
  if s.sys.metLost then s else
  { s with tree := { s.tree with
      pSum := pts.foldl (fun m p => mput 0 m p (mget 0 m p + s.getI (F.LENS_PT_W_W.nth p))) s.tree.pSum, pCnt := s.tree.pCnt + 1 } }

/-- The energy or charge that pulse output `k` counts in a cycle, units of R273. -/
def State.pulseUnits (s : State) (k : Nat) (pts : List PtRes) : Nat :=
  match pts.find? fun r => r.point == s.lget (F.PULSE_CFG_POINT.nth k) with
  | none => 0
  | some r =>
    let exp := s.lget (F.PULSE_CFG_EXPORT.nth k) != 0
    if r.mode ≠ 1 || exp != decide (r.sp < 0) then 0
    else
      let v := if s.lget (F.PULSE_CFG_AH.nth k) != 0 then r.si else r.sp
      (if exp then -v else v).toNat

/-- Units per pulse. -/
def State.pulseConst (s : State) (k : Nat) : Nat :=
  s.lget (F.PULSE_CONST_UNITS.nth k) * (if s.lget (F.PULSE_CFG_AH.nth k) != 0 then 281250 else 281250000)

/-- The loop of R283: at most `room` pulses are queued; residue and due times in µs. -/
def pulseLoop (c tEnd : Nat) : Nat → Nat → Nat → Nat → Nat × List Nat
  | 0, a, e, _ => (a + e, [])
  | room + 1, a, e, ts =>
    if c = 0 ∨ e = 0 ∨ a + e < c then (a + e, [])
    else
      let d := (ts + (c - a) * (tEnd - ts) / e) / 1000 * 1000
      let (a', l) := pulseLoop c tEnd room 0 (e - (c - a)) d
      (a', d / 1000 :: l)

def State.pulseOf (s : State) (k : Nat) : PulseState := mget {} s.lens.pulses k
def State.setPulse (s : State) (k : Nat) (p : PulseState) : State :=
  (s.modLens fun l => { l with pulses := mput {} l.pulses k p }).set (F.PULSE_STAT_PENDING.nth k) p.due.length

/-- RES_UWH shows the residue (R283). -/
def State.showResidue (s : State) (k : Nat) : State :=
  s.set (F.PULSE_RES_UWH_UNITS.nth k) ((s.pulseOf k).acc / (if s.lget (F.PULSE_CFG_AH.nth k) != 0 then 281250 else 281250000))

/-- The pulse outputs take a cycle running from `t0` to `t1` (R283, R284). -/
def State.pulseFeed (s : State) (pts : List PtRes) (t0 t1 : Nat) : State :=
  s.each (List.range 8) fun k s =>
    let e := s.pulseUnits k pts
    if s.lget (F.PULSE_CFG_EN.nth k) = 0 || e = 0 then s else
    let p := s.pulseOf k
    let c := s.pulseConst k
    let (a, l) := pulseLoop c t1 (min (65535 - p.due.length) ((p.acc + e) / max c 1)) p.acc e t0
    let s := (s.setPulse k { p with acc := a, due := p.due ++ l }).showResidue k
    s.when (s.get (F.PULSE_STAT_PENDING.nth k) == 0xFFFF && !s.on (F.PULSE_STAT_OVERFLOW.nth k)) fun s =>
      (s.setB (F.PULSE_STAT_OVERFLOW.nth k) true).ev E.PULSE_OVERFLOW 0 [k]

/-- POUTk takes its level. -/
def State.pulseBall (s : State) (k : Nat) (active : Bool) : State :=
  (s.setB (F.PULSE_STAT_ACTIVE.nth k) active).emit (.pulse k (active != (s.lget (F.PULSE_CFG_POLARITY.nth k) != 0)))

/-- Configuration written before this boundary comes into force (R282, R290); a ball whose POLARITY changes follows it, and
RES_UWH shows each residue in its unit. -/
def State.applyDue (s : State) : State :=
  let now := s.lens.due.filter fun d => decide (d.1 < s.ticks)
  if now.isEmpty then s else
  let pol := fun (s : State) k => s.lget (F.PULSE_CFG_POLARITY.nth k)
  let old := (List.range 8).map (pol s)
  let s := (s.modLens fun l => { l with
    due := l.due.filter fun d => !decide (d.1 < s.ticks),
    force := now.foldl (fun m d => mins d.2.1 d.2.2 m) l.force }).refreshCal
  (s.each ((List.range 8).filter fun k => pol s k != old.getD k 0) fun k s => s.pulseBall k (s.on (F.PULSE_STAT_ACTIVE.nth k))).each
    (List.range 8) fun k s => s.showResidue k

/-- A cycle's charge through the cables is added to the lifetime counters, in whole Ah (Table 18.1). -/
def State.lifeCharge (s : State) (res : Nat → Nat × Int × Int × Int) : State :=
  s.each s.outlets fun n s =>
    let q := mget 0 s.life.charge n + (res n).2.2.1.natAbs
    let s := s.when (decide (281250000000 ≤ q)) fun s => s.lifeStore (64 + 16 * n + 2) (q / 281250000000)
    { s with life := { s.life with charge := mput 0 s.life.charge n (q % 281250000000) } }

/-- The cycle in progress ends now: what the Lens hands the billing engine, with the stamp `sec`, `ns`, `ep` of its end. -/
def State.closeCycle (s : State) (sec ns ep : Nat) (step : Option (Nat × Nat)) (vault : Bool) : State × CycleRes :=
  let l := s.lens
  let bad := l.badSeen.lor s.badMask
  let res := fun n => if s.supplyLoss n then (0, 0, 0, 0) else outRes (mget {} l.accs n) bad n
  let gridOk := s.gridChans.all fun c => !bad.testBit c
  let pts := s.points.map fun p => s.ptRes p res gridOk l.spG
  let (hist, rebook) := l.froz.foldl (fun (h : List CycRec × List (Nat × Nat × Nat)) f =>
    let (h', r) := s.rebookSince f.1 f.2 h.1
    (h', h.2 ++ r)) (l.hist, [])
  let seq := s.bill.seq + 1
  let tEnd := sec * 1000000000 + ns
  let r : CycleRes := ⟨seq, sec, ns, ep, pts, rebook, s.bill.reqs, step, vault⟩
  let s := (s.showCycle res pts l.ns).lifeCharge res
  let s := s.noteMeans (pts.map fun r => r.point)
  let s := { s with bill := { s.bill with seq := seq, reqs := [] } }
  let s := (s.pulseFeed pts l.startNs tEnd).inc F.LENS_CYCLE_COUNT
  let s := s.modLens fun l => { l with
    ns := 0, accs := [], spG := 0, badSeen := s.badMask, froz := [],
    startNs := (match step with | some (t, _) => t * 1000000000 | none => tEnd),
    hist := ({ seq := seq, endTick := s.ticks, bad := bad, accs := l.accs, spG := l.spG } :: hist).take 260 }
  (s.applyDue, r)

/-! ### Pulse outputs (R284, R285) -/

/-- PULSE_START (R284): the oldest queued pulse leaves; during VAULT and in DORMANT it waits. -/
def execPulseStart (k : Fin 8) (s : State) : Result :=
  let p := s.pulseOf k
  (match p.due with
   | [] => s
   | _ :: t =>
     s.when (decide (p.phase = 0) && s.lget (F.PULSE_CFG_EN.nth k) != 0 && s.mode != Mode.vault && s.mode != Mode.dormant && s.lens.started) fun s =>
       (((s.setPulse k { p with due := t, phase := 1 }).inc (F.PULSE_COUNT_COUNT.nth k)).pulseBall k true)).finish

/-- PULSE_END (R284): the width ends and the gap begins, or the gap ends and the output is free. -/
def execPulseEnd (k : Fin 8) (s : State) : Result :=
  let p := s.pulseOf k
  (if p.phase = 1 then (s.setPulse k { p with phase := 2 }).pulseBall k false
   else s.setPulse k { p with phase := 0 }).finish

/-- PULSE_CFG_WRITE (R285): register 0 CFG, 1 CONST, 2 TIMING of output `k`. -/
def execPulseCfgWrite (k : Fin 8) (reg : Fin 3) (value : Word) (s : State) : Result :=
  let off := 0x040 + 32 * k.val + 4 * reg.val
  (s.hostWrites 0x41 off fun s =>
    s.guarded true 0x41 off none (fun s => s.err E.PULSE_BAD_CFG 0 [k, off]) fun s =>
      if reg.val = 2 ∧ (bits value.toNat 31 16 = 0 ∨ bits value.toNat 15 0 = 0) then none
      else some ((s.setWord 0x41 off 0xFFFFFFFF value.toNat fun a => a == .rws).lensDefer 0x41 off)).finish

/-! ### The grid port (R277, Table 12.4) -/

def chSum (w : List (Int × List Int)) (f : List Int → Int) : Int := (w.map fun x => f x.2).foldl (· + ·) 0

/-- RMS of channel `i` over a window. -/
def gridRms (w : List (Int × List Int)) (i : Nat) : Nat :=
  if w.length = 0 then 0 else isqrt ((chSum w fun x => x.getD i 0 * x.getD i 0).toNat / w.length)

/-- Active power of a pair, µW. -/
def gridP (w : List (Int × List Int)) (v i : Nat) : Int :=
  if w.length = 0 then 0 else Int.tdiv (chSum w fun x => x.getD v 0 * x.getD i 0) w.length

/-- The argument of a channel's fundamental phasor; the window makes `n` periods in `len` ns (R277). -/
def gridArg (w : List (Int × List Int)) (n len i : Nat) : Int :=
  let re := (w.map fun x => x.2.getD i 0 * Config.cosTurn (-(n : Int) * x.1) len).foldl (· + ·) 0
  let im := (w.map fun x => x.2.getD i 0 * Config.sinTurn (-(n : Int) * x.1) len).foldl (· + ·) 0
  Config.argCenti re im

/-- An angle in 0.01° brought into −180° to +180°. -/
def wrapAngle (a : Int) : Int := let r := a % 36000; if r > 18000 then r - 36000 else r

/-- sign(φ) × sqrt(max(S² − P², 0)). -/
def gridQ (phi p : Int) (sApp : Nat) : Int :=
  let m : Int := isqrt ((sApp : Int) * sApp - p * p).toNat
  if phi < 0 then -m else if phi = 0 then 0 else m

/-- P / S in 2^−15, 0 when S is 0, held below 1 (log entry 28). -/
def gridPf (p : Int) (sApp : Nat) : Int := if sApp = 0 then 0 else clampI (-32768) 32767 (Int.tdiv (p * 32768) sApp)

/-- The first of the voltages whose RMS was at least 10 % of the highest. -/
def gridRefOf (rms : List Nat) : Nat :=
  let top := rms.foldl max 0
  ((List.range rms.length).find? fun i => decide (top ≤ 10 * rms.getD i 0)).getD 0 + 1

/-- All quantities of one window are written; COUNT last. -/
def State.gridWrite (s : State) (w : List (Int × List Int)) (n len fmhz : Nat) (valid : Bool) : State :=
  let three := s.threeWire
  let s := s.each (List.range 3) fun k s => s.set (F.GRID_VRMS_MV.nth k) (if three && k == 2 then 0 else gridRms w k)
  let s := s.each (List.range 4) fun k s => s.set (F.GRID_IRMS_MA.nth k) (if three && (k == 1 || k == 3) then 0 else gridRms w (3 + k))
  let arg := fun i => gridArg w n len i
  let phi := fun v i => wrapAngle (arg v - arg i)
  let sk := fun v i => gridRms w v * gridRms w i
  let s := if three then
      let p := gridP w 0 3 + gridP w 1 5
      let sT := isqrt (3 * ((gridRms w 0 + gridRms w 1) * (gridRms w 3 + gridRms w 5)) ^ 2) / 4
      let s := s.each (List.range 3) fun k s => (s.setI (F.GRID_P_W.nth k) 0).setI (F.GRID_Q_VAR.nth k) 0
      let s := ((s.setI F.GRID_PF12_PF1 0).setI F.GRID_PF12_PF2 0).setI F.GRID_PF3T_PF3 0
      let s := ((s.setI F.GRID_ANG_I12_I1 0).setI F.GRID_ANG_I12_I2 0).setI F.GRID_ANG_I3_I3 0
      (((s.setI F.GRID_P_TOTAL_W (Int.tdiv p 1000000)).setI F.GRID_Q_TOTAL_VAR (Int.tdiv (gridQ (phi 0 3 + phi 1 5) p sT) 1000000)).set
        F.GRID_S_TOTAL_VA (sT / 1000000)).setI F.GRID_PF3T_TOTAL (gridPf p sT)
    else
      let ps := [gridP w 0 3, gridP w 1 4, gridP w 2 5]
      let ss := [sk 0 3, sk 1 4, sk 2 5]
      let ph := [phi 0 3, phi 1 4, phi 2 5]
      let qs := (List.range 3).map fun k => gridQ (ph.getD k 0) (ps.getD k 0) (ss.getD k 0)
      let s := s.each (List.range 3) fun k s => (s.setI (F.GRID_P_W.nth k) (Int.tdiv (ps.getD k 0) 1000000)).setI (F.GRID_Q_VAR.nth k) (Int.tdiv (qs.getD k 0) 1000000)
      let s := ((s.setI F.GRID_PF12_PF1 (gridPf (ps.getD 0 0) (ss.getD 0 0))).setI F.GRID_PF12_PF2 (gridPf (ps.getD 1 0) (ss.getD 1 0))).setI
        F.GRID_PF3T_PF3 (gridPf (ps.getD 2 0) (ss.getD 2 0))
      let s := ((s.setI F.GRID_ANG_I12_I1 (ph.getD 0 0)).setI F.GRID_ANG_I12_I2 (ph.getD 1 0)).setI F.GRID_ANG_I3_I3 (ph.getD 2 0)
      let p := ps.foldl (· + ·) 0
      let sT := ss.sum
      (((s.setI F.GRID_P_TOTAL_W (Int.tdiv p 1000000)).setI F.GRID_Q_TOTAL_VAR (Int.tdiv (qs.foldl (· + ·) 0) 1000000)).set
        F.GRID_S_TOTAL_VA (sT / 1000000)).setI F.GRID_PF3T_TOTAL (gridPf p sT)
  let s := (s.setI F.GRID_ANG_V_V2 (wrapAngle (arg 1 - arg 0))).setI F.GRID_ANG_V_V3 (if three then 0 else wrapAngle (arg 2 - arg 0))
  let old := s.get F.GRID_REF_PHASE
  let ref := gridRefOf ((List.range (if three then 2 else 3)).map fun k => gridRms w k)
  let s := s.when (decide (old ≠ ref)) fun s =>
    ((s.set F.GRID_REF_PHASE ref).ev E.GRID_REF_CHANGED 0 [old, ref]).modLens fun l => { l with grid := { l.grid with cross := [], prev := none } }
  ((s.set F.GRID_FREQ_MHZ fmhz).setB F.GRID_WIN_STAT_VALID valid).inc F.GRID_WIN_STAT_COUNT

/-- The frequency is lost (R277). -/
def State.gridLost (s : State) : State :=
  if s.lens.grid.lost then s else
  ((((s.ev E.GRID_FREQ_LOST 0 [s.get F.GRID_FREQ_MHZ]).set F.GRID_FREQ_MHZ 0).setB F.GRID_WIN_STAT_VALID false).modLens fun l =>
    { l with grid := { l.grid with lost := true } })

/-- GRID_FREQ_LOST (R277): no crossing for 25 ms. -/
def execGridFreqLost (s : State) : Result :=
  (s.when (s.lensRuns && s.gridOn) fun s => s.gridLost.modLens fun l => { l with grid := { l.grid with cross := [] } }).finish

/-- A window closes: by NPER crossings where they are there, else at the nominal length, while the samples since the first
crossing found are kept for the window that the crossings will close (R277). -/
def State.gridWindow (s : State) : State :=
  let g := s.lens.grid
  let n := max 1 (s.lget F.GRID_CFG_NPER)
  let fnom := if s.lget F.GRID_CFG_NOM_60 != 0 then 60 else 50
  match g.cross, g.cross[n]? with
  | t1 :: _, some t0 =>
    let len := (t1 - t0).toNat
    let f := n * 1000000000000 / max len 1
    let w := g.win.filter fun x => decide (t0 ≤ x.1) && decide (x.1 < t1)
    let rest := g.win.filter fun x => decide (t1 ≤ x.1)
    let s := s.modLens fun l => { l with grid := { l.grid with win := rest, cross := [t1] } }
    if 40000 ≤ f ∧ f ≤ 70000 then
      let s := s.when (g.lost || s.get F.GRID_FREQ_MHZ == 0) fun s =>
        (s.ev E.GRID_FREQ_OK 0 [f]).modLens fun l => { l with grid := { l.grid with lost := false } }
      s.gridWrite w n (max len 1) f true
    else s.gridLost.gridWrite w n (n * 1000000000 / fnom) 0 false
  | _, _ =>
    if g.lost ∨ s.get F.GRID_REF_PHASE = 0 then
      let keep := match g.cross.getLast? with
        | some t => g.win.filter fun x => decide (t ≤ x.1)
        | none => []
      let last := match g.win with
        | x :: _ => x.1 + 1
        | [] => g.nomFrom
      (s.modLens fun l => { l with grid := { l.grid with win := keep, nomFrom := last } }).gridWrite
        (g.win.filter fun x => decide (g.nomFrom ≤ x.1)) n (n * 1000000000 / fnom) 0 false
    else s

/-- GRID_WINDOW_END (R277). -/
def execGridWindowEnd (s : State) : Result := (s.when (s.lensRuns && s.gridOn) State.gridWindow).finish

/-! ### The capture buffer (R287) -/

/-- Table 13 is cleared and the lanes begin to fill. -/
def State.capArm (s : State) : State :=
  let s := { s with mem := s.mem.filter fun c => !(decide (tbl 13 0 ≤ c.1) && decide (c.1 < tbl 14 0)) }
  (((s.setB F.LENS_CAP_STAT_FILLING true).setB F.LENS_CAP_STAT_DONE false).setB F.LENS_CAP_STAT_SHORT false).modLens fun l => { l with cap := {} }

/-- The trigger: its stamp, and SHORT when the lanes have not yet filled for PRE_PCT %. -/
def State.capTrigger (s : State) : State :=
  let c := s.lens.cap
  if !s.on F.LENS_CAP_STAT_FILLING || c.trig.isSome then s else
  let t := c.stamp.toNat
  let s := (((s.set F.LENS_CAP_T0_NS_NS (t % 1000000000)).set F.LENS_CAP_T0_SEC_LO_SEC (t / 1000000000)).set F.LENS_CAP_T0_SEC_HI_SEC (t / 1000000000 / 2 ^ 32)).set
    F.LENS_CAP_T0_SEC_HI_EPOCH s.epoch
  (s.setB F.LENS_CAP_STAT_SHORT (decide (c.total < 78125 - s.capPost))).modLens fun l => { l with cap := { c with trig := some c.total } }

/-- A write to CAP_CFG under a mask: its fields, then ARM, then FIRE with trigger 0. -/
def State.capCfgWrite (s : State) (mask v : Nat) : State :=
  let s := s.setWord 0x23 0x180 mask v fun a => a == .rw
  let s := s.when ((mask.land v).testBit 0) State.capArm
  s.when ((mask.land v).testBit 1 && s.get F.LENS_CAP_CFG_TRIG == 0) State.capTrigger

/-- CAP_ARM (R287). -/
def execCapArm (value : Word) (s : State) : Result :=
  (s.hostWrites 0x23 0x180 fun s => s.capCfgWrite 0xFFFFFFFF (setBitOf value.toNat 0 true)).finish

/-- CAP_FIRE (R287): a write with FIRE set. -/
def execCapFire (value : Word) (s : State) : Result :=
  (s.hostWrites 0x23 0x180 fun s => s.capCfgWrite 0xFFFFFFFF (setBitOf value.toNat 1 true)).finish

/-- The condition of triggers 1 to 3: the time, lane 0 at its last sample, a Lens event of severity 5 since ARM. -/
def State.capDue (s : State) : Bool :=
  match s.get F.LENS_CAP_CFG_TRIG with
  | 0 => false
  | 1 => decide ((s.get F.LENS_CAP_TRIG_SEC_HI_SEC * 2 ^ 32 + s.get F.LENS_CAP_TRIG_SEC_LO_SEC) * 1000000000 + s.get F.LENS_CAP_TRIG_NS_NS ≤ s.legalNs)
  | 2 => s.lens.cap.crossed
  | _ => s.lens.cap.sev5

/-- CAP_TRIGGER (R287). -/
def execCapTrigger (s : State) : Result := (s.when s.capDue State.capTrigger).finish

/-- CAP_DONE (R287): the lanes have filled the share after the trigger. -/
def execCapDone (s : State) : Result :=
  let c := s.lens.cap
  (match c.trig with
   | none => s
   | some t =>
     s.when (s.on F.LENS_CAP_STAT_FILLING && decide (t + s.capPost ≤ c.total)) fun s =>
       let start := c.total % 78125 * (if isControl (laneSel s 0) then 4 else 1)
       (((s.setB F.LENS_CAP_STAT_FILLING false).setB F.LENS_CAP_STAT_DONE true).set F.LENS_CAP_STAT_START start).ev E.LENS_CAP_DONE 0
         [s.get F.LENS_CAP_CFG_TRIG]).finish

end Sys2Proof.Machine
end

