-- ==== Sys2Proof/Machine/Billing.lean ====
section
/-! DEFINITION. The billing engine (chapter 13): booking of cycles, demand, boundaries, power cuts, sessions and signed
readings, and the tamper inputs. -/
namespace Sys2Proof.Machine

def State.modBill (s : State) (f : BillState → BillState) : State := { s with bill := f s.bill }

/-! ### Entries (R293 to R295) -/

def entKey (p t q : Nat) : Nat := (p * 16 + t) * 8 + q
def State.ent (s : State) (k : Nat) : BillEnt := mget {} s.bill.cur k
def State.setEnt (s : State) (k : Nat) (e : BillEnt) : State := s.modBill fun b => { b with cur := mput {} b.cur k e }

/-- The 48 bytes of an entry (Table 13.2). -/
def BillEnt.bytes (e : BillEnt) : List Nat :=
  let body := leBytes 8 (e.val / 2 ^ 32) ++ leBytes 4 e.val ++ leBytes 6 e.sec ++ leBytes 4 e.ns ++ leBytes 2 e.epoch ++
    leBytes 4 e.seq ++ leBytes 4 e.period ++ leBytes 4 e.flags ++ List.replicate 8 0
  body ++ leBytes 4 (crc32 body)

/-- The bytes of entry `i` of table 0, by point, tariff, quantity and logical period (R293); quantity 7 reads 0. -/
def State.billBytes (s : State) (i : Nat) : List Nat :=
  let k := i / 8
  if k % 8 = 7 then List.replicate 48 0
  else if i % 8 = 0 then (s.ent k).bytes
  else match s.bill.closed[i % 8 - 1]? with
    | some (blank, m) => (mget blank m k).bytes
    | none => ({} : BillEnt).bytes

/-- Tariffs in force, four bits a point. -/
def State.nowTariffs (s : State) : Nat := s.get F.TARIFF_NOW_HI_TARIFF * 2 ^ 32 + s.get F.TARIFF_NOW_LO_TARIFF
def State.setTariffs (s : State) (w : Nat) : State := (s.set F.TARIFF_NOW_LO_TARIFF w).set F.TARIFF_NOW_HI_TARIFF (w / 2 ^ 32)
def digit (w p : Nat) : Nat := w / 16 ^ p % 16

/-- Total of a quantity of a point over all tariffs, 2^−32 of the unit. -/
def State.total (s : State) (p q : Nat) : Nat := ((List.range 16).map fun t => (s.ent (entKey p t q)).val).sum

/-- A total in whole Wh. -/
def State.totalWh (s : State) (p q : Nat) : Nat := s.total p q / (1000 * 2 ^ 32)

/-! ### Conversion (R273) -/

/-- Units of R273 as 2^−32 of mWh or mAh, rounded down; the exact remainder is carried. -/
def State.conv (s : State) (p q : Nat) (units : Int) : State × Int :=
  let u : Int := if q = 4 ∨ q = 5 then 281250000 else 281250000000
  let tot := mget 0 s.bill.rem (8 * p + q) + units * 2 ^ 32
  (s.modBill fun b => { b with rem := mput 0 b.rem (8 * p + q) (tot % u) }, tot / u)

/-! ### Booking (R297, R298, R291, R328) -/

/-- Amounts of one cycle: by entry key, and by point × 8 + quantity. -/
abbrev Amts := FMap Int × FMap Int

def Amts.add (m : Amts) (p t q : Nat) (a : Int) : Amts :=
  (mput 0 m.1 (entKey p t q) (mget 0 m.1 (entKey p t q) + a), mput 0 m.2 (8 * p + q) (mget 0 m.2 (8 * p + q) + a))

/-- The demand accumulator of a point and direction (R308, R311). -/
def State.addDemand (s : State) (p d : Nat) (a : Int) : State :=
  s.modBill fun b => { b with acc := mput 0 b.acc (2 * p + d) (mget 0 b.acc (2 * p + d) + a) }

/-- One point's cycle result: energy and charge of its direction, or UNVERIFIED_WH (R273, R279). -/
def State.bookPoint (s : State) (m : Amts) (w : Nat) (x : PtRes) : State × Amts :=
  let p := x.point
  let t := digit w p
  match x.mode with
  | 0 => (s, m)
  | 1 =>
    let d := if x.sp < 0 then 1 else 0
    let (s, e) := s.conv p d (if x.sp < 0 then -x.sp else x.sp)
    let (s, q) := s.conv p (4 + d) (if x.sp < 0 then -x.si else x.si)
    (s.addDemand p d e, (m.add p t d e).add p t (4 + d) q)
  | _ =>
    let (s, e) := s.conv p 6 x.sp.natAbs
    (s, m.add p t 6 e)

/-- R291: what an earlier cycle booked to a point is withdrawn, and its unverified units booked in its place. A cycle before
a committed period close is no longer in the history and stays (R328). -/
def State.rebookPoint (s : State) (m : FMap Int) (x : Nat × Nat × Nat) : State × FMap Int :=
  let (seq, p, units) := x
  match s.bill.hist.find? fun r => r.seq == seq with
  | none => (s, m)
  | some r =>
    let t := digit r.tariffs p
    let amt := fun q => mget 0 r.amts (8 * p + q)
    let m := [0, 1, 4, 5, 6].foldl (fun m q => mput 0 m (entKey p t q) (mget 0 m (entKey p t q) - amt q)) m
    let s := s.when (mget 0 r.ivs p == mget 0 s.bill.ivSer p) fun s => (s.addDemand p 0 (-(amt 0))).addDemand p 1 (-(amt 1))
    let (s, e) := s.conv p 6 units
    let m := mput 0 m (entKey p t 6) (mget 0 m (entKey p t 6) + e)
    let amts := mput 0 ([0, 1, 4, 5].foldl (fun a q => mdel (8 * p + q) a) r.amts) (8 * p + 6) e
    (s.modBill fun b => { b with hist := b.hist.map (fun (h : BookRec) => if h.seq = seq then { h with amts := amts } else h) }, m)

/-- A total is written with the cycle's sequence number; one not above the entry's is discarded (R298). -/
def State.writeEnt (s : State) (k : Nat) (a : Int) (r : CycleRes) : State :=
  let e := s.ent k
  if a = 0 ∨ r.seq ≤ e.seq then s else
  s.setEnt k {
    val := (((e.val : Int) + a).toNat) % 2 ^ 96, sec := r.sec, ns := r.ns, epoch := r.epoch, seq := r.seq,
    period := s.get F.BILL_PERIOD_SERIAL_SERIAL, flags := (if r.vault then 4 else 0) + e.flags / 8 * 8 }

/-- The state of the demand interval shown to the allocator (R126, R312): with sliding intervals, the held subintervals of the
window that ends with the current one. -/
def State.refreshDt (s : State) : State :=
  let p := s.get F.ALLOC_DT_POINT_POINT
  let b := s.bill
  let e := mget 0 b.acc (2 * p) + (if b.sliding then ((mget [] b.subs (2 * p)).take (b.sub - 1)).foldl (· + ·) 0 else 0)
  (s.set F.BILL_DT_E_WH_WH (e.toNat / (1000 * 2 ^ 32))).set F.BILL_DT_TREM_S_S
    ((b.ivEnd * 1000000000 - s.legalNs + 999999999) / 1000000000)

/-! ### The session ring (R315 to R320) -/

def State.sessFill (s : State) : Nat := (s.get F.SESS_HEAD_INDEX + 2048 - s.get F.SESS_TAIL_INDEX) % 2048
def State.refreshSessFill (s : State) : State := s.set F.SESS_FILL_COUNT s.sessFill

/-- An open record stands in ring entry `i`. -/
def State.entryOpen (s : State) (i : Nat) : Bool :=
  (List.range 16).any fun p => s.bit F.SESS_OPEN_POINTS p && (mget {} s.bill.opens p).entry == i

/-- HEAD moves on; where it would reach TAIL the oldest record is given up (R319). -/
def State.sessAdvance (s : State) : State :=
  let h := (s.get F.SESS_HEAD_INDEX + 1) % 2048
  let s := s.set F.SESS_HEAD_INDEX h
  let s := s.when (h == s.get F.SESS_TAIL_INDEX) fun s =>
    let s := (s.set F.SESS_TAIL_INDEX ((h + 1) % 2048)).inc F.SESS_LOST_COUNT
    s.ev E.SESS_RING_OVERRUN 0 [s.get F.SESS_LOST_COUNT]
  s.refreshSessFill

/-- The append passes over open records; at most sixteen can be open. -/
def State.sessSkip (s : State) : Nat → State
  | 0 => s
  | k + 1 => if s.entryOpen (s.get F.SESS_HEAD_INDEX) then s.sessAdvance.sessSkip k else s

/-- The signed content of Table 13.4. -/
def sessContent (ty p flags serial sid : Nat) (a b : Reading) : List Nat :=
  let st := fun (r : Reading) => leBytes 6 r.sec ++ leBytes 4 r.ns ++ leBytes 2 r.epoch
  [ty, 1, p, flags] ++ leBytes 4 serial ++ leBytes 8 sid ++ st a ++ st b ++ leBytes 6 a.imp ++ leBytes 6 a.exp ++ leBytes 6 b.imp ++ leBytes 6 b.exp

/-- FLAGS of a closed record: CLOSED, UNVERIFIED, INTERRUPTED, HOLDUP_SHORT (energy was left unflushed between
the readings, R301), STEP. -/
def sessFlags (a b : Reading) (interrupted : Bool) : Nat :=
  1 + (if a.unv < b.unv then 2 else 0) + (if interrupted then 4 else 0) + (if a.unf ≠ b.unf then 8 else 0) + (if a.epoch ≠ b.epoch then 16 else 0)

/-- The reading of a point at the end of a cycle (R327). -/
def State.reading (s : State) (p : Nat) (r : CycleRes) : Reading :=
  { sec := r.sec, ns := r.ns, epoch := r.epoch, imp := s.totalWh p 0, exp := s.totalWh p 1, unv := s.total p 6,
    unf := s.get F.BILL_UNFLUSHED_COUNT }

/-- Append a record; a closed one waits for its signature. Answers its entry and serial too. -/
def State.sessAppend (s : State) (content : Nat → List Nat) (closed : Bool) : State × Nat × Nat :=
  let s := s.sessSkip 16
  let i := s.get F.SESS_HEAD_INDEX
  let serial := s.get F.SESS_SERIAL_NEXT
  let s := s.wrBytes (tbl 2 (128 * i)) (content serial ++ List.replicate 64 0)
  let s := (s.inc F.SESS_SERIAL_NEXT).sessAdvance
  let s := s.when closed fun s => s.modBill fun b => { b with signs := b.signs ++ [i] }
  (s.set F.SESS_SIGN_PENDING_COUNT s.bill.signs.length, i, serial)

/-- The open record of a point takes its end reading and waits for its signature. -/
def State.sessClose (s : State) (p : Nat) (r : CycleRes) (interrupted : Bool) : State :=
  if !s.bit F.SESS_OPEN_POINTS p then s else
  let o := mget {} s.bill.opens p
  let b := s.reading p r
  let s := s.wrBytes (tbl 2 (128 * o.entry)) (sessContent 1 p (sessFlags o.start b interrupted) o.serial o.sid o.start b)
  let s := (s.setBit F.SESS_OPEN_POINTS p false).modBill fun e => { e with opens := mdel p e.opens, signs := e.signs ++ [o.entry] }
  let s := s.set F.SESS_SIGN_PENDING_COUNT s.bill.signs.length
  s.when interrupted fun s => s.ev E.SESS_INTERRUPTED 0 [p, o.serial]

def State.sessOpen (s : State) (p sid : Nat) (r : CycleRes) : State :=
  let s := s.sessClose p r false
  let a := s.reading p r
  let (s, i, serial) := s.sessAppend (fun n => sessContent 1 p 0 n sid a {}) false
  ((s.setBit F.SESS_OPEN_POINTS p true).modBill fun b =>
    { b with opens := mput {} b.opens p { entry := i, serial := serial, sid := sid, start := a } }).ev E.SESS_OPENED 0 [p, serial]

/-- A point's reading in a closed period (Table 13.2); zeros, the time of manufacture, where there is none. -/
def closedReading (closed : Option (BillEnt × FMap BillEnt)) (p : Nat) : Reading :=
  match closed with
  | none => {}
  | some (blank, m) =>
    let tot := fun q => ((List.range 16).map fun t => (mget blank m (entKey p t q)).val).sum
    { sec := blank.sec, ns := blank.ns, epoch := blank.epoch, imp := tot 0 / (1000 * 2 ^ 32), exp := tot 1 / (1000 * 2 ^ 32), unv := tot 6 }

/-- A reading record of TYPE 2 or 3 from the reading `a` (R318). -/
def State.sessReadFrom (s : State) (a : Reading) (ty p sid : Nat) (r : CycleRes) : State :=
  let b := s.reading p r
  let (s, _, _) := s.sessAppend (fun n => sessContent ty p (sessFlags a b false) n sid a b) true
  s.modBill fun e => { e with reads := mput {} e.reads p b }

/-- A record of TYPE 3 runs from the point's last one of TYPE 2 or 3 (R318). -/
def State.sessRead (s : State) (p : Nat) (r : CycleRes) : State := s.sessReadFrom (mget {} s.bill.reads p) 3 p 0 r

def State.sessReq (s : State) (r : CycleRes) : SessReq → State
  | .opn p sid => s.sessOpen p sid r
  | .cls p => s.sessClose p r false
  | .read p => s.sessRead p r

/-- Energy of the open record of a point so far, Wh. -/
def State.sessionWh (s : State) (n : Nat) (exp : Bool) : Nat :=
  if !s.bit F.SESS_OPEN_POINTS n then 0 else
  let a := (mget {} s.bill.opens n).start
  if exp then s.totalWh n 1 - a.exp else s.totalWh n 0 - a.imp

/-! ### Boundaries (R305 to R313) -/

def State.bank (s : State) : Nat := s.get F.TARIFF_BANK_ACTIVE
def State.zone (s : State) : List Nat := firstOf (s.calBank s.bank) 1

/-- LOCAL and NEXT follow the calendar at a second of legal time; a change of daylight time is logged (R304). -/
def State.showLocal (s : State) (sec : Nat) : State :=
  let z := s.zone
  let dst := inDst z ((sec / 60 : Nat) + stdOfs z)
  let was := s.on F.TARIFF_LOCAL_DST
  let s := (s.setB F.TARIFF_LOCAL_DST dst).setI F.TARIFF_LOCAL_OFS_MIN (localOfs z (sec / 60 : Nat))
  let s := s.when (was != dst) fun s => s.ev E.TARIFF_DST_CHANGE 0 [s.get F.TARIFF_LOCAL_OFS_MIN]
  let n := s.nextChange s.bank sec
  (s.set F.TARIFF_NEXT_SEC_LO_SEC n).set F.TARIFF_NEXT_HI_SEC (n / 2 ^ 32)

def State.lastClose (s : State) : Nat := s.get F.BILL_LAST_CLOSE_HI_SEC * 2 ^ 32 + s.get F.BILL_LAST_CLOSE_SEC_LO_SEC
def State.actSec (s : State) : Nat := s.get F.TARIFF_ACT_SEC_HI_SEC * 2 ^ 32 + s.get F.TARIFF_ACT_SEC_LO_SEC

/-- The boundaries that fall at the end of a cycle become one pending record (R313). -/
def State.detect (s : State) (r : CycleRes) : State :=
  let b := s.bill
  let (now, ep) := r.step.getD (r.sec, r.epoch)
  let act := s.on F.TARIFF_BANK_SWITCH_PENDING && decide (s.actSec ≤ now)
  let bank := if act then 1 - s.bank else s.bank
  let judge := act || b.judgeDue || r.step.isSome || decide (now / 60 ≠ b.judgeSec / 60)
  let old := s.nowTariffs
  let new := if judge then s.tariffsAt bank now else old
  let close := judge && (match s.lastPeriodEnd bank now with
    | some e => decide (b.judgeSec < e) && decide (s.lastClose < e)
    | none => false)
  let causes := [(0, new != old), (1, b.ivOpen && decide (b.ivEnd ≤ r.sec)), (2, close), (3, act), (4, b.cfgDue), (5, r.step.isSome),
    (6, b.restartDue), (7, b.closeDue)].foldl (fun w (x : Nat × Bool) => if x.2 then w + 2 ^ x.1 else w) 0
  let s := s.when judge fun s => (s.showLocal now).modBill fun b => { b with judgeDue := false, judgeSec := now }
  if causes = 0 then s else
  (s.modBill fun b => { b with
    cfgDue := false, restartDue := false, closeDue := false,
    pend := some ⟨s.get F.BILL_BOUNDARY_SEQ_SEQ + 1, r.sec, r.ns, r.epoch, causes, new, now, ep⟩ }).setB F.BILL_STATE_PENDING true

/-- A cycle is booked: earlier cycles to be withdrawn, its points, its requests, and the boundaries at its end. -/
def State.bookCycle (s : State) (r : CycleRes) : State :=
  if r.seq ≤ s.bill.cycleSeq then s else
  let w := s.nowTariffs
  let (s, m0) := r.rebook.foldl (fun (a : State × FMap Int) x => a.1.rebookPoint a.2 x) (s, [])
  let (s, m) := r.pts.foldl (fun (a : State × Amts) x => a.1.bookPoint a.2 w x) (s, (m0, []))
  let s := s.each m.1 fun x s => s.writeEnt x.1 x.2 r
  let s := (s.modBill fun b => { b with cycleSeq := r.seq, hist := (⟨r.seq, w, b.ivSer, m.2⟩ :: b.hist).take 300 }).set F.BILL_CYCLE_SEQ_SEQ r.seq
  let s := s.when s.bill.interrupt fun s =>
    (s.each (List.range 16) fun p s => s.sessClose p r true).modBill fun b => { b with interrupt := false }
  let s := s.each r.reqs fun q s => s.sessReq r q
  s.detect r

/-- The demand of a point's interval is judged against the period's maximum of its tariff (R308, R309). -/
def State.judgeDemand (s : State) (p d : Nat) (e : Int) (pd : Pending) (short : Bool) : State :=
  let w := e.toNat * 36 / (10 * (s.bill.len * 60) * 2 ^ 32)
  let t := if s.bill.ivOpen then mget 0 s.bill.ivTar p else digit s.nowTariffs p
  let k := entKey p t (2 + d)
  if (s.ent k).val / 2 ^ 32 < w then
    (s.setEnt k {
      val := w * 2 ^ 32, sec := pd.sec, ns := pd.ns, epoch := pd.epoch, seq := s.bill.cycleSeq,
      period := s.get F.BILL_PERIOD_SERIAL_SERIAL, flags := (if short then 1 else 0) + (if s.bill.sliding then 2 else 0) }).ev E.BILL_DEMAND_MAX 0 [p, t, d, w]
  else s

/-- Close a point's interval or subinterval in progress, in both directions. -/
def State.closeInterval (s : State) (p : Nat) (pd : Pending) (short : Bool) : State :=
  s.each [0, 1] fun d s =>
    let e := mget 0 s.bill.acc (2 * p + d)
    let held := if s.bill.sliding then (e :: mget [] s.bill.subs (2 * p + d)).take s.bill.sub else []
    let s := s.modBill fun b => { b with acc := mdel (2 * p + d) b.acc, subs := mput [] b.subs (2 * p + d) held }
    s.judgeDemand p d (if s.bill.sliding then held.foldl (· + ·) 0 else e) pd short

/-- The billing period closes (R306): snapshots shift, demand starts anew, reading records from the previous close are appended
(R318). LAST_CLOSE is the new time where a step closes the period (log entry 114). -/
def State.closePeriod (s : State) (pd : Pending) : State :=
  let prev := s.bill.closed.head?
  let unf := s.bill.closeUnf
  let ser := s.get F.BILL_PERIOD_SERIAL_SERIAL
  let mark := fun (e : BillEnt) => { e with sec := pd.sec, ns := pd.ns, epoch := pd.epoch, period := ser }
  let snap := s.bill.cur.map fun x => (x.1, mark x.2)
  let s := s.modBill fun b => { b with
    closed := ((mark {}, snap) :: b.closed).take 7,
    cur := b.cur.map (fun x => if x.1 % 8 = 2 ∨ x.1 % 8 = 3 then (x.1, { seq := b.cycleSeq, period := (ser + 1) % 2 ^ 32 }) else x),
    hist := [], closeUnf := s.get F.BILL_UNFLUSHED_COUNT }
  let s := (s.modLens fun l => { l with hist := [] }).inc F.BILL_PERIOD_SERIAL_SERIAL
  let s := ((s.set F.BILL_LAST_CLOSE_SEC_LO_SEC pd.fromSec).set F.BILL_LAST_CLOSE_HI_SEC (pd.fromSec / 2 ^ 32)).set F.BILL_LAST_CLOSE_HI_EPOCH pd.fromEpoch
  let s := s.ev E.BILL_PERIOD_CLOSED 0 [ser, if pd.causes.testBit 7 then 1 else 0]
  let r : CycleRes := ⟨0, pd.sec, pd.ns, pd.epoch, [], [], [], none, false⟩
  s.each s.points fun p s => s.sessReadFrom { closedReading prev p with unf := unf } 2 p ser r

/-- The update of a pending boundary, in the fixed order of R313, and its commit. -/
def State.applyPending (s : State) (pd : Pending) : State :=
  let old := s.nowTariffs
  let all := pd.causes.testBit 2 || pd.causes.testBit 3 || pd.causes.testBit 4 || pd.causes.testBit 5 || pd.causes.testBit 6 || pd.causes.testBit 7
  let ends := pd.causes.testBit 1
  let changed := fun p => digit old p != digit pd.tariffs p
  let split := fun p => all || changed p
  -- 1: the intervals that end or split here
  let s := s.each (List.range 16) fun p s =>
    let s := s.when (s.bill.ivOpen && (ends || split p)) fun s => s.closeInterval p pd (!ends)
    s.when (split p) fun s => s.modBill fun b => { b with subs := mdel (2 * p) (mdel (2 * p + 1) b.subs) }
  let pts := (s.points.filter split).foldl (fun m p => setBitOf m p true) 0
  let s := s.when (s.bill.ivOpen && pts != 0 && (!ends || s.bill.sliding)) fun s => s.ev E.BILL_INTERVAL_SPLIT 0 [pts, pd.causes]
  -- 2: the billing period
  let s := s.when (pd.causes.testBit 2 || pd.causes.testBit 7) fun s => s.closePeriod pd
  -- 3: tariffs and the calendar bank
  let s := s.each (s.points.filter changed) fun p s => s.ev E.TARIFF_SWITCHED 0 [p, digit old p, digit pd.tariffs p]
  let s := s.setTariffs pd.tariffs
  let s := s.when (pd.causes.testBit 3) fun s =>
    let bank := 1 - s.bank
    let n := (s.calBank bank).length
    ((((s.set F.TARIFF_BANK_ACTIVE bank).setB F.TARIFF_BANK_SWITCH_PENDING false).set F.TARIFF_CAL_STAT_ENTRIES n).ev E.TARIFF_CAL_ACTIVATED 0
      [bank, n]).showLocal pd.fromSec
  -- 4: the new intervals
  let s := s.when (pd.causes.testBit 4) fun s => s.modBill fun b =>
    { b with len := s.get F.BILL_DEMAND_CFG_L_MIN, sub := s.get F.BILL_DEMAND_CFG_SUBINT, sliding := s.on F.BILL_DEMAND_CFG_SLIDING }
  let s := s.modBill fun b => (List.range 16).foldl (fun b p =>
    if ends || split p || !b.ivOpen then { b with ivTar := mput 0 b.ivTar p (digit pd.tariffs p), ivSer := mput 0 b.ivSer p (mget 0 b.ivSer p + 1) } else b) b
  let s := s.when (ends || all || !s.bill.ivOpen) fun s =>
    let per : Int := s.bill.len * 60 / (if s.bill.sliding then s.bill.sub else 1)
    let ofs := stdOfs s.zone * 60
    let next := (((pd.fromSec : Int) + ofs) / per + 1) * per - ofs
    let s := s.modBill fun b => { b with ivEnd := next.toNat, ivOpen := true }
    ((s.set F.BILL_IV_START_SEC_LO_SEC pd.fromSec).set F.BILL_IV_START_HI_SEC (pd.fromSec / 2 ^ 32)).set F.BILL_IV_START_HI_EPOCH pd.fromEpoch
  ((s.modBill fun b => { b with pend := none }).set F.BILL_BOUNDARY_SEQ_SEQ pd.seq).setB F.BILL_STATE_PENDING false

/-- Held cycles are booked in order, until one of them brings a boundary of its own. -/
def State.drain (s : State) : Nat → State
  | 0 => s
  | k + 1 => match s.bill.held with
    | [] => s
    | r :: t => if s.bill.pend.isSome || s.bill.intent.isSome then s
      else ((s.modBill fun b => { b with held := t }).bookCycle r).drain k

/-- A cycle's result reaches the engine: booked, or held behind an uncommitted boundary or an open VAULT. -/
def State.deliver (s : State) (r : CycleRes) : State :=
  (if s.bill.pend.isSome || s.bill.intent.isSome || !s.bill.held.isEmpty then s.modBill fun b => { b with held := b.held ++ [r] }
   else s.bookCycle r).refreshDt

/-- METROLOGY_CYCLE_END (R273, R297). -/
def execMetrologyCycleEnd (s : State) : Result :=
  (s.when s.lensRuns fun s =>
    let (s, r) := s.closeCycle s.legalSec s.legalNsPart s.epoch none false
    s.deliver r).finish

/-- The pending boundary commits and the held cycles follow; during a VAULT it waits for R301. -/
def State.commitBoundary (s : State) : State :=
  match s.bill.pend with
  | none => s
  | some pd => if s.bill.intent.isSome then s else
    let s := s.applyPending pd
    (s.drain s.bill.held.length).refreshDt

/-- BOUNDARY_COMMIT (R313). -/
def execBoundaryCommit (s : State) : Result := s.commitBoundary.finish

/-- A step of legal time ends the cycle in progress (R288, R314). -/
def State.stepBilling (s : State) (newSec newEpoch : Nat) : State :=
  if s.lensRuns then
    let (s, r) := s.closeCycle s.legalSec s.legalNsPart s.epoch (some (newSec, newEpoch)) false
    s.deliver r
  else s.modBill fun b => { b with judgeDue := true }

/-! ### Power cuts (R299 to R301) -/

/-- Energy of `w` watts over `ns` nanoseconds in mWh, rounded up. -/
def estMwh (w ns : Nat) : Nat := (w * ns + 3599999999) / 3600000000

/-- At VAULT entry the cycle in progress ends, and the intent record is written. -/
def State.vaultIntent (s : State) : State :=
  if !s.lens.started then s else
  let start := s.lens.startNs
  let est := s.points.foldl (fun m p => mput 0 m p (estMwh (s.getI (F.LENS_PT_W_W.nth p)).natAbs (s.legalNs - start))) []
  let s := s.judgeSupply
  let (s, r) := s.closeCycle s.legalSec s.legalNsPart s.epoch none true
  (s.modBill fun b => { b with
    intent := some ⟨r.seq, start, r.sec, r.ns, r.epoch, est, s.nowTariffs⟩,
    record := some ⟨r, false, false⟩ }).setB F.BILL_STATE_VAULT_OPEN true

/-- R300: the vault record is written and marked DONE; without a pending boundary its cycle is booked at once. -/
def State.vaultRecord (s : State) : State :=
  match s.bill.record with
  | none => s
  | some v =>
    let now := s.bill.pend.isNone && s.bill.held.isEmpty && !v.booked
    let s := s.when now fun s => s.bookCycle v.res
    s.modBill fun b => { b with record := some { v with booked := v.booked || now, done := true } }

/-- R301 step 3: nothing of the partial cycle is booked; its estimate goes to UNVERIFIED_WH. -/
def State.unflushed (s : State) (it : Intent) : State :=
  let w := if s.bill.cycleSeq < it.seq then s.nowTariffs else it.tariffs
  let s := s.each it.est fun x s =>
    let k := entKey x.1 (digit w x.1) 6
    let e := s.ent k
    (s.setEnt k { e with val := (e.val + x.2 * 2 ^ 32) % 2 ^ 96, sec := it.sec, ns := it.ns, epoch := it.epoch, seq := max e.seq it.seq }).ev
      E.BILL_UNFLUSHED 0 [x.1, x.2]
  let s := s.modBill fun b => { b with cycleSeq := max b.cycleSeq it.seq }
  ((s.set F.BILL_CYCLE_SEQ_SEQ s.bill.cycleSeq).inc F.BILL_UNFLUSHED_COUNT).tamper 10

/-- The completion of a VAULT in the order of R301. -/
def State.vaultComplete (s : State) : State :=
  match s.bill.intent with
  | none => s
  | some it =>
    let rec_ := s.bill.record
    let s := s.modBill fun b => { b with intent := none, record := none }
    let s := match s.bill.pend with
      | some pd =>
        if s.get F.BILL_BOUNDARY_SEQ_SEQ < pd.seq then (s.applyPending pd).ev E.BILL_BOUNDARY_REPLAYED 0 [pd.seq, pd.sec % 2 ^ 32] else s
      | none => s
    let s := match rec_ with
      | some v =>
        if v.done then
          if v.booked then s else s.modBill fun b => { b with
            held := (b.held.filter fun (r : CycleRes) => decide (r.seq < v.res.seq)) ++ [v.res] ++ (b.held.filter fun (r : CycleRes) => decide (v.res.seq < r.seq)) }
        else s.unflushed it
      | none => s
    let s := s.setB F.BILL_STATE_VAULT_OPEN false
    (s.drain s.bill.held.length).refreshDt

/-! ### The start of the metrology die (R281, R301, R320) -/

/-- All configuration of the Lens comes into force as it stands. -/
def State.loadForce (s : State) : State :=
  let fs := (kindFields 0x23 ++ kindFields 0x24 ++ kindFields 0x41).filter fun f => f.acc == .rws
  s.modLens fun l => { l with
    due := [],
    force := fs.foldl (fun m f => (List.range (max 1 f.count)).foldl (fun m i =>
      let g := f.nth i
      mput g.reset m g.key (s.get g)) m) [] }

/-- Open records are closed with INTERRUPTED at the next cycle end (R320). -/
def State.interruptSessions (s : State) : State :=
  s.modBill fun b => { b with interrupt := b.interrupt || s.get F.SESS_OPEN_POINTS != 0 }

/-- The Lens and the billing engine start. `okA` and `okB`: the copies of the calibration set pass their check. -/
def State.metrologyStart (s : State) (okA okB : Bool) : State :=
  let s := if okA || okB then (s.setB F.LENS_STATUS_CAL_BAD false).tamperEnd 11
    else
      let s := s.each (List.range 23) fun c s =>
        ((s.set (F.LENS_CAL_GAIN_GAIN.nth c) 0).set (F.LENS_CAL_OFFSET_CODE.nth c) 0).set (F.LENS_CAL_DELAY_CLOCKS.nth c) 0
      ((s.setB F.LENS_STATUS_CAL_BAD true).ev E.LENS_CAL_CRC_FAIL 0 [3]).tamperBegin 11
  let s := (s.loadForce).refreshCal
  let s := s.modLens fun l => { l with started := true, startNs := s.legalNs, calDone := 0, hist := [], froz := [] }
  let s := s.vaultComplete
  let s := s.modBill fun b => { b with restartDue := true, judgeDue := true, hist := [] }
  ((s.interruptSessions).set F.TARIFF_CAL_STAT_ENTRIES (s.calBank s.bank).length).refreshMeter

/-! ### Host commands (R302, R306, R307, R318) -/

/-- TARIFF_ACTIVATE (R302). -/
def execTariffActivate (value : Word) (s : State) : Result :=
  (s.hostWrites 0x26 0x008 fun s =>
    s.when (value.toNat.testBit 0) fun s => s.guarded true 0x26 0x008 (some 1) id fun s =>
      match s.bankBad (1 - s.bank) with
      | some (e, c) => some ((s.set F.TARIFF_CAL_STAT_FIRST_BAD e).err E.TARIFF_CAL_INVALID 0 [e, c])
      | none => some (s.setB F.TARIFF_BANK_SWITCH_PENDING true)).finish

/-- CLOSE_PERIOD (R306). -/
def execClosePeriod (value : Word) (s : State) : Result :=
  (s.hostWrites 0x25 0x008 fun s =>
    s.when (value.toNat.testBit 0) fun s => s.guarded true 0x25 0x008 (some 1) id fun s =>
      some (s.modBill fun b => { b with closeDue := true })).finish

/-- L divides 60, S is 1 to 15, and L × 60 is divisible by S (R307). -/
def demandCfgOk (v : Nat) : Bool :=
  let l := bits v 15 8
  let sub := bits v 7 4
  decide (1 ≤ l) && decide (60 % l = 0) && decide (1 ≤ sub) && decide (l * 60 % sub = 0)

/-- DEMAND_CFG_WRITE (R307). -/
def execDemandCfgWrite (value : Word) (s : State) : Result :=
  (s.hostWrites 0x25 0x040 fun s =>
    s.guarded true 0x25 0x040 none (fun s => s.err E.BILL_BAD_CFG 0 [value.toNat]) fun s =>
      if demandCfgOk value.toNat then
        some ((s.setWord 0x25 0x040 0xFFFFFFFF value.toNat fun a => a == .rws).modBill fun b => { b with cfgDue := true })
      else none).finish

/-- SESS_READ (R318). -/
def execSessRead (value : Word) (s : State) : Result :=
  let p := bits value.toNat 3 0
  (s.hostWrites 0x46 0x054 fun s =>
    if !value.toNat.testBit 31 then s
    else if s.points.contains p then s.modBill fun b => { b with reqs := b.reqs ++ [.read p] }
    else s.err E.SESS_NO_POINT 0 [p]).finish

/-! ### Requests of the control die (R12, R315) -/

/-- SESSION_OPEN_REQ (R315). -/
def execSessionOpenReq (point : Nat) (sid : Nat) (s : State) : Result :=
  (s.when (!s.sys.metLost) fun s =>
    if s.hasOutlet point then s.modBill fun b => { b with reqs := b.reqs ++ [.opn point (sid % 2 ^ 64)] }
    else s.err E.SESS_NO_POINT 0 [point]).finish

/-- SESSION_CLOSE_REQ (R315). -/
def execSessionCloseReq (point : Nat) (s : State) : Result :=
  (s.when (!s.sys.metLost) fun s =>
    if s.hasOutlet point then s.modBill fun b => { b with reqs := b.reqs ++ [.cls point] }
    else s.err E.SESS_NO_POINT 0 [point]).finish

/-- SESSION_SIGNED (R317): the record that has waited longest is signed. -/
def execSessionSigned (s : State) : Result :=
  (match s.bill.signs with
   | [] => s
   | i :: t =>
     let a := tbl 2 (128 * i)
     let s := s.modBill fun b => { b with signs := t }
     let s := s.set F.SESS_SIGN_PENDING_COUNT t.length
     let s := s.wrBytes (a + 64) (slice (Config.metrologySign (s.rdBytes a 64)) 0 64)
     s.ev E.SESS_SIGNED 0 [s.rdByte (a + 2), s.rdLe (a + 4) 4]).finish

/-- METROLOGY_REQUEST_REFUSED (R12): tamper type 8. -/
def execMetrologyRequestRefused (s : State) : Result := (s.when (!s.sys.metLost) fun s => s.tamper 8).finish

/-! ### Tamper inputs and crystals (R322, Table 13.5) -/

/-- TAMPER_INPUT (R322). -/
def execTamperInput (i : Fin 2) (s : State) : Result := (s.tamperBegin i).finish

/-- TAMPER_INPUT_RELEASED (R322). -/
def execTamperInputReleased (i : Fin 2) (s : State) : Result := (s.tamperEnd i).finish

/-- TAMPER_PPM (R321): the crystals' difference over the last 10 s. -/
def execTamperPpm (ppm : Nat) (s : State) : Result :=
  (if s.get F.TAMPER_PPM_LIM_PPM < ppm then s.tamperBegin 15 else s.tamperEnd 15).finish

end Sys2Proof.Machine
end

