-- ==== Sys2Proof/Machine/Grammar.lean ====
section
/-! DEFINITION. The grammar tables of the EXI engine: their check and VDE.CTRL.EXI_LOAD (R246, R247, Table 11.5). -/
namespace Sys2Proof.Machine

def State.gx (s : State) (off n : Nat) : Nat := s.rdLe (tbl 7 off) n

/-- A production's indexes and event lie within their arrays. -/
def State.prodOk (s : State) (p ng nq nt : Nat) : Bool :=
  let e := s.gx p 1
  let x := s.gx (p + 4) 2
  decide (e ≤ 4) && decide (s.gx (p + 6) 2 < ng) && (if e = 0 ∨ e = 3 then decide (x < nq) else if e = 4 then decide (x < nt) else true)

/-- Productions ascend by event code. -/
def State.codesAscend (s : State) (first n : Nat) : Bool :=
  (List.range (n - 1)).all fun i => decide (s.gx (first + 8 * i + 2) 2 ≤ s.gx (first + 8 * (i + 1) + 2) 2)

/-- A grammar and its productions. -/
def State.grammarOk (s : State) (g len ng nq nt : Nat) : Bool :=
  let n := s.gx g 2
  let p := s.gx (g + 4) 4
  decide (p + 8 * n ≤ len) && s.codesAscend p n && (List.range n).all fun i => s.prodOk (p + 8 * i) ng nq nt

/-- One directory entry. -/
def State.dirOk (s : State) (i len : Nat) : Bool :=
  let d := 64 + 32 * i
  let set := s.gx d 1
  let ng := s.gx (d + 2) 2
  let go := s.gx (d + 4) 4
  decide (1 ≤ set) && decide (set ≤ 6) && decide (go + 8 * ng ≤ len) && decide (s.gx (d + 8) 4 ≤ len) &&
    decide (s.gx (d + 16) 4 + s.gx (d + 20) 4 ≤ len) && decide (s.gx (d + 24) 4 ≤ len) &&
    (List.range ng).all fun k => s.grammarOk (go + 8 * k) len ng (s.gx (d + 12) 4) (s.gx (d + 28) 4)

/-- The first failing check of the table and its offset: 1 magic, 2 version, 3 NSETS, 4 LENGTH, 5 CRC, 6 a directory entry. -/
def State.exiBad (s : State) : Option (Nat × Nat) :=
  let nsets := s.gx 6 2
  let len := s.gx 8 4
  if s.rdBytes (tbl 7 0) 4 ≠ [0x47, 0x58, 0x49, 0x31] then some (1, 0)
  else if s.gx 4 2 ≠ 1 then some (2, 4)
  else if nsets = 0 ∨ 8 < nsets then some (3, 6)
  else if len < 64 + 32 * nsets ∨ 524288 < len then some (4, 8)
  else if crc32 (s.rdBytes (tbl 7 16) (len - 16)) ≠ s.gx 12 4 then some (5, 12)
  else ((List.range nsets).find? fun i => !s.dirOk i len).map fun i => (6, 64 + 32 * i)

/-- A grammar set is loaded. -/
def State.hasSet (s : State) (set : Nat) : Bool :=
  s.on F.VDE_STATUS_EXI_VALID && (List.range (s.gx 6 2)).any fun i => s.gx (64 + 32 * i) 1 == set

/-- The grammar table is checked (R247). -/
def State.exiCheck (s : State) : State :=
  match s.exiBad with
  | none => (s.setB F.VDE_STATUS_EXI_VALID true).ev E.VDE_EXI_LOADED 0 [s.gx 6 2]
  | some (c, off) => (s.setB F.VDE_STATUS_EXI_VALID false).ev E.VDE_EXI_INVALID 0 [c, off]

/-- EXI_LOAD set: refused while a context is active. -/
def State.exiSet (s : State) : State :=
  if s.get F.VDE_STATUS_ACTIVE ≠ 0 then s.err E.VDE_EXI_BUSY 0 []
  else (s.setB F.VDE_CTRL_EXI_LOAD true).setB F.VDE_STATUS_EXI_LOADING true

/-- EXI_LOAD cleared: the table is checked. -/
def State.exiClear (s : State) : State :=
  s.when (s.on F.VDE_CTRL_EXI_LOAD) fun s => ((s.setB F.VDE_CTRL_EXI_LOAD false).setB F.VDE_STATUS_EXI_LOADING false).exiCheck

end Sys2Proof.Machine
end

