-- ==== Sys2Proof/Machine/Fabric.lean ====
section
/-! DEFINITION. The Galesh site fabric (chapter 06): addresses, the route table, frames leaving the ports, and the Facet
table's entries. -/
namespace Sys2Proof.Machine

/-! ### The Facet table (R108, Table 6.4) -/

def facetBase (e : Nat) : Nat := tbl 10 (32 * e)
def State.fAddr (s : State) (e : Nat) : Nat := s.rdLe (facetBase e) 2
/-- KIND: 1 child, 2 Prism, 3 retired; every other value counts as unused. -/
def State.fKind (s : State) (e : Nat) : Nat := let k := s.rdByte (facetBase e + 2); if k ≤ 3 then k else 0
def State.fParent (s : State) (e : Nat) : Nat := s.rdByte (facetBase e + 3)
def State.fPrio (s : State) (e : Nat) : Nat := s.rdByte (facetBase e + 4) % 8
def State.fWeight (s : State) (e : Nat) : Nat := max 1 (s.rdByte (facetBase e + 5))
def State.fMeter (s : State) (e : Nat) : Nat := s.rdByte (facetBase e + 6)
def State.fFloor (s : State) (e : Nat) : Int := toSigned 32 (s.rdLe (facetBase e + 8) 4)
def State.fCeil (s : State) (e : Nat) : Nat := s.rdLe (facetBase e + 12) 4
def State.fMax (s : State) (e : Nat) : Nat := s.rdLe (facetBase e + 16) 4
def State.fState (s : State) (e : Nat) : Nat := s.rdByte (facetBase e + 28) % 8
def State.fEpochs (s : State) (e : Nat) : Nat := s.rdLe (facetBase e + 30) 2

/-- The entries in use, by index: their KIND bytes are listed. -/
def State.facets (s : State) : List Nat :=
  (s.mem.filterMap fun c => if tbl 10 0 ≤ c.1 ∧ c.1 < tbl 10 8192 ∧ c.1 % 32 = 2 then some ((c.1 - tbl 10 0) / 32) else none).filter
    fun e => s.fKind e != 0

def State.childEntries (s : State) : List Nat := s.facets.filter fun e => s.fKind e == 1
def State.prisms (s : State) : List Nat := s.facets.filter fun e => s.fKind e == 2

/-- The child entry of an address; KIND 3 is no direct child any more. -/
def State.childOf (s : State) (a : Nat) : Option Nat := s.childEntries.find? fun e => s.fAddr e == a

/-- CHILDREN of the TREE page (Table 6.13). -/
def State.refreshChildren (s : State) : State :=
  let l := s.childEntries
  let n := fun (p : Nat → Bool) => (l.filter fun e => p (s.fState e)).length
  (((s.set F.TREE_CHILDREN_RECLAIMED (satTo 8 (n (· == 4)))).set F.TREE_CHILDREN_SILENT (satTo 8 (n fun x => x == 2 || x == 3))).set
    F.TREE_CHILDREN_ACTIVE (satTo 8 (n (· == 1)))).set F.TREE_CHILDREN_CONFIGURED (satTo 8 l.length)

/-- Bytes 28 to 31 of an entry: its state and the epochs since its last DEMAND frame. -/
def State.setFState (s : State) (e st epochs : Nat) : State :=
  (((s.wrByte (facetBase e + 28) (st % 8)).wrByte (facetBase e + 29) 0).wrLe (facetBase e + 30) 2 (satTo 16 epochs)).refreshChildren

/-! ### Addresses and routes (R104, R105, R107) -/

def State.ownAddr (s : State) : Nat := s.get F.TREE_SELF_ADDRESS

/-- The own address, or that of a Prism hosted here. -/
def State.hostsAddr (s : State) (a : Nat) : Bool := a == s.ownAddr || s.prisms.any fun e => s.fAddr e == a

/-- The valid route entries, by index. -/
def State.routeEntries (s : State) : List Nat :=
  (s.mem.filterMap fun c => if tbl 11 0 ≤ c.1 ∧ c.1 < tbl 11 32768 ∧ c.1 % 8 = 4 then some ((c.1 - tbl 11 0) / 8) else none).filter
    fun i => decide (128 ≤ s.rdByte (tbl 11 (8 * i + 4)))

/-- The port code a destination takes: 0, 1, or 2 and 3 to drop (R105). -/
def State.routeTo (s : State) (dst : Nat) : Nat :=
  match s.routeEntries.find? fun i => decide (s.rdLe (tbl 11 (8 * i)) 2 ≤ dst) && decide (dst ≤ s.rdLe (tbl 11 (8 * i + 2)) 2) with
  | some i => s.rdByte (tbl 11 (8 * i + 4)) % 4
  | none => s.get F.FAB_ROUTE_CFG_DEFAULT_PORT

/-- ROUTE_ENTRY_WRITE (R105): a word at offset 0 waits for the word at offset 4, with which the entry takes effect. -/
def State.routeWrite (s : State) (i : Nat) (hi : Bool) (v : Nat) : State :=
  if !hi then { s with sent := { s.sent with routeBuf := mins i v s.sent.routeBuf } }
  else
    let w0 := mget (s.rdLe (tbl 11 (8 * i)) 4) s.sent.routeBuf i
    { (s.wrBytes (tbl 11 (8 * i)) (entryBytes 11 0 0 (leBytes 8 (w0 + v * 2 ^ 32)))) with sent := { s.sent with routeBuf := mdel i s.sent.routeBuf } }

/-- ROUTE_ENTRY_WRITE (R105). -/
def execRouteEntryWrite (entry : Nat) (high : Bool) (value : Word) (s : State) : Result :=
  (s.tableWrites 11 (8 * entry + if high then 4 else 0) fun s => s.routeWrite entry high value.toNat).finish

/-! ### Frames (R102, R106) -/

def State.fabLink (s : State) (port : Nat) : Bool := if port = 0 then s.on F.FAB_PORT_STAT_P0_LINK else s.on F.FAB_PORT_STAT_P1_LINK
def State.fabEnabled (s : State) (port : Nat) : Bool := if port = 0 then s.on F.FAB_PORT0_CFG_ENABLE else s.on F.FAB_PORT1_CFG_ENABLE

/-- The queue priority of a message (Table 6.2). -/
def State.pcpOf (s : State) (msg : Nat) : Nat :=
  if msg = 0x40 then s.get F.FAB_VLAN_PCP_SAFETY else if 0x31 ≤ msg ∧ msg ≤ 0x35 then s.get F.FAB_VLAN_PCP_SENT
  else s.get F.FAB_VLAN_PCP_TREE

/-- A Galesh frame, header and payload, leaves a port: MAC addresses, tag, EtherType, then the frame (R102, R106). -/
def State.galeshOut (s : State) (port : Nat) (frame : List Nat) : State :=
  if s.get F.FAB_ETYPE_ETYPE = 0 ∨ !s.fabEnabled port ∨ !s.fabLink port then s
  else
    let peer := if port = 0 then s.get2 F.FAB_PEER0_MAC_HI_MAC F.FAB_PEER0_MAC_LO_MAC else s.get2 F.FAB_PEER1_MAC_HI_MAC F.FAB_PEER1_MAC_LO_MAC
    let tag := if s.on F.FAB_VLAN_TAG_EN then [0x81, 0x00] ++ beBytes 2 (s.pcpOf (frame.getD 1 0) * 8192 + s.get F.FAB_VLAN_VID) else []
    (s.emit (.fabric port (beBytes 6 peer ++ beBytes 6 (s.get2 F.FAB_SRC_MAC_HI_MAC F.FAB_SRC_MAC_LO_MAC) ++ tag ++
      beBytes 2 (s.get F.FAB_ETYPE_ETYPE) ++ frame))).inc F.FAB_TX_FRAMES_COUNT

/-- Forward a frame by the route table from an ingress port (2 is the internal port), R104 step 4 after its HOPS. -/
def State.forwardFrame (s : State) (ingress : Nat) (frame : List Nat) : State :=
  let dst := ofBe (slice frame 4 2)
  let p := s.routeTo dst
  if 2 ≤ p ∨ p = ingress then (s.inc F.FAB_DROP_ROUTE_COUNT).ev E.FAB_ROUTE_MISS 0 [dst, ingress]
  else s.galeshOut p frame

/-- The header of Table 6.1 before a payload. -/
def State.galeshFrame (s : State) (msg dst : Nat) (bcast : Bool) (payload : List Nat) : List Nat :=
  [1, msg, if bcast then 1 else 0, s.get F.FAB_ROUTE_CFG_HOP_LIMIT] ++ beBytes 2 dst ++ beBytes 2 s.ownAddr ++
    beBytes 2 payload.length ++ [0, 0] ++ payload

/-- The internal port is active: not in MIRROR (R386), and the EtherType is set (R102). -/
def State.internalPort (s : State) : Bool := s.mode != .mirror && s.get F.FAB_ETYPE_ETYPE != 0

/-- A frame of the device's own; a broadcast leaves both ports (log entry 24). -/
def State.galeshSend (s : State) (msg dst : Nat) (payload : List Nat) : State :=
  s.when s.internalPort fun s => s.forwardFrame 2 (s.galeshFrame msg dst false payload)

def State.galeshCast (s : State) (msg : Nat) (payload : List Nat) : State :=
  s.when s.internalPort fun s =>
    let f := s.galeshFrame msg 0 true payload
    (s.galeshOut 0 f).galeshOut 1 f

/-- Galesh messages are consumed here: the internal port is active and a port is up (R40, R102, R386). -/
def State.galeshIn (s : State) : Bool := s.internalPort && (s.fabLink 0 || s.fabLink 1)

/-! ### What waits for the Mirror (R240, R384) -/

/-- The unit streams Mirror frames, and what they must precede waits for them. -/
def State.mirWaits (s : State) : Bool :=
  s.on F.MIR_CFG_EN && s.on F.MIR_STATUS_SELECTED && s.on F.MIR_STATUS_ALIGNED && s.hostOpen && s.mode != .mirror && s.mode != .handover

def State.sendHeld (s : State) : Held → State
  | .out o => s.emit o
  | .galesh msg dst p => s.galeshSend msg dst p

/-- Something goes out after the Mirror frame that holds its cause, at once where none is sent. -/
def State.afterMirror (s : State) (h : Held) : State :=
  if s.mirWaits then { s with mir := { s.mir with held := s.mir.held ++ [h] } } else s.sendHeld h

/-- The frame has gone, or none can go any more: what waited for it follows, oldest first. -/
def State.releaseMirror (s : State) : State :=
  ({ s with mir := { s.mir with held := [] } }).each s.mir.held fun h s => s.sendHeld h

/-- NON_GALESH_FRAME_RX (R106): passed unchanged to the other port, or dropped. -/
def execNonGaleshFrameRx (port : Fin 2) (bytes : List Nat) (s : State) : Result :=
  (s.when (s.on F.FAB_ROUTE_CFG_PASS_OTHER && s.fabEnabled (1 - port) && s.fabLink (1 - port)) fun s =>
    s.emit (.fabric (1 - port) bytes)).finish

end Sys2Proof.Machine
end

