-- ==== Sys2Proof/Machine/LinkRegs.lean ====
section
/-! DEFINITION. The registers of the outlet link that a write does more to than store (chapter 10): the configuration with its
windows, the PLCA values and the pilot's PWM. -/
namespace Sys2Proof.Machine

def State.link (s : State) (n : Nat) : LinkState := mget {} s.links n
def State.setLink (s : State) (n : Nat) (v : LinkState) : State := { s with links := mput {} s.links n v }
def State.modLink (s : State) (n : Nat) (f : LinkState → LinkState) : State := s.setLink n (f (s.link n))

/-- COMBINED (R219): 0 NONE, 1 CONN, 2 EN, 3 RELEASE, 4 FAULT. -/
def State.combined (s : State) (n : Nat) : Nat := s.get (F.LINK_STATUS_COMBINED.inst n)
def State.linkKind (s : State) (n : Nat) : Nat := s.get (F.LINK_CFG_KIND.inst n)
def State.lstate (s : State) (n : Nat) : Nat := s.get (F.LINK_STATUS_LSTATE.inst n)

/-- A window pair (LO, HI) of Table 10.2. -/
def noWindow : Nat × Nat := (0x7FFF, 0x8000)
def windowsA (kind : Nat) : List (Nat × Nat) :=
  match kind with
  | 1 => [(0x2710, 0x32C8), (0x1B58, 0x270F), (0x0FA0, 0x1B57), (0x8000, 0x0F9F), noWindow, noWindow]
  | 2 => [(0x2904, 0x34BC), (0x1D4C, 0x2903), (0x1194, 0x1D4B), (0x05DC, 0x1193), (0xFA24, 0x05DB), (0xCB44, 0xD6FC)]
  | _ => List.replicate 6 noWindow
def windowsB (kind : Nat) : List (Nat × Nat) :=
  match kind with
  | 1 => [(0x2710, 0x32C8), (0x0BB8, 0x1F3F), (0x1F40, 0x270F), (0x8000, 0x0BB7)]
  | 2 => [(0x0FA0, 0x157C), (0x03E8, 0x09C3), (0x09C4, 0x0F9F), (0x8000, 0x03E7)]
  | _ => List.replicate 4 noWindow

/-- The windows of a kind are loaded. -/
def State.loadWindows (s : State) (n kind : Nat) : State :=
  let s := s.each (List.range 6) fun i s =>
    let w := (windowsA kind).getD i noWindow
    (s.set ((F.LINK_WIN_A_LO.inst n).nth i) w.1).set ((F.LINK_WIN_A_HI.inst n).nth i) w.2
  let s := s.each (List.range 4) fun i s =>
    let w := (windowsB kind).getD i noWindow
    (s.set ((F.LINK_WIN_B_LO.inst n).nth i) w.1).set ((F.LINK_WIN_B_HI.inst n).nth i) w.2
  s.when (kind == 2) fun s => s.set (F.LINK_CP_SAMP_LOW_MAX.inst n) 0xD6FC

def State.badCfg (s : State) (n off : Nat) : State := s.err E.LINK_BAD_CFG n [off]

/-- A write to LINK.CFG; a link whose KIND changes loses the levels it had, which is logged where the vehicle level was not NONE
(R220). -/
def State.linkCfg (s : State) (n v : Nat) : State :=
  let kind := bits v 1 0
  let id := s.get (F.LINK_PLCA_NODE_ID.inst n)
  if kind ≠ s.linkKind n ∧ s.ostate n ≠ .idle then s.err E.LINK_KIND_BUSY n [(s.ostate n).code]
  else if bits v 9 8 = 2 ∧ s.mode ≠ .sealedService then s.badCfg n 0x040
  else if bits v 11 10 = 1 ∧ (id = 0 ∨ id = 255) then s.badCfg n 0x040
  else
    let changed := kind != s.linkKind n
    let s := ((s.set (F.LINK_CFG_GAP_MS.inst n) (bits v 31 24)).set (F.LINK_CFG_DEBOUNCE_MS.inst n) (bits v 23 16)).setB (F.LINK_CFG_ALLOW_D.inst n) (v.testBit 12)
    let s := ((s.set (F.LINK_CFG_T1S_MODE.inst n) (bits v 11 10)).set (F.LINK_CFG_PILOT_MODE.inst n) (bits v 9 8)).set (F.LINK_CFG_KIND.inst n) kind
    let s := s.when changed fun s =>
      let s := s.loadWindows n kind
      let s := s.when (s.combined n != 0) fun s => s.ev E.LINK_UNPLUGGED n [(s.ostate n).code]
      let s := ((s.set (F.LINK_STATUS_LEVEL_A.inst n) 0).set (F.LINK_STATUS_LEVEL_B.inst n) 0).set (F.LINK_STATUS_COMBINED.inst n) 0
      s.setLink n {}
    s.refreshPilot n

/-- A host write to LINK.PLCA: a follower's NODE_ID may not be 0 or 255 (R223). -/
def State.plcaWrite (s : State) (n v : Nat) : State :=
  if s.get (F.LINK_CFG_T1S_MODE.inst n) = 1 ∧ (bits v 23 16 = 0 ∨ bits v 23 16 = 255) then s.badCfg n 0x050
  else (((s.set (F.LINK_PLCA_NODE_CNT.inst n) (bits v 31 24)).set (F.LINK_PLCA_NODE_ID.inst n) (bits v 23 16)).set (F.LINK_PLCA_TO_TMR.inst n) (bits v 15 8)).set
    (F.LINK_PLCA_BURST_CNT.inst n) (bits v 7 0)

/-- A new PWM: a period of Table 10.5, or BAD_CFG. -/
def State.cpPwmWrite (s : State) (n v : Nat) : State :=
  if [500, 625, 800, 1000, 1250, 1600, 2000].contains (bits v 31 16) then
    (s.set (F.LINK_CP_PWM_PERIOD_US.inst n) (bits v 31 16)).set (F.LINK_CP_PWM_DUTY.inst n) (bits v 9 0)
  else s.badCfg n 0x058

end Sys2Proof.Machine
end

