-- ==== Sys2Proof/Machine/SentRegs.lean ====
section
/-! DEFINITION. The Sentence slots and the registers that show them (chapter 05, Table 5.8): SLOT_STATE, the view of the slot
in SEL, and writes to V_CFG and V_STOP. -/
namespace Sys2Proof.Machine

def State.slot (s : State) (k : Nat) : SentSlot := mget {} s.slots k
def State.setSlot (s : State) (k : Nat) (x : SentSlot) : State := { s with slots := mput {} s.slots k x }
def State.modSlot (s : State) (k : Nat) (f : SentSlot → SentSlot) : State := s.setSlot k (f (s.slot k))
def State.modSent (s : State) (f : SentState → SentState) : State := { s with sent := f s.sent }

/-- SLOT_STATE and the view of the slot that SEL names (Table 5.8). -/
def State.refreshSent (s : State) : State :=
  let states := fun (a : Nat) => (List.range 8).foldl (fun w k => w + (s.slot (a + k)).st * 16 ^ k) 0
  let x := s.slot (s.get F.SENT_SEL_SLOT)
  let s := (s.set F.SENT_SLOT_STATE_LO_STATE (states 0)).set F.SENT_SLOT_STATE_HI_STATE (states 8)
  let s := (((s.set F.SENT_V_STATE_OWNER x.owner).set F.SENT_V_STATE_PARTICIPANTS x.kids.length).set F.SENT_V_STATE_NCLAUSES x.clauses.length).set
    F.SENT_V_STATE_STATE x.st
  let s := ((((s.set F.SENT_V_CFG_MODE x.mode).setB F.SENT_V_CFG_DIST x.dist).setB F.SENT_V_CFG_TD_ZERO x.tdZero).set F.SENT_V_CFG_LOOP_SLOT x.loopSlot).setB
    F.SENT_V_CFG_AUTO_RELEASE x.autoRel
  let sec := x.stop / 1000000000
  let s := ((s.set F.SENT_V_STOP_NS_NS (x.stop % 1000000000)).set F.SENT_V_STOP_SEC_LO_SEC sec).set F.SENT_V_STOP_SEC_HI_SEC (sec / 2 ^ 32)
  let s := s.set F.SENT_V_SID_SID x.sid
  let s := ((s.set F.SENT_V_VOTES_MISSING (if x.st = 3 then x.kids.length - x.yes.length - x.noCnt else 0)).set F.SENT_V_VOTES_NO x.noCnt).set F.SENT_V_VOTES_YES x.yes.length
  let s := (((s.set F.SENT_V_OUTCOME_MISSING x.outMissing).set F.SENT_V_OUTCOME_HALF x.outHalf).set F.SENT_V_OUTCOME_DONE x.outDone).set F.SENT_V_OUTCOME_ABORTED x.outAborted
  let s := (s.set F.SENT_V_FIRST_NO_FACET x.noFacet).set F.SENT_V_FIRST_NO_REASON x.noReason
  let s := (s.set F.SENT_V_ERROR_CLAUSE x.errClause).set F.SENT_V_ERROR_CODE x.errCode
  ((s.setB F.SENT_V_APPLIED_LATE_DECISION x.late).setB F.SENT_V_APPLIED_TAKES x.takesOn).setB F.SENT_V_APPLIED_YIELDS x.yieldsOn

/-- A write to V_CFG or V_STOP of the slot in SEL: taken only in OPEN. -/
def State.viewWrite (s : State) (off v : Nat) : State :=
  let k := s.get F.SENT_SEL_SLOT
  let x := s.slot k
  if x.st ≠ 1 then s.err E.SENT_NOT_OPEN 0 [k, 0]
  else
    let ns := x.stop % 1000000000
    let sec := x.stop / 1000000000
    (s.setSlot k (match off with
      | 0x084 => { x with mode := bits v 31 30, dist := v.testBit 29, tdZero := v.testBit 28, loopSlot := bits v 19 16, autoRel := v.testBit 0 }
      | 0x088 => { x with stop := sec * 1000000000 + bits v 29 0 }
      | 0x08C => { x with stop := (sec / 2 ^ 32 * 2 ^ 32 + v % 2 ^ 32) * 1000000000 + ns }
      | _ => { x with stop := (v % 65536 * 2 ^ 32 + sec % 2 ^ 32) * 1000000000 + ns })).refreshSent

end Sys2Proof.Machine
end

