-- ==== Sys2Proof/Machine/RegWrite.lean ====
section
/-! DEFINITION. Writing a register's fields by page and offset, and what follows at once from a written value: the shared
part of a host write (R50), of a REG Clause (R81) and of an image record (R57). -/
namespace Sys2Proof.Machine

/-- TREE.SELF has changed: a root holds its own Aperture without a lease, and LEASE_STAT and DEPTH say so (Table 6.13). -/
def State.refreshRoot (s : State) : State :=
  if s.on F.TREE_SELF_ROOT then (s.set F.TREE_LEASE_STAT_STATE 4).set F.TREE_DEPTH_DEPTH 0
  else s.when (s.get F.TREE_LEASE_STAT_STATE == 4) fun s => s.set F.TREE_LEASE_STAT_STATE 0

/-- What follows from a new value of the register at `off` of `page`. -/
def State.afterReg (s : State) (page _off : Nat) : State :=
  match pageKind page with
  | 0x0A => (s.refreshSafeMa (page - 0x0A)).setVramp (page - 0x0A) (s.outSt (page - 0x0A)).vrampUv
  | 0x0E => (s.refreshOffsets).refreshGroups
  | 0x1A => (s.refreshOffsets).refreshGroups
  | 0x1C => ((s.refreshOwners).refreshChans).refreshAllRoles
  | 0x1D => (s.refreshOwners).refreshChans
  | 0x28 => (((s.refreshOwners).refreshChans).each s.outlets fun n s => s.refreshSafeMa n).refreshDegStat
  | 0x2B => s.refreshChans
  | 0x2C => s.refreshChans
  | 0x06 => s.setB F.FAB_STATUS_ETYPE_UNSET (s.get F.FAB_ETYPE_ETYPE == 0)
  | 0x07 => s.refreshRoot
  | 0x08 => s.each s.outlets fun n s => s.each (s.joined n) fun g s => s.modGrp g fun v => { v with weightDue := true }
  | 0x43 => s.refreshFill
  | _ => s

/-- A new EPOCH_CFG (R118). -/
def State.epochCfgWrite (s : State) (v : Nat) : State :=
  let e := bits v 31 16
  let o := bits v 15 0
  if e < 10 ∨ 1000 < e ∨ 1000 % e ≠ 0 ∨ e ≤ o ∨ o * 1000 < s.get F.SENT_DIST_LEAD_LEAD_US + 1000 then s.err E.ALLOC_BAD_EPOCH 0 [v]
  else (s.set F.ALLOC_EPOCH_CFG_EPOCH_MS e).set F.ALLOC_EPOCH_CFG_STOP_OFFSET_MS o

/-- PAIRARB.CFG as the device writes it itself: a pair newly enabled drives the level its output shows. -/
def State.arbLevels (s : State) : Nat := (List.range 4).foldl (fun m k => setBitOf m k (!s.arbSelB k)) 0

/-- A meter point's KIND 0b11 is reserved, and a write of it is refused (Table 12.7). -/
def reservedKind (page off v : Nat) : Bool := page == 0x23 && decide (0x080 ≤ off) && decide (off < 0x0AC) && bits v 9 8 == 3

/-- A register with an operation of its own among those a Clause or the loader may write beside the host; `v` is the whole new
word, of which `mask` is written. None where the fields simply take their bits. -/
def State.ownReg (s : State) (page off mask v : Nat) : Option State :=
  match pageKind page with
  | 0x03 => if off = 0x070 then some (s.tailWrite .clog v) else none
  | 0x04 => s.writeTime off v
  | 0x05 => s.writeTpo off mask v
  | 0x08 => if off = 0x040 then some (s.epochCfgWrite v) else none
  | 0x09 => match off with
    | 0x048 => some (s.set F.SENT_CLAUSE_W0_W0 (v - bits v 20 16 * 2 ^ 16))
    | 0x058 => some ((s.set F.SENT_SEL_SLOT v).refreshSent)
    | 0x084 => some (s.viewWrite off v)
    | 0x088 => some (s.viewWrite off v)
    | 0x08C => some (s.viewWrite off v)
    | 0x090 => some (s.viewWrite off v)
    | _ => none
  | 0x1A =>
    if off = 0x040 then some (s.periodWrite v)
    else if off = 0x044 then some (s.timingWrite false v)
    else if off = 0x048 then some (s.timingWrite true v)
    else match (List.range 4).find? fun n => off == (F.PHASE_OV_CFG_TRIP.nth n).off with
      | some n => some (s.ovCfgWrite n v)
      | none => none
  | 0x1B => if off = 0x040 then some (s.swapReq v) else none
  | 0x1C => match (List.range 4).find? fun n => off == (F.COOL_OCFG_EN.nth n).off with
    | some n => some (s.ocfgWrite n v)
    | none => none
  | 0x1D => match off with
    | 0x040 => some (s.linkCfg (page - 0x1D) v)
    | 0x050 => some (s.plcaWrite (page - 0x1D) v)
    | 0x058 => some (s.cpPwmWrite (page - 0x1D) v)
    | _ => none
  | 0x21 => if off = 0x008 then some (if v.testBit 0 then s.exiSet else s.exiClear) else none
  | 0x23 => if off = 0x180 then some (s.capCfgWrite mask v) else if reservedKind page off v then some s else none
  | 0x2A => if off = 0x040 then some (s.when (s.mode == .configure) fun s =>
      (s.setB F.MIR_CFG_EN (v.testBit 0)).setB F.SYS_MODE_PAIRED (v.testBit 0)) else none
  | 0x2B =>
    if 0x100 ≤ off ∧ off < 0x300 ∧ off % 16 = 0 ∧ !lswCfgOk ((off - 0x100) / 16) v then
      some (s.err E.LSW_BAD_CFG ((off - 0x100) / 16) [(off - 0x100) / 16, off])
    else match (List.range 32).find? fun c => off == 0x100 + 16 * c + 8 with
    | some c => some (s.chCmdWrite c v)
    | none => none
  | 0x2C => if off = 0x044 ∧ (v % 128 < 8 ∨ 64 < v % 128) then some (s.err E.LSX_BAD_CFG 0 [off]) else none
  | 0x2F =>
    let c := page - 0x2F
    let st := s.get (F.DMACH_STATE_STATE.inst c)
    if off = 0x040 then some (s.when (st == 0) fun s => s.set (F.DMACH_MODE_MODE.inst c) v)
    else if off = 0x094 ∧ v / 65536 ≤ v % 65536 then some (s.err E.DMACH_BAD_CMD c [0, st])
    else none
  | 0x42 => match (List.range 48).find? fun c => off == (F.SENS_CH_CFG_EN.nth c).off with
    | some c => some (s.sensCfgWrite c v)
    | none => none
  | 0x43 => if off = 0x044 then some (s.tailWrite .evt v) else if off = 0x054 then some (s.logCfg v) else none
  | 0x45 => if off = 0x040 then some (s.arbCfgWrite v s.arbLevels) else none
  | 0x46 => if off = 0x044 then some (s.tailWrite .sess v) else none
  | _ => none

/-! ### The test registers (R47) -/

/-- DIAG_INJ and EVT_SET act (R47). -/
def State.testMode (s : State) : Bool := s.mode == .selftest || s.mode == .sealedService

/-- A write to DIAG_INJ. -/
def State.diagInj (s : State) (page v : Nat) : State :=
  if !s.testMode then s.errC .diagInjRefused page [v]
  else (s.set (hDiagSel page) (v / 2 ^ 16)).set (hDiagArm page) (v % 2)

/-! ### A REG Clause (R52, R81) -/

/-- Reserved bits with access RO in registers that a Clause may otherwise name (Tables 4.2, 6.13, 7.10 and 8.6). -/
def roReserved (page off : Nat) : Nat :=
  match pageKind page, off with
  | 0x04, 0x098 => 0xFFF8
  | 0x07, 0x044 => 0xFFFC0000
  | 0x0A, 0x05C => 0xFFFFFFFE
  | 0x0E, 0x044 => 0xFFFFFF00
  | _, _ => 0

/-- The bits of a register that a Clause may name: those of RW and RWT fields, with the reserved bits written beside them (R52).
VCMD.TARGET is written through VCMD Clauses alone (R177). -/
def clauseMask (page off : Nat) : Nat :=
  let free := maskOf page off fun a => a == .rw || a == .rwt
  if off = 0x014 ∨ off = 0x030 then 2 ^ 32 - 1
  else if pageKind page = 0x0A ∧ off = F.OUTLET_VCMD_TARGET.off then 0
  else if free = 0 ∧ off ≠ 0x008 then 0
  else 2 ^ 32 - 1 - (maskOf page off fun a => !(a == .rw || a == .rwt)).lor (roReserved page off)

/-- A REG Clause writes its masked value (R81): the header's EVT_EN and DIAG_INJ, a register with an operation of its own, or the RW
and RWT fields of any other. -/
def State.regClause (s : State) (page off mask val : Nat) : State :=
  if off = 0x014 then s.set (hEvtEn page) (masked 32 (s.get (hEvtEn page)) mask val)
  else if off = 0x030 then s.diagInj page (masked 32 (s.get (hDiagSel page) * 2 ^ 16 + s.get (hDiagArm page)) mask val)
  else match s.ownReg page off mask (masked 32 (s.regWord page off) mask val) with
  | some s' => s'
  | none => (s.setWord page off mask val fun a => a == .rw || a == .rwt).afterReg page off

end Sys2Proof.Machine
end

