-- ==== Sys2Proof/Machine/Sentences.lean ====
section
/-! DEFINITION. The Sentence engine (chapter 05): Clauses and their classes, the slots, staging and validation, the full
stop and the take instant, and distributed Sentences. -/
namespace Sys2Proof.Machine

/-- The vehicle context of outlet `n`. -/
def State.ctx (s : State) (n : Nat) : CtxState := mget {} s.ctxs n

/-! ### Clauses (Tables 5.1 and 5.2) -/

def Clause.type (c : Clause) : Nat := bits c.w0 31 24
def Clause.cls (c : Clause) : Nat := bits c.w0 23 22
def Clause.remote (c : Clause) : Bool := c.w0.testBit 21
def Clause.facet (c : Clause) : Nat := c.w0 % 65536
/-- Page and offset of a REG Clause. -/
def Clause.page (c : Clause) : Nat := bits c.w1 30 24
def Clause.off (c : Clause) : Nat := bits c.w1 11 0
/-- Table, entry and word of a TABLE Clause. -/
def Clause.table (c : Clause) : Nat := bits c.w1 27 24
def Clause.entry (c : Clause) : Nat := bits c.w1 23 8
def Clause.word (c : Clause) : Nat := bits c.w1 7 0
/-- Group and outlet of a ROUTE Clause. -/
def Clause.group (c : Clause) : Nat := bits c.w1 31 24
def Clause.outlet (c : Clause) : Nat := bits c.w1 1 0
def Clause.routeTo (c : Clause) : Nat := bits c.w1 7 0
def Clause.phase (c : Clause) : Nat := bits c.w1 7 0
def Clause.target (c : Clause) : Nat := bits c.w1 15 0

/-- A REG Clause on GROUP.ROUTE acts as a ROUTE Clause (R145): its group and outlet. -/
def State.regRoute (s : State) (c : Clause) : Option (Nat × Nat) :=
  if c.type = 1 ∧ 0x0E ≤ c.page ∧ c.page < 0x1A ∧ c.off = F.GROUP_ROUTE_OUTLET.off then
    some (c.page - 0x0E, masked 8 (s.route (c.page - 0x0E)) c.w3 c.w2)
  else none

/-- The Clauses of a slot that act on this controller: all of a participant's, the local ones of any other (R87). -/
def SentSlot.locals (x : SentSlot) : List Clause := if x.owner = 3 then x.clauses else x.clauses.filter fun c => !c.remote

/-! ### Slots (R82, R83) -/

/-- The lowest free slot from `a` to below `b`. -/
def State.freeSlot (s : State) (a b : Nat) : Option Nat := (List.range b).find? fun k => decide (a ≤ k) && (s.slot k).st == 0

/-- The page of the register or table that a Clause names; a MARK names none (log entry 96). -/
def Clause.onPage (c : Clause) : Option Nat :=
  match c.type with
  | 0x01 => some c.page
  | 0x02 => some (if c.table = 9 then 0x1A else 0x07)
  | 0x03 => some (0x0E + c.group)
  | 0x04 => some (0x0E + c.phase / 6)
  | 0x08 => some (if 0x1000 ≤ c.target ∧ c.target < 0x1004 then 0x08 else 0x07)
  | 0x0A => none
  | _ => some (0x0A + c.outlet)

/-- Open Sentences holding a staged Clause on a page: LOCK.OWNERS (Table 3.2). -/
def State.lockOwners (s : State) (page : Nat) : Nat :=
  ((List.range 16).filter fun k =>
    let x := s.slot k
    decide (1 ≤ x.st) && decide (x.st ≤ 5) && x.locals.any fun c => c.onPage == some page).length

/-! ### Apertures -/

/-- Floor and ceiling of an Aperture target (Table 5.2). -/
def State.aptFloor (s : State) (t : Nat) : Int :=
  if t < 256 then s.fFloor t else if t = 0xFFFF then s.getI F.TREE_OWN_FLOOR_W else s.getI (F.ALLOC_OUT_FLOOR_W.nth (t - 0x1000))
def State.aptCeil (s : State) (t : Nat) : Nat :=
  if t < 256 then s.fCeil t else if t = 0xFFFF then s.get F.TREE_OWN_CEIL_W else s.get (F.ALLOC_OUT_CEIL_W.nth (t - 0x1000))
/-- The reserved floor (R108). -/
def State.aptRes (s : State) (t : Nat) : Nat := (s.aptFloor t).toNat

def State.setAptFloor (s : State) (t : Nat) (w : Int) : State :=
  if t < 256 then s.wrLe (facetBase t + 8) 4 (ofSigned 32 w) else if t = 0xFFFF then s.setI F.TREE_OWN_FLOOR_W w
  else s.setI (F.ALLOC_OUT_FLOOR_W.nth (t - 0x1000)) w

/-- A ceiling changes; an outlet's change renews the weights of its groups at their next period (R141). -/
def State.setAptCeil (s : State) (t w : Nat) : State :=
  if t < 256 then s.wrLe (facetBase t + 12) 4 w else if t = 0xFFFF then s.set F.TREE_OWN_CEIL_W w
  else (s.set (F.ALLOC_OUT_CEIL_W.nth (t - 0x1000)) w).each (s.sharing (t - 0x1000)) fun g s => s.modGrp g fun v => { v with weightDue := true }

/-- The Prism that contains a member directly, 0xFF for none. -/
def State.prismOf (s : State) (t : Nat) : Nat :=
  if t < 256 then s.fParent t else if t = 0xFFFF then 0xFF else s.get (F.ALLOC_OUT_CFG_PRISM.nth (t - 0x1000))

/-- Every member of the controller: its outlets, then its entries. -/
def State.members (s : State) : List Nat := (s.outlets.map fun n => 0x1000 + n) ++ s.facets

/-- The members of Prism `p`, or with 0xFF those directly under the controller. -/
def State.membersOf (s : State) (p : Nat) : List Nat := s.members.filter fun t => s.prismOf t == p

def State.sumCeil (s : State) (l : List Nat) : Nat := (l.map s.aptCeil).sum
def State.sumFloor (s : State) (l : List Nat) : Int := (l.map s.aptFloor).foldl (· + ·) 0

/-! ### Parts of a Clause (R81) -/

/-- One value of a Clause, by the magnitude committed and the new one: a yield when lower, a take when higher. -/
def byMagnitude (old new : Nat) (a : Act) : List Act × List Act :=
  if new < old then ([a], []) else if old < new then ([], [a]) else ([], [])

/-- A ROUTE Clause: removal from an outlet is a yield, routing to an outlet a take. -/
def State.routeParts (s : State) (g o : Nat) : List Act × List Act :=
  let cur := s.route g
  if cur = o then ([], []) else
  (if cur = 0xFF then [] else [.routeYield g], if o = 0xFF then [] else [.routeTake g o])

/-- The yields and the takes of a Clause, judged against the committed state. -/
def State.parts (s : State) (c : Clause) : List Act × List Act :=
  let classed := fun (a : Act) => if c.cls = 1 then ([a], []) else ([], [a])
  match c.type with
  | 0x01 => match s.regRoute c with
    | some (g, o) => s.routeParts g o
    | none => classed (.reg c.page c.off c.w3 c.w2)
  | 0x02 => classed (.tab c.table c.entry c.word c.w3 c.w2)
  | 0x03 => s.routeParts c.group c.routeTo
  | 0x04 => if c.w2.testBit 0 then ([], [.phase c.phase true]) else ([.phase c.phase false], [])
  | 0x05 => byMagnitude (s.getI (F.OUTLET_VCMD_TARGET.inst c.outlet)).natAbs c.w2 (.vcmd c.outlet c.w2)
  | 0x06 =>
    let a := byMagnitude (s.get (F.OUTLET_ILIM_IMP_MA.inst c.outlet)) c.w2 (.ilim c.outlet false c.w2)
    let b := byMagnitude (s.get (F.OUTLET_ILIM_EXP_MA.inst c.outlet)) c.w3 (.ilim c.outlet true c.w3)
    (a.1 ++ b.1, a.2 ++ b.2)
  | 0x07 =>
    let a := byMagnitude (s.get (F.OUTLET_PLIM_IMP_W.inst c.outlet)) c.w2 (.plim c.outlet false c.w2)
    let b := byMagnitude (s.get (F.OUTLET_PLIM_EXP_W.inst c.outlet)) c.w3 (.plim c.outlet true c.w3)
    (a.1 ++ b.1, a.2 ++ b.2)
  | 0x08 =>
    let f := toSigned 32 c.w2
    let g := s.aptFloor c.target
    let a : List Act × List Act := if f = g then ([], []) else if f.natAbs ≤ g.natAbs then ([.floor c.target f], []) else ([], [.floor c.target f])
    let b := byMagnitude (s.aptCeil c.target) c.w3 (.ceil c.target c.w3)
    (a.1 ++ b.1, a.2 ++ b.2)
  | 0x0A => ([.mark c.w2], [])
  | _ => ([], [])

/-- The bytes of a table word take their new value; bits that the layout gives as zero stay so (R6). -/
def State.tabClause (s : State) (table entry word mask val : Nat) : State :=
  let a := tbl table ((if table = 9 then 16 else 32) * entry + 4 * word)
  let s := s.wrBytes a (entryBytes table 0 (4 * word) (leBytes 4 (masked 32 (s.rdLe a 4) mask val)))
  if table = 9 then s.refreshGroup (entry / 6) else s.refreshChildren

/-- Carry out one part (R89). -/
def State.applyAct (s : State) (k : Nat) : Act → State
  | .reg page off mask val => s.regClause page off mask val
  | .tab t e w mask val => s.tabClause t e w mask val
  | .routeYield g => s.routeYield g
  | .routeTake g o => s.routeTake g o
  | .phase p on => if on then s.enablePhase p else s.disablePhase p
  | .vcmd n mv => (s.set (F.OUTLET_VCMD_TARGET.inst n) mv).setVramp n (s.outSt n).vrampUv
  | .ilim n e ma => s.set (if e then F.OUTLET_ILIM_EXP_MA.inst n else F.OUTLET_ILIM_IMP_MA.inst n) ma
  | .plim n e w => s.set (if e then F.OUTLET_PLIM_EXP_W.inst n else F.OUTLET_PLIM_IMP_W.inst n) w
  | .floor t w => s.setAptFloor t w
  | .ceil t w => s.setAptCeil t w
  | .mark tag => s.ev E.SENT_MARK 0 [k, tag]

def State.applyActs (s : State) (k : Nat) (l : List Act) : State := s.each l fun a s => s.applyAct k a

/-! ### Checks at STAGE (R85) -/

/-- A check failed: its code and the data words of its record. -/
abbrev SentErr := EvCode × List Nat

/-- The first check of a list that fails. -/
def firstBad (l : List (Bool × EvCode)) : Option EvCode := (l.find? fun x => x.1).map fun x => x.2

/-- A target that no variant has, or a value out of range (0x09_43). -/
def Clause.outOfRange (c : Clause) : Bool :=
  match c.type with
  | 0x01 => decide (0x46 < c.page) || c.off % 4 != 0
  | 0x02 => (c.table == 9 && (decide (72 ≤ c.entry) || decide (4 ≤ c.word))) || (c.table == 10 && (decide (256 ≤ c.entry) || decide (8 ≤ c.word)))
  | 0x03 => decide (11 < c.group) || !(decide (c.routeTo < 4) || c.routeTo == 0xFF)
  | 0x04 => decide (71 < c.phase)
  | 0x05 => !(c.w2 == 0 || (decide (150000 ≤ c.w2) && decide (c.w2 ≤ 1500000)))
  | 0x06 => decide (3000000 < c.w2) || decide (3000000 < c.w3)
  | 0x07 => decide (4500000 < c.w2) || decide (4500000 < c.w3)
  | 0x08 =>
    let out := decide (0x1000 ≤ c.target) && decide (c.target < 0x1004)
    !(decide (c.target < 256) || out || c.target == 0xFFFF) || decide ((c.w3 : Int) < toSigned 32 c.w2) ||
      (out && (decide (4500000 < c.w3) || decide (4500000 < (toSigned 32 c.w2).natAbs)))
  | _ => false

/-- A target that the GA-7680 has and this variant lacks (0x09_41). -/
def State.absentTarget (s : State) (c : Clause) : Bool :=
  match c.type with
  | 0x01 => decide (c.page < 0x47) && !s.hasPage c.page
  | 0x02 => c.table == 9 && decide (c.entry < 72) && !s.hasGroup (c.entry / 6)
  | 0x03 => decide (c.group < 12) && (!s.hasGroup c.group || (decide (c.routeTo < 4) && !s.hasOutlet c.routeTo))
  | 0x04 => decide (c.phase < 72) && !s.hasGroup (c.phase / 6)
  | 0x05 => !s.hasOutlet c.outlet
  | 0x06 => !s.hasOutlet c.outlet
  | 0x07 => !s.hasOutlet c.outlet
  | 0x08 => decide (0x1000 ≤ c.target) && decide (c.target < 0x1004) && !s.hasOutlet (c.target - 0x1000)
  | _ => false

/-- A mask over a bit that no Clause may name (R52, R108, R157, R177; 0x09_42). -/
def Clause.protectedMask (c : Clause) : Bool :=
  match c.type with
  | 0x01 => decide (c.page < 0x47) && c.off % 4 == 0 && c.w3.land (2 ^ 32 - 1 - clauseMask c.page c.off) != 0
  | 0x02 =>
    if c.table = 9 then c.word == 3 && c.w3 != 0
    else if c.table = 10 then (c.word == 2 || c.word == 3 || decide (5 ≤ c.word)) && c.w3 != 0
    else true
  | _ => false

/-- A Clause on the own Aperture, by its type or by its registers (R85). -/
def Clause.onOwnAperture (c : Clause) : Bool :=
  (c.type == 8 && c.target == 0xFFFF) || (c.type == 1 && c.page == 0x07 && (c.off == F.TREE_OWN_FLOOR_W.off || c.off == F.TREE_OWN_CEIL_W.off))

/-- The checks of R85 on one Clause but the count, in the order of the codes; a Clause from the parent is judged as its
parent's. The absence of an instance is judged where the Clause acts. -/
def State.clauseBad (s : State) (c : Clause) (fromParent : Bool) : Option EvCode :=
  let t := c.type
  firstBad [
    (!((decide (1 ≤ t) && decide (t ≤ 8)) || t == 0x0A) || c.cls == 3 || (c.cls != 0 && decide (2 < t)), E.SENT_BAD_TYPE),
    ((fromParent || !c.remote) && s.absentTarget c, E.SENT_ABSENT_INSTANCE),
    (c.protectedMask, E.SENT_PROTECTED_FIELD),
    (c.outOfRange, E.SENT_RANGE),
    (!fromParent && c.remote && (s.childOf c.facet).isNone, E.SENT_NOT_PARENT),
    (!fromParent && !c.remote && c.onOwnAperture && !s.on F.TREE_SELF_ROOT, E.SENT_NOT_PARENT)]

/-! ### Checks at PREPARE (R86, R87, R109, R110) -/

/-- A register field as a place: its word and its bits. -/
def Field.place (f : Field) : Nat × Nat := (f.page * 4096 + f.off, (2 ^ f.width - 1) * 2 ^ f.lo)

/-- A table word as a place. -/
def wordPlace (t off mask : Nat) : Nat × Nat := (2 ^ 40 + tbl t off, mask)

/-- The places a Clause writes: register words and table words, each with the bits named, whatever its type (Table 5.2). -/
def Clause.places (c : Clause) : List (Nat × Nat) :=
  match c.type with
  | 0x01 => [(c.page * 4096 + c.off, c.w3)]
  | 0x02 => [wordPlace c.table ((if c.table = 9 then 16 else 32) * c.entry + 4 * c.word) c.w3]
  | 0x03 => [(F.GROUP_ROUTE_OUTLET.inst c.group).place]
  | 0x04 => [wordPlace 9 (16 * c.phase + 12) 1]
  | 0x05 => [(F.OUTLET_VCMD_TARGET.inst c.outlet).place]
  | 0x06 => [(F.OUTLET_ILIM_IMP_MA.inst c.outlet).place, (F.OUTLET_ILIM_EXP_MA.inst c.outlet).place]
  | 0x07 => [(F.OUTLET_PLIM_IMP_W.inst c.outlet).place, (F.OUTLET_PLIM_EXP_W.inst c.outlet).place]
  | 0x08 =>
    if c.target < 256 then [wordPlace 10 (32 * c.target + 8) (2 ^ 32 - 1), wordPlace 10 (32 * c.target + 12) (2 ^ 32 - 1)]
    else if c.target = 0xFFFF then [F.TREE_OWN_FLOOR_W.place, F.TREE_OWN_CEIL_W.place]
    else [(F.ALLOC_OUT_FLOOR_W.nth (c.target - 0x1000)).place, (F.ALLOC_OUT_CEIL_W.nth (c.target - 0x1000)).place]
  | _ => []

/-- Two Clauses name the same target: bits of one word (R86). -/
def sameTarget (a b : Clause) : Bool := a.places.any fun p => b.places.any fun q => p.1 == q.1 && p.2.land q.2 != 0

/-- The same target on the same controller. -/
def sameLocal (a b : Clause) : Bool := a.remote == b.remote && (!a.remote || a.facet == b.facet) && sameTarget a b

/-- The index of the later of two Clauses with one target. -/
def dupIndex : Nat → List Clause → List Clause → Option Nat
  | _, _, [] => none
  | i, seen, c :: t => if seen.any fun d => sameLocal d c then some i else dupIndex (i + 1) (c :: seen) t

/-- A Clause as it acts: a participant's own ones name this controller. -/
def SentSlot.here (x : SentSlot) (c : Clause) : Clause := if x.owner = 3 then { c with w0 := c.w0 - c.w0 % 2 ^ 22 } else c

/-- A local APERTURE Clause. -/
def aptClause (t : Nat) (f : Int) (c : Nat) : Clause := ⟨0x08000000, t, ofSigned 32 f, c⟩

/-- What a slot's Clauses and the yields it has added name (R86, R123). -/
def SentSlot.named (x : SentSlot) : List Clause :=
  x.clauses.map x.here ++ x.yields.filterMap fun a => match a with | .ceil t w => some (aptClause t 0 w) | _ => none

/-- The Clauses that the other slots in PREPARED, DECIDED or YIELDED hold. -/
def State.heldClauses (s : State) (k : Nat) : List Clause :=
  ((List.range 16).filter fun j => j != k && (let st := (s.slot j).st; st == 3 || st == 4 || st == 5)).flatMap fun j => (s.slot j).named

/-- The Aperture target here is named by another pending Sentence. -/
def State.aptHeld (s : State) (k t : Nat) : Bool := (s.heldClauses k).any fun c => sameLocal c (aptClause t 0 0)

/-- G, F and C of R87. -/
def State.budget (s : State) : Int × Int × Int :=
  let l := s.membersOf 0xFF
  ((s.sumCeil l : Nat), ((l.map fun t => (s.aptFloor t).natAbs).sum : Nat), (s.aptCeil 0xFFFF : Nat))

/-- A state passes R87 against the committed budget. -/
def budgetOk (b b0 : Int × Int × Int) : Bool :=
  (decide (b.1 ≤ b.2.2) && decide (b.2.1 ≤ b.2.2)) ||
    (decide (b.1 - b.2.2 ≤ b0.1 - b0.2.2) && decide (b.2.1 - b.2.2 ≤ b0.2.1 - b0.2.2))

/-- The chain of PARENT values from entry `e` ends within `fuel` steps. -/
def State.chainEnds (s : State) : Nat → Nat → Bool
  | 0, _ => false
  | n + 1, e => let p := s.fParent e; p == 0xFF || s.chainEnds n p

/-- The member a Prism loop or a wrong PARENT is found at (R109). -/
def State.prismLoop (s : State) : Option Nat :=
  match s.members.find? fun t => let p := s.prismOf t; p != 0xFF && s.fKind p != 2 with
  | some t => some t
  | none => s.prisms.find? fun e => !s.chainEnds 257 e

/-- The Prism that breaks the first or second condition of R110. -/
def State.prismBudget (s : State) : Option Nat :=
  s.prisms.find? fun e => let l := s.membersOf e; decide (s.fCeil e < s.sumCeil l) || s.fFloor e != s.sumFloor l

/-- The excess of reserved floors over the own reserved floor (R110); none at the site root. -/
def State.floorExcess (s : State) : Int :=
  if s.on F.TREE_SELF_ROOT then 0 else (((s.membersOf 0xFF).map s.aptRes).sum : Nat) - (s.aptRes 0xFFFF : Nat)

def State.floorOk (s s0 : State) : Bool := decide (s.floorExcess ≤ 0) || decide (s.floorExcess ≤ s0.floorExcess)

/-- The whole-Sentence checks on Apertures: in the state after the yields and in the state after the takes. -/
def State.apertureBad (s : State) (k : Nat) (ys ts : List Act) : Option (Nat × SentErr) :=
  let s1 := s.applyActs k ys
  let s2 := s1.applyActs k ts
  if !(budgetOk s1.budget s.budget && budgetOk s2.budget s.budget) then some (0x7F, E.SENT_CAPACITY, [k, 0x7F])
  else match s2.prismLoop with
    | some e => some (0x7F, E.ALLOC_PRISM_LOOP, [k, e])
    | none => match s1.prismBudget with
      | some e => some (0x7F, E.ALLOC_PRISM_BUDGET, [k, e])
      | none => match s2.prismBudget with
        | some e => some (0x7F, E.ALLOC_PRISM_BUDGET, [k, e])
        | none => if s1.floorOk s && s2.floorOk s then none else some (0x7F, E.TREE_FLOOR_EXCESS, [k, 0x7F])

/-- A ROUTE to an outlet that R86 refuses. -/
def State.routeBad (s : State) (c : Clause) : Bool :=
  let r := if c.type = 3 then some (c.group, c.routeTo) else s.regRoute c
  match r with
  | some (g, o) => decide (o < 4) && ((s.enabledPhases g).isEmpty || s.contactorFaulted (matrixCoil g o))
  | none => false

/-- What is wrong with the routing that a REG Clause forms (R4, R145): no outlet, or one this variant lacks. -/
def State.formBad (s : State) (c : Clause) : Option EvCode :=
  match s.regRoute c with
  | some (_, o) => if o = 0xFF ∨ s.hasOutlet o then none else if o < 4 then some E.SENT_ABSENT_INSTANCE else some E.SENT_RANGE
  | none => none

/-- The index of the first Clause that satisfies `p`. -/
def clauseIdx (p : Clause → Bool) : Nat → List Clause → Option Nat
  | _, [] => none
  | i, c :: t => if p c then some i else clauseIdx p (i + 1) t

/-- All checks of R86, R109, R110 and R145 on slot `k`, in the order of the codes: the failing Clause, the code and its data. -/
def State.validate (s : State) (k : Nat) : Option (Nat × SentErr) :=
  let x := s.slot k
  let whole := fun (c : EvCode) => some (0x7F, c, [k, 0x7F])
  let sync := s.on F.TIME_SYNC_STATE_SYNC_OK
  let rest := fun (_ : Unit) =>
    if x.mode = 2 ∧ !x.dist ∧ x.stop < s.fabNs + 1000 then whole E.SENT_TOO_LATE
    else if x.dist ∧ x.mode = 2 ∧ x.owner ≠ 3 ∧ x.stop < x.prepNs + s.get F.SENT_DIST_LEAD_LEAD_US * 1000 then whole E.SENT_TOO_LATE
    else if (x.mode = 2 ∨ x.dist) ∧ !sync ∧ !(x.owner = 2 ∧ x.mode ≠ 2) then whole E.SENT_NO_SYNC
    else if x.mode = 3 ∨ (x.dist ∧ x.mode ≠ 2) ∨ (x.mode = 1 ∧ !(decide (x.loopSlot < 16) && s.bit F.LOOP_RUN_LO_CLOSED x.loopSlot)) then whole E.SENT_BAD_MODE
    else none
  let isLocal := fun (c : Clause) => x.owner == 3 || !c.remote
  match clauseIdx (fun c => isLocal c && (s.formBad c).isSome) 0 x.clauses with
  | some i => some (i, (s.formBad (x.clauses.getD i {})).getD E.SENT_RANGE, [k, i])
  | none =>
  if x.clauses.isEmpty then whole E.SENT_EMPTY
  else match dupIndex 0 [] x.clauses with
  | some i => some (i, E.SENT_DUPLICATE_TARGET, [k, i])
  | none =>
    let held := s.heldClauses k
    match clauseIdx (fun c => held.any fun d => sameLocal d (x.here c)) 0 x.clauses with
    | some i => some (i, E.SENT_CONFLICT, [k, i])
    | none =>
      match s.apertureBad k x.yields x.takes with
      | some (i, c, d) => if c = E.SENT_CAPACITY then some (i, c, d) else
          match clauseIdx (fun c => isLocal c && s.routeBad c) 0 x.clauses with
          | some i => some (i, E.SENT_ROUTE_INVALID, [k, i])
          | none => match rest () with
            | some e => some e
            | none => some (i, c, d)
      | none =>
        match clauseIdx (fun c => isLocal c && s.routeBad c) 0 x.clauses with
        | some i => some (i, E.SENT_ROUTE_INVALID, [k, i])
        | none => rest ()

/-- The yields and takes of a slot's own Clauses. -/
def State.slotParts (s : State) (x : SentSlot) : List Act × List Act :=
  x.locals.foldl (fun acc c => let p := s.parts c; (acc.1 ++ p.1, acc.2 ++ p.2)) ([], [])

/-! ### Ends (R84, R90, R96) -/

/-- OUTCOME payload: result, and what was applied. -/
def State.outcomePayload (s : State) (sid result flags reason : Nat) : List Nat :=
  [0x34, 1] ++ beBytes 2 s.ownAddr ++ beBytes 4 sid ++ [result, flags] ++ beBytes 2 reason

/-- OUTCOME to the parent, after the Mirror frame that holds the slot's new state (R96, R384). -/
def State.sendOutcome (s : State) (sid result flags reason : Nat) : State :=
  s.afterMirror (.galesh 0x34 (s.get F.TREE_PARENT_ADDRESS) (s.outcomePayload sid result flags reason))

/-- OUTCOME ABORTED or HALF of a participation, with what a HALF has applied (R96). -/
def State.sendEnd (s : State) (sid result reason : Nat) : State :=
  s.sendOutcome sid result (if result = 2 then (mget {} s.sent.halves sid).flags else 0) reason

/-- The guard instant of a slot, fabric ns (R95). -/
def State.guardNs (s : State) (x : SentSlot) : Nat := x.stop - s.get F.SENT_TIMING_GUARD_US * 1000

/-- A slot is freed (R84). -/
def State.freeSlotNow (s : State) (k : Nat) : State := s.setSlot k {}

/-- A slot ends in DONE, ABORTED or HALF: counted, logged, its OUTCOME sent or owed, LAST_EPOCH kept, and released when it
releases itself. -/
def State.endSlot (s : State) (k st code clause : Nat) : State :=
  let x := s.slot k
  let s := s.setSlot k { x with st := st, vaultDue := none, errCode := if st = 6 then x.errCode else code, errClause := if st = 6 then x.errClause else clause }
  let s := match st with
    | 6 => (s.inc F.SENT_COMMITTED_COUNT_COUNT).ev E.SENT_COMMITTED 0 [k, x.sid, x.clauses.length]
    | 7 => (s.inc F.SENT_ABORTED_COUNT_COUNT).ev E.SENT_ABORTED 0 [k, x.sid, code, clause]
    | _ => (s.inc F.SENT_HALF_COUNT_COUNT).ev E.SENT_HALF 0 [k, x.sid, code]
  let s := s.when (x.owner == 3) fun s => match st with
    | 6 => s.sendOutcome x.sid 1 3 0
    | _ =>
      let h : HalfState := { code := code, flags := (if x.yieldsOn then 1 else 0) + if x.late then 4 else 0, guard := s.guardNs x }
      let s := s.when (st != 7) fun s => s.modSent fun e => { e with halves := mput {} e.halves x.sid h }
      let r := if st = 7 then 3 else 2
      if s.fabNs < x.stop then s.modSent fun e => { e with outDue := e.outDue ++ [(k, x.sid, r, code)] } else s.sendEnd x.sid r code
  let s := s.when (s.tree.epochSlot == some k) fun s =>
    { s with tree := { s.tree with epochSlot := none } }.set F.ALLOC_LAST_EPOCH_RESULT
      (if st = 6 then 0x0901 else if code ≠ 0 then code else if st = 7 then 0x0902 else 0x0903)
  let s := s.when (x.owner == 1) fun s =>
    let s := s.when (st != 6 && (s.ctx k).waitSet.isNone) fun s => s.modOut k fun o => { o with energyDue := false }
    s.when (st == 7) fun s => (s.ev E.VDE_TARGET_REJECTED k [code, clause]).inc (F.VDE_CTX_REJECTS_COUNT.nth k)
  (if x.autoRel || decide (k < 12) then s.freeSlotNow k else s).refreshSent

/-- An error of the Sentence engine recorded for slot `k`, which ends ABORTED with it. -/
def State.abortErr (s : State) (k : Nat) (e : Nat × SentErr) : State := (s.err e.2.1 0 e.2.2).endSlot k 7 e.2.1.code16 e.1

/-! ### Coordination (R91, R94) -/

def State.coord (s : State) (sid : Nat) : CoordState := mget {} s.sent.coords sid
def State.setCoord (s : State) (sid : Nat) (c : CoordState) : State := s.modSent fun e => { e with coords := mput {} e.coords sid c }

/-- DECIDE payload (Table 5.5). -/
def State.decidePayload (s : State) (sid decision copy : Nat) : List Nat :=
  [0x33, 1] ++ beBytes 2 s.ownAddr ++ beBytes 4 sid ++ [decision, copy, 0, 0]

/-- The coordinator decides: one broadcast, two repeats to come. -/
def State.sendDecision (s : State) (sid decision : Nat) (kids : List Nat) : State :=
  if kids.isEmpty then s.setCoord sid { decision := decision, copies := 3, waiting := [] }
  else (s.setCoord sid { decision := decision, copies := 1, waiting := kids }).galeshCast 0x33 (s.decidePayload sid decision 0)

def State.decideCommit (s : State) (k : Nat) : State :=
  let x := s.slot k
  ((s.setSlot k { x with st := 4 }).sendDecision x.sid 1 x.kids).refreshSent

def State.decideAbort (s : State) (k code : Nat) : State :=
  let x := s.slot k
  (s.sendDecision x.sid 2 x.kids).endSlot k 7 code 0x7F

/-- PREPARE payload for one participant (Table 5.5). -/
def State.preparePayload (s : State) (x : SentSlot) (kid : Nat) : List Nat :=
  let cs := x.clauses.filter fun c => c.remote && c.facet == kid
  [0x31, 1] ++ beBytes 2 s.ownAddr ++ beBytes 4 x.sid ++ beBytes 6 (x.stop / 1000000000) ++ beBytes 4 (x.stop % 1000000000) ++
    beBytes 4 x.delay ++ beBytes 2 (x.kids.length + 1) ++ [cs.length, 0, 0, 0] ++
    cs.flatMap fun c => beBytes 4 c.w0 ++ beBytes 4 c.w1 ++ beBytes 4 c.w2 ++ beBytes 4 c.w3

/-- The take delay of R89. -/
def State.takeDelay (s : State) (x : SentSlot) : Nat :=
  if x.dist then max 2 (s.get F.SENT_TAKE_DELAY_US) else if x.tdZero then 0 else s.get F.SENT_TAKE_DELAY_US

/-- The REMOTE Clauses' children, each once, in order. -/
def kidsOf (l : List Clause) : List Nat :=
  l.foldl (fun acc c => if c.remote && !acc.contains c.facet then acc ++ [c.facet] else acc) []

/-- The end of validation: PREPARED or ABORTED (R86). A distributed Sentence takes its ID and sends its PREPARE frames; with no
child it is decided at once (R91). -/
def State.finishValidation (s : State) (k : Nat) : State :=
  let x := s.slot k
  let p := s.slotParts x
  let x := { x with yields := p.1, takes := p.2, delay := s.takeDelay x, kids := if x.dist then kidsOf x.clauses else [] }
  let s := s.setSlot k x
  match s.validate k with
  | some e => s.abortErr k e
  | none =>
    if x.dist then
      let n := (s.sent.serial + 1) % 65536
      let x := { x with st := 3, sid := s.ownAddr * 65536 + n }
      let s := (s.setSlot k x).modSent fun e => { e with serial := n }
      let s := s.each x.kids fun kid s => s.galeshSend 0x31 kid (s.preparePayload x kid)
      if x.kids.isEmpty then s.decideCommit k else s.refreshSent
    else (s.setSlot k { x with st := 3 }).refreshSent

/-! ### Host commands (R84, Table 5.4) -/

/-- A command's result (Table 5.8). -/
def State.cmdResult (s : State) (slot err : Nat) : State := (s.set F.SENT_CMD_RESULT_SLOT slot).set F.SENT_CMD_RESULT_ERROR err

/-- A command is refused: recorded, and reported in CMD_RESULT. -/
def State.cmdRefuse (s : State) (c : EvCode) (slot : Nat) (data : List Nat) : State := (s.err c 0 data).cmdResult slot c.code16

/-- A host command reaches the engine: BUSY is judged first, then the slot when the command names one. -/
def State.sentCmd (s : State) (op slot : Nat) (names : Bool) (f : State → State) : State :=
  s.hostWrites 0x09 0x040 fun s =>
    if s.on F.SENT_CMD_RESULT_BUSY then s.err E.SENT_CMD_BUSY 0 [slot, op]
    else if names && decide (slot < 12) then s.cmdRefuse E.SENT_NOT_OWNER slot [slot, op]
    else f s

/-- SENT_OPEN (R82, R84). -/
def execSentOpen (s : State) : Result :=
  (s.sentCmd 1 0 false fun s =>
    match s.freeSlot 12 16 with
    | some k => ((s.setSlot k { st := 1, owner := 0 }).cmdResult k 0).refreshSent
    | none => s.cmdRefuse E.SENT_NO_SLOT_FREE 0 [0]).finish

/-- The Clause in CLAUSE_W0 to W3. -/
def State.stagedClause (s : State) : Clause :=
  ⟨s.get F.SENT_CLAUSE_W0_W0, s.get F.SENT_CLAUSE_W1_W1, s.get F.SENT_CLAUSE_W2_VALUE_A, s.get F.SENT_CLAUSE_W3_VALUE_B⟩

/-- SENT_STAGE (R84, R85). -/
def execSentStage (slot : Fin 16) (s : State) : Result :=
  (s.sentCmd 2 slot true fun s =>
    let x := s.slot slot
    if x.st ≠ 1 then s.cmdRefuse E.SENT_NOT_OPEN slot [slot, 2]
    else
      let c := s.stagedClause
      let n := x.clauses.length
      match s.clauseBad c false with
      | some e => if decide (64 ≤ n) && (e == E.SENT_NOT_PARENT) then s.cmdRefuse E.SENT_TOO_MANY_CLAUSES slot [slot, n] else s.cmdRefuse e slot [slot, n]
      | none =>
        if 64 ≤ n then s.cmdRefuse E.SENT_TOO_MANY_CLAUSES slot [slot, n]
        else ((s.setSlot slot { x with clauses := x.clauses ++ [c] }).cmdResult slot 0).refreshSent).finish

/-- SENT_PREPARE (R84): the whole-Sentence checks begin. -/
def execSentPrepare (slot : Fin 16) (s : State) : Result :=
  (s.sentCmd 3 slot true fun s =>
    let x := s.slot slot
    if x.st ≠ 1 then s.cmdRefuse E.SENT_NOT_OPEN slot [slot, 3]
    else ((s.setSlot slot { x with st := 2, prepNs := s.fabNs }).cmdResult slot 0).refreshSent).finish

/-- SENT_ABORT (R84): in OPEN, or in PREPARED before the full stop or the decision. -/
def execSentAbort (slot : Fin 16) (s : State) : Result :=
  (s.sentCmd 4 slot true fun s =>
    let x := s.slot slot
    if x.st = 1 ∨ (x.st = 3 ∧ !x.dist ∧ x.vaultDue.isNone) then (s.endSlot slot 7 0 0).cmdResult slot 0
    else if x.st = 3 ∧ x.dist then (s.decideAbort slot 0).cmdResult slot 0
    else s.cmdRefuse E.SENT_ABORT_REFUSED slot [slot, 4]).finish

/-- SENT_RELEASE (R84). -/
def execSentRelease (slot : Fin 16) (s : State) : Result :=
  (s.sentCmd 5 slot true fun s =>
    let st := (s.slot slot).st
    if 6 ≤ st then ((s.freeSlotNow slot).cmdResult slot 0).refreshSent
    else s.cmdRefuse E.SENT_NOT_TERMINAL slot [slot, 5]).finish

/-- SENT_CLEAR (R84). -/
def execSentClear (slot : Fin 16) (s : State) : Result :=
  (s.sentCmd 6 slot true fun s =>
    let x := s.slot slot
    if x.st = 1 then ((s.setSlot slot { x with clauses := [] }).cmdResult slot 0).refreshSent
    else s.cmdRefuse E.SENT_NOT_OPEN slot [slot, 6]).finish

/-- SENT_BAD_OP (R84): an OP that Table 5.4 does not list, whatever SLOT holds. -/
def execSentBadOp (op slot : Fin 16) (s : State) : Result :=
  (s.sentCmd op slot false fun s => s.when (op == 0 || decide (7 ≤ op.val)) fun s => s.cmdRefuse E.SENT_BAD_OP slot [op]).finish

/-- VALIDATION_DONE (R86). -/
def execValidationDone (slot : Fin 16) (s : State) : Result :=
  (s.when ((s.slot slot).st == 2) fun s => s.finishValidation slot).finish

/-! ### The full stop and the take instant (R88, R89, R95, R100, R113) -/

/-- The lease keeps the takes back: it expired while the Sentence was decided (R128), or it is not valid and they hold a take on
the own Aperture (R113). -/
def State.leaseBars (s : State) (x : SentSlot) : Bool :=
  x.leaseOut || !(s.get F.TREE_LEASE_STAT_STATE == 1 || s.get F.TREE_LEASE_STAT_STATE == 4) && x.takes.any fun a => match a with
    | .floor t _ => t == 0xFFFF
    | .ceil t _ => t == 0xFFFF
    | _ => false

/-- The take instant: the takes apply and the slot is DONE, or its lease keeps them back. -/
def State.applyTakes (s : State) (k : Nat) : State :=
  let x := s.slot k
  if s.leaseBars x then s.endSlot k 8 E.TREE_LEASE_EXPIRED.code16 0x7F
  else
    let s := s.applyActs k x.takes
    let s := (s.setSlot k { x with takesOn := true }).endSlot k 6 0 0
    s.refreshMode

/-- The yields apply. -/
def State.applyYields (s : State) (k : Nat) : State :=
  let x := s.slot k
  (s.applyActs k x.yields).setSlot k { x with yieldsOn := true, stop := if x.mode = 2 then x.stop else s.fabNs }

/-- The Sentence applies its yields, withholds its takes and ends in HALF. -/
def State.halve (s : State) (k code : Nat) : State :=
  let s := if (s.slot k).yieldsOn then s else s.applyYields k
  s.endSlot k 8 code 0x7F

/-- The Sentence ends in HALF, at the return where no Clause may be applied now (R99, R100). -/
def State.halveDue (s : State) (k code : Nat) : State :=
  if s.stagesRun then s.halve k code else s.modSlot k fun x => { x with vaultDue := some (x.vaultDue.getD code) }

/-- OUT_ENERGY begins at the full stop of the targets of PowerDelivery(Start), not at that of a Sentence they wait for (R255, R257);
an outlet that has left OUT_PRECHARGE in between, as one that has tripped, keeps its state (R18). -/
def State.beginEnergy (s : State) (k : Nat) : State :=
  s.when (decide (k < 4) && (s.outSt k).energyDue && (s.ctx k).waitSet.isNone) fun s =>
    (s.modOut k fun o => { o with energyDue := false }).when (s.ostate k == .precharge) fun s => s.setOState k .energy

/-- What follows the yields in a slot that commits: its takes with no take delay, else the wait for the take instant. -/
def State.afterYields (s : State) (k : Nat) : State :=
  let s := s.beginEnergy k
  let x := s.slot k
  if x.delay = 0 then s.applyTakes k else ((s.setSlot k { x with st := 5 }).refreshSent).refreshMode

/-- The full stop of a slot that is to commit. -/
def State.commitStop (s : State) (k : Nat) : State := (s.applyYields k).afterYields k

/-- The slot is due at its full stop: local and prepared, or decided, or a bound participant. -/
def State.stopDue (s : State) (k : Nat) : Bool :=
  let x := s.slot k
  (x.st == 3 && (!x.dist || x.bound)) || x.st == 4

/-- OUTCOME ABORTED or HALF owed by a participation of this slot, at its full stop (R96). -/
def State.sendDue (s : State) (k : Nat) : State :=
  let l := s.sent.outDue.filter fun x => x.1 == k
  let s := s.modSent fun e => { e with outDue := e.outDue.filter fun x => x.1 != k }
  s.each l fun x s => s.sendEnd x.2.1 x.2.2.1 x.2.2.2

/-- The slots due at the full stop of slot `k`: itself, and those at the same time (R98). -/
def State.stopSet (s : State) (k : Nat) : List Nat :=
  (List.range 16).filter fun j => s.stopDue j &&
    (j == k || ((s.slot k).mode == 2 && (s.slot j).mode == 2 && (s.slot j).stop == (s.slot k).stop))

/-- The full stop of several slots: the yields of all, then what follows in each; a bound one ends in HALF (R95, R98). -/
def State.stopAll (s : State) (l : List Nat) : State :=
  let s := s.each l fun j s => s.applyYields j
  s.each l fun j s => if (s.slot j).bound then s.halve j (if (s.slot j).leaseOut then E.TREE_LEASE_EXPIRED.code16 else 0) else s.afterYields j

/-- SYNC_OK has fallen to 0: Sentences at a time that are pending end by their state (R99); in MIRROR they are the selected unit's
(R388). -/
def State.syncSentences (s : State) : State :=
  s.when s.sent.syncFell fun s =>
    (s.modSent fun e => { e with syncFell := false }).when (s.mode != .mirror) fun s =>
      s.each ((List.range 16).filter fun k => (s.slot k).mode == 2 || (s.slot k).dist) fun k s =>
        let x := s.slot k
        let code := E.SENT_NO_SYNC.code16
        match x.st with
        | 3 =>
          if x.owner = 3 then s.halveDue k code
          else if x.dist then s.decideAbort k code
          else s.abortErr k (0x7F, E.SENT_NO_SYNC, [k, 0x7F])
        | 4 => s.halveDue k code
        | _ => s

/-- FULL_STOP (R88, R89, R95, R96, R98, R100); in MIRROR the slots are the selected unit's (R388). -/
def execFullStop (slot : Fin 16) (s : State) : Result :=
  (let s := if !s.stopDue slot || s.mode == .mirror then s
     else if !s.stagesRun then s.modSlot slot fun x => { x with vaultDue := some (x.vaultDue.getD E.PWR_VAULT_ENTER.code16) }
     else s.stopAll (s.stopSet slot)
   (s.sendDue slot).syncSentences).finish

/-- TAKE_INSTANT (R89, R100, R113). -/
def execTakeInstant (slot : Fin 16) (s : State) : Result :=
  (s.when ((s.slot slot).st == 5) fun s =>
    if s.mode == .mirror then s
    else if !s.stagesRun then s.modSlot slot fun x => { x with vaultDue := some (x.vaultDue.getD E.PWR_VAULT_ENTER.code16) }
    else (s.applyTakes slot).syncSentences).finish

/-- The return without reset: Sentences that fell due while no Clause could be applied end in HALF (R99, R100). -/
def State.vaultSentences (s : State) : State :=
  s.each (List.range 16) fun k s =>
    let x := s.slot k
    match x.vaultDue with
    | some code =>
      let s := s.setSlot k { x with vaultDue := none }
      s.when (x.st == 3 || x.st == 4 || x.st == 5) fun s => (s.halve k code).sendDue k
    | none => s

/-! ### Participants (R93, R95, R123) -/

/-- Lower a member and every Prism that contains it by `x`. -/
def State.lowerChain (s : State) : Nat → Nat → Nat → State
  | 0, _, _ => s
  | fuel + 1, t, x => if t = 0xFF then s else (s.setAptCeil t (s.aptCeil t - x)).lowerChain fuel (s.prismOf t) x

/-- Take watts from the margins of Prisms, in entry order: the state with them lowered and what is still missing. -/
def State.roomPrisms (s : State) (k need : Nat) : List Nat → State × Nat
  | [] => (s, need)
  | e :: t =>
    let x := if s.aptHeld k e then 0 else min need (s.fCeil e - s.sumCeil (s.membersOf e))
    (s.lowerChain 258 e x).roomPrisms k (need - x) t

/-- Take watts from the outlets of one class, each the same fraction of its excess over its reserved floor. -/
def State.roomClass (s : State) (k need c : Nat) : State × Nat :=
  let l := s.outlets.filter fun n => s.get (F.ALLOC_OUT_CFG_PRIO.nth n) == c && !s.aptHeld k (0x1000 + n)
  let ex := fun (n : Nat) => s.aptCeil (0x1000 + n) - s.aptRes (0x1000 + n)
  let tot := (l.map ex).sum
  let cut := fun (n : Nat) => if tot ≤ need then ex n else (ex n * need + tot - 1) / tot
  (s.each l fun n s => s.lowerChain 258 (0x1000 + n) (cut n), need - (l.map cut).sum)

/-- The yields a participant adds where a PREPARE lowers its own ceiling (R123): what is missing after its own yields, from
Prism margins, then from outlets, class 7 first. -/
def State.makeRoom (s : State) (k : Nat) (ys : List Act) : List Act :=
  let s1 := s.applyActs k ys
  let b := s1.budget
  let lowered := ys.any fun a => match a with | .ceil t _ => t == 0xFFFF | _ => false
  let need := if lowered then (b.1 - b.2.2).toNat else 0
  if need = 0 then [] else
  let r := s1.roomPrisms k need s1.prisms
  let r := ((List.range 8).reverse).foldl (fun (r : State × Nat) c => if r.2 = 0 then r else r.1.roomClass k r.2 c) r
  (s1.members.filter fun t => r.1.aptCeil t != s1.aptCeil t).map fun t => .ceil t (r.1.aptCeil t)

/-- The Clauses of a PREPARE payload. -/
def payloadClauses (p : List Nat) : List Clause :=
  (List.range (p.getD 24 0)).map fun i =>
    ⟨ofBe (slice p (28 + 16 * i) 4), ofBe (slice p (32 + 16 * i) 4), ofBe (slice p (36 + 16 * i) 4), ofBe (slice p (40 + 16 * i) 4)⟩

/-- VOTE to the parent, after the Mirror frame that holds the slot's new state (R93, R384). -/
def State.sendVote (s : State) (sid reason : Nat) : State :=
  s.afterMirror (.galesh 0x32 (s.get F.TREE_PARENT_ADDRESS)
    ([0x32, 1] ++ beBytes 2 s.ownAddr ++ beBytes 4 sid ++ [if reason = 0 then 0 else 1, 0] ++ beBytes 2 reason))

def payloadSender (p : List Nat) : Nat := ofBe (slice p 2 2)
def payloadSid (p : List Nat) : Nat := ofBe (slice p 4 4)

/-- The sender is this controller's parent. -/
def State.fromParent (s : State) (p : List Nat) : Bool := !s.on F.TREE_SELF_ROOT && payloadSender p == s.get F.TREE_PARENT_ADDRESS

/-- The slot that holds a participation in a Sentence. -/
def State.partSlot (s : State) (sid : Nat) : Option Nat :=
  (List.range 16).find? fun k => let x := s.slot k; x.owner == 3 && x.st != 0 && x.sid == sid

/-- A NO vote, its error recorded; nothing is kept. -/
def State.voteNo (s : State) (sid : Nat) (e : SentErr) : State := (s.err e.1 0 e.2).sendVote sid e.1.code16

/-- A PREPARE from the parent is judged and answered (R93). -/
def State.prepareRx (s : State) (p : List Nat) : State :=
  let sid := payloadSid p
  if !s.fromParent p then s
  else match s.partSlot sid with
  | some _ => s.sendVote sid 0
  | none =>
    let stop := ofBe (slice p 8 6) * 1000000000 + ofBe (slice p 14 4)
    let cs := payloadClauses p
    if !s.on F.TIME_SYNC_STATE_SYNC_OK then s.voteNo sid (E.SENT_NO_SYNC, [0xFF, 0x7F])
    else if !s.on F.SENT_CTRL_DIST_EN then s.voteNo sid (E.SENT_DIST_DISABLED, [sid])
    else match s.freeSlot 4 12 with
    | none => s.voteNo sid (E.SENT_NO_SLOT_FREE, [3])
    | some k =>
      if stop < s.fabNs + (s.get F.SENT_TIMING_GUARD_US + 100) * 1000 then s.voteNo sid (E.SENT_TOO_LATE, [k, 0x7F])
      else match clauseIdx (fun c => (s.clauseBad c true).isSome) 0 cs with
      | some i => s.voteNo sid (((s.clauseBad (cs.getD i {}) true).getD E.SENT_BAD_TYPE), [k, i])
      | none =>
        let x : SentSlot := { st := 2, owner := 3, clauses := cs, mode := 2, dist := true, autoRel := true, stop := stop,
                              delay := max 2 (ofBe (slice p 18 4)), prepNs := s.fabNs, sid := sid }
        let ps := s.slotParts x
        let x := { x with yields := ps.1 ++ s.makeRoom k ps.1, takes := ps.2 }
        match (s.setSlot k x).validate k with
        | some e => s.voteNo sid e.2
        | none => ((s.setSlot k { x with st := 3 }).sendVote sid 0).refreshSent

/-- PREPARE_RX (R93). -/
def execPrepareRx (payload : List Nat) (s : State) : Result := (s.when s.galeshIn fun s => s.prepareRx payload).finish

/-- A decision reaches a participant (R95). -/
def State.decideRx (s : State) (p : List Nat) : State :=
  let sid := payloadSid p
  let d := p.getD 8 0
  if !s.fromParent p then s
  else
    let late := fun (s : State) => s.when (d == 1 && !s.sent.lateSeen.contains sid) fun s =>
      (s.modSent fun e => { e with lateSeen := sid :: e.lateSeen }).ev E.SENT_LATE_DECISION 0 [sid, d]
    match s.partSlot sid with
    | none => match s.sent.halves.find? fun e => e.1 == sid with
      | some (_, h) => s.when (decide (h.guard ≤ s.fabNs)) fun s =>
          (late s).when (d == 1) fun s => s.modSent fun e => { e with halves := mins sid { h with flags := setBitOf h.flags 2 true } e.halves }
      | none => s
    | some k =>
      let x := s.slot k
      if x.bound then ((late s).when (d == 1) fun s => s.setSlot k { x with late := true }).refreshSent
      else if x.st ≠ 3 then s
      else if d = 1 then (s.setSlot k { x with st := 4 }).refreshSent
      else if d = 2 then s.endSlot k 7 0 0x7F
      else s

/-- DECIDE_RX (R95). -/
def execDecideRx (payload : List Nat) (s : State) : Result := (s.when s.galeshIn fun s => s.decideRx payload).finish

/-- A participant still without a decision. -/
def SentSlot.undecided (x : SentSlot) : Bool := x.owner == 3 && x.st == 3 && !x.bound

/-- QUERY_SEND (R95): one QUERY at the full stop minus GUARD_US minus 200 µs. -/
def execQuerySend (slot : Fin 16) (s : State) : Result :=
  (let x := s.slot slot
   s.when (x.undecided && !x.queried) fun s =>
    (s.setSlot slot { x with queried := true }).galeshSend 0x35 (s.get F.TREE_PARENT_ADDRESS)
      ([0x35, 1] ++ beBytes 2 s.ownAddr ++ beBytes 4 x.sid ++ [0, 0, 0, 0])).finish

/-- GUARD_INSTANT (R95): bound. -/
def execGuardInstant (slot : Fin 16) (s : State) : Result :=
  (s.when (s.slot slot).undecided fun s => s.modSlot slot fun x => { x with bound := true }).finish

/-! ### The coordinator's messages (R94, R96) -/

/-- The slot of a Sentence coordinated here. -/
def State.coordSlot (s : State) (sid : Nat) : Option Nat :=
  (List.range 16).find? fun k => let x := s.slot k; x.owner != 3 && x.st != 0 && x.dist && x.sid == sid

/-- A VOTE is counted; the last YES commits, the first NO aborts (R94, R123). -/
def State.voteRx (s : State) (p : List Nat) : State :=
  let from_ := payloadSender p
  let reason := ofBe (slice p 10 2)
  match s.coordSlot (payloadSid p) with
  | none => s
  | some k =>
    let x := s.slot k
    if x.st ≠ 3 ∨ !x.kids.contains from_ ∨ x.yes.contains from_ then s
    else if p.getD 8 0 = 0 then
      let x := { x with yes := x.yes ++ [from_] }
      let s := s.setSlot k x
      if x.yes.length = x.kids.length then s.decideCommit k else s.refreshSent
    else
      let s := s.setSlot k { x with noCnt := x.noCnt + 1, noFacet := from_, noReason := reason }
      let s := s.when (reason == E.SENT_CAPACITY.code16) fun s => s.ev E.ALLOC_SHED_SHORT 0 [from_, x.sid]
      s.decideAbort k reason

/-- VOTE_RX (R94). -/
def execVoteRx (payload : List Nat) (s : State) : Result := (s.when s.galeshIn fun s => s.voteRx payload).finish

/-- VOTE_DEADLINE (R94): a vote is still missing. -/
def execVoteDeadline (slot : Fin 16) (s : State) : Result :=
  (let x := s.slot slot
   s.when (x.owner != 3 && x.dist && x.st == 3) fun s =>
    (s.err E.SENT_VOTES_MISSING 0 [x.sid, x.kids.length - x.yes.length - x.noCnt]).decideAbort slot E.SENT_VOTES_MISSING.code16).finish

/-- DECIDE_REPEAT (R94): the second and third copy, 20 µs apart. -/
def execDecideRepeat (sid : Word) (s : State) : Result :=
  (let c := s.coord sid.toNat
   s.when (c.decision != 0 && decide (c.copies < 3)) fun s =>
    (s.setCoord sid.toNat { c with copies := c.copies + 1 }).galeshCast 0x33 (s.decidePayload sid.toNat c.decision c.copies)).finish

/-- A QUERY is answered with the decision, to the asker alone. -/
def State.queryRx (s : State) (p : List Nat) : State :=
  let c := s.coord (payloadSid p)
  s.when (c.decision != 0) fun s => s.galeshSend 0x33 (payloadSender p) (s.decidePayload (payloadSid p) c.decision 0)

/-- QUERY_RX (R94). -/
def execQueryRx (payload : List Nat) (s : State) : Result := (s.when s.galeshIn fun s => s.queryRx payload).finish

/-- An OUTCOME is counted once; HALF is logged whenever it arrives (R96). -/
def State.outcomeRx (s : State) (p : List Nat) : State :=
  let sid := payloadSid p
  let from_ := payloadSender p
  let result := p.getD 8 0
  let c := s.coord sid
  let s := s.when (result == 2 && (s.childOf from_).isSome) fun s => s.ev E.SENT_HALF_REPORTED 0 [sid, from_, ofBe (slice p 10 2)]
  if !c.waiting.contains from_ then s
  else
    let s := s.setCoord sid { c with waiting := c.waiting.filter fun a => a != from_ }
    match s.coordSlot sid with
    | none => s
    | some k => (s.modSlot k fun x => match result with
      | 1 => { x with outDone := x.outDone + 1 }
      | 2 => { x with outHalf := x.outHalf + 1 }
      | _ => { x with outAborted := x.outAborted + 1 }).refreshSent

/-- OUTCOME_RX (R96). -/
def execOutcomeRx (payload : List Nat) (s : State) : Result := (s.when s.galeshIn fun s => s.outcomeRx payload).finish

/-- OUTCOME_MISSING (R96). -/
def execOutcomeMissing (sid : Word) (child : Nat) (s : State) : Result :=
  (let c := s.coord sid.toNat
   s.when (c.waiting.contains child && c.decision != 0) fun s =>
    let s := s.ev E.SENT_OUTCOME_MISSING 0 [sid.toNat, child]
    match s.coordSlot sid.toNat with
    | none => s
    | some k => (s.modSlot k fun x => { x with outMissing := x.outMissing + 1 }).refreshSent).finish

/-! ### The device's own Sentences (R82, R127) -/

/-- A local Sentence of the device in slot `k`, from its Clauses to PREPARED or ABORTED. -/
def State.prepareOwn (s : State) (k : Nat) (x : SentSlot) : State :=
  (s.setSlot k { x with st := 2, autoRel := true, prepNs := s.fabNs }).finishValidation k

/-- A yield-only local Sentence in immediate mode: prepared and committed at once in the lowest free slot of the allocator. The
answer tells whether it passed its checks; during VAULT it waits for the return (R100). -/
def State.commitNow (s : State) (cs : List Clause) : State × Bool :=
  match s.freeSlot 4 12 with
  | none => (s.err E.SENT_NO_SLOT_FREE 0 [2], false)
  | some k =>
    let s := s.prepareOwn k { owner := 2, clauses := cs, tdZero := true }
    if (s.slot k).st ≠ 3 then (s, false)
    else if !s.stagesRun then (s.modSlot k fun x => { x with vaultDue := some E.PWR_VAULT_ENTER.code16 }, true)
    else (s.commitStop k, true)

end Sys2Proof.Machine
end

