-- ==== Sys2Proof/Machine/Session.lean ====
section
/-! DEFINITION. What the link, the dialogue engine and the safety logic share about a vehicle's session (chapters 10, 11):
the context, messages to the host, the end of a session, and the way back to OUT_IDLE. -/
namespace Sys2Proof.Machine

def State.setCtx (s : State) (n : Nat) (v : CtxState) : State := { s with ctxs := mput {} s.ctxs n v }
def State.modCtx (s : State) (n : Nat) (f : CtxState → CtxState) : State := s.setCtx n (f (s.ctx n))
def State.modVde (s : State) (f : VdeState → VdeState) : State := { s with vde := f s.vde }

/-! ### Messages to the host (R260, R431) -/

/-- A message is cut into parts of at most 4,016 data bytes. -/
def mbxParts (fuel : Nat) (d : List Nat) : List (List Nat) :=
  match fuel with
  | 0 => []
  | k + 1 => if d.length ≤ 4016 then [d] else d.take 4016 :: mbxParts k (d.drop 4016)

/-- The bodies of one message (Table 11.11). -/
def mbxBodies (kind ctx reqId : Nat) (data : List Nat) : List (List Nat) :=
  let ps := mbxParts 16 data
  (List.range ps.length).map fun i =>
    [kind, ctx, i, ps.length] ++ leBytes 4 reqId ++ leBytes 4 (ps.getD i []).length ++ [0, 0, 0, 0] ++ ps.getD i []

/-- The engine has a message for the host; it waits for its slot in order (R432). -/
def State.mbxSend (s : State) (kind ctx reqId : Nat) (data : List Nat) : State :=
  s.modVde fun v => { v with mbxWait := v.mbxWait ++ (mbxBodies kind ctx reqId data).map fun b => ⟨kind, b⟩ }

/-- A new request identifier. -/
def State.nextReqId (s : State) : State × Nat :=
  let r := (s.vde.reqId + 1) % 2 ^ 32
  (s.modVde fun v => { v with reqId := r }, r)

/-- A mailbox request outstanding is withdrawn (R264). -/
def State.cancelReqs (s : State) (n : Nat) : State :=
  let c := s.ctx n
  let s := match c.authReq with | some r => s.mbxSend 7 n r [] | none => s
  let s := match c.certReq with | some r => s.mbxSend 7 n r [] | none => s
  s.modCtx n fun c => { c with authReq := none, certReq := none, certBuf := [] }

/-- A message about a session: event code, session ID, EVCCID, protocol, reason (Table 11.12). -/
def State.sessionInfo (s : State) (n code reason : Nat) : State :=
  s.mbxSend 6 n 0 (leBytes 2 code ++ leBytes 8 (s.get2 (F.VDE_CTX_SID_HI_SID.nth n) (F.VDE_CTX_SID_LO_SID.nth n)) ++
    leBytes 1 (s.ctx n).evccid.length ++ (s.ctx n).evccid ++ [s.get (F.VDE_CTX_STATE_PROTO.nth n)] ++ leBytes 2 reason)

/-- A request to the metrology die: kinds 1 session open, 2 session close, 3 legal time steer, 4 record append, 5 tariff
activation, 6 calibration. In a pair the Mirror reports it to the standby as well (R391). -/
def State.d2dSend (s : State) (kind : Nat) (data : List Nat) : State :=
  let s := s.when (s.on F.MIR_CFG_EN && s.on F.MIR_STATUS_SELECTED) fun s => { s with mir := { s.mir with reqs := s.mir.reqs ++ [(kind, data)] } }
  s.when (!s.sys.metLost) fun s => s.emit (.d2d kind data)

/-- The session record of outlet `n` is to be closed, once the outlet is released. -/
def State.closeRecord (s : State) (n : Nat) : State :=
  s.when (s.ctx n).closeDue fun s =>
    (s.modCtx n fun c => { c with closeDue := false }).d2dSend 2 [n, s.get (F.VDE_CTX_END_REASON.nth n)]

/-- CTXn fields of the connection and the session cleared. -/
def State.clearConn (s : State) (n : Nat) : State :=
  let s := (s.set (F.VDE_CTX_STATE_PROTO.nth n) 0).set (F.VDE_CTX_STATE_SEC.nth n) 0
  let s := ((s.set (F.VDE_CTX_STATE_STEP.nth n) 0).set (F.VDE_CTX_STATE_AUTH.nth n) 0).set (F.VDE_CTX_DEMAND_W_W.nth n) 0
  let s := (s.setB (F.VDE_CTX_STATE_WAITING.nth n) false).setBit F.CRYPT_STATUS_TLS_OPEN n false
  let s := s.set (F.VDE_CTX_STATE_CONN.nth n) (if (s.ctx n).closing then 5 else if (s.ctx n).active && (s.ctx n).dad == 2 then 1 else 0)
  s.modCtx n fun c => { active := c.active, dad := c.dad, closeDue := c.closeDue, closing := c.closing, peer := c.peer }

/-- A TCP segment on a vehicle link leaves after the Mirror frame that holds it (R384). -/
def State.segment (s : State) (n msg : Nat) (vals : List Nat) : State := s.afterMirror (.out (.net n msg vals))

/-- The connection is closed from here; its end is awaited. -/
def State.closeTcp (s : State) (n : Nat) : State := (s.segment n 8 []).modCtx n fun c => { c with closing := true }

/-- TLS and TCP are closed: close_notify where TLS is in use, then the connection. -/
def State.closeConn (s : State) (n : Nat) : State :=
  let c := s.ctx n
  let s := s.when (c.tls == 4) fun s => s.segment n 12 []
  s.when c.tcp fun s => s.closeTcp n

/-! ### The way back to OUT_IDLE (R220, R230, R235) -/

/-- The transport stops: LSTATE DOWN, the SLAC run forgotten, PHY off. -/
def State.linkDown (s : State) (n : Nat) : State :=
  let s := ((s.set (F.LINK_STATUS_LSTATE.inst n) 0).set (F.LINK_SLAC_STAT_STEP.inst n) 0).set (F.LINK_SLAC_STAT_RETRIES.inst n) 0
  s.modLink n fun l => { accA := l.accA, accB := l.accB, gapA := l.gapA, gapB := l.gapB, acted := l.acted, plugTick := l.plugTick }

/-- The latch is de-energised (R221): causes 0 to OUT_IDLE, 1 RELEASE, 2 host, 3 AUTO_S. -/
def State.latchOff (s : State) (n cause : Nat) : State :=
  if !s.on (F.LINK_STATUS_LATCH_CMD.inst n) then s
  else
    let c := s.get (F.LINK_LATCH_CH.inst n)
    let s := (s.setB (F.LINK_STATUS_LATCH_CMD.inst n) false).modLink n fun l => { l with unlatch := 0 }
    (s.ownerDrive 3 c 0 0).ev E.LINK_UNLATCHED n [cause]

/-- A context is cleared when its outlet returns to OUT_IDLE. -/
def State.ctxClear (s : State) (n : Nat) : State :=
  let s := s.closeRecord n
  let s := s.setCtx n {}
  let s := (s.clearConn n).setBit F.VDE_STATUS_ACTIVE n false
  (s.resetFields ([F.VDE_CTX_SID_LO_SID, F.VDE_CTX_SID_HI_SID, F.VDE_CTX_EVCCID_LO_ID, F.VDE_CTX_EVCCID_HI_ID, F.VDE_CTX_EV_VMAX_MV,
    F.VDE_CTX_EV_IMAX_MA, F.VDE_CTX_EV_PMAX_W, F.VDE_CTX_SOC_PCT, F.VDE_CTX_LAST_REQ_MS].map fun f => f.nth n))

/-- The vehicle is gone: a session ends without alerts (R264), the latch falls, the outlet passes to OUT_IDLE. -/
def State.toIdle (s : State) (n : Nat) : State :=
  let s := s.cancelReqs n
  let s := s.when (s.ctx n).session fun s =>
    ((s.set (F.VDE_CTX_END_REASON.nth n) E.LINK_UNPLUGGED.code16).ev E.VDE_SESSION_END n [E.LINK_UNPLUGGED.code16]).sessionInfo n
      E.VDE_SESSION_END.code16 E.LINK_UNPLUGGED.code16
  let s := (s.latchOff n 0).setOState n .idle
  ((s.ctxClear n).linkDown n).refreshPilot n

/-- The discharge channel of an outlet (R339). -/
def State.setDisch (s : State) (n : Nat) (on : Bool) : State :=
  let c := s.get (F.SAFE_OUT_CFG_DISCH_CH.nth n)
  if c = 0xFF ∨ (s.outSt n).disch = on then s
  else
    let s := s.modOut n fun o => { o with disch := on }
    s.ownerDrive 4 c (if s.dischOn c then 1 else 0) 0

/-- The outlet reaches OUT_RELEASE: the discharge channel is energised (R339), the session record is closed; RELEASE still accepted
is an unlatch request (R231); an unplugged vehicle takes it on to OUT_IDLE (Table 10.4). -/
def State.enterRelease (s : State) (n : Nat) : State :=
  let s := ((s.setOState n .release).setDisch n true).closeRecord n
  let s := s.when (s.combined n == 3) fun s => s.modLink n fun l => { l with unlatch := 1 }
  if s.combined n = 0 then s.toIdle n else s

/-! ### Ends of sessions (R250) -/

/-- A session ends with a reason; the outlet moves by its state (R250). -/
def State.sessEnd (s : State) (n reason : Nat) : State :=
  let s := (s.cancelReqs n).closeConn n
  let s := (s.set (F.VDE_CTX_END_REASON.nth n) reason).ev E.VDE_SESSION_END n [reason]
  let s := (s.when (s.ctx n).session fun s => s.sessionInfo n E.VDE_SESSION_END.code16 reason).clearConn n
  match s.ostate n with
  | .session => s.enterRelease n
  | .check | .precharge | .energy => s.setOState n .stopping
  | _ => s

end Sys2Proof.Machine
end

