-- ==== Sys2Proof/Machine/Link.lean ====
section
/-! DEFINITION. The outlet link (chapter 10): levels and windows, the vehicle level's actions, the latch and the pilot, the
10BASE-T1S and the HomePlug bring-up; and the sensor frame, whose channels 40 to 47 the links read. -/
namespace Sys2Proof.Machine

/-! ### Who acts on a link (R229) -/

/-- The unit runs the links: it is unpaired or selected. A deselected unit keeps its LSTATE from the Mirror. -/
def State.linkMine (s : State) : Bool := !s.on F.MIR_CFG_EN || s.on F.MIR_STATUS_SELECTED

/-- What arrives on a link acts at once in the unit that runs it; during VAULT and HANDOVER it is kept, and no link frame is sent
(R229, R265). -/
def State.onLink (s : State) (i : Instr) (f : State → State) : State :=
  if !s.linkMine then s
  else if !s.stagesRun then { s with mir := { s.mir with kept := s.mir.kept ++ [i] } }
  else f s

/-! ### Bring-up (R223, R225, R228) -/

/-- LSTATE reaches READY: logged, and the context becomes active (R228, R235, R237). -/
def State.linkReady (s : State) (n : Nat) : State :=
  let ms := s.since (s.link n).plugTick / ticksMs
  let first := !(s.link n).wasReady
  let s := ((s.set (F.LINK_STATUS_LSTATE.inst n) 4).set (F.LINK_LAST_UP_MS.inst n) ms).ev E.LINK_TRANSPORT_READY n [ms]
  let s := (s.modLink n fun l => { l with wasReady := true }).setBit F.VDE_STATUS_ACTIVE n true
  let s := s.modCtx n fun c => { c with active := true }
  let s := s.when (first && (s.ctx n).dad == 0) fun s => (s.modCtx n fun c => { c with dad := 1 }).emit (.net n 0 [])
  s.refreshPilot n

def State.macOf (s : State) (n : Nat) : Nat := s.get2 (F.LINK_MAC_HI_MAC.inst n) (F.LINK_MAC_LO_MAC.inst n)

/-- KEYING begins with a new key (R225); without the random number generator none is made. -/
def State.startKeying (s : State) (n : Nat) : State :=
  if s.on F.CRYPT_RNG_STAT_FAIL then s.set (F.LINK_STATUS_LSTATE.inst n) 0
  else
    let k := s.free % 2 ^ 128
    let nid := Config.nidOf k % 2 ^ 54
    let s := (s.freeNext).modLink n fun l => { l with nmk := k, runId := none, attenSum := 0, attenCnt := 0 }
    let s := (s.set (F.LINK_NID_LO_NID.inst n) nid).set (F.LINK_NID_HI_NID.inst n) (nid / 2 ^ 32)
    let s := ((s.set (F.LINK_STATUS_LSTATE.inst n) 2).set (F.LINK_SLAC_STAT_STEP.inst n) 0).set (F.LINK_SLAC_STAT_RETRIES.inst n) 0
    (s.emit (.slac n 1 [k, nid])).refreshPilot n

/-- The transport starts (Table 10.4): MCS from STARTING once a MAC is set, CCS from KEYING. -/
def State.startTransport (s : State) (n : Nat) : State :=
  if s.linkKind n = 1 then
    if s.macOf n = 0 then (s.set (F.LINK_STATUS_LSTATE.inst n) 0).badCfg n 0x048
    else (s.set (F.LINK_STATUS_LSTATE.inst n) 1).modLink n fun l => { l with phyOn := false }
  else s.startKeying n

/-! ### The vehicle level (R218 to R220) -/

/-- The link takes the actions of R220 and R221 in this mode: the selected unit, with its blocks running. -/
def State.linkActs (s : State) : Bool :=
  s.exclusive && match s.mode with
  | .ready | .deliver | .degraded | .safeHold | .sealedService => true
  | _ => false

/-- The role of an accepted index (Table 10.3), coded as COMBINED; FAULT when accepted without a window. -/
def State.roleA (s : State) (n : Nat) : Nat :=
  if (s.link n).gapA then 4 else
  match (s.link n).accA with
  | 0 => 0
  | 1 => 1
  | 2 => 2
  | 3 => if s.linkKind n = 2 ∧ s.on (F.LINK_CFG_ALLOW_D.inst n) then 2 else 4
  | _ => 4
def State.roleB (s : State) (n : Nat) : Nat :=
  if (s.link n).gapB then 4 else
  match (s.link n).accB with
  | 0 => 0
  | 1 => 1
  | 2 => 3
  | _ => 4

/-- The vehicle level (R219). -/
def State.combine (s : State) (n : Nat) : Nat :=
  let a := s.roleA n
  let b := s.roleB n
  if a = 4 ∨ b = 4 then 4 else if a = 0 ∨ b = 0 then 0 else if b = 3 then 3 else if a = 2 then 2 else 1

/-- LEVEL_FAULT names the signal that is FAULT and its value (Table 10.10). -/
def State.logLevelFault (s : State) (n : Nat) : State :=
  let isA := s.roleA n == 4
  s.ev E.LINK_LEVEL_FAULT n [if isA then 0 else 1,
    ofSigned 32 (if isA then s.getI (F.LINK_MEAS_A_HIGH.inst n) else s.getI (F.LINK_MEAS_B_MV.inst n)), (s.ostate n).code]

/-- Act on a change of the vehicle level (Table 10.4). -/
def State.linkAct (s : State) (n old new : Nat) : State :=
  let s := (s.modLink n fun l => { l with acted := new }).when (new == 4) fun s => s.logLevelFault n
  let danger := fun (s : State) => (s.latchSrc n 0).gateCutOutlet n
  match s.ostate n with
  | .idle =>
    if new = 0 ∨ new = 4 then s
    else
      let s := (s.setOState n .link).modLink n fun l => { l with wasReady := false, unlatch := 0 }
      (s.startTransport n).refreshPilot n
  | .link | .session => if new = 4 then danger s else if new = 0 then s.toIdle n else s
  | .check | .precharge | .energy =>
    if new = 4 ∨ new = 0 then danger s
    else if new = 3 ∨ (old = 2 ∧ new ≠ 2) then (s.ev E.LINK_VEHICLE_DISABLE n [(s.ostate n).code, new]).setOState n .stopping
    else s
  | .stopping => if new = 4 ∨ new = 0 then danger s else s
  | .weldcheck => if new = 4 then danger s else s
  | .release => if new = 4 then danger s else if new = 0 then s.toIdle n else s
  | .fault => if new = 4 then s.latchSrc n 0 else s

/-- A level that fell due while it could not be acted on is acted on now (R232). -/
def State.linkCatchUp (s : State) : State :=
  if !s.linkActs then s else
  s.each s.outlets fun n s => if (s.link n).acted = s.combined n then s else s.linkAct n (s.link n).acted (s.combined n)

/-- The level of a value in the windows that have a role (R218); 0xF for GAP. -/
def State.levelOf (s : State) (n : Nat) (isB : Bool) (mv : Int) : Nat :=
  let cnt := if isB then 4 else if s.linkKind n = 2 then 6 else 4
  let lo := fun (i : Nat) => s.getI (if isB then (F.LINK_WIN_B_LO.inst n).nth i else (F.LINK_WIN_A_LO.inst n).nth i)
  let hi := fun (i : Nat) => s.getI (if isB then (F.LINK_WIN_B_HI.inst n).nth i else (F.LINK_WIN_A_HI.inst n).nth i)
  ((List.range cnt).find? fun i => decide (lo i ≤ mv) && decide (mv ≤ hi i)).getD 0xF

/-- The vehicle level is judged again from the levels accepted (R219, R220). Table 10.4 acts at once, or once the unit's mode lets it
(R232); a deselected unit logs nothing (R229). -/
def State.recombine (s : State) (n : Nat) : State :=
  let old := s.combined n
  let new := s.combine n
  if old = new then s else
  let s := s.set (F.LINK_STATUS_COMBINED.inst n) new
  let s := s.when (old == 0) fun s => s.modLink n fun l => { l with plugTick := s.ticks }
  let s := s.when (old == 0 && s.linkMine) fun s => s.ev E.LINK_PLUGGED n [s.get (F.LINK_STATUS_LEVEL_A.inst n), s.get (F.LINK_STATUS_LEVEL_B.inst n)]
  let s := s.when (new == 0 && s.linkMine) fun s => s.ev E.LINK_UNPLUGGED n [(s.ostate n).code]
  let s := s.when (new == 3 && (s.ostate n == .release || s.ostate n == .fault)) fun s => s.modLink n fun l => { l with unlatch := 1 }
  if s.linkActs then s.linkAct n (s.link n).acted new else s

/-- Levels are judged: the link is enabled and its outlet exists. -/
def State.linkOn (s : State) (n : Nat) : Bool := s.hasOutlet n && (s.linkKind n == 1 || s.linkKind n == 2) && s.mode != .dormant

/-- A write of LINK.CFG, and what a changed ALLOW_D makes of the level (R215, R219, R222). -/
def State.linkCfgWrite (s : State) (n v : Nat) : State := (s.linkCfg n v).when ((s.linkCfg n v).linkOn n) fun s => s.recombine n

/-- LINK_CFG_WRITE (R215, R222). -/
def execLinkCfgWrite (n : Fin 4) (value : Word) (s : State) : Result :=
  (s.hostWrites (0x1D + n) 0x040 fun s => s.linkCfgWrite n value.toNat).finish

/-- CP_PWM_WRITE (R222). -/
def execCpPwmWrite (n : Fin 4) (value : Word) (s : State) : Result :=
  (s.hostWrites (0x1D + n) 0x058 fun s => s.cpPwmWrite n value.toNat).finish

/-- The shown index of a signal: the accepted one, or 0xF while the signal lies in GAP or is FAULT without a window (R218). -/
def State.showIndex (s : State) (n : Nat) (isB : Bool) (mv : Int) : State :=
  let l := s.link n
  let gap := s.levelOf n isB mv == 0xF || (if isB then l.gapB else l.gapA)
  s.set (if isB then F.LINK_STATUS_LEVEL_B.inst n else F.LINK_STATUS_LEVEL_A.inst n) (if gap then 0xF else if isB then l.accB else l.accA)

/-- The value of a signal is shown, and its index follows (R216, R218). -/
def State.showLevel (s : State) (n : Nat) (isB : Bool) (mv : Int) : State :=
  (s.setI (if isB then F.LINK_MEAS_B_MV.inst n else F.LINK_MEAS_A_HIGH.inst n) mv).showIndex n isB mv

/-- A level is accepted. -/
def State.acceptLevel (s : State) (n : Nat) (isB : Bool) (mv : Int) : State :=
  let l := s.levelOf n isB mv
  let s := s.modLink n fun x => if isB then { x with gapB := false, accB := l } else { x with gapA := false, accA := l }
  (s.showLevel n isB mv).recombine n

/-- LEVEL_ACCEPTED (R218, R220). -/
def execLevelAccepted (n : Fin 4) (isB : Bool) (mv : Int) (s : State) : Result :=
  (s.when (s.linkOn n) fun s => if s.levelOf n isB mv = 0xF then s.showLevel n isB mv else s.acceptLevel n isB mv).finish

/-- A signal is accepted as FAULT without a window. -/
def State.signalFault (s : State) (n : Nat) (isB : Bool) : State :=
  let s := s.set (if isB then F.LINK_STATUS_LEVEL_B.inst n else F.LINK_STATUS_LEVEL_A.inst n) 0xF
  (s.modLink n fun x => if isB then { x with gapB := true } else { x with gapA := true }).recombine n

/-- GAP_FAULT (R218): GAP held for GAP_MS. -/
def execGapFault (n : Fin 4) (isB : Bool) (mv : Int) (s : State) : Result :=
  (s.when (s.linkOn n && s.levelOf n isB mv == 0xF) fun s => (s.showLevel n isB mv).signalFault n isB).finish

/-- CP_DIODE_FAULT (R218): the low plateau stays above LOW_MAX while PWM runs. -/
def execCpDiodeFault (n : Fin 4) (lowMv : Int) (s : State) : Result :=
  (s.when (s.linkOn n && s.linkKind n == 2 && s.on (F.LINK_STATUS_PWM_ON.inst n) && decide (s.getI (F.LINK_CP_SAMP_LOW_MAX.inst n) < lowMv)) fun s =>
    (s.setI (F.LINK_MEAS_A_LOW.inst n) lowMv).signalFault n false).finish

/-! ### The latch (R221) -/

/-- LATCH_ENERGISE (R221). -/
def execLatchEnergise (n : Fin 4) (s : State) : Result :=
  (let c := s.get (F.LINK_LATCH_CH.inst n)
   let st := s.ostate n
   s.when (s.linkOn n && s.linkActs && decide (c < 32) && !s.on (F.LINK_STATUS_LATCH_CMD.inst n) &&
      (st == .link || st == .session || st == .check || st == .precharge || st == .energy)) fun s =>
    ((s.setB (F.LINK_STATUS_LATCH_CMD.inst n) true).ownerDrive 3 c 1 0).ev E.LINK_LATCHED n []).finish

/-- The cause for which the latch may fall: RELEASE accepted, or a request outstanding, which is held while VC is 60 V or above. -/
def State.unlatchCause (s : State) (n : Nat) : Nat := if s.combined n = 3 then 1 else (s.link n).unlatch

/-- SF5 or SF11 holds the latch while it is latched (Table 14.3). -/
def State.latchHeld (s : State) (n : Nat) : Bool := s.bit (F.SAFE_OUT_TRIP_LATCHED.nth n) 4 || s.bit (F.SAFE_OUT_TRIP_LATCHED.nth n) 10

/-- LATCH_RELEASE (R221). -/
def execLatchRelease (n : Fin 4) (s : State) : Result :=
  (s.when (s.hasOutlet n && s.linkActs && !s.latchHeld n && (s.ostate n == .release || s.ostate n == .fault) && decide ((s.vc n).natAbs < 60000) && s.unlatchCause n != 0) fun s =>
    s.latchOff n (s.unlatchCause n)).finish

/-- LINK_UNLATCH (R221). -/
def execLinkUnlatch (n : Fin 4) (s : State) : Result :=
  (s.hostWrites (0x1D + n) 0x008 fun s => s.modLink n fun l => { l with unlatch := 2 }).finish

/-- LATCH_AUTO_TIMEOUT (R221). -/
def execLatchAutoTimeout (n : Fin 4) (s : State) : Result :=
  (s.when (s.hasOutlet n && s.ostate n == .release && s.get (F.LINK_LATCH_AUTO_S.inst n) != 0) fun s =>
    s.modLink n fun l => { l with unlatch := 3 }).finish

/-- LATCH_FAULT (R221, SF7 of R338). -/
def execLatchFault (n : Fin 4) (feedback : Bool) (s : State) : Result :=
  (s.when (s.hasOutlet n && s.get (F.LINK_LATCH_FB_CH.inst n) != 0x3F && feedback != s.on (F.LINK_STATUS_LATCH_CMD.inst n)) fun s =>
    let cmd := s.on (F.LINK_STATUS_LATCH_CMD.inst n)
    let s := (s.setB (F.LINK_STATUS_LATCH_FB.inst n) feedback).ev E.LINK_LATCH_FAULT n [if cmd then 1 else 0, if feedback then 1 else 0]
    match s.ostate n with
    | .check | .precharge | .energy | .stopping => (s.tripOut n 7).faultRamp n
    | _ => s).finish

/-! ### 10BASE-T1S (R223) -/

def State.t1sMode (s : State) (n : Nat) : Nat := s.get (F.LINK_CFG_T1S_MODE.inst n)

/-- The PHY is powered: with CSMA/CD the link is READY at power-up. -/
def State.phyStart (s : State) (n : Nat) : State :=
  s.when (s.linkOn n && s.linkKind n == 1 && s.lstate n == 1 && !(s.link n).phyOn) fun s =>
    let s := s.modLink n fun l => { l with phyOn := true }
    if 2 ≤ s.t1sMode n then s.linkReady n else s

/-- PHY_START (R223). -/
def execPhyStart (n : Fin 4) (s : State) : Result := (s.onLink (.phyStart n) fun s => s.phyStart n).finish

/-- The PLCA status is OK, `quiet` when no other node's beacons are received: a coordinator in conflict waits for that. -/
def State.plcaOk (s : State) (n : Nat) (quiet : Bool) : State :=
  s.when (s.linkOn n && s.linkKind n == 1 && (s.link n).phyOn && decide (s.t1sMode n < 2)) fun s =>
    let s := s.modLink n fun l => { l with conflict := l.conflict && !quiet }
    if (s.link n).conflict then s else
    match s.lstate n with
    | 1 => s.linkReady n
    | 5 => (s.linkReady n).ev E.LINK_TRANSPORT_RESTORED n [s.since (s.link n).lostTick / ticksMs]
    | _ => s

/-- PLCA_STATUS_OK (R223, R228). -/
def execPlcaStatusOk (status : PlcaStatus) (s : State) : Result :=
  (s.onLink (.plcaStatusOk status) fun s => s.plcaOk status.n status.quiet).finish

/-- LSTATE becomes LOST; a transition to it is counted. -/
def State.linkLost (s : State) (n : Nat) : State :=
  if s.lstate n = 5 then s else
  ((s.set (F.LINK_STATUS_LSTATE.inst n) 5).inc (F.LINK_STATS_LOST.inst n)).modLink n fun l => { l with lostTick := s.ticks }

/-- TRANSPORT_LOST (R223): cause 0. -/
def execTransportLost (n : Fin 4) (s : State) : Result :=
  (s.when (s.linkOn n && s.linkMine && s.linkKind n == 1 && s.lstate n == 4 && s.stagesRun) fun s => (s.linkLost n).ev E.LINK_TRANSPORT_LOST n [0]).finish

/-- A coordinator in STARTING or READY receives another node's beacon: the link is LOST until the beacons stop. -/
def State.plcaConflict (s : State) (n source : Nat) : State :=
  s.when (s.linkOn n && s.linkKind n == 1 && s.t1sMode n == 0 && (s.link n).phyOn) fun s =>
    ((s.ev E.LINK_PLCA_CONFLICT n [source]).modLink n fun l => { l with conflict := true }).linkLost n

/-- PLCA_CONFLICT (R223). -/
def execPlcaConflict (n : Fin 4) (source : Nat) (s : State) : Result :=
  (s.onLink (.plcaConflict n source) fun s => s.plcaConflict n source).finish

/-- RMII_REFCLK_LOST (R224): cause 1. -/
def execRmiiRefclkLost (n : Fin 4) (s : State) : Result :=
  (s.when (s.linkOn n && s.linkMine && s.linkKind n == 2) fun s => (s.linkLost n).ev E.LINK_TRANSPORT_LOST n [1]).finish

/-- An Ethernet frame with IPv6 on a vehicle link: one from the link's own address is never accepted (R223); an RMII port passes
EtherType 0x88E1 to SLAC and 0x86DD here, and drops and counts every other (R224). -/
def State.ipFrame (s : State) (n : Nat) (h : LinkFrame) (f : State → State) : State :=
  if h.src = s.macOf n then s
  else if h.etherType = 0x86DD then f s
  else s.when (s.linkKind n == 2 && h.etherType != 0x88E1) fun s => s.incSat (F.LINK_STATS_DROPPED.inst n)

/-! ### The modem and SLAC (R225 to R227) -/

def State.slacStep (s : State) (n : Nat) : Nat := s.get (F.LINK_SLAC_STAT_STEP.inst n)
def State.setStep (s : State) (n k : Nat) : State := s.set (F.LINK_SLAC_STAT_STEP.inst n) k

/-- The link fails. -/
def State.linkFailed (s : State) (n : Nat) : State := ((s.set (F.LINK_STATUS_LSTATE.inst n) 6).setStep n 0).refreshPilot n

/-- The modem confirms the key, or refuses it. -/
def State.keyCnf (s : State) (n result : Nat) : State :=
  s.when (s.linkOn n && s.linkKind n == 2 && s.lstate n == 2) fun s =>
    if result = 0 then ((s.set (F.LINK_STATUS_LSTATE.inst n) 3).setStep n 1).refreshPilot n
    else (s.ev E.LINK_MODEM_NO_KEY n [result]).linkFailed n

/-- CM_SET_KEY_CNF (R225). -/
def execCmSetKeyCnf (n : Fin 4) (result : Nat) (s : State) : Result :=
  (s.onLink (.cmSetKeyCnf n result) fun s => s.keyCnf n result).finish

/-- MODEM_NO_KEY (R225): no confirmation within 1 s. -/
def execModemNoKey (n : Fin 4) (s : State) : Result :=
  (s.when (s.linkOn n && s.linkMine && s.linkKind n == 2 && s.lstate n == 2) fun s => (s.ev E.LINK_MODEM_NO_KEY n [0xFF]).linkFailed n).finish

/-- The engine is in SLAC and the message belongs to the run that is bound. -/
def State.slacRun (s : State) (n run : Nat) : Bool := s.linkOn n && s.linkKind n == 2 && s.lstate n == 3 && (s.link n).runId == some run

/-- A parameter request binds the run and is answered (R226, Table 10.6). -/
def State.slacParmReq (s : State) (n : Nat) (runId : Nat) : State :=
  s.when (s.linkOn n && s.linkKind n == 2 && s.lstate n == 3 && (s.combined n == 1 || s.combined n == 2) && s.on (F.LINK_STATUS_PWM_ON.inst n) &&
      ((s.link n).runId == none || (s.link n).runId == some runId) && decide (s.slacStep n ≤ 2)) fun s =>
    let s := (s.modLink n fun l => { l with runId := some runId, attenSum := 0, attenCnt := 0 }).set (F.LINK_SLAC_STAT_SOUNDS_RX.inst n) 0
    (s.setStep n 2).emit (.slac n 2 [runId, s.get (F.LINK_SLAC_CFG_SOUNDS.inst n), (s.get (F.LINK_SLAC_CFG_SOUND_TO_10MS.inst n) + 9) / 10])

/-- CM_SLAC_PARM_REQ (R226, Table 10.6). -/
def execCmSlacParmReq (n : Fin 4) (runId : Nat) (s : State) : Result := (s.onLink (.cmSlacParmReq n runId) fun s => s.slacParmReq n runId).finish

/-- The first start-of-attenuation indication opens the sound window (Table 10.6). -/
def State.slacStart (s : State) (n : Nat) (runId : Nat) : State :=
  s.when (s.slacRun n runId && s.slacStep n == 2) fun s => s.setStep n 3

/-- CM_START_ATTEN_CHAR_IND (Table 10.6): the first of three opens the sound window. -/
def execCmStartAttenCharInd (n : Fin 4) (runId : Nat) (s : State) : Result := (s.onLink (.cmStartAttenCharInd n runId) fun s => s.slacStart n runId).finish

/-- A sound is received; the profile that the modem makes of it is counted (Table 10.6). -/
def State.slacSound (s : State) (n : Nat) (runId : Nat) : State :=
  s.when (s.slacRun n runId && s.slacStep n == 3) id

/-- CM_MNBC_SOUND_IND (Table 10.6): a sound is received; the profile that the modem makes of it is counted. -/
def execCmMnbcSoundInd (n : Fin 4) (runId : Nat) (s : State) : Result := (s.onLink (.cmMnbcSoundInd n runId) fun s => s.slacSound n runId).finish

/-- CM_ATTEN_CHAR.IND is sent with the mean attenuation. -/
def State.sendAtten (s : State) (n : Nat) : State :=
  let l := s.link n
  let db := if l.attenCnt = 0 then 0 else l.attenSum / l.attenCnt
  ((s.set (F.LINK_SLAC_STAT_ATTEN_DB.inst n) (satTo 8 db)).setStep n 5).emit (.slac n 3 [l.runId.getD 0, db, s.get (F.LINK_SLAC_STAT_SOUNDS_RX.inst n)])

/-- One profile's values over its carrier groups (R226). -/
def State.slacProfile (s : State) (n : Nat) (groups : List Nat) : State :=
  s.when (s.linkOn n && s.linkKind n == 2 && s.lstate n == 3 && s.slacStep n == 3) fun s =>
    let s := (s.modLink n fun l => { l with attenSum := l.attenSum + groups.sum, attenCnt := l.attenCnt + groups.length }).incSat (F.LINK_SLAC_STAT_SOUNDS_RX.inst n)
    if s.get (F.LINK_SLAC_CFG_SOUNDS.inst n) ≤ s.get (F.LINK_SLAC_STAT_SOUNDS_RX.inst n) then s.sendAtten n else s

/-- CM_ATTEN_PROFILE_IND (R226): one profile's values over its carrier groups. -/
def execCmAttenProfileInd (n : Fin 4) (groups : List Nat) (s : State) : Result := (s.onLink (.cmAttenProfileInd n groups) fun s => s.slacProfile n groups).finish

/-- The run ends: retried from step 1, or the link fails (R227). -/
def State.slacFail (s : State) (n : Nat) : State :=
  let r := s.get (F.LINK_SLAC_STAT_RETRIES.inst n)
  let s := (s.ev E.LINK_SLAC_FAILED n [s.slacStep n, r]).incSat (F.LINK_SLAC_STAT_RETRIES.inst n)
  let s := s.modLink n fun l => { l with runId := none, attenSum := 0, attenCnt := 0 }
  if s.get (F.LINK_SLAC_STAT_RETRIES.inst n) ≤ s.get (F.LINK_SLAC_RETRY_RETRY.inst n) then s.setStep n 1 else s.linkFailed n

/-- The vehicle responds to the attenuation (R226, R227). -/
def State.slacRsp (s : State) (n : Nat) (runId : Nat) (success : Bool) : State :=
  s.when (s.slacRun n runId && s.slacStep n == 5) fun s => if success then s.setStep n 6 else s.slacFail n

/-- CM_ATTEN_CHAR_RSP (R226, R227). -/
def execCmAttenCharRsp (n : Fin 4) (runId : Nat) (success : Bool) (s : State) : Result := (s.onLink (.cmAttenCharRsp n runId success) fun s => s.slacRsp n runId success).finish

/-- A match request is answered with NID and NMK, and the link is READY (R226, R228). -/
def State.slacMatch (s : State) (n : Nat) (runId vehicleMac : Nat) : State :=
  s.when (s.slacRun n runId && s.slacStep n == 6) fun s =>
    let nid := s.get2 (F.LINK_NID_HI_NID.inst n) (F.LINK_NID_LO_NID.inst n)
    let s := (s.emit (.slac n 4 [runId, nid, (s.link n).nmk])).modLink n fun l => { l with vehMac := vehicleMac }
    let s := s.ev E.LINK_SLAC_MATCHED n [vehicleMac % 2 ^ 32, vehicleMac / 2 ^ 32, s.get (F.LINK_SLAC_STAT_ATTEN_DB.inst n)]
    (s.setStep n 0).linkReady n

/-- CM_SLAC_MATCH_REQ (R226, R228). -/
def execCmSlacMatchReq (n : Fin 4) (runId vehicleMac : Nat) (s : State) : Result := (s.onLink (.cmSlacMatchReq n runId vehicleMac) fun s => s.slacMatch n runId vehicleMac).finish

/-- Validation is not required (R226). -/
def State.slacValidate (s : State) (n : Nat) (runId : Nat) : State :=
  s.when (s.slacRun n runId) fun s => s.emit (.slac n 5 [runId])

/-- CM_VALIDATE_REQ (R226): "not required". -/
def execCmValidateReq (n : Fin 4) (runId : Nat) (s : State) : Result := (s.onLink (.cmValidateReq n runId) fun s => s.slacValidate n runId).finish

/-- SLAC_STEP_TIMEOUT (R227, Table 10.6): step 3 with a profile goes on; step 1 has no limit. -/
def execSlacStepTimeout (n : Fin 4) (s : State) : Result :=
  (s.when (s.linkOn n && s.linkMine && s.linkKind n == 2 && s.lstate n == 3 && s.stagesRun) fun s =>
    match s.slacStep n with
    | 2 => s.slacFail n
    | 3 => if (s.link n).attenCnt = 0 then s.slacFail n else s.sendAtten n
    | 5 => s.slacFail n
    | 6 => s.slacFail n
    | _ => s).finish

/-- LINK_RESTART (R227). -/
def execLinkRestart (n : Fin 4) (s : State) : Result :=
  (s.hostWrites (0x1D + n) 0x008 fun s =>
    s.when (s.linkOn n && s.ostate n != .idle) fun s =>
      if s.linkKind n = 1 then s.startTransport n
      else if s.lstate n = 6 then s.startKeying n
      else s).finish

/-! ### The sensor frame (R195, R216, R218) -/

/-- The value of channel `c` in mV. -/
def State.chMv (s : State) (c : Nat) : Int := Int.tdiv (f32Val (s.chVal c) * 1000) ((2 ^ 150 : Nat) : Int)

/-- The low plateau of CP in the frame just ended: shown alone, converted as its channel is (R218). -/
def State.cpLow (s : State) (n code : Nat) : State :=
  s.setI (F.LINK_MEAS_A_LOW.inst n) (Int.tdiv (f32Val (s.convert (40 + 2 * n) [code]) * 1000) ((2 ^ 150 : Nat) : Int))

/-- The links show their channels 40 + 2n and 41 + 2n in mV, and the latch feedback above 5.0 V (R216, R221); the vehicle level follows
a changed ALLOW_D (R219), and a RELEASE in OUT_RELEASE or OUT_FAULT is an unlatch request (R221). Codes 48 to 51 are those of the
low plateaus. -/
def State.linkSamples (s : State) (codes : List Nat) : State :=
  s.each (s.outlets.filter fun n => s.linkKind n != 0) fun n s =>
    let s := (s.showLevel n false (s.chMv (40 + 2 * n))).showLevel n true (s.chMv (41 + 2 * n))
    let s := s.when (s.cpSampled n (s.cpLowAt n)) fun s => s.cpLow n (min 65535 (codes.getD (48 + n) 0))
    let fb := s.get (F.LINK_LATCH_FB_CH.inst n)
    let s := s.when (decide (fb < 48)) fun s => s.setB (F.LINK_STATUS_LATCH_FB.inst n) (f32Lt 0x40A00000 (s.chVal fb))
    let s := s.when (s.linkOn n) fun s => s.recombine n
    s.when (s.combined n == 3 && (s.ostate n == .release || s.ostate n == .fault)) fun s =>
      s.modLink n fun l => { l with unlatch := if l.unlatch = 0 then 1 else l.unlatch }

/-- SENS_FRAME (R195, R197, R216). -/
def execSensFrame (codes : List Nat) (s : State) : Result := ((s.sensFrameRun codes).linkSamples codes).finish

end Sys2Proof.Machine
end

