-- ==== Sys2Proof/Machine/Dialogue.lean ====
section
/-! DEFINITION. The vehicle dialogue engine (chapter 11): addresses, discovery, TCP and TLS, credentials and the trust
store, grammar tables, the requests of Table 11.6, authorisation, and the targets turned into Sentences. -/
namespace Sys2Proof.Machine

/-! ### Responses (R258, Table 11.9) -/

/-- A value in thousandths as (value, exponent): the smallest exponent, not below −3, at which 16 bits hold it. -/
def v2gEncode (milli : Int) : Int × Int :=
  match (List.range 12).find? fun e => decide ((Int.tdiv milli ((10 ^ e : Nat) : Int)).natAbs ≤ 32767) with
  | some e => (Int.tdiv milli ((10 ^ e : Nat) : Int), (e : Int) - 3)
  | none => (0, 0)

def v2gPair (milli : Int) : List Int := [(v2gEncode milli).1, (v2gEncode milli).2]

/-- The export side's Aperture current (R175), mA. -/
def State.aptExpMa (s : State) (n : Nat) : Nat :=
  (-(s.getI (F.ALLOC_OUT_FLOOR_W.nth n))).toNat * 1000000 / (max (s.vc n) 150000).toNat
def State.aptImpMa (s : State) (n : Nat) : Nat :=
  (s.getI (F.ALLOC_OUT_CEIL_W.nth n)).toNat * 1000000 / (max (s.vc n) 150000).toNat

/-- The meter information goes with a response every STOP.METER_S seconds, never with 0 (Table 11.9). -/
def State.meterDue (s : State) (n : Nat) : Bool :=
  let k := s.get F.VDE_STOP_METER_S
  k != 0 && match (s.ctx n).meterTick with
  | some t => decide (k * 1000 * ticksMs ≤ s.since t)
  | none => true

/-- The notification of Table 11.9: 2 emergency shutdown, 1 stop charging, 0 none. -/
def State.notification (s : State) (n : Nat) : Nat :=
  if s.ostate n == .fault || s.mode == .safeHold then 2 else if (s.ctx n).stopAsked then 1 else 0

/-- The fields of Table 11.9: present voltage and current, maximum charge current and power, maximum discharge current and
power, maximum and minimum voltage, the limits achieved and the notification; when due, the meter point with the session's import and
export in Wh. -/
def State.v2gValues (s : State) (n : Nat) : List Int :=
  let cap := fun (a : Nat) => min (min a (s.get (F.OUTLET_THERM_MA_MA.inst n))) (min (s.safeMa n) 3000000)
  let w := fun (x : Int) => v2gPair ((max x 0) * 1000)
  let sel := s.get (F.OUTLET_STATUS_SELECTED.inst n)
  let b : Bool → Int := fun x => if x then 1 else 0
  let meter : List Int := if s.meterDue n then [(n : Int), (s.sessionWh n false : Nat), (s.sessionWh n true : Nat)] else []
  v2gPair (s.getI (F.LENS_VM_MV.nth n)) ++ v2gPair (s.getI (F.LENS_IM_MA.nth n)) ++
    v2gPair (cap (s.aptImpMa n) : Nat) ++ w (s.getI (F.ALLOC_OUT_CEIL_W.nth n)) ++
    v2gPair (cap (s.aptExpMa n) : Nat) ++ w (-(s.getI (F.ALLOC_OUT_FLOOR_W.nth n))) ++
    v2gPair 1500000 ++ v2gPair 150000 ++
    [b (decide (s.getI (F.OUTLET_ITGT_MA_MA.inst n) < s.get (F.OUTLET_ILIM_IMP_MA.inst n))), b (sel == 2), b (sel == 0), (s.notification n : Nat)] ++ meter

/-- Results: 0 finished, 1 processing ongoing, 2 sequence error, 3 authorisation failure, 4 isolation fault, 5 failure. -/
def State.respond (s : State) (n step result : Nat) (vals : List Int) : State :=
  (s.modCtx n fun c => { c with unacked := true }).afterMirror (.out (.v2g n step result vals))

/-- A response with the values of Table 11.9. -/
def State.respondNow (s : State) (n step result : Nat) : State :=
  let due := s.meterDue n
  (s.respond n step result (s.v2gValues n)).when due fun s => s.modCtx n fun c => { c with meterTick := some s.ticks }

/-! ### Addresses, discovery and TCP (R237 to R239) -/

/-- The context's link-local address: fe80::/64 and the modified EUI-64 of the link's MAC (R237). -/
def State.ctxAddr (s : State) (n : Nat) : Nat :=
  let m := s.macOf n
  let hi := m / 2 ^ 24
  0xFE80 * 2 ^ 112 + ((setBitOf hi 17 (!hi.testBit 17)) * 2 ^ 40 + 0xFFFE * 2 ^ 24 + m % 2 ^ 24)

/-- The context takes part in the network: its link is READY and its address in use. -/
def State.ctxUp (s : State) (n : Nat) : Bool := s.hasOutlet n && s.lstate n == 4 && (s.ctx n).active && (s.ctx n).dad == 2 && s.stagesRun && s.exclusive

/-- An address the context takes packets from: link-local, or none yet (R237). -/
def localSrc (src : Nat) : Bool := src / 2 ^ 118 == 0x3FA || src == 0

/-- The engine serves outlet n in this unit: its own timers act (R229). -/
def State.vdeOwn (s : State) (n : Nat) : Bool := s.hasOutlet n && s.linkMine

/-- DAD_DONE (R237). -/
def execDadDone (n : Fin 4) (conflict : Bool) (s : State) : Result :=
  (s.when (s.vdeOwn n && (s.ctx n).dad == 1) fun s =>
    if conflict then (s.modCtx n fun c => { c with dad := 3 }).ev E.VDE_ADDR_CONFLICT n [s.ctxAddr n % 2 ^ 32, s.ctxAddr n / 2 ^ 32]
    else (s.modCtx n fun c => { c with dad := 2 }).set (F.VDE_CTX_STATE_CONN.nth n) 1).finish

/-- A Neighbor Solicitation for the context's address is answered. -/
def State.icmpNs (s : State) (n : Nat) (frame : LinkFrame) (src target : Nat) : State :=
  s.ipFrame n frame fun s => s.when (s.ctxUp n && target == s.ctxAddr n && localSrc src) fun s => s.emit (.net n 1 [src, target])

/-- ICMPV6_NS_RX (R237). -/
def execIcmpv6NsRx (n : Fin 4) (src : IpFrom) (target : Nat) (s : State) : Result :=
  (s.onLink (.icmpv6NsRx n src target) fun s => s.icmpNs n src.frame src.addr target).finish

/-- An Echo Request for the context's address is answered. -/
def State.icmpEcho (s : State) (n : Nat) (frame : LinkFrame) (src dst : Nat) (data : List Nat) : State :=
  s.ipFrame n frame fun s => s.when (s.ctxUp n && dst == s.ctxAddr n && localSrc src) fun s => s.emit (.net n 2 (src :: data))

/-- ICMPV6_ECHO_RX (R237). -/
def execIcmpv6EchoRx (n : Fin 4) (src : IpFrom) (dst : Nat) (data : List Nat) (s : State) : Result :=
  (s.onLink (.icmpv6EchoRx n src dst data) fun s => s.icmpEcho n src.frame src.addr dst data).finish

/-- The security of the SDP answer (Table 11.1). -/
def State.sdpAnswer (s : State) (asked : Nat) : Nat :=
  let sec := s.get F.VDE_PROTO_ISO2_SEC
  if asked = 0 then (if s.on F.VDE_PROTO_ISO20_EN ∨ sec ≠ 2 then 0 else 0x10)
  else (if s.on F.VDE_PROTO_DIN_EN ∨ sec ≠ 1 then 0x10 else 0)

/-- An SDP request is answered (R238, R247, R266). -/
def State.sdpRequest (s : State) (n : Nat) (frame : LinkFrame) (src dst udpPort version inverse security transport : Nat) : State :=
  s.ipFrame n frame fun s =>
  s.when (s.ctxUp n && s.ostate n == .link && !s.on F.VDE_CTRL_EXI_LOAD && localSrc src && udpPort == 15118 && (dst == s.ctxAddr n || dst == 0xFF02 * 2 ^ 112 + 1) &&
      version == 1 && inverse == 0xFE && transport == 0 && (security == 0 || security == 0x10)) fun s =>
    let sec := s.sdpAnswer security
    let s := (s.modCtx n fun c => { c with sdpFrom := some src, sdpSec := sec }).set (F.VDE_CTX_STATE_CONN.nth n) (max 2 (s.get (F.VDE_CTX_STATE_CONN.nth n)))
    s.emit (.net n 3 [src, s.ctxAddr n, s.get F.VDE_TCP_PORT, sec])

/-- SDP_REQUEST_RX (R238). -/
def execSdpRequestRx (n : Fin 4) (src : IpFrom) (dst udpPort version inverse security transport : Nat) (s : State) : Result :=
  (s.onLink (.sdpRequestRx n src dst udpPort version inverse security transport) fun s =>
    s.sdpRequest n src.frame src.addr dst udpPort version inverse security transport).finish

/-- A SYN opens the context's one connection, with MSS 1,220 and a window of 8,192 bytes, or draws RST (R239). -/
def State.tcpSyn (s : State) (n : Nat) (frame : LinkFrame) (src dstPort : Nat) : State :=
  s.ipFrame n frame fun s => s.when (s.ctxUp n) fun s =>
    let c := s.ctx n
    if !c.tcp ∧ c.sdpFrom = some src ∧ dstPort = s.get F.VDE_TCP_PORT then
      let s := (s.setCtx n { c with tcp := true, peer := src, connSec := c.sdpSec, closing := false, retx := 0, unacked := false, tls := 0,
                                    retried := false, certOk := false }).set (F.VDE_CTX_STATE_CONN.nth n) 3
      (s.when (c.sdpSec == 0x10) fun s => s.set (F.VDE_CTX_STATE_SEC.nth n) 1).segment n 4 [src, 1220, 8192]
    else s.segment n 5 [src]

/-- TCP_SYN_RX (R239). -/
def execTcpSynRx (n : Fin 4) (src : IpFrom) (dstPort : Nat) (s : State) : Result :=
  (s.onLink (.tcpSynRx n src dstPort) fun s => s.tcpSyn n src.frame src.addr dstPort).finish

/-- The connection is gone; the session, if any, lives on its timers (R251). -/
def State.dropConn (s : State) (n : Nat) : State :=
  let s := (s.modCtx n fun c => { c with tcp := false, tls := 0, retx := 0, unacked := false }).setBit F.CRYPT_STATUS_TLS_OPEN n false
  s.set (F.VDE_CTX_STATE_CONN.nth n) (if (s.ctx n).closing then 5 else 1)

/-- A segment of the connection (R239): data is acknowledged after the Mirror frame that holds its effect (R240). -/
def State.tcpSegment (s : State) (n : Nat) (frame : LinkFrame) (src len v2gLen : Nat) (ack fin : Bool) : State :=
  s.ipFrame n frame fun s =>
  if s.ctxUp n && !(s.ctx n).tcp && (s.ctx n).closing && (s.ctx n).peer == src && (ack || fin) then
    (s.modCtx n fun c => { c with closing := false }).set (F.VDE_CTX_STATE_CONN.nth n) 1
  else s.when (s.ctxUp n && (s.ctx n).tcp && (s.ctx n).peer == src) fun s =>
    let s := s.when ack fun s => s.modCtx n fun c => { c with unacked := false, retx := 0 }
    if 8192 < v2gLen then ((s.ev E.VDE_BAD_MESSAGE n [1, v2gLen]).closeTcp n).dropConn n
    else
      let s := s.when (decide (len ≠ 0)) fun s => s.segment n 6 [len]
      if fin then (s.closeTcp n).dropConn n else s

/-- TCP_SEGMENT_RX (R239, R240): `v2gLen` is the payload length of a V2GTP header in it. -/
def execTcpSegmentRx (n : Fin 4) (src : IpFrom) (len v2gLen : Nat) (ack fin : Bool) (s : State) : Result :=
  (s.onLink (.tcpSegmentRx n src len v2gLen ack fin) fun s => s.tcpSegment n src.frame src.addr len v2gLen ack fin).finish

/-- TCP_RTO (R239): the timeout doubles up to 3,200 ms; after six the connection is reset. -/
def execTcpRto (n : Fin 4) (s : State) : Result :=
  (s.when (s.hasOutlet n && s.exclusive && (s.ctx n).tcp && (s.ctx n).unacked) fun s =>
    let k := (s.ctx n).retx
    if 6 ≤ k then (s.segment n 5 []).dropConn n
    else (s.modCtx n fun c => { c with retx := k + 1 }).segment n 7 [min 3200 (s.get F.VDE_TCP_RTO_MS * 2 ^ (k + 1))]).finish

/-! ### The trust store and chains (R244, R245) -/

def trustBase (e : Nat) : Nat := tbl 6 (2048 * e)
def State.trustKind (s : State) (e : Nat) : Nat := let k := s.rdByte (trustBase e); if k ≤ 4 then k else 0
def State.trustGood (s : State) (e : Nat) : Bool := s.rdByte (trustBase e + 1) % 2 == 1 && s.rdByte (trustBase e + 2) == 1
def State.trustDer (s : State) (e : Nat) : List Nat := s.rdBytes (trustBase e + 16) (s.rdLe (trustBase e + 4) 2)

/-- The entries in use. -/
def State.trustEntries (s : State) : List Nat := (List.range 64).filter fun e => s.trustKind e != 0

/-- The enabled good KIND 4 leaf whose public key matches a curve's key pair (R243). -/
def State.ownLeaf (s : State) (curve : Nat) : Option Nat :=
  s.trustEntries.find? fun e => s.trustKind e == 4 && s.trustGood e &&
    match Config.x509 (s.trustDer e) with
    | some c => !c.isCa && c.key == Config.publicKey curve (mget 0 s.vde.keys curve)
    | none => false

/-- A curve's credential is usable: a key pair and its leaf (R243). -/
def State.usable (s : State) (curve : Nat) : Bool := s.bit F.CRYPT_KEY_STAT_PRESENT curve && (s.ownLeaf curve).isSome

/-- TRUST_STAT, KEY_STAT.USABLE and the PUB window follow the store. -/
def State.refreshTrust (s : State) : State :=
  let n := fun (p : Nat → Bool) => (s.trustEntries.filter fun e => p (s.rdByte (trustBase e + 2))).length
  let s := (s.set F.CRYPT_TRUST_STAT_GOOD (n (· == 1))).set F.CRYPT_TRUST_STAT_BAD (n fun x => x == 2 || x == 3)
  let u := (List.range 3).foldl (fun m c => setBitOf m c (s.usable c)) 0
  let s := s.set F.CRYPT_KEY_STAT_USABLE u
  let sel := s.get F.CRYPT_PUB_SEL_CURVE
  let pub := if s.bit F.CRYPT_KEY_STAT_PRESENT sel && decide (sel < 3) then Config.publicKey sel (mget 0 s.vde.keys sel) else []
  s.each (List.range 34) fun i s => s.set (F.CRYPT_PUB_KEY.nth i) (ofLe (slice pub (4 * i) 4))

/-- The check of an entry applied whole: its STATE (R244). -/
def State.trustApply (s : State) (e : Nat) : State :=
  let len := s.rdLe (trustBase e + 4) 2
  let der := s.trustDer e
  let st :=
    if s.trustKind e = 0 then 0
    else if len = 0 ∨ 1536 < len ∨ crc32 der ≠ s.rdLe (trustBase e + 8) 4 then 3
    else if (Config.x509 der).isNone then 2 else 1
  let s := s.wrByte (trustBase e + 2) st
  (s.when (st == 2 || st == 3) fun s => s.ev E.CRYPT_TRUST_ENTRY_BAD 0 [e, st]).refreshTrust

/-- TRUST_ENTRY_APPLY (R244). -/
def execTrustEntryApply (entry : Fin 64) (s : State) : Result := (s.trustApply entry).finish

/-- An OCSP response is stored without the password (R244). -/
def State.ocspSet (s : State) (e : Nat) (der : List Nat) : State :=
  if 496 < der.length then s
  else
    let f := s.rdByte (trustBase e + 1)
    ((s.wrBytes (trustBase e + 1552) (der ++ List.replicate (496 - der.length) 0)).wrLe (trustBase e + 6) 2 der.length).wrByte (trustBase e + 1)
      (setBitOf f 1 (!der.isEmpty))

/-- OCSP_SET (R244). -/
def execOcspSet (entry : Fin 64) (der : List Nat) (s : State) : Result := (s.ocspSet entry der).finish

/-- The anchor of a chain's last certificate among the good entries of the required kinds: the same subject and key, or the
issuer left out by the vehicle. -/
def State.anchorOf (s : State) (kinds : List Nat) (last : Cert) : Option (List Nat × Bool) :=
  let good := s.trustEntries.filter fun e => kinds.contains (s.trustKind e) && s.trustGood e
  let test := fun (p : Cert → Bool) => good.find? fun e => match Config.x509 (s.trustDer e) with | some c => p c | none => false
  match test fun c => c.subject == last.subject && c.key == last.key with
  | some e => some (s.trustDer e, true)
  | none => (test fun c => c.subject == last.issuer).map fun e => (s.trustDer e, false)

/-- The position of the first element that satisfies `p`. -/
def firstPos {α : Type} (p : Nat → α → Bool) : Nat → List α → Option Nat
  | _, [] => none
  | i, a :: t => if p i a then some i else firstPos p (i + 1) t

/-- The first rule of Table 11.4 a chain fails, with the position of the certificate; leaf first. -/
def State.chainReject (s : State) (kinds : List Nat) (algs : List Nat) (chain : List (List Nat)) : Option (Nat × Nat) :=
  match chain.mapM Config.x509 with
  | none => some (2, (firstPos (fun _ d => (Config.x509 d).isNone) 0 chain).getD 0)
  | some certs =>
    match certs.getLast? with
    | none => some (2, 0)
    | some last =>
      let a := s.anchorOf kinds last
      let full := match a with | some (d, false) => chain ++ [d] | _ => chain
      let cs := match full.mapM Config.x509 with | some l => l | none => certs
      let n := cs.length
      let key := fun (i : Nat) => (cs.getD i default).key
      let now := s.legalSec
      let skip5 := !s.on F.TIME_LEGAL_STAT_LEGAL_SET && s.on F.CRYPT_TRUST_CFG_NO_TIME
      let r := fun (rule : Nat) (p : Option Nat) => p.map fun i => (rule, i)
      if s.get F.CRYPT_TRUST_CFG_MAX_DEPTH < n then some (1, n - 1)
      else if a.isNone then some (2, n - 1)
      else
        (r 3 (firstPos (fun i d => decide (i + 1 < n) && !(algs.contains (cs.getD i default).alg && Config.verifies d (key (i + 1)))) 0 full)).orElse fun _ =>
        (r 4 (firstPos (fun i (c : Cert) => decide (i + 1 < n) && c.issuer != (cs.getD (i + 1) default).subject) 0 cs)).orElse fun _ =>
        (r 5 (if skip5 then none else firstPos (fun _ (c : Cert) => !s.on F.TIME_LEGAL_STAT_LEGAL_SET || !(decide (c.notBefore ≤ now) && decide (now ≤ c.notAfter))) 0 cs)).orElse fun _ =>
        (r 6 (firstPos (fun i (c : Cert) => decide (0 < i) && (!c.isCa || !c.certSign || (match c.pathLen with | some k => decide (k < i - 1) | none => false))) 0 cs)).orElse fun _ =>
        (r 7 (firstPos (fun i (c : Cert) => i == 0 && (!c.digSig || c.isCa)) 0 cs)).orElse fun _ =>
        r 8 (firstPos (fun _ (c : Cert) => c.unknownCrit) 0 cs)

/-- A chain is validated; a rejection is recorded (R245). The answer tells whether it is good. -/
def State.checkChain (s : State) (n : Nat) (kinds algs : List Nat) (chain : List (List Nat)) : State × Bool :=
  match s.chainReject kinds algs chain with
  | none => (s, true)
  | some (rule, pos) =>
    (((s.ev E.CRYPT_CHAIN_REJECT 0 [n, rule, pos]).set F.CRYPT_LAST_FAIL_CONTEXT n).set F.CRYPT_LAST_FAIL_CODE (0x100 + rule), false)

/-! ### TLS (R241, R242) -/

/-- A handshake or connection fails with an alert (R242); LAST_FAIL shows `code`. -/
def State.tlsFailAs (s : State) (n alert code : Nat) : State :=
  let s := ((s.ev E.CRYPT_TLS_FAIL 0 [n, alert]).inc F.CRYPT_HS_FAIL_COUNT).set F.CRYPT_LAST_FAIL_CONTEXT n
  (((s.set F.CRYPT_LAST_FAIL_CODE code).segment n 9 [alert]).closeTcp n).dropConn n

def State.tlsFail (s : State) (n alert : Nat) : State := s.tlsFailAs n alert alert

/-- The own chain of a curve: its usable leaf, then the issuers found among the enabled good KIND 4 entries by subject (R243). -/
def State.issuers (s : State) : Nat → Cert → List Nat
  | 0, _ => []
  | fuel + 1, c =>
    if c.subject == c.issuer then [] else
    match s.trustEntries.find? fun e => s.trustKind e == 4 && s.trustGood e && ((Config.x509 (s.trustDer e)).any fun d => d.subject == c.issuer) with
    | some e => e :: (match Config.x509 (s.trustDer e) with | some d => s.issuers fuel d | none => [])
    | none => []

def State.ownChain (s : State) (curve : Nat) : List Nat :=
  match s.ownLeaf curve with
  | some e => e :: (match Config.x509 (s.trustDer e) with | some c => s.issuers 8 c | none => [])
  | none => []

/-- The entries whose stored OCSP response goes with the chain: each under TLS 1.3, the leaf's alone under TLS 1.2 (Table 11.2). -/
def State.ocspSent (s : State) (v13 : Bool) (chain : List Nat) : List Nat :=
  (if v13 then chain else chain.take 1).filter fun e => (s.rdByte (trustBase e + 1)).testBit 1

/-- The first of the server's preferences the client offers. -/
def pick (pref offered : List Nat) : Option Nat := pref.find? fun x => offered.contains x

/-- The public-key engine has work for context `n`, after that of the contexts before it (R241). -/
def State.pkeQueue (s : State) (n : Nat) : State := s.modVde fun v => { v with pke := (v.pke.filter fun k => k != n) ++ [n] }

/-- The context the public-key engine serves. -/
def State.pkeNext (s : State) : Option Nat := s.vde.pke.find? fun k => (s.ctx k).tls == 2

/-- A ClientHello is answered (Table 11.2): the version, the suite, the group and the credential. -/
def State.clientHello (s : State) (n : Nat) (v13 : Bool) (suites groups shares sigAlgs : List Nat) : State :=
  let c := s.ctx n
  let offers : List Nat := if v13 then (if sigAlgs.contains 0x0603 then [1] else []) ++ (if sigAlgs.contains 0x0808 then [2] else []) else [0]
  let cred := offers.find? fun k => s.bit F.CRYPT_KEY_STAT_USABLE k
  let pref := if v13 then [0x1302, 0x1301] else [0xC02B, 0xC02C]
  let gs := if v13 then [0x0019, 0x001E] else [0x0017]
  if s.on F.CRYPT_RNG_STAT_FAIL then s.tlsFail n 80
  else match pick pref suites with
  | none => s.tlsFail n 40
  | some suite =>
    if cred.isNone ∨ (pick gs groups).isNone then s.tlsFail n 40
    else if v13 ∧ (pick gs shares).isNone then
      if c.retried then s.tlsFail n 40
      else (s.setCtx n { c with tls := 1, retried := true, v13 := v13, suite := suite }).segment n 10 [(pick gs groups).getD 0]
    else (s.setCtx n { c with tls := 2, v13 := v13, suite := suite, curve := cred.getD 0, group := (pick gs (if v13 then shares else groups)).getD 0 }).pkeQueue n

/-- One TLS record (R241). -/
def State.tlsRecord (s : State) (n : Nat) : TlsRec → State
  | .clientHello v13 suites groups shares sigAlgs =>
    if (s.ctx n).tls ≤ 1 then s.clientHello n v13 suites groups shares sigAlgs else s.tlsFail n 10
  | .certificate chain =>
    if (s.ctx n).tls = 3 ∧ (s.ctx n).v13 ∧ s.on F.CRYPT_TRUST_CFG_REQ_CLIENT then
      let r := s.checkChain n [3] [2, 3] chain
      if r.2 then r.1.modCtx n fun c => { c with certOk := true } else r.1.tlsFailAs n 42 (r.1.get F.CRYPT_LAST_FAIL_CODE)
    else s.tlsFail n 10
  | .finished ok =>
    if (s.ctx n).tls ≠ 3 then s.tlsFail n 10
    else if !ok then s.tlsFail n 51
    else if (s.ctx n).v13 ∧ s.on F.CRYPT_TRUST_CFG_REQ_CLIENT ∧ !(s.ctx n).certOk then s.tlsFail n 116
    else
      let c := s.ctx n
      let s := ((s.setCtx n { c with tls := 4 }).inc F.CRYPT_HS_COUNT_COUNT).setBit F.CRYPT_STATUS_TLS_OPEN n true
      let s := (s.set (F.VDE_CTX_STATE_CONN.nth n) 4).set (F.VDE_CTX_STATE_SEC.nth n) (if c.v13 then 3 else 2)
      s.ev E.CRYPT_TLS_UP 0 [n, if c.v13 then 0x0304 else 0x0303, c.suite]
  | .keyUpdate => s.when ((s.ctx n).tls == 4) fun s => if (s.ctx n).v13 then s.segment n 13 [] else s.tlsFail n 10
  | .renegotiation => s.when ((s.ctx n).tls == 4) fun s => s.segment n 9 [100]
  | .alert code => (s.when (code != 0 && (s.ctx n).tls != 4) fun s =>
      ((((s.ev E.CRYPT_TLS_FAIL 0 [n, code]).inc F.CRYPT_HS_FAIL_COUNT).set F.CRYPT_LAST_FAIL_CONTEXT n).set F.CRYPT_LAST_FAIL_CODE code).closeTcp n).dropConn n
  | .bad code => s.tlsFail n code

/-- A TLS record on a connection with TLS. -/
def State.tlsIn (s : State) (n : Nat) (record : TlsRec) : State :=
  s.when (s.ctxUp n && (s.ctx n).tcp && (s.ctx n).connSec == 0) fun s => s.tlsRecord n record

/-- TLS_RECORD_RX (R241, R242, R245). -/
def execTlsRecordRx (n : Fin 4) (record : TlsRec) (s : State) : Result := (s.onLink (.tlsRecordRx n record) fun s => s.tlsIn n record).finish

/-- The server's flight: version, suite, group, curve, whether the client's certificate is requested, the number of certificates,
their trust store entries leaf first, and the entries whose OCSP responses go with them (Table 11.2, R243). -/
def State.serverFlight (s : State) (n : Nat) : List Nat :=
  let c := s.ctx n
  let chain := s.ownChain c.curve
  [if c.v13 then 0x0304 else 0x0303, c.suite, c.group, c.curve, if c.v13 && s.on F.CRYPT_TRUST_CFG_REQ_CLIENT then 1 else 0, chain.length] ++
    chain ++ s.ocspSent c.v13 chain

/-- PKE_DONE (R241): the engine serves the contexts in order of arrival; the server's flight leaves. -/
def execPkeDone (n : Fin 4) (s : State) : Result :=
  (s.when (s.vdeOwn n && (s.ctx n).tcp && (s.ctx n).tls == 2 && s.pkeNext == some n.val) fun s =>
    (s.modCtx n fun c => { c with tls := 3 }).segment n 11 (s.serverFlight n)).finish

/-- TLS_HANDSHAKE_TIMEOUT (R242). -/
def execTlsHandshakeTimeout (n : Fin 4) (s : State) : Result :=
  (s.when (s.vdeOwn n && (s.ctx n).tcp && (s.ctx n).connSec == 0 && (s.ctx n).tls != 4) fun s => s.tlsFail n 80).finish

/-! ### Grammar tables (R246, R247, Table 11.5) -/

/-- EXI_LOAD_SET (R247). -/
def execExiLoadSet (s : State) : Result := (s.hostWrites 0x21 0x008 State.exiSet).finish

/-- EXI_LOAD_CLEAR (R247). -/
def execExiLoadClear (s : State) : Result := (s.hostWrites 0x21 0x008 State.exiClear).finish

/-! ### The order of requests (R249, Table 11.6) -/

def State.proto (s : State) (n : Nat) : Nat := s.get (F.VDE_CTX_STATE_PROTO.nth n)
def State.ctxStep (s : State) (n : Nat) : Nat := s.get (F.VDE_CTX_STATE_STEP.nth n)
def State.authCode (s : State) (n : Nat) : Nat := s.get (F.VDE_CTX_STATE_AUTH.nth n)

/-- The steps of a protocol in its order. -/
def protoSteps (p : Nat) : List Nat :=
  match p with
  | 1 => [1, 2, 4, 7, 8, 9, 10, 11, 12, 14, 15, 16]
  | 2 => [1, 2, 4, 5, 6, 7, 8, 9, 10, 11, 12, 13, 14, 15, 16]
  | _ => [1, 2, 3, 5, 7, 4, 8, 9, 10, 11, 12, 13, 14, 15, 16]

/-- Steps a vehicle may leave out (log entry 100). -/
def stepOptional (k : Nat) : Bool := [5, 6, 12, 13, 14, 15].contains k

/-- The outlet states in which a step is accepted. -/
def stepStates (k : Nat) : List OState :=
  match k with
  | 1 => [.link]
  | 2 => [.link]
  | 9 => [.session, .check, .precharge]
  | 10 => [.precharge]
  | 11 => [.precharge]
  | 12 => [.energy]
  | 13 => [.energy]
  | 14 => [.energy]
  | 15 => [.stopping, .weldcheck, .release]
  | 16 => [.session, .release]
  | _ => [.session]

/-- Position of a step in a protocol's order. -/
def posOf (l : List Nat) (k : Nat) : Option Nat := firstPos (fun _ a => a == k) 0 l

/-- Step `k` may follow step `last` in the order `l`: the same again, the next with only optional steps between, a loop step
after a metering one, or SessionStop. -/
def orderFollows (l : List Nat) (last k : Nat) : Bool :=
  match posOf l last, posOf l k with
  | some a, some b =>
    k == 16 || a == b || (last == 13 && k == 12) ||
      (decide (a < b) && ((l.drop (a + 1)).take (b - a - 1)).all fun x => stepOptional x)
  | none, some b => b == 1
  | _, _ => false

/-- Step `k` may follow step `last` under protocol `p`. Under ISO 15118-20 step 4 stands after step 7, as the standard has it, or
before it, as the numbers of Table 11.6 have it; both are done before step 8 and the one that came first does not come again
(log entry 100). -/
def stepFollows (p last k : Nat) (authorised served : Bool) : Bool :=
  if p ≤ 2 then orderFollows (protoSteps p) last k
  else
    (orderFollows (protoSteps p) last k && !(last == 4 && k == 8 && !authorised) && !(last == 7 && k == 4 && served)) ||
      (orderFollows [1, 2, 3, 4, 5, 7, 8] last k && !(last == 7 && k == 8 && !served) && !(last == 4 && decide (4 < k) && decide (k < 8) && authorised))

/-- Request `k` comes in the order of context `n` (R249). -/
def State.follows (s : State) (n k : Nat) : Bool :=
  stepFollows (s.proto n) (s.ctxStep n) k (s.authCode n != 0) (s.ctx n).served

/-- A request resets its timer (R251). -/
def State.noteReq (s : State) (n k : Nat) : State :=
  ((s.modCtx n fun c => { c with reqTick := s.ticks, served := c.served || k == 4 }).set (F.VDE_CTX_LAST_REQ_MS.nth n) 0).set (F.VDE_CTX_STATE_STEP.nth n) k

/-- A sequence error ends the session (R249). -/
def State.seqError (s : State) (n k : Nat) : State :=
  ((s.respond n k 2 []).ev E.VDE_SEQUENCE_ERROR n [k, (s.ostate n).code]).sessEnd n E.VDE_SEQUENCE_ERROR.code16

/-- The context's connection carries V2G messages. -/
def State.v2gUp (s : State) (n : Nat) : Bool := s.ctxUp n && (s.ctx n).tcp && ((s.ctx n).connSec == 0x10 || (s.ctx n).tls == 4)

/-- A request of step `k`: in OUT_FAULT it draws the failure response (R261), out of order a sequence error. -/
def State.v2gReq (s : State) (n k : Nat) (f : State → State) : State :=
  if !s.v2gUp n then s
  else if s.ostate n == .fault then ((s.noteReq n k).respondNow n k 5).sessEnd n E.VDE_SEQUENCE_ERROR.code16
  else if (stepStates k).contains (s.ostate n) && s.follows n k then f (s.noteReq n k)
  else s.seqError n k

/-- A protocol may be chosen: enabled, with its grammar sets, on a compatible transport (R241, R246, R248). -/
def State.protoOk (s : State) (n p : Nat) : Bool :=
  let sec := s.get (F.VDE_CTX_STATE_SEC.nth n)
  let m := s.get F.VDE_PROTO_ISO2_SEC
  s.hasSet 1 && match p with
  | 1 => s.on F.VDE_PROTO_DIN_EN && s.hasSet 2 && sec == 1
  | 2 => s.on F.VDE_PROTO_ISO2_EN && s.hasSet 3 && ((sec == 1 && m != 1) || (sec == 2 && m != 2))
  | 3 => s.on F.VDE_PROTO_ISO20_EN && s.hasSet 4 && s.hasSet 5 && sec == 3
  | _ => false

/-- The offer of least priority number among those that may be chosen. -/
def bestOffer : List (Nat × Nat) → Option Nat
  | [] => none
  | (p, q) :: t => match bestOffer t with
    | none => some p
    | some r => if (t.find? fun x => x.1 == r).all fun x => decide (q ≤ x.2) then some p else some r

/-- SUPPORTED_APP_PROTOCOL (R248): offers as (protocol: 1 DIN SPEC 70121, 2 ISO 15118-2, 3 ISO 15118-20; priority). -/
def State.supportedApp (s : State) (n : Nat) (offers : List (Nat × Nat)) : State :=
  s.when (s.v2gUp n) fun s =>
    if s.ostate n ≠ .link ∨ 1 < s.ctxStep n then s.v2gReq n 1 id
    else
      let ok := offers.filter fun o => s.protoOk n o.1
      let own := [3, 2, 1].find? fun p => ok.any fun o => o.1 == p
      let choice := if s.on F.VDE_PROTO_PREF_EV then bestOffer ok else own
      match choice with
      | some p => ((s.noteReq n 1).set (F.VDE_CTX_STATE_PROTO.nth n) p).respond n 1 0 [(p : Nat)]
      | none =>
        let s := (s.respond n 1 5 []).ev E.VDE_NO_PROTOCOL n [offers.length]
        (s.closeConn n).clearConn n

/-- The command's row (Table 11.6); during VAULT and HANDOVER the frame is kept (R265). -/
def execSupportedAppProtocol (n : Fin 4) (offers : List (Nat × Nat)) (s : State) : Result := (s.onLink (.supportedAppProtocol n offers) fun s => s.supportedApp n offers).finish

/-- SESSION_SETUP (R249, R24): without the random number generator no session ID is made. -/
def State.sessionSetup (s : State) (n : Nat) (evccid : List Nat) : State :=
  s.v2gReq n 2 fun s =>
    if s.sys.sealedSvc || s.mode == .sealedService || s.on F.CRYPT_RNG_STAT_FAIL then s.respond n 2 5 []
    else
      let sid := s.free % 2 ^ 64
      let s := (s.freeNext.set (F.VDE_CTX_SID_LO_SID.nth n) sid).set (F.VDE_CTX_SID_HI_SID.nth n) (sid / 2 ^ 32)
      let id := ofBe (evccid.take 6)
      let s := (s.set (F.VDE_CTX_EVCCID_LO_ID.nth n) id).set (F.VDE_CTX_EVCCID_HI_ID.nth n) (id / 2 ^ 32)
      let s := s.modCtx n fun c => { c with session := true, evccid := evccid, closeDue := true }
      let s := ((s.inc F.VDE_SESSIONS_COUNT).d2dSend 1 (n :: s.proto n :: leBytes 8 sid ++ evccid)).ev E.VDE_SESSION_START n
        [s.proto n, id % 2 ^ 32, id / 2 ^ 32]
      let s := (s.sessionInfo n E.VDE_SESSION_START.code16 0).setOState n .session
      s.respond n 2 0 [(sid : Nat)]

/-- The command's row (Table 11.6); during VAULT and HANDOVER the frame is kept (R265). -/
def execSessionSetup (n : Fin 4) (evccid : List Nat) (s : State) : Result := (s.onLink (.sessionSetup n evccid) fun s => s.sessionSetup n evccid).finish

/-- Contract payment can be offered (R252). -/
def State.pncOk (s : State) (n : Nat) : Bool :=
  s.on F.VDE_AUTH_CFG_PNC_EN && decide (2 ≤ s.get (F.VDE_CTX_STATE_SEC.nth n)) &&
    s.trustEntries.any fun e => (s.trustKind e == 1 || s.trustKind e == 2) && s.trustGood e

/-- The services and payments offered (R252): DC, DC_BPT, external payment, contract payment. -/
def State.services (s : State) (n : Nat) : List Int :=
  let b : Bool → Int := fun x => if x then 1 else 0
  [1, b (decide (3 ≤ s.proto n) && s.on F.VDE_PROTO_ISO20_BPT && s.hasSet 6), b (s.on F.VDE_AUTH_CFG_EIM_EN), b (s.pncOk n)]

/-- AUTHORIZATION_SETUP (R252). -/
def State.authSetup (s : State) (n : Nat) : State := s.v2gReq n 3 fun s => s.respond n 3 0 (s.services n)

/-- The command's row (Table 11.6); during VAULT and HANDOVER the frame is kept (R265). -/
def execAuthorizationSetup (n : Fin 4) (s : State) : Result := (s.onLink (.authorizationSetup n) fun s => s.authSetup n).finish

/-- SERVICE_DISCOVERY (R252): kind 0 discovery, 1 detail, 2 selection of a service and a payment. -/
def State.serviceReq (s : State) (n : Nat) (kind : Fin 3) (bpt contract : Bool) : State :=
  s.v2gReq n 4 fun s =>
    if kind ≠ 2 then s.respond n 4 0 (s.services n)
    else
      let okB := !bpt || (decide (3 ≤ s.proto n) && s.on F.VDE_PROTO_ISO20_BPT && s.hasSet 6)
      let okP := if contract then s.pncOk n else s.on F.VDE_AUTH_CFG_EIM_EN
      if okB ∧ (okP ∨ 3 ≤ s.proto n) then
        let s := s.modCtx n fun c => { c with bpt := bpt, contract := if 3 ≤ s.proto n then c.contract else contract }
        (s.when bpt fun s => s.set (F.VDE_CTX_STATE_PROTO.nth n) 4).respond n 4 0 []
      else s.respond n 4 5 []

/-- The command's row (Table 11.6); during VAULT and HANDOVER the frame is kept (R265). -/
def execServiceDiscovery (n : Fin 4) (kind : Fin 3) (bpt contract : Bool) (s : State) : Result := (s.onLink (.serviceDiscovery n kind bpt contract) fun s => s.serviceReq n kind bpt contract).finish

/-- CERTIFICATE_INSTALLATION (R260): forwarded to the host; ISO 15118-20 alone has an answer for the wait, and its next request draws
the host's. -/
def State.certInstall (s : State) (n : Nat) (update : Bool) (body : List Nat) : State :=
  s.v2gReq n 5 fun s =>
    match (s.ctx n).certAns, (s.ctx n).certReq with
    | some (res, b), _ => (s.modCtx n fun c => { c with certAns := none }).respond n 5 res (b.map fun (x : Nat) => (x : Int))
    | none, some _ => s.respond n 5 1 []
    | none, none =>
      let r := s.nextReqId
      let s := r.1.modCtx n fun c => { c with certReq := some r.2, certBuf := [] }
      let s := s.mbxSend 3 n r.2 ([s.proto n, if update then 1 else 0] ++ body)
      (s.ev E.VDE_CERT_FORWARDED n [r.2, if update then 1 else 0]).when (decide (3 ≤ s.proto n)) fun s => s.respond n 5 1 []

/-- The command's row (Table 11.6); during VAULT and HANDOVER the frame is kept (R265). -/
def execCertificateInstallation (n : Fin 4) (update : Bool) (body : List Nat) (s : State) : Result := (s.onLink (.certificateInstallation n update body) fun s => s.certInstall n update body).finish

/-- The contract chain's algorithms by protocol (Table 11.4 rule 3). -/
def State.contractAlgs (s : State) (n : Nat) : List Nat := if s.proto n = 2 then [1] else [2, 3]

/-- PAYMENT_DETAILS (R245). -/
def State.paymentReq (s : State) (n : Nat) (emaid : List Nat) (chain : List (List Nat)) : State :=
  s.v2gReq n 6 fun s =>
    let r := s.checkChain n [2, 1] (s.contractAlgs n) chain
    let s := r.1.modCtx n fun c => { c with emaid := emaid, chainOk := r.2 }
    s.respond n 6 (if r.2 then 0 else 5) []

/-- The command's row (Table 11.6); during VAULT and HANDOVER the frame is kept (R265). -/
def execPaymentDetails (n : Fin 4) (emaid : List Nat) (chain : List (List Nat)) (s : State) : Result := (s.onLink (.paymentDetails n emaid chain) fun s => s.paymentReq n emaid chain).finish

/-! ### Authorisation (R253) -/

/-- Upper case without separators. -/
def normId (l : List Nat) : List Nat := (l.filter fun c => c != 0x2D).map fun c => if 0x61 ≤ c ∧ c ≤ 0x7A then c - 32 else c

/-- The first list entry with a KIND, length and ID. -/
def State.listEntry (s : State) (kind : Nat) (id : List Nat) : Option Nat :=
  (s.mem.filterMap fun c => if tbl 5 0 ≤ c.1 ∧ c.1 < tbl 5 131072 ∧ c.1 % 32 = 0 then some ((c.1 - tbl 5 0) / 32) else none).find? fun e =>
    s.rdByte (tbl 5 (32 * e)) == kind && s.rdByte (tbl 5 (32 * e + 1)) == id.length && s.rdBytes (tbl 5 (32 * e + 12)) id.length == id

/-- Entries of table 5 with KIND not 0 (Table 11.13, LIST). -/
def State.refreshList (s : State) : State :=
  s.set F.VDE_LIST_COUNT (s.mem.filter fun c => decide (tbl 5 0 ≤ c.1) && decide (c.1 < tbl 5 131072) && c.1 % 32 == 0 &&
    (c.2 == 1 || c.2 == 2)).length

/-- Denied: the failure response, and the session ends. -/
def State.authDeny (s : State) (n rule : Nat) : State :=
  (((s.set (F.VDE_CTX_STATE_AUTH.nth n) 4).respond n 7 3 []).ev E.VDE_AUTH_DENIED n [rule]).sessEnd n E.VDE_AUTH_DENIED.code16

def State.authGrant (s : State) (n : Nat) : State := (s.set (F.VDE_CTX_STATE_AUTH.nth n) 3).respond n 7 0 []

/-- The host is asked, with the contract chain as received (Table 11.12). -/
def State.askHost (s : State) (n kind : Nat) (id : List Nat) (chain : List (List Nat)) : State :=
  let r := s.nextReqId
  let data := [kind, id.length] ++ slice id 0 20 ++ chain.flatMap fun d => leBytes 2 d.length ++ d
  let s := (r.1.modCtx n fun c => { c with authReq := some r.2 }).mbxSend 1 n r.2 data
  ((s.set (F.VDE_CTX_STATE_AUTH.nth n) 2).ev E.VDE_AUTH_HOST n [r.2]).respond n 7 1 []

/-- The decision of R253. -/
def State.authorise (s : State) (n : Nat) (chain : List (List Nat)) : State :=
  let c := s.ctx n
  let kind := if c.contract then 1 else 2
  let id := if c.contract then normId c.emaid else c.evccid
  if c.contract ∧ !c.chainOk then s.authDeny n 1
  else
    let hit := if s.on F.VDE_AUTH_CFG_LOCAL_EN then s.listEntry kind id else none
    let ask := fun (s : State) => if s.on F.VDE_AUTH_CFG_HOST_AUTH then s.askHost n kind id chain else s.authDeny n 4
    match hit with
    | none => ask s
    | some e =>
      let f := s.rdByte (tbl 5 (32 * e + 2))
      let exp := s.rdLe (tbl 5 (32 * e + 4)) 6
      let s := s.set (F.VDE_CTX_STATE_AUTH.nth n) 1
      if f.testBit 1 then (s.ev E.VDE_AUTH_LOCAL n [kind, e, 0]).authDeny n 2
      else if f.testBit 0 ∧ (exp = 0 ∨ s.legalSec < exp) then (s.ev E.VDE_AUTH_LOCAL n [kind, e, 1]).authGrant n
      else s.authDeny n 4

/-- AUTHORIZATION (R253): an ISO 15118-20 contract chain comes with it; a payment not offered draws the failure response (R252). -/
def State.authReq (s : State) (n : Nat) (emaid : List Nat) (chain : List (List Nat)) : State :=
  s.v2gReq n 7 fun s =>
    match s.authCode n with
    | 2 => s.respond n 7 1 []
    | 3 => s.respond n 7 0 []
    | _ =>
      if 3 ≤ s.proto n ∧ !(if chain.isEmpty then s.on F.VDE_AUTH_CFG_EIM_EN else s.pncOk n) then s.respond n 7 5 []
      else if 3 ≤ s.proto n ∧ !chain.isEmpty then
        let r := s.checkChain n [2, 1] (s.contractAlgs n) chain
        (r.1.modCtx n fun c => { c with contract := true, emaid := emaid, chainOk := r.2 }).authorise n chain
      else s.authorise n []

/-- The command's row (Table 11.6); during VAULT and HANDOVER the frame is kept (R265). -/
def execAuthorization (n : Fin 4) (emaid : List Nat) (chain : List (List Nat)) (s : State) : Result := (s.onLink (.authorization n emaid chain) fun s => s.authReq n emaid chain).finish

/-- AUTH_RES (R253); a late or unknown reply is discarded, and so is any at a standby, which has asked for nothing itself (R260). -/
def State.authRes (s : State) (n reqId : Nat) (grant : Bool) : State :=
  if s.mode = Mode.mirror ∨ (s.ctx n).authReq ≠ some reqId then s.ev E.VDE_MBX_LATE n [2, reqId]
  else
    let s := s.modCtx n fun c => { c with authReq := none }
    if grant then s.set (F.VDE_CTX_STATE_AUTH.nth n) 3 else s.authDeny n 3

/-- AUTH_RES (R253, R260). -/
def execAuthRes (n : Fin 4) (reqId : Nat) (grant : Bool) (s : State) : Result := (s.authRes n reqId grant).finish

/-- AUTH_TIMEOUT (R253). -/
def execAuthTimeout (n : Fin 4) (s : State) : Result :=
  (s.when (s.vdeOwn n) fun s => match (s.ctx n).authReq with
   | none => s
   | some r =>
     let allow := s.on F.VDE_AUTH_CFG_TO_ALLOW
     let s := (s.ev E.VDE_AUTH_TIMEOUT n [r, if allow then 1 else 0]).cancelReqs n
     if allow then s.set (F.VDE_CTX_STATE_AUTH.nth n) 3 else s.authDeny n 3).finish

/-- The answer to step 5 is there: it goes out, or waits for the next request where processing ongoing has been answered. -/
def State.certAnswer (s : State) (n res : Nat) (b : List Nat) : State :=
  let s := s.modCtx n fun c => { c with certReq := none, certBuf := [] }
  if 3 ≤ s.proto n then s.modCtx n fun c => { c with certAns := some (res, b) } else s.respond n 5 res (b.map fun (x : Nat) => (x : Int))

/-- CERT_RES: the parts of the body are sent on unchanged once complete (R260). -/
def State.certRes (s : State) (n reqId part parts : Nat) (body : List Nat) : State :=
  if s.mode = Mode.mirror ∨ (s.ctx n).certReq ≠ some reqId then s.ev E.VDE_MBX_LATE n [4, reqId]
  else
    let s := s.modCtx n fun c => { c with certBuf := c.certBuf ++ body }
    if part + 1 < parts then s
    else s.certAnswer n 0 (s.ctx n).certBuf

/-- CERT_RES (R260). -/
def execCertRes (n : Fin 4) (reqId : Nat) (part parts : Nat) (body : List Nat) (s : State) : Result := (s.certRes n reqId part parts body).finish

/-- CERT_TIMEOUT (R260). -/
def execCertTimeout (n : Fin 4) (s : State) : Result :=
  (s.when (s.vdeOwn n) fun s => match (s.ctx n).certReq with
   | none => s
   | some r =>
     (((s.mbxSend 7 n r []).ev E.VDE_CERT_TIMEOUT n [r]).certAnswer n 5 [])).finish

/-! ### Values and targets (R256) -/

/-- A vehicle's number in thousandths, toward zero. -/
def milliOf (x : V2gNum) : Int :=
  if 0 ≤ x.exp + 3 then x.value * ((10 ^ (x.exp + 3).toNat : Nat) : Int) else Int.tdiv x.value ((10 ^ (-(x.exp + 3)).toNat : Nat) : Int)
/-- In whole units, toward zero. -/
def unitOf (x : V2gNum) : Int :=
  if 0 ≤ x.exp then x.value * ((10 ^ x.exp.toNat : Nat) : Int) else Int.tdiv x.value ((10 ^ (-x.exp).toNat : Nat) : Int)

def milliOr (x : Option V2gNum) (d : Int) : Int := match x with | some v => milliOf v | none => d
def unitOr (x : Option V2gNum) (d : Int) : Int := match x with | some v => unitOf v | none => d

/-- The outlet values of Table 11.8, clamped. -/
def State.targets (s : State) (n : Nat) (r : EvReq) : TargetSet :=
  let maxV := milliOr r.maxV 1500000
  let maxI := milliOr r.maxI 3000000
  let maxP := unitOr r.maxP 4500000
  let tV := milliOr r.targetV maxV
  let tI := milliOr r.targetI 0
  let disI := if (s.ctx n).bpt then milliOr r.maxDisI 0 else 0
  let disP := unitOr r.maxDisP 0
  let v := fun (x : Int) => (clampI 150000 1500000 x).toNat
  let i := fun (x : Int) => (clampI 0 3000000 x).toNat
  let p := fun (x : Int) => (clampI 0 4500000 x).toNat
  if s.proto n ≤ 2 then
    { vcmd := v (min tV maxV), ilimImp := i (min tI maxI), ilimExp := 0, plimImp := p maxP, plimExp := 0, dirExp := false }
  else if !r.dynamic then
    { vcmd := v tV, ilimImp := if 0 ≤ tI then i (min tI maxI) else 0, ilimExp := if tI < 0 then i (min (-tI) disI) else 0,
      plimImp := p maxP, plimExp := p disP, dirExp := decide (tI < 0) }
  else
    let ex := decide (s.getI (F.ALLOC_OUT_CEIL_W.nth n) ≤ 0) && decide (s.getI (F.ALLOC_OUT_FLOOR_W.nth n) < 0)
    { vcmd := v (if ex then milliOr r.minV 150000 else maxV), ilimImp := i maxI, ilimExp := i disI, plimImp := p maxP, plimExp := p disP, dirExp := ex }

/-- The demand of a target set at a voltage, W; 0 in export (R256). -/
def demandOf (t : TargetSet) (u : Nat) : Nat := if t.dirExp then 0 else min (min t.plimImp (t.ilimImp * u / 1000000)) 4500000

/-- The demand is kept for the allocator. -/
def State.setDemand (s : State) (n : Nat) (t : TargetSet) : State :=
  let u := if s.ostate n == .energy then (s.vc n).toNat else t.vcmd
  s.set (F.VDE_CTX_DEMAND_W_W.nth n) (demandOf t u)

/-! ### Sentences of a context (R236, R257) -/

def regClauseOf (f : Field) (mask v : Nat) : Clause := ⟨0x01000000, f.page * 2 ^ 24 + f.off, v, mask⟩

/-- The Clauses for the values that differ from the committed ones, or for all of them; those of a PreCharge are all (R255). -/
def State.targetClauses (s : State) (n : Nat) (t : TargetSet) (all : Bool) : List Clause :=
  let dir := F.OUTLET_DIR_EXPORT.inst n
  let ev := F.OUTLET_EV_MV_MV.inst n
  (match t.evMv with
   | some mv => [regClauseOf ev (2 ^ ev.width - 1) mv]
   | none => []) ++
  (if all || t.evMv.isSome || s.getI (F.OUTLET_VCMD_TARGET.inst n) != t.vcmd then [⟨0x05000000, n, t.vcmd, 0⟩] else []) ++
  (if t.evMv.isSome then [] else
    (if all || s.get (F.OUTLET_ILIM_IMP_MA.inst n) != t.ilimImp || s.get (F.OUTLET_ILIM_EXP_MA.inst n) != t.ilimExp then [⟨0x06000000, n, t.ilimImp, t.ilimExp⟩] else []) ++
    (if all || s.get (F.OUTLET_PLIM_IMP_W.inst n) != t.plimImp || s.get (F.OUTLET_PLIM_EXP_W.inst n) != t.plimExp then [⟨0x07000000, n, t.plimImp, t.plimExp⟩] else []) ++
    (if all || s.on dir != t.dirExp then [regClauseOf dir (2 ^ dir.lo) (if t.dirExp then 2 ^ dir.lo else 0)] else []))

/-- The context's Sentence: sample boundary on slot 4n, zero take delay, released by itself (R236). -/
def State.ctxSentence (s : State) (n : Nat) (cs : List Clause) : State :=
  s.prepareOwn n { owner := 1, clauses := cs, mode := 1, loopSlot := 4 * n, tdZero := true }

/-- A set of targets is issued where a value differs, or waits for the slot and replaces one that waits (R257). -/
def State.issueTargets (s : State) (n : Nat) (t : TargetSet) (all : Bool) : State :=
  let cs := s.targetClauses n t all
  if (s.slot n).st ≠ 0 then (s.modCtx n fun c => { c with waitSet := some t }).setB (F.VDE_CTX_STATE_WAITING.nth n) true
  else if cs.isEmpty then s
  else s.ctxSentence n cs

/-- TARGET_SET_ISSUE (R257). -/
def execTargetSetIssue (n : Fin 4) (s : State) : Result :=
  (match (s.ctx n).waitSet with
   | none => s
   | some t => if (s.slot n).st ≠ 0 then s
     else ((s.modCtx n fun c => { c with waitSet := none }).setB (F.VDE_CTX_STATE_WAITING.nth n) false).issueTargets n t (s.outSt n).energyDue).finish

/-- A voltage command alone. -/
def State.issueVcmd (s : State) (n mv : Nat) : State :=
  if (s.slot n).st ≠ 0 then s else s.ctxSentence n [⟨0x05000000, n, mv, 0⟩]

/-- CHARGE_PARAMETER_DISCOVERY (R256, Table 11.6 step 8). -/
def State.chargeParams (s : State) (n : Nat) (req : EvReq) : State :=
  s.v2gReq n 8 fun s =>
    let mv := (clampI 0 (2 ^ 32 - 1) (milliOr req.maxV 1500000)).toNat
    let ma := (clampI 0 (2 ^ 32 - 1) (milliOr req.maxI 3000000)).toNat
    let w := (clampI 0 (2 ^ 32 - 1) (unitOr req.maxP 4500000)).toNat
    let s := ((s.set (F.VDE_CTX_EV_VMAX_MV.nth n) mv).set (F.VDE_CTX_EV_IMAX_MA.nth n) ma).set (F.VDE_CTX_EV_PMAX_W.nth n) w
    let s := (s.set (F.VDE_CTX_SOC_PCT.nth n) (req.soc.getD 0xFF)).modCtx n fun c => { c with dynamic := req.dynamic }
    let t : TargetSet := { vcmd := max 150000 (min mv 1500000), ilimImp := min ma 3000000, plimImp := min w 4500000 }
    (s.setDemand n t).respond n 8 0 ([max 0 (s.getI (F.ALLOC_OUT_CEIL_W.nth n)), (s.get F.VDE_SCHED_S : Nat)] ++ s.v2gValues n)

/-- The command's row (Table 11.6); during VAULT and HANDOVER the frame is kept (R265). -/
def execChargeParameterDiscovery (n : Fin 4) (req : EvReq) (s : State) : Result := (s.onLink (.chargeParameterDiscovery n req) fun s => s.chargeParams n req).finish

/-! ### Cable check, precharge and delivery (R254, R255) -/

/-- The insulation verdict is good (R344). -/
def State.imdGood (s : State) (n : Nat) : Bool := !(s.outSt n).imdFault && !((s.outSt n).imdPwmLost && s.bit F.SAFE_IMD_CFG_PWM_EN n)

/-- A connection of the safe channel in WAIT keeps outlet `n` out of OUT_CHECK (Table 14.6). -/
def State.gscBars (s : State) (n : Nat) : Bool :=
  (List.range 16).any fun c => s.get (F.GSC_CSTAT_STATE.nth c) == 1 &&
    (s.get (F.GSC_CCFG_ACTION.nth c) == 2 || (s.get (F.GSC_CCFG_ACTION.nth c) == 1 && s.bit (F.GSC_CCFG_MASK.nth c) n))

/-- A flag of FB_STAT stands (R188). -/
def State.fbFlags (s : State) (n : Nat) : Bool :=
  [F.OUTLET_FB_STAT_LOST_V, F.OUTLET_FB_STAT_LOST_I, F.OUTLET_FB_STAT_FROZEN_V, F.OUTLET_FB_STAT_FROZEN_I, F.OUTLET_FB_STAT_MISMATCH_V,
   F.OUTLET_FB_STAT_MISMATCH_I].any fun f => s.on (f.inst n)

/-- What the safety logic asks before OUT_CHECK (R188, R345, R347, R359). -/
def State.checkAllowed (s : State) (n : Nat) : Bool :=
  s.imdGood n && !s.on F.CRYPT_RNG_STAT_FAIL && !s.on F.LENS_STATUS_CAL_BAD && !s.on F.LENS_STATUS_UNCAL && !s.gscBars n && !s.fbFlags n

/-- The conditions of entering OUT_CHECK (R254, R188, R345, R347, R359). -/
def State.checkReady (s : State) (n : Nat) : Bool :=
  s.combined n == 2 && s.authCode n == 3 && decide (0 < s.getI (F.ALLOC_OUT_CEIL_W.nth n)) &&
    (s.groups.any fun g => s.stage g == .routed && (s.grp g).phys == n) && s.checkAllowed n && s.mode.gateDrive

/-- CABLE_CHECK_REQ (R254). -/
def State.cableCheckReq (s : State) (n : Nat) : State :=
  s.v2gReq n 9 fun s =>
    let s := s.when ((s.ctx n).check == 0) fun s => s.modCtx n fun c => { c with check := 1, checkTick := s.ticks }
    if (s.ctx n).check = 4 then s.respond n 9 0 [] else s.respond n 9 1 []

/-- The command's row (Table 11.6); during VAULT and HANDOVER the frame is kept (R265). -/
def execCableCheckReq (n : Fin 4) (s : State) : Result := (s.onLink (.cableCheckReq n) fun s => s.cableCheckReq n).finish

/-- CABLE_CHECK_START (R254). -/
def execCableCheckStart (n : Fin 4) (s : State) : Result :=
  (s.when (s.vdeOwn n && s.stagesRun && s.ostate n == .session && (s.ctx n).check == 1 && s.checkReady n) fun s =>
    (s.modCtx n fun c => { c with check := 2 }).setOState n .check).finish

/-- The voltage of the cable check, mV (R254 step 1). -/
def State.checkMv (s : State) (n : Nat) : Nat :=
  max 150000 (min (s.get (F.VDE_CTX_EV_VMAX_MV.nth n)) (min (s.get F.VDE_CHECK_MAX_V * 1000) 1500000))

/-- MAIN_SEQ_STEP_DONE (R180, R254 step 1): once the contactors are closed, the check's voltage is commanded. -/
def execMainSeqStepDone (n : Fin 4) (s : State) : Result :=
  (s.when (s.hasOutlet n && s.ostate n == .check && s.stagesRun) fun s =>
    let before := s.slotsClosed n
    let s := s.seqStep n
    s.when (!before && s.slotsClosed n && (s.ctx n).check == 2) fun s => s.issueVcmd n (s.checkMv n)).finish

/-- CABLE_CHECK_HOLD_DONE (R254 step 2). -/
def execCableCheckHoldDone (n : Fin 4) (s : State) : Result :=
  (s.when (s.vdeOwn n && s.stagesRun && s.ostate n == .check && (s.ctx n).check == 2 && s.slotsClosed n && !s.on (F.OUTLET_STATUS_SLEWING.inst n) && s.imdGood n &&
      (s.slot n).st == 0) fun s => (s.modCtx n fun c => { c with check := 3 }).issueVcmd n 0).finish

/-- CABLE_CHECK_DISCHARGED (R254 step 3, R41). -/
def execCableCheckDischarged (n : Fin 4) (s : State) : Result :=
  (s.when (s.vdeOwn n && s.stagesRun && s.ostate n == .check && (s.ctx n).check == 3 && decide (s.vc n ≤ (s.get F.VDE_CHECK_END_V * 1000 : Nat)) &&
      decide (0 < s.getI (F.ALLOC_OUT_CEIL_W.nth n))) fun s =>
    (s.modCtx n fun c => { c with check := 4 }).setOState n .precharge).finish

/-- CABLE_CHECK_TIMEOUT (R254): the data is how far the check had come. -/
def execCableCheckTimeout (n : Fin 4) (s : State) : Result :=
  (s.when (s.vdeOwn n && (s.ctx n).check != 0 && (s.ctx n).check != 4) fun s =>
    (s.ev E.VDE_CHECK_FAILED n [(s.ctx n).check]).sessEnd n E.VDE_CHECK_FAILED.code16).finish

/-- PRECHARGE_REQ (R255). -/
def State.prechargeReq (s : State) (n : Nat) (present target : V2gNum) : State :=
  s.v2gReq n 10 fun s =>
    let ev := (clampI 0 1500000 (if 3 ≤ s.proto n then milliOf present else milliOf target)).toNat
    let v := (clampI 150000 1500000 (milliOf target)).toNat
    let s := s.issueTargets n { vcmd := v, evMv := some ev } false
    if (s.slot n).st ≠ 0 then s.modCtx n fun c => { c with rspDue := 10 } else s.respondNow n 10 0

/-- The command's row (Table 11.6); during VAULT and HANDOVER the frame is kept (R265). -/
def execPrechargeReq (n : Fin 4) (present target : V2gNum) (s : State) : Result := (s.onLink (.prechargeReq n present target) fun s => s.prechargeReq n present target).finish

/-- POWER_DELIVERY_START (R255). -/
def State.deliveryStart (s : State) (n : Nat) (req : EvReq) : State :=
  s.v2gReq n 11 fun s =>
    if !s.on (F.OUTLET_STATUS_PRECHARGE_OK.inst n) then s.respond n 11 5 []
    else
      let t := s.targets n req
      let s := ((s.setDemand n t).modOut n fun o => { o with energyDue := true }).modCtx n fun c => { c with rspDue := 11 }
      s.issueTargets n t true

/-- The command's row (Table 11.6); during VAULT and HANDOVER the frame is kept (R265). -/
def execPowerDeliveryStart (n : Fin 4) (req : EvReq) (s : State) : Result := (s.onLink (.powerDeliveryStart n req) fun s => s.deliveryStart n req).finish

/-- CHARGE_LOOP_REQ (R256, R257). -/
def State.chargeLoop (s : State) (n : Nat) (req : EvReq) : State :=
  s.v2gReq n 12 fun s =>
    let t := s.targets n req
    let s := s.setDemand n t
    let s := match req.soc with | some p => s.set (F.VDE_CTX_SOC_PCT.nth n) p | none => s
    if (s.slot n).st = 0 ∧ (s.targetClauses n t false).isEmpty then s.respondNow n 12 0
    else (s.modCtx n fun c => { c with rspDue := 12 }).issueTargets n t false

/-- The command's row (Table 11.6); during VAULT and HANDOVER the frame is kept (R265). -/
def execChargeLoopReq (n : Fin 4) (req : EvReq) (s : State) : Result := (s.onLink (.chargeLoopReq n req) fun s => s.chargeLoop n req).finish

/-- V2G_RESPONSE_SEND (R257, R258): the values are those after the Sentence. -/
def execV2gResponseSend (n : Fin 4) (s : State) : Result :=
  (s.when (s.vdeOwn n && s.stagesRun && (s.ctx n).rspDue != 0 && (s.slot n).st == 0) fun s =>
    let k := (s.ctx n).rspDue
    (s.modCtx n fun c => { c with rspDue := 0 }).respondNow n k 0).finish

/-- METERING_CONFIRMATION (Table 11.6 step 13). -/
def State.meteringReq (s : State) (n : Nat) (body : List Nat) : State :=
  s.v2gReq n 13 fun s => (s.mbxSend 6 n 0 body).respond n 13 0 []

/-- The command's row (Table 11.6); during VAULT and HANDOVER the frame is kept (R265). -/
def execMeteringConfirmation (n : Fin 4) (body : List Nat) (s : State) : Result := (s.onLink (.meteringConfirmation n body) fun s => s.meteringReq n body).finish

/-- POWER_DELIVERY_STOP (R249, R263). -/
def State.deliveryStop (s : State) (n : Nat) : State :=
  s.v2gReq n 14 fun s =>
    let s := (s.modCtx n fun c => { c with stopAsked := false }).set (F.VDE_CTX_DEMAND_W_W.nth n) 0
    (s.setOState n .stopping).respondNow n 14 0

/-- The command's row (Table 11.6); during VAULT and HANDOVER the frame is kept (R265). -/
def execPowerDeliveryStop (n : Fin 4) (s : State) : Result := (s.onLink (.powerDeliveryStop n) fun s => s.deliveryStop n).finish

/-- WELDING_DETECTION (Table 11.6 step 15). -/
def State.weldingReq (s : State) (n : Nat) : State :=
  s.v2gReq n 15 fun s => s.respondNow n 15 (if s.ostate n == .release then 0 else 1)

/-- The command's row (Table 11.6); during VAULT and HANDOVER the frame is kept (R265). -/
def execWeldingDetection (n : Fin 4) (s : State) : Result := (s.onLink (.weldingDetection n) fun s => s.weldingReq n).finish

/-- SESSION_STOP (R250): reason 0. -/
def State.stopReq (s : State) (n : Nat) : State := s.v2gReq n 16 fun s => (s.respond n 16 0 []).sessEnd n 0

/-- The command's row (Table 11.6); during VAULT and HANDOVER the frame is kept (R265). -/
def execSessionStop (n : Fin 4) (s : State) : Result := (s.onLink (.sessionStop n) fun s => s.stopReq n).finish

/-- V2G_UNEXPECTED_REQ (R249). -/
def State.unexpectedReq (s : State) (n : Nat) (message length : Nat) (undecodable : Bool) : State :=
  s.when (s.v2gUp n) fun s =>
    if undecodable then ((s.respond n message 2 []).ev E.VDE_BAD_MESSAGE n [2, length]).sessEnd n E.VDE_BAD_MESSAGE.code16
    else s.seqError n message

/-- The command's row (Table 11.6); during VAULT and HANDOVER the frame is kept (R265). -/
def execV2gUnexpectedReq (n : Fin 4) (message length : Nat) (undecodable : Bool) (s : State) : Result := (s.onLink (.v2gUnexpectedReq n message length undecodable) fun s => s.unexpectedReq n message length undecodable).finish

/-! ### Timers and the host's stop (R251, R259, R265) -/

/-- SEQ_TIMEOUT (R251). -/
def execSeqTimeout (n : Fin 4) (s : State) : Result :=
  (s.when (s.vdeOwn n && (s.ctx n).session && s.ostate n != .energy && s.stagesRun) fun s =>
    (s.ev E.VDE_SEQ_TIMEOUT n [s.ctxStep n, (s.ostate n).code]).sessEnd n E.VDE_SEQ_TIMEOUT.code16).finish

/-- LOOP_TIMEOUT (R251, SF8 of R338). -/
def execLoopTimeout (n : Fin 4) (s : State) : Result :=
  (s.when (s.vdeOwn n && (s.ctx n).session && s.ostate n == .energy && s.stagesRun) fun s =>
    let s := (s.ev E.VDE_LOOP_TIMEOUT n [s.since (s.ctx n).reqTick / ticksMs]).sessEnd n E.VDE_LOOP_TIMEOUT.code16
    (s.tripOut n 8).faultRamp n).finish

/-- The outlet is past OUT_ENERGY, and a host STOP has nothing to stop (R263). -/
def State.stopped (s : State) (n : Nat) : Bool := match s.ostate n with
  | .stopping | .weldcheck | .release | .fault => true
  | _ => false

/-- CTX_STOP (R259, R263). -/
def execCtxStop (n : Fin 4) (s : State) : Result :=
  (s.hostWrites 0x21 (0x104 + n * 0x40) fun s => s.when (s.vdeOwn n && (s.ctx n).session && !s.stopped n) fun s =>
    (s.modCtx n fun c => { c with stopAsked := true }).ev E.VDE_HOST_STOP n [(s.ostate n).code]).finish

/-- HOST_STOP_TIMEOUT (R259). -/
def execHostStopTimeout (n : Fin 4) (s : State) : Result :=
  (s.when (s.vdeOwn n && (s.ctx n).stopAsked && (s.ctx n).session) fun s => s.sessEnd n E.VDE_HOST_STOP.code16).finish

/-! ### Frames kept during VAULT and HANDOVER (R229, R265) -/

/-- A frame that a vehicle link brought is handled. -/
def State.frameIn (s : State) : Instr → State
  | .cmSlacParmReq n r => s.slacParmReq n r
  | .cmStartAttenCharInd n r => s.slacStart n r
  | .cmMnbcSoundInd n r => s.slacSound n r
  | .cmAttenProfileInd n g => s.slacProfile n g
  | .cmAttenCharRsp n r ok => s.slacRsp n r ok
  | .cmSlacMatchReq n r m => s.slacMatch n r m
  | .cmValidateReq n r => s.slacValidate n r
  | .cmSetKeyCnf n r => s.keyCnf n r
  | .plcaStatusOk x => s.plcaOk x.n x.quiet
  | .plcaConflict n x => s.plcaConflict n x
  | .phyStart n => s.phyStart n
  | .icmpv6NsRx n x y => s.icmpNs n x.frame x.addr y
  | .icmpv6EchoRx n x y d => s.icmpEcho n x.frame x.addr y d
  | .sdpRequestRx n x b c d e g h => s.sdpRequest n x.frame x.addr b c d e g h
  | .tcpSynRx n x p => s.tcpSyn n x.frame x.addr p
  | .tcpSegmentRx n x l v a e => s.tcpSegment n x.frame x.addr l v a e
  | .tlsRecordRx n r => s.tlsIn n r
  | .supportedAppProtocol n o => s.supportedApp n o
  | .sessionSetup n e => s.sessionSetup n e
  | .authorizationSetup n => s.authSetup n
  | .serviceDiscovery n k b c => s.serviceReq n k b c
  | .certificateInstallation n u b => s.certInstall n u b
  | .paymentDetails n e c => s.paymentReq n e c
  | .authorization n e c => s.authReq n e c
  | .chargeParameterDiscovery n r => s.chargeParams n r
  | .cableCheckReq n => s.cableCheckReq n
  | .prechargeReq n p t => s.prechargeReq n p t
  | .powerDeliveryStart n r => s.deliveryStart n r
  | .chargeLoopReq n r => s.chargeLoop n r
  | .meteringConfirmation n b => s.meteringReq n b
  | .powerDeliveryStop n => s.deliveryStop n
  | .weldingDetection n => s.weldingReq n
  | .sessionStop n => s.stopReq n
  | .v2gUnexpectedReq n m l u => s.unexpectedReq n m l u
  | _ => s

/-- The frames kept are handled in the order they came. -/
def State.replayKept (s : State) : State :=
  ({ s with mir := { s.mir with kept := [] } }).each s.mir.kept fun i s => s.frameIn i

/-- RNG_FAIL (R347): no handshake, session ID or key is made, and no outlet enters OUT_CHECK. -/
def execRngFail (test : Nat) (s : State) : Result :=
  (((s.setB F.CRYPT_RNG_STAT_FAIL true).setB F.CRYPT_RNG_STAT_OK false).ev E.CRYPT_RNG_FAIL 0 [test]).finish

end Sys2Proof.Machine
end

