-- ==== Sys2Proof/Machine/HostPort.lean ====
section
/-! DEFINITION. The host interface: the PCIe link and its function level reset, the message interrupts, and the mailbox
(chapter 17). -/
namespace Sys2Proof.Machine

/-! ### Interrupts (R429) -/

/-- A message of vector `v` goes out where the host has MSI-X enabled and the vector's condition is 1. -/
def State.resend (s : State) (v : Nat) : State :=
  s.when (s.on F.HOST_PCIE_STAT_MSIX_EN && s.vecConditions.testBit v) fun s => s.sendVector v

def State.vecEoi (s : State) (v : Nat) : State := s.resend (v % 64)

/-- VEC_EOI (R429). -/
def execVecEoi (value : Word) (s : State) : Result := (s.hostWrites 0x2D 0x054 fun s => s.vecEoi value.toNat).finish

/-- The mask bit of an MSI-X entry is written: unmasking sends a pending message (R429). -/
def State.msixMask (s : State) (v : Nat) (m : Bool) : State :=
  let e := mget ({} : MsixEntry) s.host.msix v
  let s := { s with host := { s.host with msix := mput {} s.host.msix v { e with masked := m } } }
  s.when (!m && s.host.pba.testBit v) fun s => { s with host := { s.host with pba := setBitOf s.host.pba v false } }.resend v

/-- A word of the MSI-X table, in the PCIe layout: address low and high, data, vector control (R429). -/
def State.msixWrite (s : State) (off v : Nat) : State :=
  let k := (off - 0x800) / 16
  let e := mget ({} : MsixEntry) s.host.msix k
  let put := fun (e : MsixEntry) => { s with host := { s.host with msix := mput {} s.host.msix k e } }
  match (off / 4) % 4 with
  | 0 => put { e with addr := e.addr / 2 ^ 32 * 2 ^ 32 + v / 4 * 4 }
  | 1 => put { e with addr := v * 2 ^ 32 + e.addr % 2 ^ 32 }
  | 2 => put { e with data := v }
  | _ => s.msixMask k (v % 2 == 1)

/-- The word read there. -/
def State.msixRead (s : State) (off : Nat) : Nat :=
  let e := mget ({} : MsixEntry) s.host.msix ((off - 0x800) / 16)
  match (off / 4) % 4 with
  | 0 => e.addr % 2 ^ 32
  | 1 => e.addr / 2 ^ 32
  | 2 => e.data
  | _ => if e.masked then 1 else 0

/-- MSIX_UNMASK (R429). -/
def execMsixUnmask (v : Fin 64) (s : State) : Result := (s.hostWrites 0x2D (0x80C + 16 * v) fun s => s.msixMask v false).finish

/-! ### The link (R39, R423, R425) -/

/-- PCIE_LINK_UP (R39, R423): training has ended at a speed and a width. -/
def execPcieLinkUp (speed width : Nat) (msixEn : Bool) (s : State) : Result :=
  (s.when (!s.sys.held && s.on F.CLK_PLL_STAT_LOCKED && s.mode != .dormant && !s.on F.HOST_PCIE_STAT_LINK_UP) fun s =>
    let s := ((s.set F.HOST_PCIE_STAT_SPEED speed).set F.HOST_PCIE_STAT_WIDTH width).setB F.HOST_PCIE_STAT_MSIX_EN msixEn
    (s.setB F.HOST_PCIE_STAT_LINK_UP true).ev E.HOST_LINK_UP 0 [speed, width]).finish

/-- The link's registers with the link down. -/
def State.linkGone (s : State) : State :=
  s.resetFields [F.HOST_PCIE_STAT_SPEED, F.HOST_PCIE_STAT_WIDTH, F.HOST_PCIE_STAT_MSIX_EN, F.HOST_PCIE_STAT_LINK_UP]

/-- FUNCTION_LEVEL_RESET (R425): the endpoint, the HOST, DMA and DMACH pages and the MSI-X table; no status writeback. What
the physical link shows stays. -/
def execFunctionLevelReset (s : State) : Result :=
  (s.when (s.on F.HOST_PCIE_STAT_LINK_UP) fun s =>
    let speed := s.get F.HOST_PCIE_STAT_SPEED
    let width := s.get F.HOST_PCIE_STAT_WIDTH
    let s := { s with
      regs := s.regs.filter fun (e : Nat × Nat) => let p := e.1 / 32 / 0x1000; !(decide (0x2D ≤ p) && decide (p ≤ 0x3E))
      host := { spiQ := s.host.spiQ, spiHeld := s.host.spiHeld }
      dma := {} }
    ((s.set F.HOST_PCIE_STAT_SPEED speed).set F.HOST_PCIE_STAT_WIDTH width).setB F.HOST_PCIE_STAT_LINK_UP true).finish

/-! ### The mailbox (R431, R432) -/

/-- State of a slot: 0 FREE, 1 FULL, 2 BUSY. -/
def State.mbx (s : State) (k : Nat) : Nat := bits (s.get F.HOST_MBX_STATE_STATE) (2 * k + 1) (2 * k)

def State.setMbx (s : State) (k v : Nat) : State :=
  let w := s.get F.HOST_MBX_STATE_STATE
  s.set F.HOST_MBX_STATE_STATE (w - s.mbx k * 4 ^ k + v * 4 ^ k)

def mbxBase (k : Nat) : Nat := tbl 14 (4096 * k)

/-- A message as it stands in a slot (Table 17.4). -/
def mbxImage (seq : Nat) (body : List Nat) : List Nat :=
  leBytes 2 body.length ++ [1, 0] ++ leBytes 4 seq ++ leBytes 4 (crc32 body) ++ List.replicate 52 0 ++ body

/-- MBX_DEVICE_MESSAGE (R432): the oldest waiting message takes the lowest FREE slot. -/
def execMbxDeviceMessage (s : State) : Result :=
  (match s.vde.mbxWait, (List.range 8).find? fun k => s.mbx k == 0 with
   | m :: rest, some k =>
     if s.mode = Mode.mirror then s
     else
       let seq := (s.vde.mbxSeq + 1) % 2 ^ 32
       let s := s.modVde fun v => { v with mbxWait := rest, mbxSeq := seq }
       ((s.wrBytes (mbxBase k) (mbxImage seq m.body)).setMbx k 1).ev E.HOST_MBX_RX 0 [k]
   | _, _ => s).finish

/-- MBX_FULL_TIMEOUT (R432): the oldest waiting message is dropped. -/
def execMbxFullTimeout (s : State) : Result :=
  (match s.vde.mbxWait, (List.range 8).find? fun k => s.mbx k == 0 with
   | m :: rest, none =>
     if s.mode = Mode.mirror then s else (s.modVde fun v => { v with mbxWait := rest }).ev E.HOST_MBX_FULL 0 [m.kind]
   | _, _ => s).finish

/-- A slot named wrongly: cause 1 range, 2 state, 3 LENGTH, 4 SERVICE, 5 CRC. -/
def State.mbxBad (s : State) (k cause : Nat) : State := s.err E.HOST_MBX_BAD 0 [k, cause]

def State.mbxDone (s : State) (v : Nat) : State :=
  let k := v % 16
  if 8 ≤ k then s.mbxBad k 1 else if s.mbx k ≠ 1 then s.mbxBad k 2 else s.setMbx k 0

def State.mbxPost (s : State) (v : Nat) : State :=
  let k := v % 16
  if k < 8 then s.mbxBad k 1 else if s.mbx k ≠ 0 then s.mbxBad k 2 else s.setMbx k 2

/-- MBX_DONE (R432). -/
def execMbxDone (value : Word) (s : State) : Result := (s.hostWrites 0x2D 0x088 fun s => s.mbxDone value.toNat).finish

/-- MBX_POST (R432). -/
def execMbxPost (value : Word) (s : State) : Result := (s.hostWrites 0x2D 0x084 fun s => s.mbxPost value.toNat).finish

/-- What is wrong with a posted slot's header. -/
def State.mbxFault (s : State) (k : Nat) : Option Nat :=
  let len := s.rdLe (mbxBase k) 2
  if len < 16 ∨ 4032 < len then some 3
  else if s.rdByte (mbxBase k + 2) ≠ 1 then some 4
  else if s.rdLe (mbxBase k + 8) 4 ≠ crc32 (s.rdBytes (mbxBase k + 64) len) then some 5
  else none

/-- The engine takes a host message (Table 11.12): AUTH_RES, CERT_RES, OCSP_SET. -/
def State.mbxTake (s : State) (k : Nat) : State :=
  let b := mbxBase k + 64
  let n := s.rdByte (b + 1)
  let reqId := s.rdLe (b + 4) 4
  let len := min (s.rdLe (b + 8) 4) (s.rdLe (mbxBase k) 2 - 16)
  let data := s.rdBytes (b + 16) len
  match s.rdByte b with
  | 2 => s.authRes n reqId (data.getD 0 0 == 1)
  | 4 => s.certRes n reqId (s.rdByte (b + 2)) (s.rdByte (b + 3)) data
  | 5 => if data.isEmpty || decide (64 ≤ data.getD 0 0) then s else s.ocspSet (data.getD 0 0) (data.drop 1)
  | _ => s

/-- MBX_CONSUMED (R432). -/
def execMbxConsumed (slot : Fin 16) (s : State) : Result :=
  (s.when (decide (8 ≤ slot.val) && s.mbx slot == 2) fun s =>
    match s.mbxFault slot with
    | some c => (s.setMbx slot 0).ev E.HOST_MBX_BAD 0 [slot, c]
    | none => ((s.mbxTake slot).setMbx slot 0).ev E.HOST_MBX_TX_DONE 0 [slot]).finish

end Sys2Proof.Machine
end

