-- ==== Sys2Proof/Machine/Dma.lean ====
section
/-! DEFINITION. The DMA channels: commands, descriptors, the grant of the mover, ends of descriptors (R433 to R446). The
bytes themselves are moved in Mover. -/
namespace Sys2Proof.Machine

def State.dch (s : State) (c : Nat) : DmaChan := mget {} s.dma.chans c
def State.setDch (s : State) (c : Nat) (v : DmaChan) : State := { s with dma := { s.dma with chans := mput {} s.dma.chans c v } }
def State.modDch (s : State) (c : Nat) (f : DmaChan → DmaChan) : State := s.setDch c (f (s.dch c))

/-- STATE of a channel: 0 IDLE, 1 FETCH, 2 RUN, 3 WAIT_MOVER, 4 PACED_WAIT, 5 PAUSED, 6 IDLE_AT_TAIL, 7 ERROR. -/
def State.dst (s : State) (c : Nat) : Nat := s.get (F.DMACH_STATE_STATE.inst c)

/-- A channel enters a state; READY and the mover's registers follow. -/
def State.setDst (s : State) (c v : Nat) : State :=
  let s := (s.set (F.DMACH_STATE_STATE.inst c) v).setBit F.DMA_READY_CH c (v == 3)
  if v = 2 then (s.setB F.DMA_ACTIVE_BUSY true).set F.DMA_ACTIVE_CHANNEL c
  else s.when (s.on F.DMA_ACTIVE_BUSY && s.get F.DMA_ACTIVE_CHANNEL == c) fun s => (s.setB F.DMA_ACTIVE_BUSY false).set F.DMA_ACTIVE_CHANNEL 0

def State.curDesc (s : State) (c : Nat) : Nat := s.get2 (F.DMACH_CUR_DESC_HI_ADDR.inst c) (F.DMACH_CUR_DESC_LO_ADDR.inst c)
def State.hostUp (s : State) : Bool := s.on F.HOST_PCIE_STAT_LINK_UP

/-! ### CTRL of a descriptor (Table 17.5) -/

def DmaChan.last (d : DmaChan) : Bool := d.ctrl.testBit 0
def DmaChan.irq (d : DmaChan) : Bool := d.ctrl.testBit 1
def DmaChan.srcSpace (d : DmaChan) : Nat := bits d.ctrl 3 2
def DmaChan.dstSpace (d : DmaChan) : Nat := bits d.ctrl 5 4
def DmaChan.paced (d : DmaChan) : Bool := d.ctrl.testBit 6
def DmaChan.usesHost (d : DmaChan) : Bool := d.srcSpace == 0 || d.dstSpace == 0

/-! ### Paced rings (R440) -/

/-- The ring a channel paces on. -/
def State.paceSrc (s : State) (c : Nat) : Nat := s.get (F.DMACH_PACE_CFG_SRC.inst c)

/-! ### The working set -/

/-- CUR_SRC, CUR_DST and REMAIN: the next bytes to move (R437). -/
def State.showPos (s : State) (c : Nat) : State :=
  let d := s.dch c
  let rem := d.len - d.moved
  let at_ := fun a => if d.down then (if rem = 0 then a else a + rem - 1) else a + d.moved
  let k := s.paceSrc c
  let src := if d.paced then (paceRing k).1 * 0x1000000 + s.ringTail k * (paceRing k).2.1 else at_ d.src
  let s := s.set2 (F.DMACH_CUR_SRC_HI_ADDR.inst c) (F.DMACH_CUR_SRC_LO_ADDR.inst c) src
  (s.set2 (F.DMACH_CUR_DST_HI_ADDR.inst c) (F.DMACH_CUR_DST_LO_ADDR.inst c) (at_ d.dst)).set (F.DMACH_REMAIN_BYTES.inst c) rem

/-- A field breaks R433, R435 or R440. -/
def State.badField (s : State) (c : Nat) : Bool :=
  let d := s.dch c
  let k := s.paceSrc c
  let word := fun n => n % 4 == 0
  d.len == 0 || decide (1048576 < d.len) || d.ctrl.testBit 7 || d.srcSpace == 3 || d.dstSpace == 3 ||
    (d.paced && (d.srcSpace != 1 || k == 3 || d.len % (paceRing k).2.1 != 0)) ||
    (d.srcSpace == 2 && !(word d.src && word d.len)) || (d.dstSpace == 2 && !(word d.dst && word d.len))

/-- LAST_STATUS. -/
def State.setLast (s : State) (c flags code : Nat) : State :=
  (s.set (F.DMACH_LAST_STATUS_FLAGS.inst c) flags).set (F.DMACH_LAST_STATUS_CODE.inst c) code

/-- STATUS is written back to the descriptor in hand; a direct transfer has none (R435, R436). -/
def State.writeBack (s : State) (c v : Nat) : State :=
  s.when (!(s.dch c).direct && s.hostUp) fun s => s.emit (.hostMem (s.curDesc c + 28) (leBytes 4 v))

/-- A descriptor ends BAD with a code of Table 17.7, in a state (R436, R437). -/
def State.dmaBad (s : State) (c code st : Nat) : State :=
  let d := s.dch c
  let s := (s.writeBack c (2 ^ 30 + (if d.overlap then 2 ^ 29 else 0) + d.moved % 2 ^ 21)).setLast c (2 + if d.overlap then 1 else 0) code
  ((s.showPos c).setDst c st).ev E.DMACH_DESC_BAD c [code, d.moved]

/-- A descriptor fetch or a writeback fails (R436). -/
def State.fetchFail (s : State) (c code : Nat) : State :=
  ((s.setLast c 0 code).setDst c 7).ev E.DMACH_FETCH_ERROR c [code, s.curDesc c % 2 ^ 32, s.curDesc c / 2 ^ 32]

/-- The descriptor at an address is asked for (R434, R435). -/
def State.dmaFetch (s : State) (c addr : Nat) (again : Bool) : State :=
  let s := (s.set2 (F.DMACH_CUR_DESC_HI_ADDR.inst c) (F.DMACH_CUR_DESC_LO_ADDR.inst c) addr).modDch c fun d =>
    { d with fetched := false, again := again, direct := false }
  if addr % 32 ≠ 0 then s.fetchFail c 0x2F36
  else if !s.hostUp then s.fetchFail c 0x2F37
  else (s.setDst c 1).emit (.descRead addr)

/-- The working set starts from its beginning (R433, R439, R440). -/
def State.dmaBegin (s : State) (c : Nat) : State :=
  let s := s.modDch c fun d =>
    let ov := !d.paced && d.srcSpace == d.dstSpace && decide (d.src < d.dst + d.len) && decide (d.dst < d.src + d.len)
    { d with moved := 0, flowing := false, overlap := ov, down := ov && decide (d.src < d.dst) }
  let d := s.dch c
  let s := s.showPos c
  if s.badField c then s.dmaBad c 0x2F36 7
  else if d.paced then
    if s.get (F.DMACH_PACE_HI.inst c) ≤ s.ringFill (s.paceSrc c) then (s.modDch c fun d => { d with flowing := true }).setDst c 3
    else s.setDst c 4
  else s.setDst c 3

/-- The shadow set becomes the working set (R434). -/
def State.dmaLoadShadow (s : State) (c : Nat) : State :=
  let s := s.setDch c
    { fetched := true, direct := true, ctrl := s.get (F.DMACH_SH_LEN_CTRL.inst c), len := s.get (F.DMACH_SH_LEN_LEN.inst c),
      src := s.get2 (F.DMACH_SH_SRC_HI_ADDR.inst c) (F.DMACH_SH_SRC_LO_ADDR.inst c),
      dst := s.get2 (F.DMACH_SH_DST_HI_ADDR.inst c) (F.DMACH_SH_DST_LO_ADDR.inst c) }
  (s.setB (F.DMACH_SH_STAT_ARMED.inst c) false).dmaBegin c

/-- The channel pauses where it is; RESUME goes back to `back`. -/
def State.dmaPauseAt (s : State) (c back : Nat) : State := ((s.modDch c fun d => { d with resume := back }).showPos c).setDst c 5

/-- The next descriptor is fetched, or the channel pauses before the fetch (R441). -/
def State.dmaGoOn (s : State) (c addr : Nat) (again hold : Bool) : State :=
  if hold then
    ((s.set2 (F.DMACH_CUR_DESC_HI_ADDR.inst c) (F.DMACH_CUR_DESC_LO_ADDR.inst c) addr).modDch c fun d =>
      { d with fetched := false, again := again, direct := false }).dmaPauseAt c 1
  else s.dmaFetch c addr again

/-- The descriptor in hand has LAST set and is done: is there more (R438)? -/
def State.dmaAtTail (s : State) (c : Nat) (hold : Bool) : State :=
  if s.get (F.DMACH_APPEND_CNT_COUNT.inst c) ≠ s.get (F.DMACH_SAMPLED_COUNT.inst c) then s.dmaGoOn c (s.curDesc c) true hold
  else (s.setDst c 6).ev E.DMACH_CHAIN_IDLE c [s.curDesc c % 2 ^ 32, s.curDesc c / 2 ^ 32]

/-- A transfer has moved all its bytes (R436); `wb` is the code of a failed writeback, 0 for none. With `hold` the channel
pauses before what comes next (R441). -/
def State.dmaDone (s : State) (c wb : Nat) (hold : Bool) : State :=
  let d := s.dch c
  let ov := if d.overlap then 1 else 0
  let wb := if d.direct then 0 else if s.hostUp then wb else 0x2F37
  let s := s.showPos c
  if wb ≠ 0 then s.fetchFail c wb
  else
    let s := ((s.writeBack c (2 ^ 31 + ov * 2 ^ 29)).setLast c (4 + ov) 0).inc (F.DMACH_DONE_CNT_COUNT.inst c)
    let s := s.when d.irq fun s => s.ev E.DMACH_DESC_DONE c [s.curDesc c % 2 ^ 32, s.curDesc c / 2 ^ 32]
    let s := s.setDst c 0
    if d.direct then
      if s.on (F.DMACH_SH_STAT_ARMED.inst c) then
        let s := s.dmaLoadShadow c
        s.when (hold && (s.dst c == 3 || s.dst c == 4)) fun s => s.dmaPauseAt c (s.dst c)
      else s
    else if d.last then s.dmaAtTail c hold
    else s.dmaGoOn c d.next false hold

/-! ### Commands (R434, R436, R437) -/

def State.dmaRefuse (s : State) (c op : Nat) : State := s.err E.DMACH_BAD_CMD c [op, s.dst c]

/-- A host command to channel `c`. -/
def State.dmaCmdAt (s : State) (c : Nat) (f : State → State) : State := s.hostWrites (0x2F + c) 0x048 f

def State.dmaGo (s : State) (c : Nat) : State :=
  if s.get (F.DMACH_MODE_MODE.inst c) ≠ 1 then s.dmaRefuse c 1
  else if s.dst c = 0 then s.dmaLoadShadow c
  else if s.on (F.DMACH_SH_STAT_ARMED.inst c) then s.err E.DMACH_SHADOW_BUSY c []
  else if 2 ≤ s.dst c ∧ s.dst c ≤ 5 then s.setB (F.DMACH_SH_STAT_ARMED.inst c) true
  else s.dmaRefuse c 1

/-- DMA_GO (R434). -/
def execDmaGo (c : Fin 16) (s : State) : Result := (s.dmaCmdAt c fun s => s.dmaGo c).finish

def State.dmaStart (s : State) (c : Nat) : State :=
  if s.get (F.DMACH_MODE_MODE.inst c) = 2 ∧ s.dst c = 0
  then s.dmaFetch c (s.get2 (F.DMACH_HEAD_HI_ADDR.inst c) (F.DMACH_HEAD_LO_ADDR.inst c)) false
  else s.dmaRefuse c 2

/-- DMA_START (R434). -/
def execDmaStart (c : Fin 16) (s : State) : Result := (s.dmaCmdAt c fun s => s.dmaStart c).finish

/-- PAUSE outside RUN (R437, R441). -/
def State.dmaPause (s : State) (c : Nat) : State :=
  if s.dst c = 1 ∨ s.dst c = 3 ∨ s.dst c = 4 then s.dmaPauseAt c (s.dst c) else s.dmaRefuse c 3

def State.dmaResume (s : State) (c : Nat) : State :=
  if s.dst c ≠ 5 then s.dmaRefuse c 4
  else if (s.dch c).resume = 1 then s.dmaFetch c (s.curDesc c) (s.dch c).again
  else s.setDst c (s.dch c).resume

/-- DMA_RESUME (R437). -/
def execDmaResume (c : Fin 16) (s : State) : Result := (s.dmaCmdAt c fun s => s.dmaResume c).finish

/-- The channel goes to IDLE; nothing stays armed. -/
def State.dmaIdle (s : State) (c : Nat) : State := (s.setB (F.DMACH_SH_STAT_ARMED.inst c) false).setDst c 0

def State.dmaSkip (s : State) (c : Nat) : State :=
  let d := s.dch c
  if s.dst c ≠ 7 then s.dmaRefuse c 5
  else if d.direct || !d.fetched || d.last then s.dmaIdle c
  else s.dmaFetch c d.next false

/-- DMA_SKIP (R436). -/
def execDmaSkip (c : Fin 16) (s : State) : Result := (s.dmaCmdAt c fun s => s.dmaSkip c).finish

def State.dmaRetry (s : State) (c : Nat) : State :=
  if s.dst c ≠ 7 then s.dmaRefuse c 6
  else if (s.dch c).fetched then s.dmaBegin c
  else s.dmaFetch c (s.curDesc c) false

/-- DMA_RETRY (R436). -/
def execDmaRetry (c : Fin 16) (s : State) : Result := (s.dmaCmdAt c fun s => s.dmaRetry c).finish

/-- ABORT once the burst in flight has ended (R436, R437). -/
def State.dmaAbort (s : State) (c : Nat) : State :=
  let st := s.dst c
  if st = 0 then s.dmaRefuse c 7
  else if st = 2 ∨ st = 3 ∨ st = 4 ∨ (st = 5 ∧ (s.dch c).resume ≠ 1) then (s.dmaBad c 0x2F38 0).dmaIdle c
  else s.dmaIdle c

/-- The append doorbell (R438, R442). -/
def State.dmaAppend (s : State) (c : Nat) : State :=
  let s := s.inc (F.DMACH_APPEND_CNT_COUNT.inst c)
  if s.dst c = 6 then s.dmaFetch c (s.curDesc c) true else s

/-- DMA_APPEND (R438). -/
def execDmaAppend (c : Fin 16) (_value : Word) (s : State) : Result := (s.hostWrites (0x2F + c) 0x054 fun s => s.dmaAppend c).finish

/-! ### What the engine does by itself -/

/-- DMA_DESC_FETCHED (R435, R438): the 32 bytes arrive, or the fetch fails with a code of Table 17.7. -/
def execDmaDescFetched (c : Fin 16) (desc : List Nat) (code : Nat) (s : State) : Result :=
  (s.when (s.dst c == 1) fun s =>
    if code ≠ 0 then s.fetchFail c code
    else
      let le := fun i n => ofLe (slice desc i n)
      let ctrl := le 27 1
      let s := (s.modDch c fun d => { d with
          fetched := true, src := le 0 8, dst := le 8 8, next := le 16 8, len := le 24 3 % 2 ^ 21, ctrl := ctrl }).set
        (F.DMACH_SAMPLED_COUNT.inst c) (s.get (F.DMACH_APPEND_CNT_COUNT.inst c))
      if (le 28 4).testBit 31 then
        if ctrl.testBit 0 then s.setDst c 6 else s.dmaFetch c (le 16 8) false
      else if le 24 3 / 2 ^ 21 ≠ 0 then (s.modDch c fun d => { d with moved := 0, overlap := false, down := false }).dmaBad c 0x2F36 7
      else s.dmaBegin c).finish

/-- Priority of a channel: its PRIO, then its distance from the channel granted last. -/
def State.dmaRank (s : State) (c : Nat) : Nat := bits (s.get F.DMA_PRIO_PRIO) (2 * c + 1) (2 * c) * 16 + (c + 15 - s.dma.last) % 16

/-- The ready channel that comes first. -/
def State.dmaNext (s : State) : Option Nat :=
  ((List.range 16).filter fun c => s.bit F.DMA_READY_CH c).foldl (fun best c =>
    match best with
    | none => some c
    | some b => if s.dmaRank c < s.dmaRank b then some c else best) none

/-- DMA_MOVER_GRANT (R433). -/
def execDmaMoverGrant (s : State) : Result :=
  (match s.dmaNext with
   | some c =>
     if s.on F.DMA_ACTIVE_BUSY || !s.on F.DMA_CFG_ENABLE then s
     else
       let s := { s with dma := { s.dma with last := c } }.setDst c 2
       if (s.dch c).usesHost && !s.hostUp then s.dmaBad c 0x2F37 7 else s
   | none => s).finish

/-- DMA_PACE_RESUME (R440). -/
def execDmaPaceResume (c : Fin 16) (s : State) : Result :=
  (s.when (s.dst c == 4 && decide (s.get (F.DMACH_PACE_HI.inst c) ≤ s.ringFill (s.paceSrc c))) fun s =>
    (s.modDch c fun d => { d with flowing := true }).setDst c 3).finish

/-! ### The link goes down (R445) -/

/-- The link is gone: running host-space bursts and fetches fail. -/
def State.pcieDown (s : State) : State :=
  if !s.hostUp then s
  else
    let s := (s.linkGone).ev E.HOST_LINK_DOWN 0 []
    s.each (List.range 16) fun c s =>
      if s.dst c = 1 then s.fetchFail c 0x2F37
      else s.when (s.dst c == 2 && (s.dch c).usesHost) fun s => s.dmaBad c 0x2F37 7

/-- PCIE_LINK_DOWN (R445). -/
def execPcieLinkDown (s : State) : Result := (s.pcieDown).finish

end Sys2Proof.Machine
end

