-- ==== Sys2Proof/Machine/Facets.lean ====
section
/-! DEFINITION. The Facet tree and the allocator (chapter 06): leases, children, the epoch and its split, and members that
fail. -/
namespace Sys2Proof.Machine

def State.modTree (s : State) (f : TreeState → TreeState) : State := { s with tree := f s.tree }
def State.child (s : State) (e : Nat) : ChildState := mget {} s.tree.children e
def State.setChild (s : State) (e : Nat) (c : ChildState) : State := s.modTree fun t => { t with children := mput {} t.children e c }

/-- The tree's blocks run: after CONFIGURE, and not on the standby or in the switchover gap (R386, R390). -/
def State.treeRuns (s : State) : Bool :=
  s.hostOpen && !(s.mode == .configure || s.mode == .mirror || s.mode == .handover)

/-! ### Leases (R111 to R115, R117) -/

/-- Microseconds of the own lease left, on the own crystal. -/
def State.leaseLeft (s : State) : Nat :=
  match s.tree.expiry with
  | some t => (t - s.ticks) / ticksUs
  | none => 0

/-- LEASE_REMAIN while the lease is valid. -/
def State.refreshLease (s : State) : State :=
  s.set F.TREE_LEASE_REMAIN_US (if s.get F.TREE_LEASE_STAT_STATE = 1 then satTo 32 s.leaseLeft else 0)

/-- A LEASE from controller `src` is received on a port (R111, R115, R117); port 2 is unknown. Header and payload name the
sender; the frame is the parent's when both do. -/
def State.leaseRx (s : State) (port src : Nat) (p : List Nat) : State :=
  let parent := s.get F.TREE_PARENT_ADDRESS
  if s.on F.TREE_SELF_ROOT ∨ src ≠ parent ∨ payloadSender p ≠ parent then s.ev E.TREE_NOT_PARENT_FRAME 0 [src]
  else
    let remain := ofBe (slice p 8 4)
    let lease := ofBe (slice p 26 2)
    let depth := p.getD 28 0
    let tight := decide (remain < lease * 500)
    let s := s.modTree fun t => { t with
      expiry := some (s.ticks + remain * 999 * ticksUs / 1000), rampMs := ofBe (slice p 24 2), leaseMs := lease, ramp := [], rampStep := 0 }
    let s := (((s.set F.TREE_TARGET_W (ofBe (slice p 20 4))).set F.TREE_DEPTH_DEPTH depth).set F.TREE_PARENT_PORT port).set F.TREE_LEASE_STAT_STATE 1
    let s := s.setB F.TREE_LEASE_STAT_TIGHT tight
    (s.when tight fun s => s.ev E.TREE_LEASE_TIGHT 0 [remain, depth]).refreshLease

/-- LEASE_RX (R40, R111): on a port that is up. -/
def execLeaseRx (port : Fin 2) (msg : GaleshMsg) (s : State) : Result :=
  (s.when (s.internalPort && s.fabLink port) fun s => s.leaseRx port msg.src msg.payload).finish

/-- The targets the expiry ramp lowers: the own ceiling, the outlets, the Prisms and the entries (R114). -/
def State.rampTargets (s : State) : List Nat := s.members ++ [0xFFFF]

/-- The device's own allocation Sentences at expiry (R128): undecided ones it coordinates end in ABORT; decided and bound
ones are marked, so that they apply their yields and end in HALF. -/
def State.expirySentences (s : State) : State :=
  let code := E.TREE_LEASE_EXPIRED.code16
  s.each ((List.range 12).filter fun k => decide (4 ≤ k)) fun k s =>
    let x := s.slot k
    if x.st = 4 ∨ x.st = 5 ∨ (x.st = 3 ∧ x.bound) then s.setSlot k { x with leaseOut := true }
    else if x.owner = 2 ∧ x.st = 3 ∧ x.dist then s.decideAbort k code
    else if x.owner = 2 ∧ (x.st = 2 ∨ x.st = 3) then s.endSlot k 7 code 0x7F
    else s

/-- LEASE_EXPIRY (R114, R128): the ramp begins. -/
def execLeaseExpiry (s : State) : Result :=
  (s.when (s.get F.TREE_LEASE_STAT_STATE == 1 && s.mode != .mirror) fun s =>
    let s := (s.set F.TREE_LEASE_STAT_STATE 2).inc F.TREE_EXPIRED_COUNT_COUNT
    let s := s.ev E.TREE_LEASE_EXPIRED 0 [s.get F.TREE_OWN_CEIL_W, ofSigned 32 (s.getI F.TREE_OWN_FLOOR_W)]
    let s := (s.modTree fun t => { t with expiry := none, rampStep := 0, ramp := s.rampTargets.map fun t => (t, s.aptCeil t, s.aptRes t) }).refreshLease
    s.expirySentences).finish

/-- The line from `c` to `r` after `k` of `n` milliseconds, rounded down to a whole W. -/
def rampLine (c r k n : Nat) : Nat := if c ≤ r then c else if n ≤ k then r else (c * n - (c - r) * k) / n

/-- LEASE_RAMP_STEP (R114): one yield-only Sentence with every ceiling at the value of its line; a target named by a pending
Sentence waits. While no Clause may be applied (R100) the millisecond passes, and the line is met at the first step after. -/
def execLeaseRampStep (s : State) : Result :=
  (s.when (s.get F.TREE_LEASE_STAT_STATE == 2 && s.mode != .mirror) fun s =>
    let k := s.tree.rampStep + 1
    let n := s.tree.rampMs
    let s := s.modTree fun t => { t with rampStep := k }
    s.when s.stagesRun fun s =>
      let want := s.tree.ramp.map fun x => (x.1, rampLine x.2.1 x.2.2 k n)
      let cs := (want.filter fun x => decide (x.2 < s.aptCeil x.1) && !s.aptHeld 16 x.1).map fun x => aptClause x.1 (s.aptFloor x.1) x.2
      let s := s.when (!cs.isEmpty) fun s => (s.commitNow cs).1
      s.when (decide (n ≤ k) && (want.all fun x => decide (s.aptCeil x.1 ≤ x.2))) fun s => s.set F.TREE_LEASE_STAT_STATE 3).finish

/-! ### Children (R112, R116, R129) -/

/-- A DEMAND frame from address `a` is received (R116, Table 6.9). -/
def State.demandRx (s : State) (a : Nat) (p : List Nat) : State :=
  match s.childOf a with
  | none => s
  | some e =>
    let c := s.child e
    let was := s.fState e
    let s := s.setChild e { c with
      heard := true, demand := (List.range 8).map fun k => ofBe (slice p (8 + 4 * k) 4), cap := ofBe (slice p 40 4),
      shed := ofBe (slice p 44 4), ownCeil := ofBe (slice p 48 4), ownFloor := toSigned 32 (ofBe (slice p 52 4)),
      measured := toSigned 32 (ofBe (slice p 56 4)), owed := c.owed || was != 1, entryCeil := s.fCeil e,
      backTick := if was = 1 then c.backTick else some s.ticks }
    (s.setFState e 1 0).ev E.TREE_CHILD_ACTIVE 0 [a]

/-- DEMAND_RX (R40, R116, R129). -/
def execDemandRx (msg : GaleshMsg) (s : State) : Result := (s.when s.galeshIn fun s => s.demandRx msg.src msg.payload).finish

/-- CHILD_EXPIRY (R116): the parent's copy of the child's expiry passes. -/
def execChildExpiry (e : Fin 256) (s : State) : Result :=
  (s.when (s.fKind e == 1 && (s.fState e == 1 || s.fState e == 2) && s.mode != .mirror) fun s => s.setFState e 3 (s.fEpochs e)).finish

/-- The child has come back at this very tick (R129). -/
def State.childBack (s : State) (e : Nat) : Bool := s.fState e == 1 && (s.child e).backTick == some s.ticks

/-- CHILD_RECLAIM (R116, R129): the entry's ceiling falls to its reserved floor; a child that has come back at the same tick
stays ACTIVE. -/
def execChildReclaim (e : Fin 256) (s : State) : Result :=
  (s.when (s.fKind e == 1 && (s.fState e == 1 || s.fState e == 2 || s.fState e == 3) && s.mode != .mirror) fun s =>
    let old := s.fCeil e
    let r := s.aptRes e
    let s := (if s.childBack e then s else s.setFState e 4 (s.fEpochs e)).ev E.TREE_CHILD_RECLAIMED 0 [s.fAddr e, old - r]
    s.when (decide (r < old)) fun s => (s.commitNow [aptClause e (s.fFloor e) r]).1).finish

/-- The LEASE payload of Table 6.5 for entry `e`. -/
def State.leasePayload (s : State) (e remain ramp target : Nat) : List Nat :=
  [0x10, 1] ++ beBytes 2 s.ownAddr ++ beBytes 4 (s.get F.ALLOC_EPOCH_COUNT_COUNT) ++ beBytes 4 remain ++ beBytes 4 (s.fCeil e) ++
    beBytes 4 (ofSigned 32 (s.fFloor e)) ++ beBytes 4 target ++ beBytes 2 ramp ++ beBytes 2 (s.get F.TREE_LEASE_CFG_LEASE_MS) ++
    [(s.get F.TREE_DEPTH_DEPTH + 1) % 256, 0, 0, 0]

/-- REMAIN_US a LEASE would carry now, none while it is not positive (R112). -/
def State.leaseGrant (s : State) : Option Nat :=
  if s.on F.TREE_SELF_ROOT then some (s.get F.TREE_LEASE_CFG_LEASE_MS * 1000)
  else
    let e := s.get F.ALLOC_EPOCH_CFG_EPOCH_MS * 1000
    if s.get F.TREE_LEASE_STAT_STATE = 1 ∧ e < s.leaseLeft then some (s.leaseLeft - e) else none

/-- The TARGET of a child: what the allocator wants it to move to. -/
def State.childTarget (s : State) (e : Nat) : Nat := let c := s.child e; if c.target = 0 then s.fCeil e else c.target - 1

/-- LEASE frames at a boundary (R112). -/
def State.sendLeases (s : State) : State :=
  s.each (s.childEntries.filter fun e => s.fState e == 1) fun e s =>
    let c := s.child e
    let t := s.childTarget e
    let due := c.owed || t != c.leaseTarget || (match c.leaseTick with
      | none => true
      | some k => decide (s.get F.TREE_LEASE_CFG_LEASE_MS * ticksMs ≤ 4 * s.since k))
    match s.leaseGrant with
    | none => s
    | some r =>
      let ramp := if s.on F.TREE_SELF_ROOT then s.get F.TREE_LEASE_CFG_RAMP_MS else min (s.get F.TREE_LEASE_CFG_RAMP_MS) s.tree.rampMs
      s.when due fun s =>
        (s.setChild e { c with owed := false, leaseTick := some s.ticks, leaseUs := r, leaseRamp := ramp, leaseTarget := t }).galeshSend 0x10 (s.fAddr e)
          (s.leasePayload e r ramp t)

/-! ### Inputs of the allocator (R119) -/

/-- Each part of a demand vector lifted to class max(k, PRIO). -/
def lift (d : List Nat) (prio : Nat) : List Nat :=
  (List.range 8).map fun k => if k < prio then 0 else if k = prio then ((List.range (k + 1)).map fun j => d.getD j 0).sum else d.getD k 0

def addVec (a b : List Nat) : List Nat := (List.range 8).map fun k => a.getD k 0 + b.getD k 0

/-- A vector clipped to a cap from class 7 downwards. -/
def clipVec (d : List Nat) (cap : Nat) : List Nat :=
  ((List.range 8).foldl (fun (acc : List Nat × Nat) k => let g := min (d.getD k 0) acc.2; (acc.1 ++ [g], acc.2 - g)) ([], cap)).1

/-- An outlet's demand: the vehicle's request while a session may draw power, zero in every other state. -/
def State.outDemand (s : State) (n : Nat) : Nat :=
  match s.ostate n with
  | .session | .check | .precharge | .energy => s.get (F.VDE_CTX_DEMAND_W_W.nth n)
  | _ => 0

/-- The group counts toward the cap of outlet `n` while it is free. -/
def State.freeFor (s : State) (n g : Nat) : Bool :=
  s.route g == 0xFF && s.stage g == .unrouted && !s.grpFaulted g && s.bit (F.GROUP_CFG_ALLOWED.inst g) n

/-- An outlet's cap (R119, R352). -/
def State.outCap (s : State) (n : Nat) : Nat :=
  let avail := s.outletCap n + ((s.groups.filter fun g => s.freeFor n g).map s.grpCap).sum
  let c := min (min (s.get (F.ALLOC_OUT_MAX_W.nth n)) avail) (s.getI (F.COOL_CEIL_W_W.nth n)).toNat
  if s.degraded n then c * s.get F.SAFE_DEG_CFG_DEG_PCT / 100 else c

def State.mPrio (s : State) (t : Nat) : Nat := if t < 256 then s.fPrio t else s.get (F.ALLOC_OUT_CFG_PRIO.nth (t - 0x1000))
def State.mWeight (s : State) (t : Nat) : Nat := if t < 256 then s.fWeight t else max 1 (s.get (F.ALLOC_OUT_CFG_WEIGHT.nth (t - 0x1000)))

/-- The allocator's members directly under `p`; retired children are skipped. -/
def State.allocMembers (s : State) (p : Nat) : List Nat := (s.membersOf p).filter fun t => decide (256 ≤ t) || s.fKind t != 3

/-- Lifted demand vector and cap of a member. The frozen outlet values are read. -/
def State.memberIn (s : State) : Nat → Nat → List Nat × Nat
  | 0, _ => ([], 0)
  | fuel + 1, t =>
    if 256 ≤ t then
      (lift ((List.range 8).map fun k => if k = s.mPrio t then s.get (F.ALLOC_OUT_DEMAND_W.nth (t - 0x1000)) else 0) (s.mPrio t),
       s.get (F.ALLOC_OUT_CAP_W.nth (t - 0x1000)))
    else if s.fKind t = 2 then
      let l := (s.allocMembers t).map fun m => s.memberIn fuel m
      (lift (l.foldl (fun a x => addVec a x.1) []) (s.fPrio t), min (s.fMax t) (l.map fun x => x.2).sum)
    else
      let c := s.child t
      (lift (if s.fState t = 1 then c.demand else []) (s.fPrio t), min (s.fMax t) c.cap)

/-! ### The split (R120) -/

/-- A member in a split: target, reserved floor, cap, weight, lifted demand, exact grant. -/
structure Share where
  t : Nat
  res : Nat
  cap : Nat
  w : Nat
  d : List Nat
  grant : Rat

def State.share (s : State) (t : Nat) : Share :=
  let x := s.memberIn 258 t
  ⟨t, s.aptRes t, x.2, s.mWeight t, x.1, s.aptRes t⟩

/-- What member `m` still needs in classes 0 to `k`. -/
def Share.need (m : Share) (k : Nat) : Rat :=
  let want := min m.cap (max m.res ((List.range (k + 1)).map fun j => m.d.getD j 0).sum)
  max 0 ((want : Rat) - m.grant)

/-- The inner loop for class `k`: every round meets one need or spends what is left. -/
def splitLoop (k : Nat) : Nat → List Share → Rat → List Share × Rat
  | 0, l, left => (l, left)
  | fuel + 1, l, left =>
    let act := l.filter fun m => decide (0 < m.need k)
    let sw : Rat := ((act.map fun m => m.w).sum : Nat)
    match act with
    | [] => (l, left)
    | a :: r =>
      if left ≤ 0 then (l, left) else
      let step := min left (r.foldl (fun b m => min b (m.need k * sw / m.w)) (a.need k * sw / a.w))
      splitLoop k fuel (l.map fun m => if 0 < m.need k then { m with grant := m.grant + step * m.w / sw } else m) (left - step)

/-- The procedure of R120 in exact fractions. -/
def splitExact (l : List Share) (budget : Nat) : List Share :=
  ((List.range 8).foldl (fun (x : List Share × Rat) k => splitLoop k (l.length + 1) x.1 x.2)
    (l, (budget : Rat) - ((l.map fun m => m.res).sum : Nat))).1

/-- Hand out the watts lost to rounding, in member order, to members whose exact grant was not whole. -/
def handOut : Nat → List Share → List (Nat × Nat)
  | _, [] => []
  | n, m :: t =>
    let g := m.grant.floor.toNat
    if 0 < n ∧ (g : Rat) ≠ m.grant then (m.t, g + 1) :: handOut (n - 1) t else (m.t, g) :: handOut n t

/-- Whole grants of a set of members, in member order. -/
def splitWhole (l : List Share) (budget : Nat) : List (Nat × Nat) :=
  let x := splitExact l budget
  let total : Rat := x.foldl (fun a m => a + m.grant) 0
  handOut (total.floor.toNat - (x.map fun m => m.grant.floor.toNat).sum) x

/-- A change is skipped (R122): below the deadband, unless it lowers a ceiling to the cap or to the reserved floor. -/
def State.skipped (s : State) (t cap new : Nat) : Bool :=
  let old := s.aptCeil t
  decide ((if old < new then new - old else old - new) < s.get F.ALLOC_CFG_DEADBAND_KW * 1000) &&
    !(decide (new < old) && (new == cap || new == s.aptRes t))

/-- The grants of the members under `p` and, within each Prism, of its members: a Prism's grant is their budget. -/
def State.wants (s : State) : Nat → Nat → Nat → FMap Nat → FMap Nat
  | 0, _, _, m => m
  | fuel + 1, p, budget, m =>
    (splitWhole ((s.allocMembers p).map s.share) budget).foldl (fun m x =>
      let m := mins x.1 x.2 m
      if x.1 < 256 && s.fKind x.1 == 2 then s.wants fuel x.1 x.2 m else m) m

/-! ### Routing (R121) -/

/-- Release the highest-numbered groups of a list (highest first) that are not needed to reach `g`. -/
def State.release (s : State) (g : Nat) : List Nat → Nat → List Nat
  | [], _ => []
  | x :: t, tot => if g ≤ tot - s.grpCap x then x :: s.release g t (tot - s.grpCap x) else s.release g t tot

/-- Take groups of a list, lowest first, until `g` is reached. -/
def State.takeGroups (s : State) (g : Nat) : List Nat → Nat → List Nat × Nat
  | [], tot => ([], tot)
  | x :: t, tot => if g ≤ tot then ([], tot) else let r := s.takeGroups g t (tot + s.grpCap x); (x :: r.1, r.2)

/-- The ceiling a member is to have after this epoch's Sentence. -/
def State.newCeil (s : State) (m : FMap Nat) (t : Nat) : Nat :=
  let old := s.aptCeil t
  let g := mget old m t
  let isKid := t < 256 && s.fKind t == 1
  if isKid && (s.fState t != 1 || !s.on F.TIME_SYNC_STATE_SYNC_OK) then old
  else if s.skipped t (s.memberIn 258 t).2 g then old
  else if isKid then max g (old - (s.child t).shed) else g

/-- The routing of the outlets in ascending class, then number: grants as lowered, groups released and groups taken. A grant
has fallen when it is below the ceiling or the last grant; no group is released that the ceiling to come needs. -/
def State.routing (s : State) (m : FMap Nat) : FMap Nat × List (Nat × Nat) × List (Nat × Nat) :=
  let order := (List.range 8).flatMap fun c => s.outlets.filter fun n => s.get (F.ALLOC_OUT_CFG_PRIO.nth n) == c
  order.foldl (fun (r : FMap Nat × List (Nat × Nat) × List (Nat × Nat)) n =>
    let g := mget 0 r.1 (0x1000 + n)
    let mine := s.groups.filter fun x => s.route x == n
    let tot := (mine.map s.grpCap).sum
    let t := 0x1000 + n
    let rel := if g < max (s.aptCeil t) (mget 0 s.tree.grants n) then s.release (max g (s.newCeil r.1 t)) mine.reverse tot else []
    let free := s.groups.filter fun x => s.freeFor n x && decide (0 < s.grpCap x) && !s.contactorFaulted (matrixCoil x n) && !(r.2.2.any fun y => y.1 == x)
    let tk := s.takeGroups g free tot
    (mins (0x1000 + n) (if tk.2 < g then max tk.2 (s.aptRes (0x1000 + n)) else g) r.1, r.2.1 ++ rel.map (fun x => (x, n)), r.2.2 ++ tk.1.map fun x => (x, n)))
    (m, [], [])

/-! ### The Sentence of an epoch (R122) -/

def routeClause (g o : Nat) : Clause := ⟨0x03000000, g * 2 ^ 24 + o, 0, 0⟩
def remoteApt (addr : Nat) (f : Int) (c : Nat) : Clause := ⟨0x08200000 + addr, 0xFFFF, ofSigned 32 f, c⟩

/-- One change: its member, its Clauses, whether a child's Aperture changes. -/
structure Change where
  t : Nat
  cs : List Clause
  kid : Bool

/-- The Clauses of a member's new ceiling. -/
def State.ceilChange (s : State) (t c : Nat) : Change :=
  if t < 256 ∧ s.fKind t = 1 then ⟨t, [aptClause t (s.aptFloor t) c, remoteApt (s.fAddr t) (s.aptFloor t) c], true⟩
  else ⟨t, [aptClause t (s.aptFloor t) c], false⟩

/-- Every member the allocator sees, in member order. -/
def State.allocAll (s : State) : List Nat := s.members.filter fun t => decide (256 ≤ t) || s.fKind t != 3

/-- Yields ascending by member: lowered ceilings, and the routes an outlet gives up. -/
def State.yieldChanges (s : State) (m : FMap Nat) (rel : List (Nat × Nat)) : List Change :=
  s.allocAll.flatMap fun t =>
    let c := s.newCeil m t
    (if c < s.aptCeil t then [s.ceilChange t c] else []) ++
      (rel.filter fun x => x.2 + 0x1000 == t).map fun x => ⟨t, [routeClause x.1 0xFF], false⟩

/-- Takes ascending by class and then by member. -/
def State.takeChanges (s : State) (m : FMap Nat) (tk : List (Nat × Nat)) : List Change :=
  (List.range 8).flatMap fun k => (s.allocAll.filter fun t => s.mPrio t == k).flatMap fun t =>
    let c := s.newCeil m t
    (if s.aptCeil t < c then [s.ceilChange t c] else []) ++
      ((tk.filter fun x => x.2 + 0x1000 == t).map fun x => ⟨t, [routeClause x.1 x.2], false⟩)

/-- The state with the Aperture and route Clauses of a list in force, for R87. -/
def State.withClauses (s : State) (cs : List Clause) : State :=
  let p := (cs.filter fun c => !c.remote && c.type == 8).map s.parts
  (s.applyActs 16 (p.flatMap fun x => x.1)).applyActs 16 (p.flatMap fun x => x.2)

/-- Add changes, each with whether it is a take, until 64 Clauses hold no more; takes only while R87 holds. The answer: Clauses,
changes left out, a child's change. -/
def State.gather (s : State) (acc : List Clause × Nat × Bool) : List (Bool × Change) → List Clause × Nat × Bool
  | [] => acc
  | (take, x) :: t =>
    let cs := acc.1 ++ x.cs
    if 64 < cs.length then (acc.1, acc.2.1 + 1 + t.length, acc.2.2)
    else if take && !budgetOk (s.withClauses cs).budget s.budget then s.gather (acc.1, acc.2.1 + 1, acc.2.2) t
    else s.gather (cs, acc.2.1, acc.2.2 || x.kid) t

/-- Open the epoch's Sentence (R122 step 4). -/
def State.epochSentence (s : State) (te : Nat) (cs : List Clause) (dist : Bool) : State :=
  match s.tree.epochSlot with
  | some k => s.ev E.ALLOC_EPOCH_OVERRUN 0 [k]
  | none => match s.freeSlot 4 12 with
    | none => s.err E.SENT_NO_SLOT_FREE 0 [2]
    | some k =>
      let at_ := dist || s.on F.TIME_SYNC_STATE_SYNC_OK
      (s.modTree fun t => { t with epochSlot := some k }).prepareOwn k
        { owner := 2, clauses := cs, mode := if at_ then 2 else 0, dist := dist,
          stop := if at_ then te + s.get F.ALLOC_EPOCH_CFG_STOP_OFFSET_MS * 1000000 else 0 }

/-! ### The demand target (R126) and the budget -/

/-- A point's mean power over the last epoch, toward zero. -/
def State.epochMean (s : State) (p : Nat) : Int := if s.tree.pCnt = 0 then 0 else Int.tdiv (mget 0 s.tree.pSum p) s.tree.pCnt

/-- The tree's measured import: outlet powers and children's MEASURED. -/
def State.treeMeasured (s : State) : Int :=
  (s.outlets.map s.epochMean).foldl (· + ·) 0 + (s.childEntries.map fun e => (s.child e).measured).foldl (· + ·) 0

/-- The budget of the site root under its demand target. -/
def State.dtBudget (s : State) : State × Nat :=
  let s := s.refreshDt
  let own := s.get F.TREE_OWN_CEIL_W
  let u := s.epochMean (s.get F.ALLOC_DT_POINT_POINT) - s.treeMeasured
  let trem : Int := max (s.get F.BILL_DT_TREM_S_S * 1000) (s.get F.ALLOC_EPOCH_CFG_EPOCH_MS)
  let cap := ((s.get F.ALLOC_DT_TARGET_W_W * (s.bill.len * 60) : Nat) - (s.get F.BILL_DT_E_WH_WH * 3600 : Nat) : Int) * 1000 / trem
  let floors : Nat := ((s.membersOf 0xFF).map s.aptRes).sum
  let s := (s.setI F.ALLOC_DT_BUDGET_W_W (cap - u)).setI F.ALLOC_DT_UNCTRL_W_W u
  let s := s.when (decide (cap - u < floors)) fun s => s.ev E.ALLOC_DT_AT_RISK 0 [ofSigned 32 (cap - u), floors]
  (s, min own (max (floors : Int) (cap - u)).toNat)

/-- The allocator's budget (R118, R126). -/
def State.allocBudget (s : State) : State × Nat :=
  if s.on F.TREE_SELF_ROOT then (if s.on F.ALLOC_CFG_ROOT_DT_EN then s.dtBudget else (s, s.get F.TREE_OWN_CEIL_W))
  else (s, min (s.get F.TREE_OWN_CEIL_W) (s.get F.TREE_TARGET_W))

/-! ### The epoch (R118, Table 6.8) -/

/-- A child misses a boundary: its count, and SILENT (R116). -/
def State.countEpoch (s : State) (e : Nat) : State :=
  let n := satInc 16 (s.fEpochs e)
  if s.fState e = 1 ∧ s.get F.TREE_RECLAIM_SILENT_EPOCHS ≤ n then (s.setFState e 2 n).ev E.TREE_CHILD_SILENT 0 [s.fAddr e]
  else s.setFState e (s.fState e) n

/-- The frozen DEMAND and CAP of an entry: last reported by a child, aggregated by a Prism (Table 6.4). -/
def State.entryInputs (s : State) (e : Nat) : Nat × Nat :=
  if s.fKind e = 1 then ((s.child e).demand.sum, (s.child e).cap) else let x := s.memberIn 258 e; (x.1.sum, x.2)

/-- Inputs frozen: the outlets' demand and cap, then the entries' (R118, Table 6.4). -/
def State.freezeInputs (s : State) : State :=
  let s := s.each s.outlets fun n s => (s.set (F.ALLOC_OUT_DEMAND_W.nth n) (s.outDemand n)).set (F.ALLOC_OUT_CAP_W.nth n) (s.outCap n)
  let s := s.each s.childEntries fun e s => s.countEpoch e
  s.each (s.facets.filter fun e => s.fKind e != 3) fun e s =>
    let x := s.entryInputs e
    (s.wrLe (facetBase e + 20) 4 (satTo 32 x.1)).wrLe (facetBase e + 24) 4 (satTo 32 x.2)

/-- Demand vector and summed caps of the members, as the next DEMAND frame carries them (R125). -/
def State.keepUp (s : State) : State :=
  let l := (s.allocMembers 0xFF).map fun t => s.memberIn 258 t
  s.modTree fun t => { t with upDemand := l.foldl (fun a x => addVec a (clipVec x.1 x.2)) [], upCap := (l.map fun x => x.2).sum }

/-- The DEMAND frame to the parent, with the results of the previous epoch (R125, Table 6.9). -/
def State.sendDemand (s : State) : State :=
  let d := s.tree.upDemand
  let cap := s.tree.upCap
  let own := s.get F.TREE_OWN_CEIL_W
  let shed := own - s.sumCeil s.childEntries - (s.outlets.map fun n => s.aptRes (0x1000 + n)).sum
  let s := ((s.set F.ALLOC_DEMAND_UP_W (satTo 32 d.sum)).set F.ALLOC_SHED_UP_W shed).set F.ALLOC_CAP_UP_W (satTo 32 cap)
  let st := s.get F.TREE_LEASE_STAT_STATE
  let flags := (if st = 1 then 1 else 0) + (if st = 2 then 2 else 0) + (if s.mode = .degraded then 4 else 0)
  s.galeshSend 0x11 (s.get F.TREE_PARENT_ADDRESS)
    ([0x11, 1] ++ beBytes 2 s.ownAddr ++ beBytes 4 (s.get F.ALLOC_EPOCH_COUNT_COUNT) ++ ((List.range 8).flatMap fun k => beBytes 4 (satTo 32 (d.getD k 0))) ++
      beBytes 4 (satTo 32 cap) ++ beBytes 4 shed ++ beBytes 4 own ++ beBytes 4 (s.get F.TREE_OWN_FLOOR_W) ++
      beBytes 4 (ofSigned 32 s.treeMeasured) ++ [flags, 0, 0, 0])

/-- R124: an entry above what its child reported as its own ceiling is lowered to it. -/
def State.reconcile (s : State) : State :=
  s.each s.childEntries fun e s =>
    let c := s.child e
    let old := s.fCeil e
    if c.heard ∧ s.fState e = 1 ∧ c.ownCeil < old ∧ c.ownCeil < c.entryCeil ∧ !s.aptHeld 16 e then
      let new := max c.ownCeil (s.aptRes e)
      let (s, ok) := s.commitNow [aptClause e (s.fFloor e) new]
      s.when ok fun s => s.ev E.ALLOC_RECONCILED 0 [s.fAddr e, old, new]
    else s

/-- The allocation: split, routing, Clauses, Sentence (R120 to R122). -/
def State.allocate (s : State) : State :=
  let te := s.fabNs
  let (s, b) := s.allocBudget
  let m0 := s.wants 258 0xFF b []
  let (m, rel, tk) := s.routing m0
  let top := s.allocMembers 0xFF
  let short := (s.outlets.map fun n => mget 0 m0 (0x1000 + n) - mget 0 m (0x1000 + n)).sum
  let s := s.set F.ALLOC_UNALLOC_W_W (satTo 32 (b - (top.map fun t => mget 0 m0 t).sum + short))
  let s := s.each s.childEntries fun e s =>
    s.when (s.fState e == 1) fun s =>
      let g := mget 0 m e
      s.setChild e { s.child e with target := (if s.skipped e (s.memberIn 258 e).2 g then s.fCeil e else g) + 1 }
  let (cs, out, dist) := s.gather ([], 0, false) ((s.yieldChanges m rel).map (fun x => (false, x)) ++ (s.takeChanges m tk).map fun x => (true, x))
  let s := s.modTree fun t => { t with grants := s.outlets.foldl (fun l n => mput 0 l n (mget 0 m (0x1000 + n))) [] }
  let s := (s.set F.ALLOC_LAST_EPOCH_CLAUSES cs.length).set F.ALLOC_LAST_EPOCH_DEFERRED (satTo 8 out)
  let s := s.when (decide (0 < out)) fun s => s.ev E.ALLOC_CLAUSES_DEFERRED 0 [out]
  s.when (!cs.isEmpty) fun s => s.epochSentence te cs dist

/-- EPOCH_BOUNDARY (R112, R116, R118 to R126). -/
def execEpochBoundary (s : State) : Result :=
  (s.when s.treeRuns fun s =>
    let s := (s.inc F.ALLOC_EPOCH_COUNT_COUNT).freezeInputs
    let s := (s.when (!s.on F.TREE_SELF_ROOT) State.sendDemand).keepUp
    let s := s.sendLeases
    let s := s.when (s.on F.ALLOC_CFG_ENABLE) fun s => (s.reconcile).allocate
    (s.modTree fun t => { t with epochTick := s.ticks, pSum := [], pCnt := 0 }).refreshSent).finish

/-- EPOCH_CFG_WRITE (R118). -/
def execEpochCfgWrite (value : Word) (s : State) : Result := (s.hostWrites 0x08 0x040 fun s => s.epochCfgWrite value.toNat).finish

/-! ### Members that fail (R127, R130) -/

/-- The capacity yield of an outlet: its ceiling falls to its capacity, or to its reserved floor (R127). One whose target a
pending Sentence holds fails with CONFLICT and is remembered (R130). -/
def State.capacityYield (s : State) (n : Nat) : State :=
  let t := 0x1000 + n
  let c := max (s.outletCap n) (s.aptRes t)
  s.when (s.treeRuns && s.hasOutlet n) fun s =>
   let s := s.modTree fun x => { x with capDue := x.capDue.filter fun k => k != n }
   s.when (s.on F.ALLOC_CFG_ENABLE && decide (c < s.aptCeil t)) fun s =>
    let wait := s.aptHeld 16 t
    let (s, ok) := s.commitNow [aptClause t (s.aptFloor t) c]
    let s := s.when wait fun s => s.modTree fun x => { x with capDue := x.capDue ++ [n] }
    s.when ok fun s => s.ev E.ALLOC_CAPACITY_YIELD 0 [n, c]

/-- CAPACITY_YIELD (R127, R130). While one is remembered for the outlet and its target is held, the allocator waits. -/
def execCapacityYield (n : Fin 4) (s : State) : Result :=
  (s.when (!(s.tree.capDue.contains n.val && s.aptHeld 16 (0x1000 + n))) fun s => s.capacityYield n).finish

/-- The capacity yields whose targets no pending Sentence holds any more (R130). -/
def State.capCatchUp (s : State) : State :=
  s.each (s.tree.capDue.filter fun n => !s.aptHeld 16 (0x1000 + n)) fun n s => s.capacityYield n

/-! ### Fabric links (R40, Table 6.15) -/

/-- FAB_LINK_UP: auto-negotiation is done, from CONFIGURE on; a HALF outcome that has been reported is reported again when the
parent's link returns (R96). -/
def execFabLinkUp (port : Fin 2) (speed : Nat) (anDone : Bool) (s : State) : Result :=
  (s.when (s.hostOpen && s.fabEnabled port && !s.fabLink port) fun s =>
    let s := if port.val = 0 then ((s.setB F.FAB_PORT_STAT_P0_LINK true).set F.FAB_PORT_STAT_P0_SPEED speed).setB F.FAB_PORT_STAT_P0_AN_DONE anDone
      else ((s.setB F.FAB_PORT_STAT_P1_LINK true).set F.FAB_PORT_STAT_P1_SPEED speed).setB F.FAB_PORT_STAT_P1_AN_DONE anDone
    let s := s.ev E.FAB_LINK_UP 0 [port, speed]
    s.when (s.get F.TREE_PARENT_PORT == port.val || s.get F.TREE_PARENT_PORT == 3) fun s =>
      s.each (s.sent.halves.filter fun x => !s.sent.outDue.any fun o => o.2.1 == x.1) fun x s => s.sendEnd x.1 2 x.2.code).finish

/-- FAB_LINK_DOWN. -/
def execFabLinkDown (port : Fin 2) (s : State) : Result :=
  (s.when (s.fabLink port) fun s =>
    let s := if port.val = 0 then s.resetFields [F.FAB_PORT_STAT_P0_LINK, F.FAB_PORT_STAT_P0_SPEED, F.FAB_PORT_STAT_P0_AN_DONE]
      else s.resetFields [F.FAB_PORT_STAT_P1_LINK, F.FAB_PORT_STAT_P1_SPEED, F.FAB_PORT_STAT_P1_AN_DONE]
    s.ev E.FAB_LINK_DOWN 0 [port]).finish

end Sys2Proof.Machine
end

