-- ==== Sys2Proof/Machine/Trips.lean ====
section
/-! DEFINITION. The safety functions (chapter 14): safety inputs, trips, contactor monitoring, the insulation monitor,
diagnostics, leaving OUT_FAULT and SAFE_HOLD, and the degraded service. -/
namespace Sys2Proof.Machine

def State.modSafe (s : State) (f : SafeState → SafeState) : State := { s with safe := f s.safe }

/-- The safety logic runs: from SELFTEST onwards (R346). -/
def State.safetyRuns (s : State) : Bool := !(s.mode == .dormant || s.mode == .waking) && !s.sys.held

/-! ### Safety inputs (R335 to R337) -/

/-- Input `k` belongs to a pair. -/
def State.sinPaired (s : State) (k : Nat) : Bool := s.on (F.SAFE_SIN_CFG_PAIR.nth (k / 2 * 2))

/-- Input `k` counts as in demand: its level, or its fault. -/
def State.sinOwn (s : State) (k : Nat) : Bool := s.safe.sinDemand.testBit k || s.bit F.SAFE_SIN_STAT_FAULT k

/-- Demand on either input of a pair is demand for the pair (R336). -/
def State.sinCounts (s : State) (k : Nat) : Bool :=
  s.sinOwn k || (s.sinPaired k && s.sinOwn (k / 2 * 2 + (1 - k % 2)))

/-- SF1 of the node, and of an outlet (R337). -/
def State.sf1Node (s : State) : Bool := (List.range 8).any fun k => s.get (F.SAFE_SIN_CFG_FUNC.nth k) == 1 && s.sinCounts k
def State.sf1Out (s : State) (n : Nat) : Bool :=
  (List.range 8).any fun k => s.get (F.SAFE_SIN_CFG_FUNC.nth k) == 2 && s.bit (F.SAFE_SIN_CFG_MASK.nth k) n && s.sinCounts k

/-- SF1 follows the inputs: a demand trips the node or the outlets of MASK; ACTIVE clears with it (R333, R337). -/
def State.judgeSf1 (s : State) : State :=
  let s := if s.sf1Node then s.when (!s.bit F.SAFE_NODE_TRIP_ACTIVE 0) fun s => s.tripNode 0 else s.setBit F.SAFE_NODE_TRIP_ACTIVE 0 false
  s.each s.outlets fun n s =>
    if s.sf1Out n then s.when (!s.bit (F.SAFE_OUT_TRIP_ACTIVE.nth n) 0) fun s => (s.tripOut n 1).gateCutOutlet n else s.clearActive n 1

/-- The relation of a pair holds again: its fault is present no longer. -/
def State.judgePair (s : State) (k : Nat) : State :=
  let a := k / 2 * 2
  if s.sinPaired k && s.safe.sinDemand.testBit a == s.safe.sinDemand.testBit (a + 1) && s.safe.sinFaultNow.testBit a then
    s.modSafe fun v => { v with
      sinFaultNow := setBitOf (setBitOf v.sinFaultNow a false) (a + 1) false,
      sinFaultTick := mins a s.ticks (mins (a + 1) s.ticks v.sinFaultTick) }
  else s

def State.sinLevel (s : State) (k : Nat) (d : Bool) : State :=
  let s := (s.modSafe fun v => { v with sinDemand := setBitOf v.sinDemand k d }).setBit F.SAFE_SIN_STAT_DEMAND k d
  (s.judgePair k).judgeSf1

/-- SIN_DEMAND (R335, R336, R337). -/
def execSinDemand (k : Fin 8) (s : State) : Result := (s.when s.safetyRuns fun s => s.sinLevel k true).finish

/-- SIN_DEMAND_END (R335). -/
def execSinDemandEnd (k : Fin 8) (s : State) : Result := (s.when s.safetyRuns fun s => s.sinLevel k false).finish

/-- Inputs are marked faulty: cause 1 missed pulses, 2 stray pulse, 3 pair relation. -/
def State.sinFault (s : State) (ks : List Nat) (cause : Nat) : State :=
  let s := s.each ks fun k s =>
    let s := (s.modSafe fun v => { v with
      sinFaultTick := mins k s.ticks v.sinFaultTick, sinFaultNow := if cause = 3 then setBitOf v.sinFaultNow k true else v.sinFaultNow })
    if s.bit F.SAFE_SIN_STAT_FAULT k then s else (s.setBit F.SAFE_SIN_STAT_FAULT k true).ev E.SAFE_INPUT_FAULT 0 [k, cause]
  s.judgeSf1

/-- Test pulses are checked on input `k`: not against a steady level, on an inverted input, or on the standby (R335, R336, R375). -/
def State.sinTested (s : State) (k : Nat) : Bool :=
  s.get (F.SAFE_SIN_CFG_TEST.nth k) != 0 && s.mode != .mirror && !(k % 2 == 1 && s.sinPaired k && s.on (F.SAFE_SIN_CFG_ANTI.nth (k - 1)))

/-- SIN_FAULT (R335). -/
def execSinFault (k : Fin 8) (stray : Bool) (s : State) : Result :=
  (s.when (s.safetyRuns && s.sinTested k) fun s =>
    s.sinFault [k] (if stray then 2 else 1)).finish

/-- SIN_PAIR_FAULT (R336). -/
def execSinPairFault (p : Fin 4) (s : State) : Result :=
  (s.when (s.safetyRuns && s.sinPaired (2 * p)) fun s => s.sinFault [2 * p.val, 2 * p.val + 1] 3).finish

/-- STP_PULSE (R335): the 4 µs low pulse of a test output; exclusive in a pair. -/
def execStpPulse (i : Fin 2) (s : State) : Result :=
  (s.when (s.safetyRuns && s.exclusive) fun s => (s.emit (.stp i false)).emit (.stp i true)).finish

/-! ### Outlet trips (R338) -/

/-- Gates cut and coils due, with the function latched. -/
def State.tripCut (s : State) (n k : Nat) : State := (s.tripOut n k).gateCutOutlet n

/-- Fault ramp, then coils, with the function latched. -/
def State.tripRamp (s : State) (n k : Nat) : State := (s.tripOut n k).faultRamp n

/-- The outlet is in OUT_PRECHARGE to OUT_STOPPING. -/
def State.charging (s : State) (n : Nat) : Bool :=
  match s.ostate n with
  | .precharge | .energy | .stopping => true
  | _ => false

/-- SF2_GATE_CUT (R338, R149). -/
def execSf2GateCut (n : Fin 4) (s : State) : Result := (s.when (s.safetyRuns && s.hasOutlet n) fun s => s.tripCut n 2).finish

/-- SF3_TRIP (R338): not judged while no maximum is recorded. -/
def execSf3Trip (n : Fin 4) (s : State) : Result :=
  (s.when (s.safetyRuns && s.hasOutlet n && s.charging n && s.get (F.VDE_CTX_EV_VMAX_MV.nth n) != 0) fun s => s.tripCut n 3).finish

/-- SF6_TRIP (R338). -/
def execSf6Trip (n : Fin 4) (s : State) : Result := (s.when (s.safetyRuns && s.hasOutlet n) fun s => s.tripRamp n 6).finish

/-- SF10_TRIP (R338). -/
def execSf10Trip (n : Fin 4) (s : State) : Result :=
  (s.when (s.safetyRuns && s.hasOutlet n && s.ostate n == .energy) fun s => s.tripCut n 10).finish

/-- SF11_TRIP (R338): the discharge stays on and the latch is held. -/
def execSf11Trip (n : Fin 4) (s : State) : Result :=
  (s.when (s.safetyRuns && s.hasOutlet n && s.ostate n == .release && decide (60000 ≤ s.vc n)) fun s => (s.tripOut n 11).setOState n .fault).finish

/-- Every coil whose time has come is de-energised (Table 14.1, R370): scope 0 to 3 an outlet, 4 the node. -/
def State.coilsNow (s : State) (scope : Nat) : State :=
  if scope = 4 then
    s.when s.safe.nodeCoilDue fun s => s.allCoilsOff.modSafe fun v => { v with nodeCoilDue := false }
  else s.when ((s.outSt scope).coilDue != .none) fun s => (s.outletCoilsOff scope).modOut scope fun o => { o with coilDue := .none }

/-- COIL_OFF_DEADLINE (R330, R370, R393): during HANDOVER it is met at its end. -/
def execCoilOffDeadline (scope : Fin 5) (s : State) : Result :=
  (if s.mode = .handover then { s with mir := { s.mir with coilHeld := setBitOf s.mir.coilHeld scope true } }
   else s.coilsNow scope).finish

/-! ### Contactors (R342, R343) -/

/-- SF5_WELD (R342): the feedback reads closed past the opening limit, or closed unbidden. -/
def execSf5Weld (i : Fin 60) (s : State) : Result :=
  (s.when (s.safetyRuns && s.monitored i && !s.coilOn i && !s.safe.weldedSince.testBit i) fun s => (s.setFb i true).weld i).finish

/-- FB_DROPOUT (R342): a contactor opens while its coil is on and its travel has ended. -/
def execFbDropout (i : Fin 60) (s : State) : Result :=
  (s.when (s.safetyRuns && s.monitored i && s.coilOn i && s.safe.travelled.testBit i) fun s =>
    let s := ((s.setFb i false).modSafe fun v => { v with travelled := setBitOf v.travelled i false }).ev E.SAFE_FB_MISMATCH 0 [i, 1, 0]
    if i.val < 48 then
      let g := i.val / 4
      let s := s.each (s.enabledPhases g) fun p s => (s.setPhase p false (s.phLost p) 3).stopPhase p
      let s := ((s.setCoil i false).judgeMin g).setStage g .fault
      (s.latchSrc (i % 4) 5).gateCutOutlet (i % 4)
    else (s.latchSrc (coilOutlet i) 5).gateCutOutlet (coilOutlet i)).finish

/-- WELDCHECK_JUDGED (R343). -/
def execWeldcheckJudged (n : Fin 4) (s : State) : Result :=
  (s.when (s.hasOutlet n && s.stagesRun && s.ostate n == .weldcheck && !s.fbClosed (mainPos n) && !s.fbClosed (mainNeg n) &&
      !s.welded (mainPos n) && !s.welded (mainNeg n) && !s.welded (prechargeCoil n)) fun s => s.enterRelease n).finish

/-- DISCHARGE_DONE (R339). -/
def execDischargeDone (n : Fin 4) (s : State) : Result :=
  (s.when (s.hasOutlet n && !s.bit (F.SAFE_OUT_TRIP_ACTIVE.nth n) 10) fun s => s.setDisch n false).finish

/-! ### The insulation monitor (R344, R345, R350) -/

/-- What follows from a new state of the monitor: the verdict, SF4 during a charge, the degraded condition. -/
def State.judgeImd (s : State) (n : Nat) (was : Bool) : State :=
  let o := s.outSt n
  let s := s.setDegCond n 1 (o.imdPwmLost && !o.imdFault && !s.bit F.SAFE_IMD_CFG_PWM_EN n)
  if s.imdGood n then s.clearActive n 4
  else
    let s := s.when was fun s => s.ev E.SAFE_IMD_FAULT 0 [n]
    match s.ostate n with
    | .check =>
      let s := s.tripRamp n 4
      s.when ((s.ctx n).check == 1 || (s.ctx n).check == 2 || (s.ctx n).check == 3) fun s =>
        (s.respond n 9 4 []).sessEnd n E.SAFE_IMD_FAULT.code16
    | .precharge | .energy | .stopping => s.tripRamp n 4
    | _ => s

/-- IMD_FAULT (R344). -/
def execImdFault (n : Fin 4) (s : State) : Result :=
  (s.when (s.safetyRuns && s.hasOutlet n && !(s.outSt n).imdFault) fun s =>
    let was := s.imdGood n
    (((s.modOut n fun o => { o with imdFault := true }).setB (F.SAFE_OUT_IMD_OK.nth n) false).judgeImd n was)).finish

/-- IMD_PWM_LOST (R344, R350). -/
def execImdPwmLost (n : Fin 4) (s : State) : Result :=
  (s.when (s.safetyRuns && s.hasOutlet n && !(s.outSt n).imdPwmLost) fun s =>
    let was := s.imdGood n
    let s := s.when (s.bit F.SAFE_IMD_CFG_PWM_EN n) fun s => s.ev E.SAFE_IMD_PWM_LOST 0 [n]
    ((((s.modOut n fun o => { o with imdPwmLost := true }).set (F.SAFE_OUT_IMD_FREQ.nth n) 0).set (F.SAFE_OUT_IMD_DUTY.nth n) 0).judgeImd n was)).finish

/-- IMD_VERDICT_GOOD (R344): IMD_OK shows good again, or edges resume with their frequency and duty. -/
def execImdVerdictGood (n : Fin 4) (pwm : Bool) (freq duty : Nat) (s : State) : Result :=
  (s.when (s.safetyRuns && s.hasOutlet n) fun s =>
    let s := if pwm then ((s.modOut n fun o => { o with imdPwmLost := false }).set (F.SAFE_OUT_IMD_FREQ.nth n) freq).set (F.SAFE_OUT_IMD_DUTY.nth n) duty
      else (s.modOut n fun o => { o with imdFault := false }).setB (F.SAFE_OUT_IMD_OK.nth n) true
    s.judgeImd n false).finish

/-! ### Diagnostics (R346, R347, R63) -/

/-- RUN_FAIL keeps the first failing periodic test since reset. -/
def State.noteRunFail (s : State) (t : Nat) : State := s.when (s.get F.DIAG_RUN_FAIL_TEST == 0) fun s => s.set F.DIAG_RUN_FAIL_TEST t

/-- A failure with node reaction (R347). -/
def State.testFail (s : State) (t : Nat) : State :=
  ((s.noteRunFail t).ev E.DIAG_TEST_FAIL 0 [t, s.mode.code]).internalFail.refreshChans.ownOutputs s

/-- A periodic test fails: test number of Table 14.4 and what it concerns, an input, group, outlet or address. -/
def State.diagFail (s : State) (t i : Nat) : State :=
  match t with
  | 4 => s.when (s.sinTested (i % 8)) fun s => (s.noteRunFail 4).sinFault [i % 8] 1
  | 7 => s.when (s.hasGroup i && s.stage i == .unrouted) fun s => (s.noteRunFail 7).groupFault i E.GROUP_COMPARATOR_FAULT [(s.stage i).code]
  | 8 => s.when (s.hasOutlet i) fun s => ((s.noteRunFail 8).latchSrc i 4).gateCutOutlet i
  | 11 => (((s.incSat F.DIAG_SRAM_ECC_UNCORR).set F.DIAG_SRAM_ADDR_ADDR i).ev E.DIAG_SRAM_UNCORRECTED 0 [i]).testFail 11
  | 6 | 12 | 13 => s.noteRunFail t
  | _ => s.when (decide (1 ≤ t) && decide (t ≤ 16)) fun s => s.testFail t

/-- DIAG_INTERVAL (R346): a diagnostic interval of `us` µs ends; what failed in it, a corrected SRAM word, and frames rejected on
the die-to-die links. -/
def execDiagInterval (us : Nat) (fail : Option (Nat × Nat)) (corrected : Option Nat) (badMet badPower : Nat) (s : State) : Result :=
  (s.when s.safetyRuns fun s =>
    let s := (s.inc F.DIAG_CYCLE_COUNT).set F.DIAG_CYCLE_MAX_US (max (s.get F.DIAG_CYCLE_MAX_US) us)
    let s := match corrected with
      | none => s
      | some a => ((s.incSat F.DIAG_SRAM_ECC_CORR).set F.DIAG_SRAM_ADDR_ADDR a).ev E.DIAG_SRAM_CORRECTED 0 [a]
    let s := s.when (badMet != 0) fun s => (s.set F.DIAG_D2D_CRC_METROLOGY (satTo 16 (s.get F.DIAG_D2D_CRC_METROLOGY + badMet))).ev E.DIAG_D2D_CRC 0 [0]
    let s := s.when (badPower != 0) fun s => (s.set F.DIAG_D2D_CRC_POWER (satTo 16 (s.get F.DIAG_D2D_CRC_POWER + badPower))).ev E.DIAG_D2D_CRC 0 [1]
    match fail with
    | none => s
    | some x => s.diagFail x.1 x.2).finish

/-- CYCLE_OVERRUN (R346, R63): test 16. -/
def execCycleOverrun (us : Nat) (s : State) : Result :=
  (s.when s.safetyRuns fun s =>
    ((s.set F.DIAG_CYCLE_MAX_US (max (s.get F.DIAG_CYCLE_MAX_US) us)).ev E.DIAG_CYCLE_OVERRUN 0 [us]).testFail 16).finish

/-! ### Causes and clears (R348, R372) -/

/-- A pin channel of the outlet reads above SF6_TRIP less `below` tenths of a degree. -/
def State.pinAbove (s : State) (n below : Nat) : Bool :=
  let lim := f32OfRat ((s.get (F.SAFE_OUT_LIM_SF6_TRIP.nth n) : Int) - below) 10
  [s.get (F.COOL_OCFG_PIN_POS_CH.nth n), s.get (F.COOL_OCFG_PIN_NEG_CH.nth n)].any fun c => decide (c < 48) && !f32Lt (s.chVal c) lim

/-- |IC| above the vehicle's limit and margin (SF10), mA. -/
def State.overLimit (s : State) (n : Nat) : Bool :=
  let l := if s.on (F.OUTLET_STATUS_DIRECTION.inst n) then s.get (F.OUTLET_ILIM_EXP_MA.inst n) else s.get (F.OUTLET_ILIM_IMP_MA.inst n)
  let m := max (s.get (F.SAFE_OUT_CFG_IMARGIN_10A.nth n) * 10000) (l * s.get (F.SAFE_OUT_CFG_IMARGIN_PCT.nth n) / 100)
  decide (l + m < (s.ic n).natAbs)

/-- The cause of function SFk is present on outlet `n`. -/
def State.causeOn (s : State) (n k : Nat) : Bool :=
  match k with
  | 1 => s.sf1Out n
  | 2 => s.on (F.PHASE_OV_STAT_ACTIVE.nth n)
  | 3 => s.get (F.VDE_CTX_EV_VMAX_MV.nth n) != 0 &&
      decide (((s.get (F.VDE_CTX_EV_VMAX_MV.nth n) + s.get (F.SAFE_OUT_LIM_VMARGIN_V.nth n) * 1000 : Nat) : Int) < s.vc n)
  | 4 => !s.imdGood n
  | 5 => s.welded (mainPos n) || s.welded (mainNeg n) || s.welded (prechargeCoil n) || s.groups.any fun g => s.welded (matrixCoil g n)
  | 6 => s.pinAbove n 0
  | 7 => s.combined n != 0 && s.get (F.LINK_LATCH_FB_CH.inst n) != 0x3F && s.on (F.LINK_STATUS_LATCH_FB.inst n) != s.on (F.LINK_STATUS_LATCH_CMD.inst n)
  | 9 => (List.range 16).any fun c => s.get (F.GSC_CSTAT_STATE.nth c) == 3 && s.get (F.GSC_CCFG_ACTION.nth c) == 1 && s.bit (F.GSC_CCFG_MASK.nth c) n
  | 10 => s.overLimit n
  | 11 => decide (60000 ≤ s.vc n)
  | _ => false

/-- ACTIVE follows the conditions (R333). -/
def State.refreshActive (s : State) (n : Nat) : State :=
  s.each [3, 4, 5, 6, 7, 8, 10, 11] fun k s => s.when (!s.causeOn n k) fun s => s.clearActive n k

/-- The cause of source `b` of Table 14.3 is present. -/
def State.srcCause (s : State) (n b : Nat) : Bool :=
  match b with
  | 2 => (s.outSt n).fbLive != 0
  | 3 => !s.icZero n
  | 6 => (s.outSt n).degCond != 0 && decide (s.get F.SAFE_DEG_CFG_DEG_MIN * 60 * 1000 * ticksMs ≤ s.degElapsed n)
  | _ => false

def State.noteCleared (s : State) (n b : Nat) : State := s.modOut n fun o => { o with clearedFn := setBitOf o.clearedFn b true }

/-- LATCHED of SFk clears. -/
def State.unlatchFn (s : State) (n k : Nat) : State :=
  ((s.setBit (F.SAFE_OUT_TRIP_LATCHED.nth n) (k - 1) false).clearActive n k).noteCleared n (k - 1)

/-- Source `b` clears. -/
def State.unlatchSrc (s : State) (n b : Nat) : State := (s.modOut n fun o => { o with src := setBitOf o.src b false }).noteCleared n (11 + b)

/-- Everything that keeps an outlet in OUT_FAULT has gone (R348); in SAFE_HOLD it stays (R349, log entry 101). -/
def State.mayLeaveFault (s : State) (n : Nat) : Bool :=
  s.ostate n == .fault && s.mode != .safeHold && s.get (F.SAFE_OUT_TRIP_LATCHED.nth n) == 0 && (s.outSt n).src == 0 && !s.fbFlags n &&
    !s.fbClosed (mainPos n) && !s.fbClosed (mainNeg n) && !s.fbClosed (prechargeCoil n) && decide (s.vc n < 60000)

/-- The outlet leaves OUT_FAULT (R348). -/
def State.leaveFault (s : State) (n : Nat) : State :=
  if !s.mayLeaveFault n || !s.stagesRun then s else
  let s := (s.ev E.SAFE_CLEARED 0 [n, (s.outSt n).clearedFn]).modOut n fun o => { o with clearedFn := 0 }
  if s.combined n = 0 then s.toIdle n else s.enterRelease n

/-- A host clear on outlet `n`: what has no cause clears; the rest is refused. -/
def State.hostClear (s : State) (n : Nat) : State :=
  let s := s.refreshActive n
  let s := s.each ([1, 2, 4, 5, 10, 11].filter fun k => s.bit (F.SAFE_OUT_TRIP_LATCHED.nth n) (k - 1)) fun k s =>
    if s.causeOn n k then s.err E.SAFE_CLEAR_REFUSED 0 [n, k] else s.unlatchFn n k
  let s := s.each ([1, 2, 3, 4, 5, 6].filter fun b => (s.outSt n).src.testBit b) fun b s =>
    if s.srcCause n b then s.err E.SAFE_CLEAR_REFUSED 0 [n, 16 + b] else s.unlatchSrc n b
  s.leaveFault n

/-- SAFE_CLR (R348). -/
def execSafeClr (value : Word) (s : State) : Result :=
  (s.hostWrites 0x28 0x094 fun s => s.each (s.outlets.filter fun n => value.toNat.testBit n) fun n s => s.hostClear n).finish

/-- UNPLUG_CLEAR (R348). -/
def execUnplugClear (n : Fin 4) (s : State) : Result :=
  (s.when (s.hasOutlet n && s.combined n == 0) fun s =>
    let s := s.refreshActive n
    let s := s.each ([3, 6, 7, 8].filter fun k => s.bit (F.SAFE_OUT_TRIP_LATCHED.nth n) (k - 1)) fun k s =>
      if (if k = 6 then s.pinAbove n 50 else s.causeOn n k) then s else s.unlatchFn n k
    let s := s.when ((s.outSt n).src.testBit 0) fun s => s.unlatchSrc n 0
    s.leaveFault n).finish

/-- LEAVE_OUT_FAULT (R348): with the latched functions cleared, the feedbacks read open by the command itself (log entry 99). -/
def execLeaveOutFault (n : Fin 4) (s : State) : Result :=
  (s.when (s.hasOutlet n) fun s =>
    (s.when (s.ostate n == .fault && s.get (F.SAFE_OUT_TRIP_LATCHED.nth n) == 0 && decide ((s.outSt n).src = 0)) fun s => s.fbAllOpen n).leaveFault n).finish

/-- The flags of FB_STAT by their bits (R188). -/
def fbStatFlags : List Field :=
  [F.OUTLET_FB_STAT_LOST_V, F.OUTLET_FB_STAT_LOST_I, F.OUTLET_FB_STAT_FROZEN_V, F.OUTLET_FB_STAT_FROZEN_I, F.OUTLET_FB_STAT_MISMATCH_V,
   F.OUTLET_FB_STAT_MISMATCH_I]

/-- FB_STAT_CLEAR (R188): `live` names the flags whose cause is still present. -/
def execFbStatClear (n : Fin 4) (value live : Word) (s : State) : Result :=
  (s.hostWrites (0x0A + n) F.OUTLET_FB_STAT_LOST_V.off fun s =>
    s.when (s.hasOutlet n && (s.ostate n == .fault || s.ostate n == .idle)) fun s =>
      ((s.modOut n fun o => { o with fbLive := bits live.toNat 7 7 + 2 * bits live.toNat 6 6 }).each fbStatFlags fun f s => s.when (value.toNat.testBit f.lo && !live.toNat.testBit f.lo) fun s => s.setB (f.inst n) false).leaveFault n).finish

/-! ### Welds (R342) -/

/-- WELD_CLEAR (R342): with the safety password open, a 1 clears the bit of a contactor that reads open. -/
def execWeldClear (high : Bool) (value : Word) (s : State) : Result :=
  let off := if high then 0x08C else 0x088
  (s.hostWrites 0x28 off fun s =>
    s.guarded false 0x28 off none (fun s => s) fun s =>
      some (s.each (List.range (if high then 28 else 32)) fun b s =>
        let i := if high then 32 + b else b
        s.when (value.toNat.testBit b && s.welded i && !s.fbClosed i) fun s => s.setWeld i false)).finish

/-! ### SAFE_HOLD (R349) -/

/-- The check of the restart that fails: 1 demand, 2 input fault, 3 internal failure, 4 feedback closed. -/
def State.restartBar (s : State) : Option Nat :=
  if s.safe.sinDemand ≠ 0 then some 1
  else if s.get F.SAFE_SIN_STAT_FAULT ≠ 0 then some 2
  else if s.safe.internalFailure || s.sys.needsReset then some 3
  else if (List.range 60).any fun i => s.monitored i && s.fbClosed i then some 4
  else none

/-- Input faults absent for 1 s clear. -/
def State.clearInputFaults (s : State) : State :=
  (s.each (List.range 8) fun k s =>
    s.when (s.bit F.SAFE_SIN_STAT_FAULT k && !s.safe.sinFaultNow.testBit k && decide (1000 * ticksMs ≤ s.since (mget 0 s.safe.sinFaultTick k))) fun s =>
      s.setBit F.SAFE_SIN_STAT_FAULT k false).judgeSf1

/-- SAFE_RESTART (R349): the key starts the checks and the diagnostic interval. -/
def execSafeRestart (value : Word) (s : State) : Result :=
  (s.hostWrites 0x28 0x090 fun s =>
    s.when (value.toNat == 0xC3A5 && s.mode == .safeHold) fun s =>
      let s := s.clearInputFaults
      match s.restartBar with
      | some c => s.err E.SAFE_RESTART_REFUSED 0 [c]
      | none => s.modSafe fun v => { v with restarting := true }).finish

/-- SAFE_HOLD is left (R349): for the mode whose conditions hold (R22), READY where no other's do, or for the beginning of the mode
it was entered from when that was SELFTEST or CONFIGURE. -/
def State.leaveHold (s : State) : State :=
  let s := s.set F.SAFE_NODE_TRIP_LATCHED 0
  let s := (s.modSafe fun v => { v with restarting := false, nodeCut := false, nodeCoilDue := false, safeOff := false }).emit (.safeOff false)
  let s := s.ev E.SAFE_RESTART 0 []
  let s := match s.sys.safeFrom with
    | .selftest => ({ s with sys := { s.sys with selftestPassed := false } }).setMode .selftest 17
    | .configure =>
      { s with sys := { s.sys with waitHost := s.on F.SYS_BOOT_CFG_HOST }, mir := { s.mir with waitAlign := false } }.setMode .configure 17
    | _ => (s.setMode (if s.on F.MIR_CFG_EN && !s.on F.MIR_STATUS_SELECTED then .mirror else .ready) 17).refreshMode
  (((s.refreshGroups).refreshChans).each s.outlets fun n s => s.refreshSafeMa n).releaseAll

/-- SAFE_RESTART_DONE (R349): the diagnostic interval has run; `fail` is its failing test. -/
def execSafeRestartDone (fail : Nat) (s : State) : Result :=
  (s.when (s.safe.restarting && s.mode == .safeHold) fun s =>
    let s := s.modSafe fun v => { v with restarting := false }
    if fail ≠ 0 then (s.diagFail fail 0).err E.SAFE_RESTART_REFUSED 0 [16 + fail]
    else match s.restartBar with
      | some c => s.err E.SAFE_RESTART_REFUSED 0 [c]
      | none => s.leaveHold).finish

/-! ### Degraded service (R350 to R352) -/

/-- DEGRADED_EXPIRED (R351). -/
def execDegradedExpired (n : Fin 4) (s : State) : Result :=
  (s.when (s.safetyRuns && s.hasOutlet n && s.degraded n && !(s.outSt n).src.testBit 6) fun s =>
    let s := s.ev E.SAFE_DEGRADED_EXPIRED 0 [n]
    if s.outlets.all fun m => s.degraded m then s.tripNode 1
    else ((s.latchSrc n 6).faultRamp n).refreshMode).finish

/-- DEGRADED_TIMER_RESET (R351). -/
def execDegradedTimerReset (n : Fin 4) (s : State) : Result :=
  (s.when (s.hasOutlet n && !s.degraded n) fun s => (s.modOut n fun o => { o with degTicks := 0 }).refreshDegStat).finish

end Sys2Proof.Machine
end

