-- ==== Sys2Proof/Machine/Gsc.lean ====
section
/-! DEFINITION. The Galesh Safe Channel (R353 to R360), and Galesh frames as the fabric delivers them (R102 to R104, R107). -/
namespace Sys2Proof.Machine

def State.conn (s : State) (c : Nat) : GscConn := mget {} s.gsc c
def State.setConn (s : State) (c : Nat) (v : GscConn) : State := { s with gsc := mput {} s.gsc c v }
/-- 0 OFF, 1 WAIT, 2 UP, 3 FAULT (Table 14.9). -/
def State.cstate (s : State) (c : Nat) : Nat := s.get (F.GSC_CSTAT_STATE.nth c)
def State.setCstate (s : State) (c k : Nat) : State := s.set (F.GSC_CSTAT_STATE.nth c) k

/-! ### Actions (R359, Table 14.6) -/

/-- The actions follow the states of the connections; with ACTION 0 the received fields of one in FAULT read 0. -/
def State.gscActions (s : State) : State :=
  let faulted := fun (s : State) (c a : Nat) => s.cstate c == 3 && s.get (F.GSC_CCFG_ACTION.nth c) == a
  let s := s.each s.outlets fun n s =>
    let s := if s.causeOn n 9 then s.when (!s.bit (F.SAFE_OUT_TRIP_ACTIVE.nth n) 8) fun s => s.tripRamp n 9 else s.clearActive n 9
    s.each (List.range 16) fun c s => s.setDegCond n (2 + c) (faulted s c 3 && s.bit (F.GSC_CCFG_MASK.nth c) n)
  let s := s.each ((List.range 16).filter fun c => faulted s c 0) fun c s =>
    s.resetFields ([F.GSC_CRX_LO_DATA, F.GSC_CRX_HI_FLAGS, F.GSC_CRX_HI_DATA].map fun f => f.nth c)
  if (List.range 16).any fun c => faulted s c 2 then s.when (!s.bit F.SAFE_NODE_TRIP_ACTIVE 2) fun s => s.tripNode 2
  else s.setBit F.SAFE_NODE_TRIP_ACTIVE 2 false

/-- A connection enters FAULT. -/
def State.gscFault (s : State) (c : Nat) : State := if s.cstate c = 3 then s else (s.setCstate c 3).gscActions

/-- EN has changed, or another field of the configuration: OFF and WAIT follow EN (R357). -/
def State.refreshGsc (s : State) : State :=
  (s.each (List.range 16) fun c s =>
    if s.on (F.GSC_CCFG_EN.nth c) then s.when (s.cstate c == 0) fun s => (s.setConn c {}).setCstate c 1
    else s.when (s.cstate c != 0) fun s => (s.setConn c {}).setCstate c 0).gscActions

/-! ### Units (R353, R354) -/

/-- The CRC of a unit under its connection identity. -/
def gscCrc (id : Nat) (bytes : List Nat) : Nat := crc32c (beBytes 4 id ++ slice bytes 0 16)

/-- STAMP now, µs modulo 2^32. -/
def State.gscStamp (s : State) : Nat := (s.fabSec * 1000000 + s.fabNsPart / 1000) % 2 ^ 32

/-- NODE of a unit (Table 14.5, R390). -/
def State.gscNode (s : State) : Nat :=
  (if s.bit F.SAFE_NODE_TRIP_ACTIVE 0 then 1 else 0) + (if s.mode = .safeHold then 2 else 0) + (if s.mode = .degraded then 4 else 0) +
    (match s.mir.handEnd with | some t => if s.since t ≤ 1000 * ticksMs then 8 else 0 | none => 0)

/-- A bit per outlet. -/
def State.outMask (s : State) (p : Nat → Bool) : Nat := s.outlets.foldl (fun m n => setBitOf m n (p n)) 0

/-- The unit connection `c` sends now. -/
def State.gscUnit (s : State) (c : Nat) : List Nat :=
  let v := s.conn c
  let safe := s.bit F.SAFE_NODE_TRIP_ACTIVE 0 || (s.on (F.GSC_CCFG_FWD_SAFE.nth c) && s.mode == .safeHold)
  let b := [1, s.get (F.GSC_CCFG_TAG.nth c), (if safe then 1 else 0) + (if v.restart then 2 else 0), 0] ++ beBytes 2 v.next ++ beBytes 4 s.gscStamp ++
    [s.gscNode, s.outMask (fun n => s.ostate n == .fault) + 16 * s.outMask (fun n => s.fbClosed (mainPos n) && s.fbClosed (mainNeg n)),
     s.outMask (fun n => s.degraded n), 0, 0, 0]
  b ++ beBytes 4 (gscCrc (s.get (F.GSC_CID_ID.nth c)) b)

/-- GSC_TX (R355, R360). -/
def execGscTx (c : Fin 16) (s : State) : Result :=
  (s.when (s.on (F.GSC_CCFG_EN.nth c) && s.cstate c != 0 && s.mode != .mirror) fun s =>
    let u := s.gscUnit c
    let v := s.conn c
    let s := (s.setConn c { v with next := (v.next + 1) % 65536 }).set (F.GSC_CSEQ_TX.nth c) v.next
    if s.on (F.GSC_CCFG_HOST.nth c) then
      let s := s.each (List.range 5) fun i s => s.set (F.GSC_HOST_TX_PDU.nth i) (ofBe (slice u (4 * i) 4))
      ((s.setB F.GSC_HOST_TX_STAT_VALID true).set F.GSC_HOST_TX_STAT_CONN c).setBit (hEvtRaw 0x29) 0 true
    else s.galeshSend 0x40 (s.get (F.GSC_CPEER_ADDRESS.nth c)) u).finish

/-- A unit fails a check: counted, and FAULT at the end of a run of ERR_LIM (R356). -/
def State.gscBad (s : State) (c : Nat) : State :=
  let s := (s.incSat (F.GSC_CSTAT_ERRORS.nth c)).incSat (F.GSC_CSTAT_RUN.nth c)
  s.when (decide (s.get (F.GSC_CCFG_ERR_LIM.nth c) ≤ s.get (F.GSC_CSTAT_RUN.nth c)) && s.cstate c != 3) fun s =>
    (s.ev E.GSC_ERR_LIMIT 0 [c]).gscFault c

/-- A unit is accepted (R356, R357). -/
def State.gscAccept (s : State) (c : Nat) (p : List Nat) (seq age : Nat) : State :=
  let v := s.conn c
  let st := s.cstate c
  let safe := (p.getD 2 0).testBit 0
  let s := s.setConn c { v with restart := if st = 3 then v.restart else false, rxTick := s.ticks, safeTick := if safe then some s.ticks else v.safeTick }
  let s := ((s.set (F.GSC_CSEQ_RX.nth c) seq).set (F.GSC_CAGE_US.nth c) age).set (F.GSC_CSTAT_RUN.nth c) 0
  let s := s.when (!(st == 3 && s.get (F.GSC_CCFG_ACTION.nth c) == 0)) fun s =>
    ((s.set (F.GSC_CRX_LO_DATA.nth c) (ofBe (slice p 10 4))).set (F.GSC_CRX_HI_FLAGS.nth c) (p.getD 2 0)).set (F.GSC_CRX_HI_DATA.nth c) (p.getD 14 0)
  let s := s.when (st == 1) fun s => (((s.setCstate c 2).ev E.GSC_CONN_UP 0 [c])).gscActions
  s.when (safe && st != 3) fun s => (s.ev E.GSC_REMOTE_SAFE 0 [c]).gscFault c

/-- Steps 2 to 4 of R356 on connection `c`. -/
def State.gscCheck (s : State) (c : Nat) (p : List Nat) : State :=
  let seq := ofBe (slice p 4 2)
  let last := s.get (F.GSC_CSEQ_RX.nth c)
  let gap := (seq + 65536 - last) % 65536
  let inGap := decide (1 ≤ gap) && decide (gap ≤ s.get (F.GSC_CCFG_MAX_GAP.nth c))
  let restart := (p.getD 2 0).testBit 1
  let age := (s.gscStamp + 2 ^ 32 - ofBe (slice p 6 4)) % 2 ^ 32
  if gscCrc (s.get (F.GSC_CID_ID.nth c)) p ≠ ofBe (slice p 16 4) then (s.ev E.GSC_CRC_ERROR 0 [c]).gscBad c
  else if restart ∧ s.cstate c = 2 then (s.gscBad c).gscFault c
  else if !(inGap || (restart && s.cstate c == 1)) then (s.ev E.GSC_SEQ_ERROR 0 [c, seq]).gscBad c
  else if s.on (F.GSC_CCFG_AGE_EN.nth c) ∧ (s.get (F.GSC_CTIME_AGE_MS.nth c) * 1000 < age ∨ !s.on F.TIME_SYNC_STATE_SYNC_OK) then
    (s.ev E.GSC_AGE_ERROR 0 [c, age]).gscBad c
  else s.gscAccept c p seq age

/-- A unit arrives from the fabric (R356 step 1). -/
def State.gscRx (s : State) (src : Nat) (p : List Nat) : State :=
  if p.length ≠ 20 ∨ p.getD 0 0 ≠ 1 then s
  else match (List.range 16).find? fun c => s.cstate c != 0 && !s.on (F.GSC_CCFG_HOST.nth c) && s.get (F.GSC_CPEER_ADDRESS.nth c) == src &&
      s.get (F.GSC_CCFG_TAG.nth c) == p.getD 1 0 with
    | some c => s.gscCheck c p
    | none => s

/-- GSC_RX (R40, R356). -/
def execGscRx (src : Nat) (pdu : List Nat) (s : State) : Result := (s.when s.galeshIn fun s => s.gscRx src pdu).finish

/-- A unit has been accepted in the present millisecond (R357). -/
def State.gscFresh (s : State) (c : Nat) : Bool := (s.conn c).rxTick / ticksMs == s.ticks / ticksMs

/-- GSC_WATCHDOG (R357, SF9). -/
def execGscWatchdog (c : Fin 16) (s : State) : Result :=
  (s.when (s.cstate c == 2 && s.mode != .mirror && !s.gscFresh c) fun s => (s.ev E.GSC_TIMEOUT 0 [c, s.since (s.conn c).rxTick / ticksMs]).gscFault c).finish

/-- GSC_ACK (R358): FAULT to WAIT once no unit with SAFE_REQ has come for 100 ms; SF9 clears with its last cause. -/
def execGscAck (c : Fin 16) (value : Word) (s : State) : Result :=
  (s.hostWrites 0x29 (0x114 + 64 * c) fun s =>
    let quiet := match (s.conn c).safeTick with | some t => decide (100 * ticksMs ≤ s.since t) | none => true
    s.when (value.toNat.testBit 0 && s.cstate c == 3 && quiet) fun s =>
      let s := ((s.setConn c { s.conn c with restart := true }).setCstate c 1).ev E.GSC_ACKED 0 [c]
      (s.gscActions).each s.outlets fun n s =>
        s.when (s.bit (F.SAFE_OUT_TRIP_LATCHED.nth n) 8 && !s.causeOn n 9) fun s => (s.unlatchFn n 9).leaveFault n).finish

/-- GSC_HOST_RX_GO (R360): only TAG and the connection number are checked in step 1. -/
def execGscHostRxGo (value : Word) (s : State) : Result :=
  (s.hostWrites 0x29 0x074 fun s =>
    let c := value.toNat % 16
    let p := (List.range 5).flatMap fun i => beBytes 4 (s.get (F.GSC_HOST_RX_PDU.nth i))
    s.when (value.toNat.testBit 31 && s.cstate c != 0 && s.on (F.GSC_CCFG_HOST.nth c) && s.get (F.GSC_CCFG_TAG.nth c) == p.getD 1 0) fun s =>
      s.gscCheck c p).finish

/-! ### The configuration CRC (R473) -/

/-- SAFE.CFG_CRC over the SAFE and GSC configuration; registers of absent outlets count 0. -/
def State.cfgCrc (s : State) : Nat :=
  let w := fun (off : Nat) => leBytes 4 (s.regWord 0x28 off)
  let out := fun (n off : Nat) => if s.hasOutlet n then w off else [0, 0, 0, 0]
  crc32 (((List.range 8).flatMap fun k => w (0x040 + 4 * k)) ++ w 0x068 ++ w 0x070 ++ w 0x074 ++
    ((List.range 4).flatMap fun n => out n (0x104 + 16 * n) ++ out n (0x108 + 16 * n)) ++
    (List.range 16).flatMap fun c => (List.range 4).flatMap fun i => leBytes 4 (s.regWord 0x29 (0x100 + 64 * c + 4 * i)))

def State.refreshCfgCrc (s : State) : State := s.set F.SAFE_CFG_CRC_CRC s.cfgCrc

/-- GSC_CTIME_WRITE (R355, R50). -/
def execGscCtimeWrite (c : Fin 16) (value : Word) (s : State) : Result :=
  let v := value.toNat
  let off := 0x10C + 64 * c.val
  (s.hostWrites 0x29 off fun s =>
    s.guarded false 0x29 off none (fun s => s.err E.GSC_BAD_TIMING 0 [c]) fun s =>
      if bits v 31 16 < 2 * bits v 15 8 + 2 then none
      else some ((((s.set (F.GSC_CTIME_WD_MS.nth c) (bits v 31 16)).set (F.GSC_CTIME_PERIOD_MS.nth c) (bits v 15 8)).set
        (F.GSC_CTIME_AGE_MS.nth c) (bits v 7 0)).refreshCfgCrc)).finish

/-! ### Received Galesh frames (R102 to R104, R107) -/

/-- A frame addressed to this controller is consumed: its message is carried out; one of an unknown type is dropped (R103). -/
def State.galeshConsume (s : State) (port : Nat) (frame : List Nat) : State :=
  let msg := frame.getD 1 0
  let src := ofBe (slice frame 6 2)
  let p := slice frame 12 (ofBe (slice frame 8 2))
  let rx := fun (s : State) => s.inc F.FAB_RX_FRAMES_COUNT
  match msg with
  | 0x10 => (rx s).leaseRx port src p
  | 0x11 => (rx s).demandRx src p
  | 0x31 => (rx s).prepareRx p
  | 0x32 => (rx s).voteRx p
  | 0x33 => (rx s).decideRx p
  | 0x34 => (rx s).outcomeRx p
  | 0x35 => (rx s).queryRx p
  | 0x40 => (rx s).gscRx src p
  | _ => s.inc F.FAB_DROP_FORMAT_COUNT

/-- The frame with HOPS one lower. -/
def lowerHops (frame : List Nat) : List Nat := frame.take 3 ++ [frame.getD 3 0 - 1] ++ frame.drop 4

/-- A Galesh frame received on a port goes through the steps of R104. -/
def State.galeshRx (s : State) (port : Nat) (frame : List Nat) : State :=
  let msg := frame.getD 1 0
  let hops := frame.getD 3 0
  let dst := ofBe (slice frame 4 2)
  let src := ofBe (slice frame 6 2)
  let own := s.internalPort
  if frame.length < 12 ∨ frame.getD 0 0 ≠ 1 ∨ frame.length < 12 + ofBe (slice frame 8 2) then
    (s.inc F.FAB_DROP_FORMAT_COUNT).ev E.FAB_BAD_FRAME 0 [port, msg]
  else
    let conflict := own && s.hostsAddr src
    let s := s.when conflict fun s => s.ev E.TREE_ADDRESS_CONFLICT 0 [src, port]
    if (frame.getD 2 0).testBit 0 then
      let s := s.when (own && !conflict && src == s.get F.TREE_PARENT_ADDRESS) fun s => s.galeshConsume port frame
      s.when (s.on F.FAB_ROUTE_CFG_BCAST_FWD && decide (1 < hops)) fun s => s.galeshOut (1 - port) (lowerHops frame)
    else if own && s.hostsAddr dst then s.when (!conflict) fun s => s.galeshConsume port frame
    else if hops ≤ 1 then (s.inc F.FAB_DROP_HOP_COUNT).ev E.FAB_HOP_LIMIT 0 [dst, src]
    else s.forwardFrame port (lowerHops frame)

/-- GALESH_FRAME_RX (R102, R104, R107): a frame after its EtherType, from its header on. -/
def execGaleshFrameRx (port : Fin 2) (frame : List Nat) (s : State) : Result :=
  (s.when (s.get F.FAB_ETYPE_ETYPE != 0 && s.fabEnabled port && s.fabLink port) fun s => s.galeshRx port frame).finish

end Sys2Proof.Machine
end

