-- ==== Sys2Proof/Machine/Mirror.lean ====
section
/-! DEFINITION. Redundant pairs (chapter 15): heartbeats and FAIL_N, the mirror lane and the image, and the switchover. -/
namespace Sys2Proof.Machine

def State.modMir (s : State) (f : MirState → MirState) : State := { s with mir := f s.mir }

/-- The unit is a pair member, and the selected one. -/
def State.paired (s : State) : Bool := s.on F.MIR_CFG_EN
def State.selected (s : State) : Bool := s.on F.MIR_STATUS_SELECTED

/-- The role in events: 1 selected, 0 standby. -/
def State.role (s : State) : Nat := s.get F.MIR_STATUS_SELECTED

/-! ### Heartbeats and FAIL_N (R376, R377, R392, R398) -/

/-- PARTNER_HB_LOST (R376, R392, R398). -/
def execPartnerHbLost (s : State) : Result :=
  (s.when s.paired fun s =>
    (((s.setB F.MIR_STATUS_PARTNER_HB_OK false).when s.selected fun s => s.setB F.MIR_STATUS_PARTNER_ABSENT true)).ev
      E.MIR_PARTNER_HB_LOST 0 [s.role]).finish

/-- The partner is present again once its heartbeat is good and the lane aligned. -/
def State.partnerBack (s : State) : State :=
  s.when (s.on F.MIR_STATUS_PARTNER_HB_OK && s.on F.MIR_STATUS_ALIGNED) fun s => s.setB F.MIR_STATUS_PARTNER_ABSENT false

/-- PARTNER_HB_OK (R376). -/
def execPartnerHbOk (s : State) : Result :=
  (s.when s.paired fun s => ((s.setB F.MIR_STATUS_PARTNER_HB_OK true).partnerBack).ev E.MIR_PARTNER_HB_OK 0 []).finish

/-- MIR_FAIL (R377): FAIL_N follows at the end of the command. -/
def execMirFail (s : State) : Result := (s.hostWrites 0x2A 0x008 fun s => s.modMir fun m => { m with failAsked := true }).finish

/-- MIR_UNFAIL (R377). -/
def execMirUnfail (s : State) : Result := (s.hostWrites 0x2A 0x008 fun s => s.modMir fun m => { m with failAsked := false }).finish

/-! ### What the Mirror carries (Table 15.3) -/

/-- Registers of mirrored pages that each unit fills itself: measurements, fast-loop values, inputs, the vehicle levels it judges
(R229), its own clock rate and its own CFG_CRC. -/
def ownValues : List Field :=
  [F.OUTLET_VC_MV_MV, F.OUTLET_IC_MA_MA, F.OUTLET_P_W_W, F.OUTLET_VRAMP_MV, F.OUTLET_ITGT_MA_MA, F.OUTLET_IHI_MA_MA,
   F.OUTLET_REF_MA_MA, F.GROUP_PH_REF_DAC, F.GROUP_PH_REF_ON_TICKS, F.GROUP_VOUT_MV, F.LINK_MEAS_A_HIGH, F.LINK_MEAS_A_LOW,
   F.LINK_MEAS_B_MV, F.LINK_STATUS_LEVEL_A, F.LINK_STATUS_LEVEL_B, F.LINK_STATUS_COMBINED, F.SAFE_SIN_STAT_FAULT, F.SAFE_SIN_STAT_DEMAND, F.SAFE_FB_LO_CLOSED, F.SAFE_FB_HI_CLOSED,
   F.SAFE_CFG_CRC_CRC, F.SAFE_OUT_IMD_OK, F.SAFE_OUT_IMD_FREQ, F.SAFE_OUT_IMD_DUTY, F.TIME_INCR_NS_NS, F.TIME_INCR_FRAC_FRAC]

/-- Page kinds whose status is part of the image. -/
def statusPages : List Nat := [0x07, 0x08, 0x09, 0x0A, 0x0E, 0x1C, 0x1D, 0x21, 0x28, 0x29]

/-- `f` is an instance of the field `o` of a page kind. -/
def fieldIs (o f : Field) : Bool :=
  pageKind f.page == o.page && o.lo == f.lo &&
  (if o.stride = 0 then f.off == o.off else decide (o.off ≤ f.off) && (f.off - o.off) % o.stride == 0 && decide ((f.off - o.off) / o.stride < o.count))

/-- A field the Mirror carries. -/
def mirroredField (f : Field) : Bool :=
  mirroredPlace f.page f.off && !(ownValues.any fun o => fieldIs o f) &&
  (match f.acc with
   | .rw | .rwp | .rwt | .rwpW1c => true
   | .ro | .w1c => dieOf f.page == .control && statusPages.contains (pageKind f.page)
   | _ => false)

/-- The field a key names. -/
def fieldOfKey (k : Nat) : Option Field :=
  let a := k / 32
  if a % 0x1000 = 0x014 then (if k % 32 = 0 ∧ a / 0x1000 < 0x47 then some (hEvtEn (a / 0x1000)) else none)
  else (fieldsAt (a / 0x1000) (a % 0x1000)).find? fun f => f.lo == k % 32

def mirroredKey (k : Nat) : Bool := match fieldOfKey k with | some f => mirroredField f | none => false

/-- A byte of tables 9 to 11, or of table 8 but for the state of the fast loop slots. -/
def mirroredByte (k : Nat) : Bool :=
  let t := k / 0x1000000
  let b := k % 0x1000000
  t == 9 || t == 10 || t == 11 || (t == 8 && (decide (1024 ≤ b) || decide (b % 64 < 44)))

/-- The number by which a record falls into a slice of the image. -/
def mirIdx : MirRec → Nat
  | .field k _ => k
  | .byte k _ => k
  | .outlet n _ => 1 + n
  | .group g _ => 5 + g
  | .cool n _ => 17 + n
  | .slot k _ => 21 + k
  | .link n _ => 37 + n
  | .ctx n _ => 41 + n
  | .gsc c _ => 45 + c
  | .safety _ => 61
  | .sent _ => 62
  | .tree _ => 63
  | .vde _ => 64
  | _ => 0

/-- The mode to restore: the one VAULT was entered from, while it lasts. -/
def State.imageOf (s : State) : List MirRec :=
  let m := if s.mode = .vault then s.sys.vaultFrom else s.mode
  let rows : List (List MirRec) :=
    [[.mode m.code s.sys.safeFrom.code, .safety s.safe, .sent s.sent, .tree s.tree, .vde { s.vde with keys := [] }],
     (List.range 4).map (fun n => .outlet n { s.outSt n with vrampUv := 0, ihiUa := 0, refUa := 0 }),
     (List.range 12).map (fun g => .group g (s.grp g)),
     (List.range 4).map (fun n => .cool n (mget {} s.cool n)),
     (List.range 16).map (fun k => .slot k (s.slot k)),
     (List.range 4).map (fun n => .link n (mget {} s.links n)),
     (List.range 4).map (fun n => .ctx n (s.ctx n)),
     (List.range 16).map (fun c => .gsc c (mget {} s.gsc c)),
     (s.regs.filter fun e => mirroredKey e.1).map (fun e => .field e.1 e.2),
     (s.mem.filter fun e => mirroredByte e.1).map (fun e => .byte e.1 e.2.toNat)]
  rows.flatten

/-- Records that differ from the last image, and defaults for what the image holds no longer. -/
def imageDelta (last now : List MirRec) : List MirRec :=
  (last.filterMap fun r => match r with
    | .field k _ => if now.any (fun x => match x with | .field k' _ => k' == k | _ => false) then none
        else (fieldOfKey k).map fun f => .field k f.reset
    | .byte k _ => if now.any (fun x => match x with | .byte k' _ => k' == k | _ => false) then none else some (.byte k 0)
    | _ => none) ++ now.filter fun r => !last.contains r

/-! ### The lane (R382 to R386) -/

/-- What the units exchange at alignment differs: the item, 1 variant, 2 to 4 the stepping letters of the control, metrology
and smart-power die, 5 CFG_CRC, 6 the configuration, with the own and the partner's value. -/
def State.laneMismatch (s : State) (variant ctl met pwr crc : Nat) (same : Bool) : Option (Nat × Nat × Nat) :=
  let v := s.get F.SYS_DEVICE_VARIANT
  if v ≠ variant then some (1, v, variant)
  else if s.get F.SYS_DEVICE_CTL_STEP / 16 ≠ ctl / 16 then some (2, s.get F.SYS_DEVICE_CTL_STEP, ctl)
  else if s.get F.SYS_DEVICE_MET_STEP / 16 ≠ met / 16 then some (3, s.get F.SYS_DEVICE_MET_STEP, met)
  else if s.get F.SYS_DEVICE_PWR_STEP / 16 ≠ pwr / 16 then some (4, s.get F.SYS_DEVICE_PWR_STEP, pwr)
  else if s.get F.SAFE_CFG_CRC_CRC ≠ crc then some (5, s.get F.SAFE_CFG_CRC_CRC, crc)
  else if !same then some (6, 0, 1)
  else none

/-- MIRROR_ALIGNED (R382): a deselected unit whose configuration waits for it enters MIRROR. -/
def execMirrorAligned (variant ctlStep metStep pwrStep : Nat) (cfgCrc : Word) (configSame : Bool) (s : State) : Result :=
  (s.when (s.paired && s.hostOpen) fun s =>
    let s := ((s.setB F.MIR_STATUS_ALIGNED true).setB F.MIR_STATUS_LANE_UP true).ev E.MIR_ALIGNED 0 []
    let s := ((s.set F.MIR_PARTNER_VARIANT variant).set F.MIR_PARTNER_CTL_STEP ctlStep).partnerBack
    match s.laneMismatch variant ctlStep metStep pwrStep cfgCrc.toNat configSame with
    | some (item, own, theirs) =>
      (s.modMir fun m => { m with matched := false }).when (!s.selected) fun s => s.ev E.MIR_CONFIG_MISMATCH 0 [item, own, theirs]
    | none =>
      let s := s.modMir fun m => { m with matched := true, goodRun := 0, last := [] }
      s.when (s.mode == .configure && s.mir.waitAlign && !s.selected) fun s =>
        (s.modMir fun m => { m with waitAlign := false }).setMode .mirror 7).finish

/-- The selected unit runs unprotected while the lane is down or the partner's heartbeat is not good (R40, R398). -/
def State.showAbsent (s : State) : State :=
  s.setB F.MIR_STATUS_PARTNER_ABSENT (!(s.on F.MIR_STATUS_ALIGNED && s.on F.MIR_STATUS_PARTNER_HB_OK))

/-- IMAGE_VALID falls. -/
def State.imageLost (s : State) : State := (s.setB F.MIR_STATUS_IMAGE_VALID false).modMir fun m => { m with goodRun := 0 }

/-- MIRROR_LANE_LOST (R383, R398): no frame can go any more, and what waited for one goes (log entry 108). -/
def execMirrorLaneLost (s : State) : Result :=
  (s.when (s.paired && s.on F.MIR_STATUS_ALIGNED) fun s =>
    let s := (((s.setB F.MIR_STATUS_ALIGNED false).setB F.MIR_STATUS_LANE_UP false).imageLost).modMir fun m => { m with matched := false }
    ((s.when s.selected fun s => s.setB F.MIR_STATUS_PARTNER_ABSENT true).ev E.MIR_LANE_LOST 0 [s.role]).releaseMirror).finish

/-- MIRROR_FRAME_TX (R383, R384): the selected unit sends its changes and one slice of the image, and then what has waited for
the frame. After a failure of this unit alone the frames carry none of its reaction (R378). -/
def execMirrorFrameTx (s : State) : Result :=
  (s.when (s.paired && s.selected && s.on F.MIR_STATUS_ALIGNED && s.hostOpen && s.mode != .mirror) fun s =>
    let s := s.inc F.MIR_SEQ_TX_SEQ
    let seq := s.get F.MIR_SEQ_TX_SEQ
    (if s.ownFail then s.emit (.mirror ⟨seq, s.ticks, [], true⟩)
    else
      let img := s.imageOf
      let j := s.mir.sliceNo
      let recs := imageDelta s.mir.last img ++ (.slice j :: img.filter fun r => mirIdx r % 100 == j) ++ s.mir.reqs.map fun r => .req r.1 r.2
      (s.modMir fun m => { m with last := img, sliceNo := (j + 1) % 100, reqs := [] }).emit (.mirror ⟨seq, s.ticks, recs, true⟩)).releaseMirror).finish

/-- A tick of the sender on the own count. -/
def rebase (own theirs t : Nat) : Nat := t + own - theirs

/-- One record of a frame whose sender counted `th` ticks. -/
def State.applyMirRec (s : State) (th : Nat) (r : MirRec) : State :=
  let rb := rebase s.ticks th
  match r with
  | .slice j => { s with
      regs := s.regs.filter fun e => !(e.1 % 100 == j && mirroredKey e.1)
      mem := s.mem.filter fun e => !(e.1 % 100 == j && mirroredByte e.1) }
  | .req kind data => s.d2dSend kind data
  | .field k v => match fieldOfKey k with
    | some f => s.when (mirroredField f) fun s => s.set f v
    | none => s
  | .byte k v => s.when (mirroredByte k) fun s => s.wrByte k v
  | .mode c f => { s with mir := { s.mir with imageMode := Mode.ofCode c }, sys := { s.sys with safeFrom := Mode.ofCode f } }
  | .outlet n v =>
    let o := s.outSt n
    s.setOut n { v with vrampUv := o.vrampUv, ihiUa := o.ihiUa, refUa := o.refUa, since := rb v.since, degSince := rb v.degSince }
  | .group g v => s.setGrp g v
  | .cool n v => { s with cool := mput {} s.cool n v }
  | .safety v => s.modSafe fun o => { o with
      nodeCut := v.nodeCut, nodeCoilDue := v.nodeCoilDue, safeOff := v.safeOff, travelled := v.travelled, weldedSince := v.weldedSince }
  | .slot k v => s.setSlot k v
  | .sent v => { s with sent := v }
  | .tree v => { s with tree := { v with
      expiry := v.expiry.map rb, epochTick := rb v.epochTick,
      children := v.children.map fun e => (e.1, { e.2 with leaseTick := e.2.leaseTick.map rb }) } }
  | .link n v =>
    let o := s.link n
    { s with links := mput {} s.links n { v with accA := o.accA, accB := o.accB, gapA := o.gapA, gapB := o.gapB, plugTick := rb v.plugTick, lostTick := rb v.lostTick } }
  | .ctx n v => s.setCtx n { v with reqTick := rb v.reqTick, checkTick := rb v.checkTick }
  | .vde v => { s with vde := { v with keys := s.vde.keys } }
  | .gsc c v => { s with gsc := mput {} s.gsc c { v with rxTick := rb v.rxTick, safeTick := v.safeTick.map rb } }

/-- The parallel outputs follow the commands the frame brought (R374, R417). -/
def State.parallelFollow (s old : State) : State :=
  let s := s.each ((List.range 60).filter fun i => s.coilOn i != old.coilOn i && !s.coilsCut) fun i s => s.emit (.coil i (s.coilOn i))
  s.refreshChans

/-- An outlet whose coils the standby has commanded off for a trip of its own keeps them off. -/
def State.keepCoils (s old : State) (n : Nat) : State :=
  s.each ([mainPos n, mainNeg n, prechargeCoil n].filter fun i => s.coilOn i && !old.coilOn i) fun i s =>
    if i < 32 then s.setBit F.SAFE_COIL_CMD_LO_CMD i false else s.setBit F.SAFE_COIL_CMD_HI_CMD (i - 32) false

/-- A frame undoes none of the standby's own trips (R18, R334): until the selected unit shows a function latched, the latch, the
state of the outlet, its gate cut and its coils stand. -/
def State.keepTrips (s old : State) : State :=
  s.each s.outlets fun n s =>
    let lat := F.SAFE_OUT_TRIP_LATCHED.nth n
    let act := F.SAFE_OUT_TRIP_ACTIVE.nth n
    let m := (mget 0 s.mir.ownTrips n).land (2 ^ 11 - 1 - s.get lat)
    let s := s.modMir fun v => { v with ownTrips := mput 0 v.ownTrips n m }
    s.when (m != 0) fun s =>
      let o := old.outSt n
      let s := (s.set lat ((s.get lat).lor m)).set act ((s.get act).lor (m.land (old.get act)))
      let s := s.modOut n fun v => { v with gateCut := v.gateCut || o.gateCut, reaction := if v.reaction == .none then o.reaction else v.reaction,
                                            coilDue := if v.coilDue == .none then o.coilDue else v.coilDue }
      let s := s.when (old.ostate n == .fault) fun s => s.set (F.OUTLET_STATUS_STATE.inst n) OState.fault.code
      let s := s.when (m.testBit 4) fun s => s.each ((List.range 60).filter fun i => old.welded i) fun i s => s.setWeld i true
      s.keepCoils old n

/-- A frame is missing or damaged: its error count, IMAGE_GAP with the frames lost. -/
def State.imageGap (s : State) (lost : Nat) : State := (s.imageLost).ev E.MIR_IMAGE_GAP 0 [lost]

/-- A frame arrives at the standby. -/
def State.mirrorRx (s : State) (f : MirFrame) : State :=
  if !f.crcOk then (s.incSat F.MIR_LANE_ERR_CRC).imageGap 1
  else
    let want := (s.get F.MIR_SEQ_RX_SEQ + 1) % 2 ^ 32
    let first := s.get F.MIR_SEQ_RX_SEQ == 0 && !s.on F.MIR_STATUS_IMAGE_VALID && s.mir.goodRun == 0
    let s := s.when (f.seq % 2 ^ 32 != want && !first) fun s =>
      (s.incSat F.MIR_LANE_ERR_LOST).imageGap ((f.seq + 2 ^ 32 - want) % 2 ^ 32)
    let old := s
    let s := (s.set F.MIR_SEQ_RX_SEQ f.seq).each f.recs fun r s => s.applyMirRec f.ticks r
    let s := s.keepTrips old
    let s := ((s.modMir fun m => { m with goodRun := m.goodRun + 1 }).parallelFollow old).refreshSent
    s.when (decide (100 ≤ s.mir.goodRun) && !s.on F.MIR_STATUS_IMAGE_VALID) fun s =>
      (s.setB F.MIR_STATUS_IMAGE_VALID true).ev E.MIR_IMAGE_VALID 0 []

/-- MIRROR_FRAME_RX (R383, R385, R391, R417). -/
def execMirrorFrameRx (frame : MirFrame) (s : State) : Result :=
  (s.when (s.paired && s.on F.MIR_STATUS_ALIGNED && s.mir.matched && (s.mode == .mirror || (s.mode == .handover && frame.crcOk))) fun s =>
    s.mirrorRx frame).finish

/-- A trip the standby reports acts on the selected unit as well (R334): function `k` of outlet `n`. -/
def State.partnerTrip (s : State) (n k : Nat) : State :=
  if k = 1 ∨ k = 2 ∨ k = 3 ∨ k = 10 then s.tripCut n k
  else if k = 5 ∨ k = 11 then (s.tripOut n k).setOState n .fault
  else s.tripRamp n k

/-- A status frame of the partner. -/
def State.mirrorStatus (s : State) (p : MirStatus) : State :=
  let s := (s.set F.MIR_PARTNER_MODE p.mode).setB F.MIR_STATUS_PARTNER_FAIL p.failed
  let s := s.each [0, 2] fun b s => s.when (p.node.testBit b && !s.bit F.SAFE_NODE_TRIP_ACTIVE b) fun s => s.tripNode b
  s.each s.outlets fun n s =>
    s.each (List.range 11) fun i s =>
      s.when ((p.outs.getD n 0).testBit i && !s.bit (F.SAFE_OUT_TRIP_ACTIVE.nth n) i) fun s => s.partnerTrip n (i + 1)

/-- MIRROR_STATUS_FRAME (R383, R334): the standby sends its own, the selected unit takes the partner's. -/
def execMirrorStatusFrame (received : Option MirStatus) (s : State) : Result :=
  (s.when (s.paired && s.on F.MIR_STATUS_ALIGNED) fun s =>
    match received with
    | none => s.when (s.mode == .mirror) fun s =>
        s.emit (.mirStatus ⟨s.get F.SYS_MODE_CURRENT, !s.failNow, s.get F.MIR_SEQ_RX_SEQ, s.get F.SAFE_NODE_TRIP_ACTIVE,
          (List.range 4).map fun n => (s.get (F.SAFE_OUT_TRIP_ACTIVE.nth n)).lor (mget 0 s.mir.ownTrips n)⟩)
    | some p => s.when s.selected fun s => s.mirrorStatus p).finish

/-! ### Switchover (R387 to R398) -/

/-- The selection is this unit's, or the partner's; SEL_LEVEL is the level of ARB_SEL (R373). -/
def State.setSelected (s : State) (b : Bool) : State :=
  (s.setB F.MIR_STATUS_SELECTED b).setB F.MIR_STATUS_SEL_LEVEL (b != s.on F.MIR_CFG_UNIT_B)

/-- The selection is accepted: HANDOVER begins. -/
def State.startHandover (s : State) : State :=
  (s.setMode .handover 18).ev E.MIR_HANDOVER_START 0 [s.get F.MIR_SEQ_RX_SEQ]

/-- HANDOVER_START (R387, R397): during VAULT the selection is accepted when VAULT ends; a unit that waits in CONFIGURE for
alignment goes to READY unprotected (R40); in any other mode only its exclusive outputs are enabled (R374). -/
def execHandoverStart (s : State) : Result :=
  (s.when s.paired fun s =>
    let was := s.selected
    let s := s.setSelected true
    match s.mode with
    | .mirror => s.startHandover
    | .vault => s.when (s.sys.vaultFrom == .mirror) fun s => s.modMir fun m => { m with selDue := true }
    | .configure => s.when s.mir.waitAlign fun s =>
        (((((s.modMir fun m => { m with waitAlign := false }).showAbsent).setMode .ready 6).refreshMode).refreshChans).tpoBalls true
    | _ => (s.when (!was) fun s => s.tpoBalls true).refreshPilots).finish

/-- Sentences at the end of HANDOVER (R388). -/
def State.handoverSentences (s : State) : State :=
  let code := E.MIR_HANDOVER_START.code16
  s.each (List.range 16) fun k s =>
    let x := s.slot k
    let due := x.vaultDue.isSome || (s.stopDue k && (x.mode == 2 || x.dist) && decide (x.stop ≤ s.fabNs)) ||
      (x.st == 5 && decide (x.stop + 1000 * x.delay ≤ s.fabNs))
    if x.st = 1 then s.endSlot k 7 code 0x7F
    else if x.dist && x.owner != 3 && (x.st == 2 || x.st == 3) then s.decideAbort k code
    else
      let s := s.when (x.dist && x.owner != 3 && x.st == 4 && !x.kids.isEmpty) fun s =>
        let c := s.coord x.sid
        (s.setCoord x.sid { c with copies := 1 }).galeshCast 0x33 (s.decidePayload x.sid c.decision 0)
      s.when due fun s => (s.halve k code).sendDue k

/-- The takeover without an image: every outlet not idle faulted, its coils off (R394). -/
def State.takeoverNoImage (s : State) : State :=
  let l := s.outlets.filter fun n => s.ostate n != .idle
  let s := s.each l fun n s => (s.outletCoilsOff n).setOState n .fault
  s.ev E.MIR_TAKEOVER_NO_IMAGE 0 [l.foldl (fun m n => setBitOf m n true) 0]

/-- HANDOVER ends: the mode of the image, the exclusive outputs, and what waited for it. -/
def State.endHandover (s : State) (gap hand : Nat) : State :=
  let s := if s.on F.MIR_STATUS_IMAGE_VALID then s.setMode s.mir.imageMode 19
    else let s := s.takeoverNoImage
         s.setMode s.serviceMode 19
  let s := s.ev E.MIR_HANDOVER_DONE 0 [gap, hand]
  let s := ((s.set F.MIR_LAST_GAP_US (satTo 16 gap)).set F.MIR_HANDOVER_US_US (satTo 16 hand)).inc F.MIR_SWITCHES_COUNT
  let held := s.mir.coilHeld
  let s := s.modMir fun m => { m with handEnd := some s.ticks, coilHeld := 0, last := [], sliceNo := 0, ownTrips := [] }
  let s := ((s.imageLost).handoverSentences).restartOutlets
  let s := s.each ((List.range 5).filter fun i => held.testBit i) fun i s => s.coilsNow i
  let s := (((s.releaseAll).linkCatchUp).refreshChans).refreshGroups
  let s := s.each s.outlets fun n s => s.leaveAll n
  (((((s.refreshPilots).tpoBalls true).showAbsent).refreshMode).syncSentences).replayKept

/-- HANDOVER_DONE (R387 to R390, R393, R394). -/
def execHandoverDone (gapUs handUs : Nat) (s : State) : Result :=
  (s.when (s.mode == .handover) fun s => s.endHandover gapUs handUs).finish

/-- The selection leaves this unit: its exclusive outputs are off, nothing that waited for a frame goes out any more, and it passes
to MIRROR (R387, R396). -/
def State.deselect (s : State) : State :=
  let s := ((s.tpoBalls false).setSelected false).modMir fun m => { m with held := [] }
  match s.mode with
  | .ready | .deliver | .degraded | .handover =>
    let from_ := s.get F.SYS_MODE_CURRENT
    ((((s.imageLost).modMir fun m => { m with coilHeld := 0 }).setMode .mirror 20).ev E.MIR_DESELECTED 0 [from_]).refreshPilots
  | .vault => match s.sys.vaultFrom with
    | .ready | .deliver | .degraded | .handover => { s with sys := { s.sys with vaultFrom := .mirror } }.modMir fun m => { m with selDue := false }
    | _ => s.modMir fun m => { m with selDue := false }
  | _ => (s.refreshGroups).refreshPilots

/-- DESELECTED (R374, R387, R396). -/
def execDeselected (s : State) : Result := (s.when (s.paired && s.selected) State.deselect).finish

/-- The exclusive outputs fall and come back: pulses end, the others take the level they had (R374). -/
def State.blink (s : State) : State :=
  let s := s.each ((List.range 72).filter fun p => (s.phs p).pulse) fun p s =>
    (s.modPhs p fun v => { v with pulse := false }).emit (.pwm p false false)
  let s := s.each (s.outlets.filter fun n => s.pilotLevel n != 0) fun n s => (s.emit (.pilot n 0)).emit (.pilot n (s.pilotLevel n))
  (s.tpoBalls false).tpoBalls true

/-- SEL_GLITCH (R395): the exclusive outputs of the selected unit are off for the pulse. -/
def execSelGlitch (widthNs : Nat) (s : State) : Result :=
  (s.when (s.paired && decide (widthNs < 1000)) fun s =>
    let s := (s.inc F.MIR_GLITCH_COUNT).ev E.MIR_SEL_GLITCH 0 [widthNs]
    s.when (s.selected && s.exclusive) State.blink).finish

end Sys2Proof.Machine
end

