-- ==== Sys2Proof/Machine/Passwords.lean ====
section
/-! DEFINITION. The passwords and the metrology seal (R48, R49, R361 to R365, R371). Password 0 is safety, 1 seal. -/
namespace Sys2Proof.Machine

def State.modProt (s : State) (f : ProtState → ProtState) : State := { s with prot := f s.prot }
def State.pwOf (s : State) (w : Nat) : Option (List Nat) := if w = 0 then s.prot.pwSafety else s.prot.pwSeal
def State.failsOf (s : State) (w : Nat) : Nat := if w = 0 then s.prot.failsSafety else s.prot.failsSeal
def State.lockOf (s : State) (w : Nat) : Option Nat := if w = 0 then s.prot.lockSafety else s.prot.lockSeal
def State.setFails (s : State) (w k : Nat) : State := s.modProt fun p => if w = 0 then { p with failsSafety := k } else { p with failsSeal := k }
def State.setLock (s : State) (w : Nat) (l : Option Nat) : State := s.modProt fun p => if w = 0 then { p with lockSafety := l } else { p with lockSeal := l }
/-- The password, or with 1 the seal, is open. -/
def State.openOf (s : State) (w : Nat) : Bool := if w = 0 then s.pwdOpen else s.sealOpen

/-- Seconds a lockout still lasts, rounded up. -/
def State.lockLeft (s : State) (w : Nat) : Nat :=
  match s.lockOf w with
  | none => 0
  | some t => (600000 * ticksMs - s.since t + 1000 * ticksMs - 1) / (1000 * ticksMs)

/-- LOCK_S: the longer of the two lockouts. -/
def State.refreshLock (s : State) : State := s.set F.SEAL_PWD_STAT_LOCK_S (max (s.lockLeft 0) (s.lockLeft 1))

/-- PWD_STAT shows the password last entered, and what is set. -/
def State.refreshPwd (s : State) (w : Nat) : State :=
  ((((s.set F.SEAL_PWD_STAT_FAILS (min 7 (s.failsOf w))).setB F.SEAL_PWD_STAT_SEAL_SET s.prot.pwSeal.isSome).setB F.SEAL_PWD_STAT_SAFETY_SET
    s.prot.pwSafety.isSome).setB F.SEAL_PWD_STAT_SEAL_N s.prot.sealN).refreshLock

/-- The characters in PWD_DATA. -/
def State.pwdChars (s : State) (len : Nat) : List Nat := ((List.range 8).flatMap fun i => leBytes 4 (s.get (F.SEAL_PWD_DATA_CHARS.nth i))).take len

/-- 8 to 32 characters in 0x21 to 0x7E (R361). -/
def pwdFormat (len : Nat) (cs : List Nat) : Bool := decide (8 ≤ len) && decide (len ≤ 32) && cs.all fun c => decide (0x21 ≤ c) && decide (c ≤ 0x7E)

/-- The characters are the stored password. -/
def pwdMatches (stored cs : List Nat) : Bool := sha256 (stored.take 16 ++ cs) == stored.drop 16

/-- The seal closes: recorded, and SEALED_SERVICE ends (R48, R364, Table 2.2). -/
def State.closeSeal (s : State) : State :=
  if !s.sealOpen then s else ((s.setB F.SEAL_PWD_STAT_SEAL_OPEN false).clogAppend 3 6 1 0 0).endSealed

/-- A mode in which an opening of the seal brings the conditions of SEALED_SERVICE about (Table 2.2, R22; log entry 109). -/
def Mode.sealable : Mode → Bool
  | .configure | .ready | .degraded | .safeHold => true
  | _ => false

/-- The seal opens: recorded, counted as tamper type 5; with every outlet idle the conditions of SEALED_SERVICE hold. -/
def State.openSeal (s : State) : State :=
  if s.sealOpen then s else
  let s := ((s.clogAppend 3 5 1 0 0).setB F.SEAL_PWD_STAT_SEAL_OPEN true).tamper 5
  s.when (s.mode.sealable && s.outlets.all fun n => s.ostate n == .idle) State.beginSealed

/-- Entry of password `w` (R362, R363, R365): an unset or locked password and a full log refuse it uncounted. -/
def State.pwdEnter (s : State) (w op len : Nat) : State :=
  let cs := s.pwdChars len
  if !pwdFormat len cs then s.err E.SEAL_PWD_FORMAT 0 [op, len]
  else if (s.lockOf w).isSome ∨ s.clogFree < (if w = 1 && !s.sealOpen then 2 else 1) then s.refreshPwd w
  else match s.pwOf w with
    | none => s.refreshPwd w
    | some stored =>
      if pwdMatches stored cs then
        let s := (s.setFails w 0).ev E.SEAL_PWD_ACCEPTED 0 [w]
        let s := if w = 1 then s.openSeal
          else ((s.clogAppend 3 7 0 0 0).setB F.SEAL_PWD_STAT_PWD_OPEN true).modProt fun p => { p with rwpTick := s.ticks }
        s.refreshPwd w
      else
        let n := s.failsOf w + 1
        let s := (s.setFails w n).ev E.SEAL_PWD_REFUSED 0 [w, n]
        let s := s.when (w == 1) fun s => s.tamper 6
        (s.when (decide (3 ≤ n)) fun s => (s.setLock w (some s.ticks)).ev E.SEAL_PWD_LOCKOUT 0 [w]).refreshPwd w

/-- A new password: 16 bytes of salt drawn anew, then the hash. -/
def State.pwdStore (s : State) (w : Nat) (cs : List Nat) : State :=
  let salt := leBytes 16 s.free
  let v := some (salt ++ sha256 (salt ++ cs))
  s.freeNext.modProt fun p => if w = 0 then { p with pwSafety := v } else { p with pwSeal := v }

/-- Change of password `w` (R362, R363): open, or unset. -/
def State.pwdChange (s : State) (w op len : Nat) : State :=
  let cs := s.pwdChars len
  if !pwdFormat len cs then s.err E.SEAL_PWD_FORMAT 0 [op, len]
  else if !(s.openOf w || (s.pwOf w).isNone) ∨ s.clogFree < 1 then s.refreshPwd w
  else (((s.pwdStore w cs).clogAppend 3 4 w 0 0).ev E.SEAL_PWD_CHANGED 0 [w]).refreshPwd w

/-- The level of SEAL_N is seen; its release closes the seal (R48). -/
def State.seeSealN (s : State) (on : Bool) : State :=
  let s := (s.modProt fun p => { p with sealN := on }).setB F.SEAL_PWD_STAT_SEAL_N on
  if on then s else s.closeSeal

/-- PWD_ENTER_SAFETY (R362). -/
def execPwdEnterSafety (len : Fin 64) (s : State) : Result := (s.hostWrites 0x03 0x060 fun s => s.pwdEnter 0 1 len).finish

/-- PWD_ENTER_SEAL (R362): accepted only while SEAL_N is asserted. -/
def execPwdEnterSeal (len : Fin 64) (sealN : Bool) (s : State) : Result :=
  (s.hostWrites 0x03 0x060 fun s => let s := s.seeSealN sealN; s.when sealN fun s => s.pwdEnter 1 2 len).finish

/-- The safety password closes (R363). -/
def State.closePwd (s : State) : State := s.setB F.SEAL_PWD_STAT_PWD_OPEN false

/-- PWD_CLOSE_SAFETY (R362). -/
def execPwdCloseSafety (s : State) : Result := (s.hostWrites 0x03 0x060 fun s => s.closePwd).finish

/-- PWD_CLOSE_SEAL (R362). -/
def execPwdCloseSeal (s : State) : Result := (s.hostWrites 0x03 0x060 fun s => s.closeSeal).finish

/-- PWD_CHANGE_SAFETY (R362, R363). -/
def execPwdChangeSafety (len : Fin 64) (s : State) : Result := (s.hostWrites 0x03 0x060 fun s => s.pwdChange 0 5 len).finish

/-- PWD_CHANGE_SEAL (R362, R363): needs SEAL_N. -/
def execPwdChangeSeal (len : Fin 64) (sealN : Bool) (s : State) : Result :=
  (s.hostWrites 0x03 0x060 fun s => let s := s.seeSealN sealN; s.when sealN fun s => s.pwdChange 1 6 len).finish

/-- PWD_LOCKOUT_END (R49). -/
def execPwdLockoutEnd (isSeal : Bool) (s : State) : Result := ((s.setLock (if isSeal then 1 else 0) none).refreshLock).finish

/-- PWD_IDLE_TIMEOUT (R363). -/
def execPwdIdleTimeout (s : State) : Result := (s.when s.pwdOpen State.closePwd).finish

/-- SEAL_N_RELEASE (R48). -/
def execSealNRelease (s : State) : Result := (s.seeSealN false).finish

end Sys2Proof.Machine
end

