-- ==== Sys2Proof/Machine/Servo.lean ====
section
/-! DEFINITION. The PTP port roles, the hardware servo and its states (R66 to R69, R72), and the steering of legal time
(R74, R75). -/
namespace Sys2Proof.Machine

/-- SYNC_OK changes; its fall ends Sentences at a time (R69, R99). -/
def State.setSyncOk (s : State) (ok : Bool) : State := (s.syncIs ok).syncSentences

/-- STATE after a new configuration (Table 4.1), and the Sentences a fall of SYNC_OK ends. -/
def State.refreshPtp (s : State) : State := s.ptpState.syncSentences

/-- A host write of TIME.CFG. -/
def State.timeCfgWrite (s : State) (v : Nat) : State := (s.timeCfg v).syncSentences

/-- CTRL.STEP: the clock steps to the SET registers while the host owns it (R70). -/
def State.hostStep (s : State) : State := if s.hostServo then (s.stepFab s.setTarget 1).syncSentences else s.servoOwns 0x008

/-- TIME_STEP (R70, R79). -/
def execTimeStep (s : State) : Result := (s.hostWrites 0x04 0x008 State.hostStep).finish

/-- TIME_CFG_WRITE (R66). -/
def execTimeCfgWrite (value : Word) (s : State) : Result := (s.hostWrites 0x04 0x040 fun s => s.timeCfgWrite value.toNat).finish

/-! ### The servo (R67, R68) -/

/-- 2.5 ns in units of 2^−32 ns. -/
def incrNominal : Nat := 10737418240

/-- The increment for offset `e` and accumulator `acc`, rounded toward the nominal one. -/
def servoIncr (e acc : Int) (kp ki : Nat) : Int :=
  incrNominal - divZ (incrNominal * (e * 2 ^ ki + acc * 2 ^ kp)) (1000000000 * 2 ^ (kp + ki))

/-- The hardware servo runs on a Sync result of offset `e` ns; the answer tells whether it stepped the clock. The increments in
force are kept for holdover. -/
def State.servoRun (s : State) (e : Int) : State × Bool :=
  let keep := fun (s : State) => s.modTim fun t => { t with incrs := (s.incr :: t.incrs).take 128 }
  if s.hostServo then (keep s, false)
  else if s.get F.TIME_THRESH_STEP_US * 1000 < e.natAbs then
    ((s.modTim fun t => { t with acc := 0 }).stepFab ((s.tim.fab : Int) - e * 2 ^ 32).toNat 0, true)
  else
    let acc := s.tim.acc + e
    let s := s.servoIncrSet (servoIncr e acc (s.get F.TIME_SERVO_CFG_KP_SHIFT) (s.get F.TIME_SERVO_CFG_KI_SHIFT))
    (keep (s.modTim fun t => { t with acc := acc }), false)

/-- The clock state after a result of offset `e`; `stepped` when it stepped the clock (Table 4.1). -/
def State.clockState (s : State) (e : Int) (stepped : Bool) : State :=
  let lock := decide (e.natAbs < s.get F.TIME_SERVO_CFG_LOCK_NS)
  let high := decide (s.get F.TIME_THRESH_UNLOCK_NS < e.natAbs)
  let s := s.modTim fun t => { t with
    lockRun := if lock && !stepped then t.lockRun + 1 else 0, unlockRun := if high && !stepped then t.unlockRun + 1 else 0 }
  let toLocked := fun (s : State) => (s.set F.TIME_SYNC_STATE_STATE 2).ev E.TIME_LOCKED 0 [ofSigned 32 e]
  if stepped then s
  else match s.get F.TIME_SYNC_STATE_STATE with
    | 2 => if 4 ≤ s.tim.unlockRun then s.toLocking else s
    | 3 => if e.natAbs < s.get F.TIME_THRESH_UNLOCK_NS then toLocked s else s.toLocking
    | _ => if 16 ≤ s.tim.lockRun then toLocked s else s.set F.TIME_SYNC_STATE_STATE 1

/-- SYNC_OK after a result of offset `e`; `was` tells whether it held before. A new UNLOCK_NS is judged at the next result (R69,
log entry 105). -/
def State.judgeSync (s : State) (e : Int) (was : Bool) : State :=
  let near := decide (e.natAbs ≤ s.get F.TIME_THRESH_UNLOCK_NS)
  let st := s.get F.TIME_SYNC_STATE_STATE
  ((s.when (was && !near) fun s => s.ev E.TIME_OFFSET_HIGH 0 [ofSigned 32 e]).syncIs ((st == 2 || st == 3) && near)).syncSentences

/-- A Sync result: the master's time of sending, ns, and the local stamp of its arrival, ns (R67). OFFSET_NS keeps the low 32 bits
of an offset that does not fit (log entry 105). -/
def State.syncResult (s : State) (t1 t2 : Int) : State :=
  let e := t2 - t1 - s.get F.TIME_PATH_DELAY_NS - s.getI F.TIME_ASYM_NS_NS
  let was := s.on F.TIME_SYNC_STATE_SYNC_OK
  let s := (s.modTim fun t => { t with syncT1 := t1, syncT2 := t2, lastSync := some s.ticks, pendingSync := none }).setI F.TIME_OFFSET_NS_NS e
  let (s, stepped) := s.servoRun e
  (s.clockState e stepped).judgeSync e was

/-- PTP_SYNC_RX (R66, R67): on the slave port a one-step Sync is a result, a two-step one waits for its Follow_Up; on any
other port the frame is switched. -/
def execPtpSyncRx (port : Fin 2) (f : PtpMsg) (s : State) : Result :=
  (if s.ptpAccepts port f && s.ptpRole port == 2 then
     if f.twoStep then s.modTim fun t => { t with pendingSync := some (f.seqId, s.rxStamp port, f.corr) }
     else s.syncResult ((f.ts : Int) + divZ f.corr 65536) (s.rxStamp port)
   else s.ptpForward port ptpSync f).finish

/-- PTP_FOLLOW_UP_RX (R72, R73). -/
def execPtpFollowUpRx (port : Fin 2) (f : PtpMsg) (s : State) : Result :=
  (if s.ptpAccepts port f && s.ptpRole port == 2 then
     match s.tim.pendingSync with
     | some (q, rx, c) => s.when (q == f.seqId) fun s => s.syncResult ((f.ts : Int) + divZ (c + f.corr) 65536) rx
     | none => s
   else s.ptpForward port ptpFollowUp f).finish

/-- SYNC_AGE_EXPIRY (R69): the last result has grown older than SENT_MS. -/
def execSyncAgeExpiry (s : State) : Result :=
  (match s.tim.lastSync with
   | some t =>
     s.when ((s.get F.TIME_SYNC_STATE_STATE == 2 || s.get F.TIME_SYNC_STATE_STATE == 3) && s.on F.TIME_SYNC_STATE_SYNC_OK &&
         decide (s.get F.TIME_HOLDOVER_SENT_MS * ticksMs < s.since t)) fun s =>
       (s.ev E.TIME_HOLDOVER_EXCEEDED 0 [s.since t / ticksMs]).setSyncOk false
   | none => s).finish

/-! ### Legal time (R74, R75) -/

/-- A step of legal time to `v` (2^−32 ns). -/
def State.legalStep (s : State) (v : Nat) : State :=
  let ep := (s.epoch + 1) % 65536
  let old := s.legalSec
  let new := v / secUnit
  let s := s.stepBilling new ep
  let s := (s.modTim fun t => { t with legal := v, legalSlew := 0 }).setB F.TIME_LEGAL_STAT_SLEWING false
  let s := (s.set F.TIME_LEGAL_STAT_EPOCH ep).ev E.TIME_LEGAL_STEP 0 [old, new, ep]
  (s.when (ep == 0) fun s => s.ev E.TIME_EPOCH_WRAP 0 []).tamper 7

/-- LEGAL_STEER (R74, R75). -/
def execLegalSteer (s : State) : Result :=
  (s.when (s.on F.TIME_SYNC_STATE_SYNC_OK && s.on F.TIME_LEGAL_STAT_STEER_EN && !s.sys.metLost && !s.sys.held) fun s =>
    let want : Int := (s.tim.fab : Int) - s.getI F.TIME_UTC_OFFSET_SECONDS * secUnit
    let d : Int := (s.tim.legal : Int) - want
    let s := s.setI F.TIME_LEGAL_DIFF_MS (clampI (-(2 : Int) ^ 31) (2 ^ 31 - 1) (divZ d (1000000 * 2 ^ 32)))
    if d.natAbs ≤ 10000 * 2 ^ 32 then s
    else
      let s := s.setB F.TIME_LEGAL_STAT_LEGAL_SET true
      if d.natAbs ≤ 2 * secUnit then (s.modTim fun t => { t with legalSlew := -d }).setB F.TIME_LEGAL_STAT_SLEWING true
      else s.legalStep want.toNat).finish

end Sys2Proof.Machine
end

