-- ==== Sys2Proof/Machine/Images.lean ====
section
/-! DEFINITION. Configuration images in table 15: their check, their loading and their activation (R56 to R58, Tables 3.10 to
3.12). -/
namespace Sys2Proof.Machine

/-! ### The check of an image (R57, Table 3.12) -/

def imgBase (img : Nat) : Nat := tbl 15 (img * 0x80000)
def State.activeImg (s : State) : Nat := s.get F.SYS_IMAGE_STAT_ACTIVE
def State.imgLen (s : State) (img : Nat) : Nat := s.rdLe (imgBase img + 8) 4
def State.imgFlag (s : State) (img i : Nat) : Bool := (s.rdByte (imgBase img + 7)).testBit i
def State.imgBodyCrc (s : State) (img : Nat) : Nat := s.rdLe (imgBase img + 20) 4

/-- The last register offset of a page. -/
def lastOff (page : Nat) : Nat := (kindFields page).foldl (fun m f => max m (f.off + f.stride * (f.count - 1))) 0

/-- The bits of a register an image may set. -/
def imageMask (page off : Nat) : Nat :=
  if off = 0x014 then 0xFFFFFFFF
  else maskOf page off fun a => a == .rw || a == .rws || a == .rwp || a == .rwt

/-- One word of a register run is admissible. -/
def imageWordOk (rwp rws : Bool) (page off v : Nat) : Bool :=
  let fs := fieldsAt page off
  v.land (0xFFFFFFFF - imageMask page off) == 0 && !fs.any (fun f => f.svc) &&
  (rwp || !fs.any fun f => f.acc == .rwp || f.acc == .rwpW1c) && (rws || !fs.any fun f => f.acc == .rws || f.acc == .rwsWo)

/-- The bits an image may set in byte `off` of a table: not those an entry's layout gives as zero, nor its read-only bytes (R57).
`kind` is byte 0 of a calendar entry. -/
def imageByteMask (t kind off : Nat) : Nat :=
  match t with
  | 3 => entryMask 3 kind (off % 16)
  | 5 => entryMask 5 0 (off % 32)
  | 6 => entryMask 6 0 (off % 2048)
  | 8 =>
    let i := off % 64
    if i = 0 then 0x0B else if 44 ≤ i then 0
    else if off < 1024 then (if i < 4 then 0 else 255) else if 36 ≤ i ∧ i < 40 then 0 else 255
  | 9 => if 12 ≤ off % 16 then 0 else entryMask 9 0 (off % 16)
  | 10 => if 20 ≤ off % 32 then 0 else entryMask 10 0 (off % 32)
  | 11 => entryMask 11 0 (off % 8)
  | _ => 255

/-- Byte 0 of the entry of 16 bytes that byte `off + i` lies in, from the data where they hold it, else from the table. -/
def State.entryKind (s : State) (t off i : Nat) (data : List Nat) : Nat :=
  let e := (off + i) / 16 * 16
  if e < off then s.rdByte (tbl t e) else data.getD (e - off) 0

/-- One record: kind, target, offset and its data bytes. -/
def State.imageRecOk (s : State) (rwp rws : Bool) (kind target off : Nat) (data : List Nat) : Bool :=
  let n := data.length / 4
  match kind with
  | 1 =>
    decide (target < 0x47) && s.hasPage target && off % 4 == 0 &&
    (((off == 0x008 || off == 0x014) && n == 1) || (decide (0x040 ≤ off) && decide (off + 4 * (n - 1) ≤ lastOff target))) &&
    (List.range n).all fun i => imageWordOk rwp rws target (off + 4 * i) (ofLe (slice data (4 * i) 4))
  | 2 =>
    [3, 5, 6, 7, 8, 9, 10, 11].contains target && off % 4 == 0 && decide (off + 4 * n ≤ tableSize target) &&
    (rwp || target != 6) && (rws || target != 3) &&
    (List.range (4 * n)).all fun i =>
      (data.getD i 0).land (255 - imageByteMask target (s.entryKind target off i data) (off + i)) == 0
  | _ => false

/-- A record taken off the body: kind, target, offset, data and the rest; none when it does not fit. -/
def imageRec (body : List Nat) : Option (Nat × Nat × Nat × List Nat × List Nat) :=
  let n := ofLe (slice body 2 2)
  if body.length < 8 ∨ n = 0 ∨ 16384 < n ∨ body.length < 8 + 4 * n then none
  else some (body.getD 0 0, body.getD 1 0, ofLe (slice body 4 4), (body.drop 8).take (4 * n), body.drop (8 + 4 * n))

/-- The index of the first record that fails; `n` records are announced. -/
def State.imageBadRec (s : State) (rwp rws : Bool) (n : Nat) : Nat → Nat → List Nat → Option Nat
  | _, i, [] => if i = n then none else some i
  | 0, i, _ => some i
  | fuel + 1, i, body =>
    match imageRec body with
    | none => some i
    | some (k, t, o, d, rest) => if i < n && s.imageRecOk rwp rws k t o d then s.imageBadRec rwp rws n fuel (i + 1) rest else some i

/-- A block of the image within its first `len` bytes cannot be read (R456). -/
def State.imgHurt (s : State) (img len : Nat) : Bool :=
  s.life.imgBad.any fun b => decide ((0x200000 + img * 0x80000) / 256 ≤ b) && decide (b * 256 < 0x200000 + img * 0x80000 + len)

def State.imgBody (s : State) (img : Nat) : List Nat := s.rdBytes (imgBase img + 64) (s.imgLen img - 64)

/-! ### Loading (R57) -/

/-- A register whose write does more than store, or that refuses a value, as the loader writes it (log entry 98): the increment
and the time registers without the servo's claim on them, and the time-triggered outputs without arming, which follows the load. -/
def State.loadOwn (s : State) (page off v : Nat) : Option State :=
  match pageKind page with
  | 0x04 => match off with
    | 0x058 => some (s.setIncr (v % 16 * 2 ^ 32 + s.get F.TIME_INCR_FRAC_FRAC))
    | 0x05C => some (s.setIncr (s.get F.TIME_INCR_NS_NS * 2 ^ 32 + v))
    | 0x060 | 0x064 | 0x068 => none
    | _ => s.ownReg page off 0xFFFFFFFF v
  | 0x05 => none
  | 0x29 =>
    if 0x100 ≤ off ∧ off < 0x500 ∧ off % 64 = 0x0C ∧ bits v 31 16 < 2 * bits v 15 8 + 2 then
      some (s.err E.GSC_BAD_TIMING 0 [(off - 0x100) / 64])
    else none
  | 0x41 =>
    if 0x040 ≤ off ∧ off < 0x140 ∧ off % 32 = 8 ∧ (bits v 31 16 = 0 ∨ bits v 15 0 = 0) then
      some (s.err E.PULSE_BAD_CFG 0 [(off - 0x040) / 32, off])
    else none
  | _ => s.ownReg page off 0xFFFFFFFF v

/-- The loader writes a register: RWT, RWS and RWP fields directly; the rest follows when the whole image is in. -/
def State.loadReg (s : State) (page off v : Nat) : State :=
  if off = 0x014 then s.set (hEvtEn page) v
  else match s.loadOwn page off v with
    | some s' => s'
    | none => s.setWord page off 0xFFFFFFFF v fun a => a == .rw || a == .rws || a == .rwp || a == .rwt

/-- The data of a table run without the bits that entries give as zero and the bytes the device fills. -/
def maskedRun (t kind off : Nat) : List Nat → List Nat
  | [] => []
  | b :: l => b.land (imageByteMask t kind off) :: maskedRun t kind (off + 1) l

/-- A run in a table whose entries are plain bytes: the phase table keeps what the device fills in (R157), and takes nothing of
phases the variant lacks (R3). -/
def State.loadBytes (s : State) (t off : Nat) (data : List Nat) : State :=
  match t with
  | 9 => s.each (List.range data.length) fun i s =>
      s.when ((off + i) % 16 < 12 && (s.is7680 || decide (off + i < 576))) fun s => s.wrByte (tbl 9 (off + i)) ((data.getD i 0).land (imageByteMask 9 0 (off + i)))
  | 10 => s.each (List.range data.length) fun i s =>
      s.when ((off + i) % 32 < 20) fun s => s.wrByte (tbl 10 (off + i)) ((data.getD i 0).land (imageByteMask 10 0 (off + i)))
  | 11 => s.wrBytes (tbl 11 off) (maskedRun 11 0 off data)
  | _ => s.wrBytes (tbl t off) data

/-- One record of an image is applied; tables 3, 5 and 6 at the first load only. Table 8 takes its words as host writes. -/
def State.loadRec (s : State) (fresh : Bool) (kind target off : Nat) (data : List Nat) : State :=
  if kind = 1 then
    s.each (List.range (data.length / 4)) fun i s => s.loadReg target (off + 4 * i) (ofLe (slice data (4 * i) 4))
  else if !fresh && (target == 3 || target == 5 || target == 6) then s
  else if target = 8 then
    s.each (List.range (data.length / 4)) fun i s => s.slotWrite ((off + 4 * i) / 64) ((off + 4 * i) % 64 / 4) (ofLe (slice data (4 * i) 4))
  else s.loadBytes target off data

def State.loadRecs (s : State) (fresh : Bool) : Nat → List Nat → State
  | 0, _ => s
  | fuel + 1, body =>
    match imageRec body with
    | none => s
    | some (k, t, o, d, rest) => (s.loadRec fresh k t o d).loadRecs fresh fuel rest

def State.imgNRec (s : State) (img : Nat) : Nat := s.rdLe (imgBase img + 16) 4

def State.loadImage (s : State) (img : Nat) (fresh : Bool) : State := s.loadRecs fresh (s.imgNRec img) (s.imgBody img)

/-- A device in CONFIGURE that holds nothing but its images: what an image leaves is judged on it (R57). -/
def State.asBlank (s : State) : State :=
  (({ mem := s.mem.filter fun c => c.1 / 0x1000000 == 15 } : State).set F.SYS_DEVICE_VARIANT (s.get F.SYS_DEVICE_VARIANT)).set
    F.SYS_MODE_CURRENT Mode.configure.code

/-- RESULT and FIRST_BAD of an image's check. -/
def State.imageCheck (s : State) (img : Nat) : Nat × Nat :=
  let b := imgBase img
  let len := s.imgLen img
  if s.imgHurt img 64 = true ∨ s.rdBytes b 4 ≠ [0x47, 0x43, 0x49, 0x31] ∨ s.rdLe (b + 4) 2 ≠ 1 ∨ crc32 (s.rdBytes b 24) ≠ s.rdLe (b + 24) 4 ∨ len < 64 ∨ 524288 < len ∨ len % 4 ≠ 0
  then (3, 0xFFFF)
  else if s.rdByte (b + 6) ≠ s.get F.SYS_DEVICE_VARIANT then (4, 0xFFFF)
  else if s.imgHurt img len = true ∨ crc32 (s.imgBody img) ≠ s.imgBodyCrc img then (5, 0xFFFF)
  else
    let n := s.imgNRec img
    match s.imageBadRec (s.imgFlag img 0) (s.imgFlag img 1) n (n + 1) 0 (s.imgBody img) with
    | some i => (6, i)
    | none =>
      let t := s.asBlank.loadImage img true
      if t.prismLoop.isSome || t.prismBudget.isSome then (6, n) else (2, 0)

/-! ### The commands (R58) -/

def State.imageResult (s : State) (r bad : Nat) : State := (s.set F.SYS_IMAGE_STAT_RESULT r).set F.SYS_IMAGE_STAT_FIRST_BAD bad

/-- The last check found the inactive image good, and nothing has written it since. -/
def State.setImgGood (s : State) (b : Bool) : State := { s with sys := { s.sys with imgGood := b } }

/-- IMAGE_CMD with OP 0b01 and 0b10 (R58). The change-log record carries CLOG_SERIAL, not the image's SERIAL (log entry 98). -/
def State.imageCmd (s : State) (key op : Nat) : State :=
  if key ≠ 0x1A6E then s
  else if op = 1 then (s.imageResult 1 0).setImgGood false
  else if op ≠ 2 then s
  else
    let img := 1 - s.activeImg
    let refuse := fun (s : State) => s.ev E.SYS_IMAGE_REFUSED 0 [s.get F.SYS_IMAGE_STAT_RESULT, s.get F.SYS_IMAGE_STAT_FIRST_BAD]
    if !s.sys.imgGood then refuse s
    else if s.imgFlag img 0 && !s.pwdOpen then refuse (s.imageResult 7 0)
    else if s.imgFlag img 1 && !s.sealOpen then refuse (s.imageResult 8 0)
    else if s.clogFull then refuse (s.err E.SEAL_LOG_FULL 0 [0x00, 0x06C])
    else
      let s := s.clogAppend 0xFF 3 (15 * 4096 + img) (s.imgBodyCrc (1 - img)) (s.imgBodyCrc img)
      let s := ((s.set F.SYS_IMAGE_STAT_ACTIVE img).setB F.SYS_IMAGE_STAT_SWAP_PENDING true).imageResult 0 0
      { s with sys := { s.sys with imageFresh := true, imgGood := false } }.ev E.SYS_IMAGE_ACTIVATED 0 [img, s.rdLe (imgBase img + 12) 4, s.imgBodyCrc img]

/-- IMAGE_CHECK (R58): RESULT reads checking. -/
def execImageCheck (key : Nat) (s : State) : Result := (s.hostWrites 0x00 0x06C fun s => s.imageCmd key 1).finish

/-- IMAGE_CHECK_DONE (R57, R58). -/
def execImageCheckDone (s : State) : Result :=
  (s.when (s.get F.SYS_IMAGE_STAT_RESULT == 1) fun s =>
    let r := s.imageCheck (1 - s.activeImg)
    (s.imageResult r.1 r.2).setImgGood (r.1 == 2)).finish

/-- IMAGE_ACTIVATE (R58). -/
def execImageActivate (key : Nat) (s : State) : Result := (s.hostWrites 0x00 0x06C fun s => s.imageCmd key 2).finish

/-- A word of table 15: the active image is read-only, and a write to the other resets RESULT. R55 buffers entries; an image is no
table of entries, and its words are written one by one (log entry 98). -/
def State.imageWrite (s : State) (off v : Nat) : State :=
  let off := off / 4 * 4
  if off / 0x80000 = s.activeImg then s
  else ((s.wrLe (tbl 15 off) 4 v).imageResult 0 0).setImgGood false

/-- IMAGE_WRITE (R58). -/
def execImageWrite (byteOff : Nat) (value : Word) (s : State) : Result := (s.tableWrites 15 byteOff fun s => s.imageWrite byteOff value.toNat).finish

end Sys2Proof.Machine
end

