-- ==== Sys2Proof/Machine/Modes.lean ====
section
/-! DEFINITION. Modes, resets, supplies and start-up (chapter 02): what a reset keeps, the way from reset to service, DORMANT,
VAULT and the reset button. -/
namespace Sys2Proof.Machine

def State.modSys (s : State) (f : SysState → SysState) : State := { s with sys := f s.sys }

/-! ### Resets (R34, R35) -/

/-- Fields held in the ferroelectric store or wired, beside whole pages of the metrology die. -/
def keptFields : List Field :=
  [F.SYS_DEVICE_VARIANT, F.SYS_DEVICE_CTL_STEP, F.SYS_DEVICE_MET_STEP, F.SYS_DEVICE_PWR_STEP, F.SYS_IMAGE_STAT_ACTIVE,
   F.PWR_VAULT_COUNT_COUNT, F.PWR_BROWNOUT_REC_COUNT_COUNT, F.SEAL_CLOG_HEAD_INDEX, F.SEAL_CLOG_TAIL_INDEX,
   F.SEAL_CLOG_FILL_COUNT, F.SEAL_CLOG_SERIAL_NEXT, F.TIME_LEGAL_STAT_EPOCH, F.TIME_LEGAL_STAT_LEGAL_SET,
   F.CRYPT_KEY_STAT_PRESENT, F.LENS_CAL_GAIN_GAIN, F.LENS_CAL_OFFSET_CODE, F.LENS_CAL_DELAY_CLOCKS, F.LENS_CAL_SEQ_COUNT,
   F.LENS_CAL_CRC_CRC, F.TARIFF_BANK_ACTIVE, F.EVT_HEAD_INDEX, F.EVT_TAIL_INDEX, F.EVT_FILL_COUNT, F.EVT_APPENDED_COUNT,
   F.SESS_TAIL_INDEX, F.MEM_SCRUB_POS_BLOCK, F.MEM_SCRUB_PASSES_COUNT]

/-- Pages whose read-only fields are kept. -/
def keptPages : List Nat := [0x25, 0x27, 0x3F, 0x41, 0x46]

/-- A field kept over a reset of the whole device. -/
def keptField (f : Field) : Bool := keptFields.any (fun o => fieldIs o f) || (f.acc == .ro && keptPages.contains f.page)

/-- A register key kept over a reset; a reset of the control die keeps the pages of the other dies. -/
def keptKey (all : Bool) (k : Nat) : Bool :=
  (!all && dieOf (k / 32 / 0x1000) != .control) || (match fieldOfKey k with | some f => keptField f | none => false)

/-- A table byte kept over a reset: the ferroelectric tables, and the Lens capture buffer when only the control die resets. -/
def keptByte (all : Bool) (k : Nat) : Bool :=
  let t := k / 0x1000000
  t < 7 || t == 12 || t == 15 || (t == 13 && !all)

/-- The balls of the control die fall to their reset levels (R462, R32). -/
def State.ballsOff (s : State) : State :=
  let s := s.each (List.range 72) fun p s => s.stopPhase p
  let s := s.each (List.range 60) fun i s => s.setCoil i false
  let s := (s.tpoBalls false).each s.outlets fun n s =>
    s.when (s.on (F.LINK_STATUS_PWM_ON.inst n) || s.on (F.LINK_STATUS_PILOT_ACTIVE.inst n)) fun s => s.emit (.pilot n 0)
  let s := s.each (List.range 4) fun k s => s.when (s.arbOn k) fun s => s.emit (.arb k none)
  s.when s.mir.failN fun s => s.emit (.failN false)

/-- The state of the control die at its reset; `all` resets every die. What the ferroelectric store holds is kept. -/
def State.afterReset (s : State) (all : Bool) (causes : Nat) : State :=
  { regs := s.regs.filter fun e => keptKey all e.1
    mem := s.mem.filter fun e => keptByte all e.1
    pending := s.pending
    out := s.out
    evWait := s.evWait
    freeCtr := s.freeCtr
    ticks := s.ticks
    sys := { resetCauses := causes, vaultReset := s.mode == .vault, holdupShort := s.sys.holdupShort, btnIgnored := s.sys.btnIgnored,
             imageFresh := s.sys.imageFresh, metLost := !all && s.sys.metLost }
    tim := { legal := s.tim.legal, legalSlew := if all then 0 else s.tim.legalSlew }
    chans := if all then [] else s.chans
    pdie := if all then {} else s.pdie
    lens := if all then {} else s.lens
    bill := s.bill
    life := { base := s.life.base, charge := s.life.charge, imgBad := s.life.imgBad, baseDue := !all && s.life.baseDue, corr := if all then 0 else s.life.corr }
    prot := if all then { s.prot with sealN := false } else s.prot
    vde := { keys := s.vde.keys } }

/-- The metrology seal closes with the metrology die, and open load switches go off with the smart-power die. -/
def State.diesOff (s : State) : State :=
  let s := s.when s.sealOpen fun s => (s.setB F.SEAL_PWD_STAT_SEAL_OPEN false).clogAppend 3 6 1 0 0
  s.each s.chanList fun c s => s.driveChan c false

/-- What is shown of the kept store stands again after a reset; a log at or above FILL_IRQ raises LOG_FILL (R471). -/
def State.showKept (s : State) : State := ((((s.refreshPwd 0).refreshTrust).refreshList).refreshCal).judgeFill

/-- The causes of a reset, with the PLL or crystal failure that came before it (Table 2.6), and those of the reset in progress
that this one adds to. -/
def State.allCauses (s : State) (causes : Nat) : Nat :=
  let causes := if s.sys.needsReset && !s.on F.CLK_PLL_STAT_LOCKED then setBitOf causes 5 true else causes
  if s.sys.held then causes.lor s.sys.resetCauses else causes

/-- The device resets. A reset that ends VAULT is a transition of Table 2.2, logged with the mode left in PREVIOUS (R23). -/
def State.deviceReset (s : State) (causes : Nat) : State :=
  let vault := s.mode == .vault
  let s := (s.when s.sys.metLost fun s => s.tamperEnd 14).when vault fun s => s.ev E.SYS_MODE_CHANGE 0 [s.mode.code, Mode.waking.code, 23]
  let s := ((((s.flushEvents).ballsOff).diesOff).afterReset true (s.allCauses causes)).showKept
  s.when vault fun s => s.set F.SYS_MODE_PREVIOUS Mode.vault.code

/-- The control die alone resets (R32); the smart-power die loses its commands: it holds its channels, or in a pair switches them
off (R15). -/
def State.controlReset (s : State) : State :=
  let s := (((s.flushEvents).clearInjection).cutPower).refreshChans
  (((s.ballsOff).interruptSessions).afterReset false (s.allCauses 4)).showKept

/-- A request to reset: held in VAULT, deferred while an outlet delivers, else carried out (R35). The outlets that deliver ramp to
zero first; a request that comes meanwhile waits with the one deferred. -/
def State.requestReset (s : State) (cause : Nat) : State :=
  if s.sys.held then s.modSys fun y => { y with resetCauses := setBitOf y.resetCauses cause true }
  else if s.mode = .vault then s.modSys fun y => { y with heldRequest := setBitOf y.heldRequest cause true }
  else if s.sys.deferred != 0 then s.modSys fun y => { y with deferred := setBitOf y.deferred cause true }
  else if (s.mode == .deliver || s.mode == .degraded) && s.anyEnergy then
    let l := s.outlets.filter fun n => s.ostate n == .energy
    let s := (s.modSys fun y => { y with deferred := setBitOf y.deferred cause true }).setB F.SYS_BUTTON_DEFER_PENDING true
    (s.ev E.SYS_RESET_DEFERRED 0 [l.foldl (fun m n => setBitOf m n true) 0]).each l fun n s => s.modOut n fun o => { o with resetRamp := max 1 o.refUa }
  else s.deviceReset (setBitOf 0 cause true)

/-- VAON_POWER_ON_RESET (Table 2.4): the always-on clock starts anew at a value the manual leaves open. -/
def execVaonPowerOnReset (s : State) : Result :=
  (let s := (s.modSys fun y => { y with btnIgnored := false }).deviceReset 1
   { s.freeNext with tim := { s.tim with legal := s.free * 2 ^ 32 } }).finish

/-- RESET_BUTTON_RELEASE (R35, R36). -/
def execResetButtonRelease (s : State) : Result :=
  (let s := s.setB F.SYS_BUTTON_PRESSED false
   s.when (!s.sys.btnIgnored) fun s => s.requestReset 3).finish

/-- RESET_STUCK (R36). -/
def execResetStuck (s : State) : Result :=
  (s.when (!s.sys.btnIgnored) fun s =>
    (((s.setB F.SYS_BUTTON_PRESSED true).setB F.SYS_BUTTON_RESET_STUCK true).modSys fun y => { y with btnIgnored := true }).ev E.SYS_RESET_STUCK 0 []).finish

/-- RESET_BUTTON_RELEASED_1S (R36). -/
def execResetButtonReleased1s (s : State) : Result :=
  ((s.setB F.SYS_BUTTON_PRESSED false).modSys fun y => { y with btnIgnored := false }).finish

/-- A write of 1 to RESET_STUCK (R37). -/
def State.stuckClear (s : State) : State := s.when (!s.on F.SYS_BUTTON_PRESSED) fun s => s.setB F.SYS_BUTTON_RESET_STUCK false

/-- RESET_STUCK_CLEAR (R37). -/
def execResetStuckClear (s : State) : Result := (s.hostWrites 0x00 0x060 State.stuckClear).finish

def State.swReset (s : State) (key : Nat) : State := s.when (key == 0xA5C30F5A) fun s => s.requestReset 4

/-- SW_RESET (R35). -/
def execSwReset (key : Word) (s : State) : Result := (s.hostWrites 0x00 0x064 fun s => s.swReset key.toNat).finish

/-- DEFERRED_RESET_DONE (R35): every outlet has come to zero current and left OUT_ENERGY. -/
def execDeferredResetDone (s : State) : Result :=
  (s.when (s.sys.deferred != 0 && s.mode != .vault && !s.anyEnergy && s.outlets.all fun n => s.ostate n != .stopping || s.icZero n) fun s => s.deviceReset s.sys.deferred).finish

/-- PCIE_RESET (R425): PERST_N or a hot reset; the endpoint leaves the link at once. -/
def execPcieReset (s : State) : Result := ((s.pcieDown).requestReset 6).finish

/-! ### From reset to service (R23, R38, R39, R373) -/

/-- RAILS_GOOD (R38, R462): the device leaves reset; a button held for 8 s starts it with RESET_STUCK latched (R36). -/
def execRailsGood (cfgHost unitB selHigh buttonHeld : Bool) (s : State) : Result :=
  (s.when s.sys.held fun s =>
    let c := s.sys.resetCauses
    let s := s.modSys fun y => { y with held := false, resetCauses := 0, btnIgnored := y.btnIgnored || buttonHeld }
    let s := s.set F.SYS_RESET_CAUSE_CAUSE ((s.get F.SYS_RESET_CAUSE_CAUSE).lor c)
    let s := s.each ((List.range 7).filter fun b => c.testBit b) fun b s => s.lifeStore (12 + b) 1
    let s := (s.setB F.SYS_BUTTON_PRESSED buttonHeld).when buttonHeld fun s => s.setB F.SYS_BUTTON_RESET_STUCK true
    let s := (s.setB F.SYS_BOOT_CFG_HOST cfgHost).setB F.MIR_CFG_UNIT_B unitB
    let s := (s.setB F.MIR_STATUS_SEL_LEVEL selHigh).setB F.MIR_STATUS_SELECTED (selHigh != unitB)
    let s := (s.set F.PWR_RAIL_STAT_UV 0).setB F.PWR_RAIL_STAT_VLS_WARN false
    ((s.set F.SYS_MODE_CURRENT Mode.waking.code).refreshCfgCrc).ev E.SYS_MODE_CHANGE 0 [s.mode.code, Mode.waking.code, 1]).finish

/-- Wake source `src` fires on a level of signal A or B, mV: CE or ID outside the window copied, CP below 10.5 V, PP outside its
window (Table 2.3). -/
def WakeWindow.fires (w : WakeWindow) (src : Nat) (isB : Bool) (mv : Int) : Bool :=
  (match src with
  | 0 => w.kind == 1
  | 1 => w.kind == 2 && !isB
  | 2 => w.kind == 2 && isB
  | _ => false) &&
  if isB then decide (mv < w.loB) || decide (w.hiB < mv) else decide (mv < w.loA) || decide (w.hiA < mv)

/-- The wake source may fire: a level source by the comparator of its link, any other by itself. -/
def State.wakes (s : State) (src n : Nat) (isB : Bool) (mv : Int) : Bool :=
  decide (3 ≤ src) || (match s.sys.wakeWindows[n]? with | some w => w.fires src isB mv | none => false)

/-- WAKE_EVENT (R26). -/
def execWakeEvent (c : WakeCause) (s : State) : Result :=
  (s.when (s.mode == .dormant && s.bit F.SYS_WAKE_EN_EN c.src && s.wakes c.src c.n c.isB c.mv) fun s =>
    (s.setBit F.SYS_WAKE_SRC_SRC c.src true).setMode .waking 2).finish

/-- Bytes of the SRAM tables 7 to 11, 13 and 14. -/
def sramByte (k : Nat) : Bool :=
  let t := k / 0x1000000
  (7 ≤ t && t ≤ 11) || t == 13 || t == 14

/-- PLL_LOCKED (Table 2.2): the PLL has locked and the SRAM is initialised. -/
def execPllLocked (lockUs : Nat) (s : State) : Result :=
  (s.when (s.mode == .waking && !s.sys.held) fun s =>
    let s := { s with mem := s.mem.filter fun e => !sramByte e.1 }
    let s := ((s.set F.CLK_PLL_STAT_LOCK_TIME (satTo 16 lockUs)).setB F.CLK_PLL_STAT_XTAL_OK true).setB F.CLK_PLL_STAT_LOCKED true
    s.setMode .selftest 3).finish

/-- SELFTEST pulses each coil output high for 200 µs (R346). -/
def State.pulseCoils (s : State) : State :=
  s.each ((List.range 60).filter fun i => s.hasCoil i) fun i s => (s.emit (.coil i true)).emit (.coil i false)

/-- SELFTEST_DONE (R346, R347): the first failing test, 0 for none. -/
def execSelftestDone (durationUs firstFail : Nat) (s : State) : Result :=
  (s.when (s.mode == .selftest) fun s =>
    let s := (s.pulseCoils.set F.DIAG_SELFTEST_DURATION_US durationUs).set F.DIAG_SELFTEST_FIRST_FAIL firstFail
    if firstFail = 0 then
      (s.modSys fun y => { y with selftestPassed := true, waitHost := s.on F.SYS_BOOT_CFG_HOST }).setMode .configure 4
    else
      let s := (s.ev E.DIAG_TEST_FAIL 0 [firstFail, s.mode.code]).modSys fun y => { y with safeFrom := .selftest }
      let s := { s with safe := { s.safe with internalFailure := true } }
      ((s.setMode .safeHold 5).tripNode 3).enterSafeHold 5).finish

/-- Everything that follows from a loaded configuration; a phase loads as enabled when its P_RATED is not 0 (R157). -/
def State.afterLoad (s : State) (fresh : Bool) : State :=
  let s := s.each (List.range 72) fun p s => s.setPhase p (s.phRated p != 0) false 0
  let s := s.when fresh fun s => s.each ((List.range 64).filter fun e => s.rdByte (trustBase e) != 0) fun e s => s.trustApply e
  let s := ((((s.refreshRoot).refreshChildren).refreshPtp).refreshFill).judgeFill
  let s := (((s.setB F.SYS_MODE_PAIRED (s.on F.MIR_CFG_EN)).setB F.SYS_MODE_GRID_HOST (s.on F.GRID_CFG_EN)).setB F.FAB_STATUS_ETYPE_UNSET
    (s.get F.FAB_ETYPE_ETYPE == 0)).loadForce
  let s := s.modBill fun b => { b with cfgDue := true }
  let s := s.each ((List.range 8).filter fun n => s.tpoLocked n) fun n s => s.tpoArm n
  let s := (((s.refreshCfgCrc).refreshGsc).refreshTrust).refreshList
  let s := s.when (s.rdBytes (tbl 7 0) 4 == [0x47, 0x58, 0x49, 0x31]) fun s => s.exiCheck
  s

/-- CONFIGURE ends: READY, or MIRROR once the lane is aligned (Table 2.2). Commands reach the smart-power die from now on; a
control–metrology link that is lost shows on every outlet (R14). -/
def State.configured (s : State) : State :=
  let s := { s with pdie := { s.pdie with live := true, cut := s.on F.LSW_STATUS_LINK_LOST, paired := s.on F.MIR_CFG_EN } }
  let s := s.modSys fun y => { y with waitHost := false }
  let s := s.setB F.SYS_MODE_PAIRED (s.on F.MIR_CFG_EN)
  let s :=
    if s.paired && !s.selected then
      if s.on F.MIR_STATUS_ALIGNED && s.mir.matched then s.setMode .mirror 7 else s.modMir fun m => { m with waitAlign := true }
    else
      let s := s.when s.paired fun s => s.showAbsent
      (s.setMode .ready 6).refreshMode
  let s := ((((s.refreshOwners).refreshChans).refreshAllRoles).refreshOffsets).refreshGroups
  let s := s.when s.sys.metLost fun s => s.each s.outlets fun n s => s.fbLost n 3
  (((s.each s.outlets fun n s => s.refreshSafeMa n).refreshDegStat).refreshPilots).linkCatchUp

/-- CONFIG_LOAD_DONE (R38, R57). -/
def execConfigLoadDone (s : State) : Result :=
  (s.when (s.mode == .configure && !s.sys.waitHost && !s.mir.waitAlign) fun s =>
    let a := s.activeImg
    let load := fun (s : State) (img : Nat) (fresh : Bool) =>
      (((s.loadImage img fresh).set F.SYS_BOOT_CONFIG_SRC (1 + img)).afterLoad fresh).configured
    if (s.imageCheck a).1 = 2 then
      let f := s.sys.imageFresh
      load (s.modSys fun y => { y with imageFresh := false }) a f
    else if (s.imageCheck (1 - a)).1 = 2 then load (s.setB F.SYS_BOOT_IMAGE_FALLBACK true) (1 - a) false
    else s.modSys fun y => { y with waitHost := true }).finish

/-- A write of 1 to CONFIG_DONE (R38). -/
def State.configDone (s : State) : State := s.when (s.mode == .configure && s.sys.waitHost) State.configured

/-- CONFIG_DONE (R38). -/
def execConfigDone (s : State) : Result := (s.hostWrites 0x00 0x008 State.configDone).finish

/-! ### DORMANT (R25) -/

/-- The condition of R25 that bars DORMANT: 1 an outlet not idle, 2 a pair member, 3 the grid meter port, 4 an open Sentence,
5 a mode other than READY. -/
def State.dormantBar (s : State) : Option Nat :=
  if s.mode != .ready then some 5
  else if s.outlets.any fun n => s.ostate n != .idle then some 1
  else if s.paired then some 2
  else if s.on F.SYS_MODE_GRID_HOST || s.on F.GRID_CFG_EN then some 3
  else if (List.range 16).any fun k => decide (1 ≤ (s.slot k).st) && decide ((s.slot k).st ≤ 5) then some 4
  else none

/-- What the always-on comparators take of link `n`: window 0 of its signals, with CP at 10.5 V (R233). -/
def State.wakeWindow (s : State) (n : Nat) : WakeWindow :=
  let kind := s.get (F.LINK_CFG_KIND.inst n)
  let a := (F.LINK_WIN_A_LO.nth 0).inst n
  let b := (F.LINK_WIN_B_LO.nth 0).inst n
  { kind := kind
    loA := if kind = 2 then 10500 else s.getI a
    hiA := if kind = 2 then 32767 else s.getI ((F.LINK_WIN_A_HI.nth 0).inst n)
    loB := s.getI b
    hiB := s.getI ((F.LINK_WIN_B_HI.nth 0).inst n) }

/-- The enabled level sources that the present levels fire, with the windows just copied (R233). -/
def State.wakesAtOnce (s : State) (win : List WakeWindow) : List Nat :=
  (List.range 3).filter fun src => s.bit F.SYS_WAKE_EN_EN src && s.outlets.any fun n =>
    match win[n]? with
    | some w => w.fires src false (s.getI (F.LINK_MEAS_A_HIGH.inst n)) || w.fires src true (s.getI (F.LINK_MEAS_B_MV.inst n))
    | none => false

/-- DORMANT: only the always-on domain runs on. The other rails may go, so the control die comes back as from reset; the SYS
page and the wake windows stay with the always-on domain (R26). A level already outside window 0 fires its source as soon as
DORMANT is reached (R233). -/
def State.enterDormant (s : State) : State :=
  let win := s.outlets.map fun n => s.wakeWindow n
  let fired := s.wakesAtOnce win
  let s := (s.setMode .dormant 10).refreshChans
  let sys := s.regs.filter fun (e : Nat × Nat) => e.1 / 32 / 0x1000 == 0
  let s := (((s.flushEvents).ballsOff).diesOff).afterReset true 0
  let s := { s with
    regs := sys ++ s.regs.filter fun (e : Nat × Nat) => e.1 / 32 / 0x1000 != 0
    sys := { s.sys with held := false, resetCauses := 0, wakeWindows := win, vaultReset := false } }
  let s := s.showKept.each fired fun src s => s.setBit F.SYS_WAKE_SRC_SRC src true
  s.when (!fired.isEmpty) fun s => s.setMode .waking 2

def State.tryDormant (s : State) : State :=
  match s.dormantBar with
  | some c => s.err E.SYS_MODE_REQ_REFUSED 0 [0, c]
  | none => s.enterDormant

/-- MODE_REQ_DORMANT (R25). -/
def execModeReqDormant (s : State) : Result := (s.hostWrites 0x00 0x048 State.tryDormant).finish

/-- DORMANT_IDLE_EXPIRY (R25): READY has lasted DORMANT_IDLE seconds with every outlet idle. -/
def execDormantIdleExpiry (s : State) : Result :=
  (let d := s.get F.SYS_DORMANT_IDLE_SECONDS
   s.when (d != 0 && s.mode == .ready && decide (d * 400000000 ≤ s.since s.sys.idleSince)) State.tryDormant).finish

/-- READY is requested from SEALED_SERVICE, which closes the seal; any other request is refused (Table 2.9). -/
def State.modeReq (s : State) (r : Nat) : State :=
  if r = 0 then s.tryDormant
  else if r = 4 ∧ s.mode = .sealedService then s.closeSeal
  else s.err E.SYS_MODE_REQ_REFUSED 0 [r, if r = 4 then 5 else 0]

/-- MODE_REQ_READY (Table 2.2). -/
def execModeReqReady (s : State) : Result := (s.hostWrites 0x00 0x048 fun s => s.modeReq 4).finish

/-! ### VAULT (R30 to R33, R299 to R301, R469) -/

/-- VAULT begins: the rail that triggered it, 4 VDDA, 5 VDD_FE, 7 or 8 VLS. -/
def State.enterVault (s : State) (rail : Nat) (vls : Int) : State :=
  let from_ := s.mode
  let s := s.modSys fun y => { y with
    vaultFrom := from_, flushing := true, vresetSeen := rail == 7, vaultTick := s.ticks, holdupShort := none
    vaultCauses := if rail = 7 then 2 else 0, recoverDue := none }
  let s := if rail = 4 ∨ rail = 5 ∨ rail = 7 then (s.setBit F.PWR_RAIL_STAT_UV rail true).ev E.PWR_RAIL_UV 0 [rail] else s
  let s := s.when (rail == 7 || rail == 8) fun s => s.setB F.PWR_RAIL_STAT_VLS_WARN true
  let s := (s.setI F.PWR_VLS_MEAS_MV vls).setI F.PWR_VLS_MIN_MV vls
  let s := ((s.setB F.PWR_VAULT_STAT_ACTIVE true).set F.PWR_VAULT_STAT_RESULT 0).inc F.PWR_VAULT_COUNT_COUNT
  let s := (s.vaultIntent).ev E.PWR_VAULT_ENTER 0 [rail, ofSigned 32 vls]
  (s.setMode .vault 21).refreshGroups

/-- VAULT_ENTER (R30): in VAULT, a supply that fails again ends the time in which it has been good (R31). -/
def execVaultEnter (rail : Fin 9) (vlsMv : Int) (s : State) : Result :=
  (s.when (!s.sys.held && s.mode != .dormant && (rail.val == 4 || rail.val == 5 || rail.val == 7 || rail.val == 8)) fun s =>
    if s.mode = .vault then s.modSys fun y => { y with recoverDue := none } else s.enterVault rail vlsMv).finish

/-- HOLDUP_SHORT is logged. -/
def State.logHoldup (s : State) : State :=
  match s.sys.holdupShort with
  | some v => (s.modSys fun y => { y with holdupShort := none }).ev E.PWR_HOLDUP_SHORT 0 [ofSigned 32 v]
  | none => s

/-- VAULT is left without a reset (R31, R33, R100, R162, R232). -/
def State.leaveVault (s : State) (low : Int) (us : Nat) : State :=
  let back := s.sys.vaultFrom
  let s := (((s.set F.PWR_RAIL_STAT_UV 0).setB F.PWR_RAIL_STAT_VLS_WARN false).setI F.PWR_VLS_MIN_MV low).setB F.PWR_VAULT_STAT_ACTIVE false
  let s := (((s.inc F.PWR_BROWNOUT_REC_COUNT_COUNT).ev E.PWR_BROWNOUT_RECOVERED 0 [ofSigned 32 low, us]).logHoldup)
  let s := s.setMode back 22
  let s := (((s.vaultSentences).restartOutlets).releaseAll).linkCatchUp
  let s := s.each s.outlets fun n s => s.leaveAll n
  let s := (((((s.refreshChans).refreshGroups).refreshPilots).refreshMode).syncSentences).replayKept
  let s := s.when (s.mir.selDue && s.mode == .mirror) fun s => (s.modMir fun m => { m with selDue := false }).startHandover
  let r := s.sys.heldRequest
  let s := s.modSys fun y => { y with heldRequest := 0 }
  s.each ((List.range 7).filter fun b => r.testBit b) fun b s => s.requestReset b

/-- The flush has ended. A device that is to reset does so, and completes the VAULT at restart; else the VAULT is completed here
(R301), and the return follows at once if its condition has already been met (R31). -/
def State.flushEnd (s : State) : State :=
  let s := s.modSys fun y => { y with flushing := false }
  if s.sys.vresetSeen then s.deviceReset s.sys.vaultCauses
  else
    let s := s.vaultComplete
    match s.sys.recoverDue with
    | some (low, us) => s.leaveVault low us
    | none => s

/-- VAULT_FLUSH_DONE (R300, R301). -/
def execVaultFlushDone (flushUs : Nat) (s : State) : Result :=
  (s.when (s.mode == .vault && s.sys.flushing) fun s =>
    let s := ((s.vaultRecord).set F.PWR_VAULT_STAT_LAST_FLUSH_US (satTo 16 flushUs)).set F.PWR_VAULT_STAT_RESULT 1
    (s.ev E.PWR_VAULT_DONE 0 [flushUs]).flushEnd).finish

/-- HOLDUP_SHORT (R469): the flush stops; the record is logged when VAULT is left. -/
def execHoldupShort (vholdMv : Int) (s : State) : Result :=
  (s.when (s.mode == .vault && s.sys.flushing && decide (vholdMv < 6000)) fun s =>
    let s := (s.set F.PWR_VAULT_STAT_RESULT 2).setI F.PWR_VHOLD_MEAS_MV vholdMv
    (s.modSys fun y => { y with holdupShort := some vholdMv }).flushEnd).finish

/-- VAULT_RECOVERY (R31): the supplies have been good for 1 ms. During the flush the return waits for its end. -/
def execVaultRecovery (lowestMv : Int) (vaultUs : Nat) (s : State) : Result :=
  (s.when (s.mode == .vault && !s.sys.vresetSeen) fun s =>
    if s.sys.flushing then s.modSys fun y => { y with recoverDue := some (lowestMv, vaultUs) } else s.leaveVault lowestMv vaultUs).finish

/-- A reset is due at the end of this VAULT, at once when the flush has ended (R31); `b` is the bit of its cause. -/
def State.vaultResets (s : State) (b : Nat) : State :=
  let s := s.modSys fun y => { y with vresetSeen := true, vaultCauses := setBitOf y.vaultCauses b true }
  if s.sys.flushing then s else s.deviceReset s.sys.vaultCauses

/-- VAULT_VRESET (R31). -/
def execVaultVreset (s : State) : Result :=
  (s.when (s.mode == .vault) fun s => ((s.setBit F.PWR_RAIL_STAT_UV 7 true).ev E.PWR_RAIL_UV 0 [7]).vaultResets 1).finish

/-- VHOLD_LOW (R468, Table 2.4): HOLDUP_LOW follows VHOLD_WARN. -/
def execVholdLow (vholdMv : Int) (s : State) : Result :=
  (let w := s.get F.PWR_VHOLD_WARN_MV
   (s.setI F.PWR_VHOLD_MEAS_MV vholdMv).setB F.PWR_RAIL_STAT_HOLDUP_LOW (w != 0 && decide (vholdMv < (w : Int)))).finish

/-- CTL_RAIL_FLUSH (R32): the metrology die flushes and books without VAULT, and the control die resets. In VAULT the rail only
bars the return: the device resets once the flush is complete. -/
def execCtlRailFlush (rail : Fin 4) (s : State) : Result :=
  (s.when (!s.sys.held && s.mode != .dormant) fun s =>
    let s := (s.setBit F.PWR_RAIL_STAT_UV rail true).ev E.PWR_RAIL_UV 0 [rail]
    if s.mode = .vault then s.vaultResets 2
    else
      let s := (((s.vaultIntent).vaultRecord).vaultComplete).ev E.PWR_CTL_RAIL_FLUSH 0 [rail]
      s.controlReset).finish

/-! ### Clocks (R29) -/

/-- PLL_UNLOCK (R29): gate drive is cut, the device enters SAFE_HOLD, and only a reset leads out of it. -/
def execPllUnlock (xtal : Bool) (s : State) : Result :=
  (s.when (!s.sys.held && s.mode != .dormant && s.mode != .waking) fun s =>
    let s := if xtal then s.setB F.CLK_PLL_STAT_XTAL_OK false else s
    let s := (s.setB F.CLK_PLL_STAT_LOCKED false).ev (if xtal then E.CLK_XTAL_FAIL else E.CLK_PLL_UNLOCK) 0 []
    (s.modSys fun y => { y with needsReset := true }).enterSafeHold 16).finish

/-- METROLOGY_START (R281, R301, R320, R321, R469). -/
def execMetrologyStart (okA okB : Bool) (s : State) : Result :=
  (s.when (!s.lens.started && !s.sys.held && s.mode != .dormant) fun s =>
    let s := (s.metrologyStart okA okB).logHoldup
    s.when s.sys.vaultReset fun s => (s.modSys fun y => { y with vaultReset := false }).tamper 13).finish

end Sys2Proof.Machine
end

