-- ==== Sys2Proof/Machine/Life.lean ====
section
/-! DEFINITION. Lifetime counters, histograms and the service baseline, and the scrub of the ferroelectric store (chapter 18). -/
namespace Sys2Proof.Machine

def State.modLife (s : State) (f : LifeState → LifeState) : State := { s with life := f s.life }

/-! ### Time counters and histograms (R448, R449) -/

/-- The time counters of the control die whose condition holds now (Table 18.1). -/
def State.timeCounters (s : State) : List Nat :=
  (s.outlets.flatMap fun n =>
    (if s.ostate n = .energy then [64 + 16 * n + 1] else []) ++ (if s.degraded n then [64 + 16 * n + 9] else []) ++
      (if s.on (F.COOL_OSTAT_BINDING.nth n) then [64 + 16 * n + 10] else [])) ++
  ((List.range 72).filter fun p => (s.phs p).started).map (fun p => 224 + p) ++
  (s.chanList.filter fun c => (s.chan c).on).map fun c => if c < 32 then 308 + c else 372 + (c - 32)

/-- LO and W of histogram `h`, in thousandths of its unit (Table 18.2). -/
def histBins (h : Nat) : Int × Int :=
  if h < 12 then (-40000, 5000)
  else if h < 16 then (0, 100000)
  else if h < 20 then (150000, 50000)
  else if h < 24 then (0, 150000000)
  else if h < 26 then (-40000, 5000)
  else if h = 27 then (9000, 1000)
  else if h < 64 then (-40000, 8000)
  else if h < 76 then (0, 5000)
  else (0, 2000)

/-- The bin of a mean (R449). -/
def histBin (h : Nat) (x : Int) : Nat :=
  let (lo, w) := histBins h
  if x < lo then 0 else if lo + 30 * w ≤ x then 31 else 1 + ((x - lo) / w).toNat

/-- The condition of histogram `h` holds (Table 18.2). -/
def State.histOn (s : State) (h : Nat) : Bool :=
  if h < 8 then s.hasOutlet (h / 2) && (s.coolOf (h / 2)).running
  else if h < 12 then s.hasOutlet (h - 8) && (s.coolOf (h - 8)).running
  else if h < 24 then s.hasOutlet (h % 4) && s.ostate (h % 4) == .energy
  else if h < 28 then s.mode != .dormant
  else if h < 60 then s.mode != .dormant && s.hasLsw (h - 28)
  else if h < 64 then s.mode != .dormant && (List.range 8).any fun i => s.hasLsw (8 * (h - 60) + i)
  else if h < 76 then s.hasGroup (h - 64) && s.stage (h - 64) == .routed
  else if h < 80 then s.hasOutlet (h - 76) && (s.coolOf (h - 76)).running
  else false

/-- Add to bin `b` of histogram `h`, saturating. -/
def State.binStore (s : State) (h b n : Nat) : State :=
  let a := tbl 12 (0x1000 + 128 * h + 4 * b)
  s.wrLe a 4 (satTo 32 (s.rdLe a 4 + n))

/-- An increment by its number: a counter, or 512 + 32 h + b for a bin. -/
def State.incrStore (s : State) (i n : Nat) : State := if i < 512 then s.lifeStore i n else s.binStore ((i - 512) / 32) (i % 32) n

/-- The control die adds to a bin; a lost link keeps it (R448). -/
def State.binAdd (s : State) (h b : Nat) : State :=
  let i := 512 + 32 * h + b
  if s.sys.metLost then s.modLife fun l => { l with pend := mput 0 l.pend i (min (2 ^ 32) (mget 0 l.pend i + 1)) } else s.incrStore i 1

/-- What the control die has kept is sent (R448). -/
def State.sendPend (s : State) : State :=
  (s.each s.life.pend fun e s => s.incrStore e.1 e.2).modLife fun l => { l with pend := [] }

/-- Bytes of table 12. -/
def lifeByte (k : Nat) : Bool := k / 0x1000000 == 12

/-- The baseline is taken, with its time (R451). -/
def State.takeBaseline (s : State) : State :=
  let s := s.modLife fun l => { l with baseDue := false, base := s.mem.filter fun e => lifeByte e.1 }
  let s := ((s.set F.LIFE_BASE_SEC_LO_SEC s.legalSec).set F.LIFE_BASE_HI_SEC (s.legalSec / 2 ^ 32)).set F.LIFE_BASE_HI_EPOCH s.epoch
  let s := s.inc F.LIFE_BASE_COUNT_COUNT
  s.ev E.LIFE_BASELINE_TAKEN 0 [s.get F.LIFE_BASE_COUNT_COUNT]

/-- The histograms the metrology die fills by itself: its own temperature and VLS. -/
def metHist (h : Nat) : Bool := h == 25 || h == 27

/-- LIFE_SECOND_UPDATE (R448, R449, R451, R452): `means` gives, for the histograms whose condition held throughout the second,
the mean of their source in thousandths of the unit. While the control die is in reset the metrology die goes on alone (R13). -/
def execLifeSecondUpdate (means : List (Nat × Int)) (s : State) : Result :=
  (s.when (!s.sys.held || s.lens.started) fun s =>
    let m := s.mode
    let own := means.filter fun h => s.histOn h.1 && metHist h.1
    let s := s.when (!s.sys.held) fun s =>
      let s := if m = .dormant ∨ m = .vault then s.lifeStore m.code 1 else s.lifeAdd m.code 1
      (s.each s.timeCounters fun i s => s.lifeAdd i 1).each (means.filter fun h => s.histOn h.1 && !metHist h.1) fun h s =>
        s.binAdd h.1 (histBin h.1 h.2)
    let s := (s.lifeStore 21 1).each own fun h s => s.binStore h.1 (histBin h.1 h.2) 1
    let s := s.when s.life.baseDue State.takeBaseline
    s.inc F.LIFE_UPDATE_SEQ_SEQ).finish

/-! ### Host records and the baseline (R450, R451) -/

def State.hostInc (s : State) (v : Nat) : State :=
  let i := v % 512
  if i < 448 then s.err E.LIFE_BAD_INDEX 0 [v] else s.lifeStore i (v / 65536)

def State.hostHist (s : State) (v : Nat) : State :=
  let h := bits v 14 8
  if h < 80 then s.err E.LIFE_BAD_INDEX 0 [v] else s.binStore h (v % 32) 1

/-- LIFE_HOST_INC (R450). -/
def execLifeHostInc (value : Word) (s : State) : Result := (s.hostWrites 0x3F 0x054 fun s => s.hostInc value.toNat).finish

/-- LIFE_HOST_HIST (R450). -/
def execLifeHostHist (value : Word) (s : State) : Result := (s.hostWrites 0x3F 0x058 fun s => s.hostHist value.toNat).finish

def State.baseline (s : State) (v : Nat) : State :=
  s.guarded false 0x3F 0x044 (some v) id fun s => some (s.modLife fun l => { l with baseDue := l.baseDue || v == 0xB45E })

/-- LIFE_BASELINE (R451). -/
def execLifeBaseline (value : Word) (s : State) : Result := (s.hostWrites 0x3F 0x044 fun s => s.baseline value.toNat).finish

/-! ### The store (R453 to R458) -/

/-- Areas of Table 18.3, numbered by its rows: first block and blocks. -/
def storeAreas : List (Nat × Nat) :=
  [(0, 3072), (3072, 3072), (6144, 1024), (7168, 1024), (8192, 2048), (10240, 2048), (12288, 512), (12800, 512), (13312, 128),
   (13440, 64), (13504, 240), (13744, 64), (13808, 2576)]

/-- Area and block within it. -/
def areaOf (blk : Nat) : Nat × Nat :=
  match (List.range 13).find? fun i => decide (blk < (storeAreas.getD i (0, 0)).1 + (storeAreas.getD i (0, 0)).2) with
  | some i => (i, blk - (storeAreas.getD i (0, 0)).1)
  | none => (12, 0)

/-- A billing entry of table 0 rebuilt with nothing in it (R296). -/
def State.billRebuild (s : State) (i : Nat) : State :=
  let k := i / 8
  if k % 8 = 7 then s
  else
    let e : BillEnt := { seq := s.bill.seq, flags := setBitOf 0 3 true }
    if i % 8 = 0 then s.modBill fun b => { b with cur := mput {} b.cur k { e with period := (s.ent k).period } }
    else s.modBill fun b =>
      match b.closed[i % 8 - 1]? with
      | some (blank, m) => { b with closed := b.closed.set (i % 8 - 1) (blank, mput blank m k { e with period := (mget blank m k).period }) }
      | none => b

/-- A block of a billing copy fails: each of its entries is rewritten from the other copy, or rebuilt (R296). -/
def State.billBlock (s : State) (copy blk : Nat) (otherBad : Bool) : State :=
  let first := blk * 256 / 48
  s.each (List.range ((blk * 256 + 255) / 48 + 1 - first)) fun j s =>
    let i := first + j
    if i ≥ 16384 then s
    else if otherBad then (((s.billRebuild i).incSat F.BILL_REPAIRED_REBUILT).ev E.BILL_ENTRY_LOST 0 [i]).tamper 9
    else ((s.incSat F.BILL_REPAIRED_COPIES).ev E.BILL_COPY_REPAIRED 0 [i, copy]).tamper 9

/-- The slots of a ring's block become placeholders (R456). -/
def State.lostSlots (s : State) (area t size blk : Nat) (img : Nat → List Nat) : State :=
  s.each (List.range (256 / size)) fun j s =>
    let i := blk * (256 / size) + j
    (s.wrBytes (tbl t (i * size)) (slice (img i) 0 size)).ev E.MEM_RECORD_LOST 0 [area, i]

/-- Zeros in a whole entry. -/
def State.blank (s : State) (t off n : Nat) : State := s.wrBytes (tbl t off) (List.replicate n 0)

/-- A calendar bank that has lost an entry is judged again; the active one stays in force (R456). -/
def State.rejudge (s : State) (bank : Nat) : State :=
  let s := s.set F.TARIFF_CAL_STAT_ENTRIES (s.calBank s.bank).length
  s.when (bank == s.bank) fun s =>
    match s.bankBad bank with
    | some (e, c) => (s.set F.TARIFF_CAL_STAT_FIRST_BAD e).ev E.TARIFF_CAL_INVALID 0 [e, c]
    | none => s

/-- An uncorrectable block, by its area (R456). -/
def State.blockLost (s : State) (blk : Nat) (otherBad : Bool) : State :=
  let (a, b) := areaOf blk
  match a with
  | 0 => s.billBlock 0 b otherBad
  | 1 => s.billBlock 1 b otherBad
  | 2 => s.lostSlots 2 1 32 b fun i => s.stamp ++ leBytes 2 0x4004 ++ [5, 0] ++ leBytes 4 i
  | 3 => s.lostSlots 3 2 128 b fun _ => [0xFF]
  | 4 | 5 => s.modLife fun l => { l with imgBad := if l.imgBad.contains blk then l.imgBad else blk :: l.imgBad }
  | 6 => (s.blank 5 (256 * b) 256).refreshList
  | 7 => (s.blank 6 (256 * b / 2048 * 2048) 2048).refreshTrust
  | 8 => s.lostSlots 8 4 32 b fun _ => List.replicate 13 0 ++ [0xFF]
  | 9 => (s.blank 3 (256 * b) 256).rejudge (b / 32)
  | _ => s

/-- The listed bad blocks (BADi). -/
def State.badList (s : State) : List Nat := ((List.range 16).filter fun i => s.on (F.MEM_BAD_VALID.nth i)).map fun i => s.get (F.MEM_BAD_BLOCK.nth i)

def State.setBadList (s : State) (l : List Nat) : State :=
  (s.each (List.range 16) fun i s =>
    match l[i]? with
    | some b => (s.setB (F.MEM_BAD_VALID.nth i) true).set (F.MEM_BAD_BLOCK.nth i) b
    | none => (s.setB (F.MEM_BAD_VALID.nth i) false).set (F.MEM_BAD_BLOCK.nth i) 0).set F.MEM_BAD_COUNT_COUNT l.length

/-- LAST_ADDR. -/
def State.setLastAddr (s : State) (blk : Nat) (bad : Bool) : State := (s.setB F.MEM_LAST_ADDR_UNCORR bad).set F.MEM_LAST_ADDR_ADDR (256 * blk)

/-- A block enters the bad list, unless sixteen are listed (R456). -/
def State.listBad (s : State) (blk : Nat) : State :=
  let l := s.badList
  if l.contains blk then s else if 16 ≤ l.length then s.ev E.MEM_BAD_LIST_FULL 0 [256 * blk] else s.setBadList (l ++ [blk])

/-- The outcome of a read of block `blk` (R455): 0 clean, 1 corrected by the inner code, 2 by the outer code, 3 not. -/
def State.blockRead (s : State) (blk outcome codeword : Nat) (otherBad : Bool) : State :=
  let good := fun (s : State) => (s.when (s.badList.contains blk) fun s => s.setBadList (s.badList.filter fun b => b != blk)).modLife fun l =>
    { l with imgBad := l.imgBad.filter fun b => b != blk }
  let corrected := fun (s : State) => (s.modLife fun l => { l with corr := l.corr + 1 }).setLastAddr blk false
  match outcome with
  | 0 => good s
  | 1 => (corrected (s.incSat F.MEM_INNER_CORR_COUNT)).ev E.MEM_CORRECTED_INNER 0 [256 * blk]
  | 2 => (corrected (s.incSat F.MEM_OUTER_CORR_COUNT)).ev E.MEM_CORRECTED_OUTER 0 [256 * blk, codeword]
  | _ =>
    let s := ((s.incSat F.MEM_UNCORR_COUNT).setLastAddr blk true).ev E.MEM_UNCORRECTABLE 0 [256 * blk, (areaOf blk).1]
    (s.listBad blk).blockLost blk otherBad

/-! ### The codes of the store (R454) -/

/-- Product with α = 0x02 in GF(256) with the field polynomial 0x11D. -/
def gfTwice (a : Nat) : Nat := if a < 128 then 2 * a else (2 * a).xor 0x11D

/-- The powers of α, from α^0. -/
def gfExp : Nat → Nat
  | 0 => 1
  | n + 1 => gfTwice (gfExp n)

/-- Product in GF(256), bit by bit of `b`. -/
def gfMul (a b : Nat) : Nat :=
  ((List.range 8).foldl (fun (p : Nat × Nat) i => (if b.testBit i then p.1.xor p.2 else p.1, gfTwice p.2)) (0, a)).1

/-- The inner code reads a word with the errors `p` in its 72 bits, the 64 data bits lowest: whether it has corrected one, and the
errors left in the data. It corrects a single error and detects a double one; of three and more the rule says nothing, and the code
is internal to the array: it takes them, as the free value `f` has it, for one error somewhere, or detects them (log entry 110). -/
def innerRead (p f : Nat) : Bool × Nat :=
  match popBits 72 p with
  | 0 => (false, 0)
  | 1 => (true, 0)
  | 2 => (false, p % 2 ^ 64)
  | _ => if f % 73 < 72 then (true, (p.xor (2 ^ (f % 73))) % 2 ^ 64) else (false, p % 2 ^ 64)

/-- The errors in word `w` of a block, of which 0 to 31 are data and 32 holds the four check symbols. -/
def wordFlips (flips : List (Nat × Nat)) (w : Nat) : Nat :=
  (flips.foldl (fun e f => if f.1 = w then e.xor f.2 else e) 0) % 2 ^ 72

/-- Every word of a block through the inner code: whether it has corrected any, and the wrong bytes left, each with its place among
the 260 symbols. A word of three errors and more uses a free value up. -/
def State.innerBlock (s : State) (flips : List (Nat × Nat)) : State × Bool × List (Nat × Nat) :=
  (List.range 33).foldl (fun (a : State × Bool × List (Nat × Nat)) w =>
    let p := wordFlips flips w
    let r := innerRead p a.1.free
    let syms := (List.range (if w < 32 then 8 else 4)).filterMap fun k =>
      let b := r.2 / 256 ^ k % 256
      if b = 0 then none else some (8 * w + k, b)
    (a.1.when (decide (2 < popBits 72 p)) State.freeNext, a.2.1 || r.1, a.2.2 ++ syms)) (s, false, [])

/-- What a codeword's decoding finds: nothing, one wrong symbol, or more than it can correct. -/
inductive RsResult where
  | clean
  | fixed (sym err : Nat)
  | bad
deriving DecidableEq, Repr

/-- Codeword `c` with the wrong symbols `errs` of its block. Symbol i of a codeword is the coefficient of x^(129 − i), its data
symbols first (log entry 110); the syndromes at α^0 and α^1 name the symbol to correct. -/
def rsRead (errs : List (Nat × Nat)) (c : Nat) : RsResult :=
  let own := errs.filter fun e => e.1 % 2 == c
  let s0 := own.foldl (fun a e => a.xor e.2) 0
  let s1 := own.foldl (fun a e => a.xor (gfMul e.2 (gfExp (129 - e.1 / 2)))) 0
  if s0 = 0 ∧ s1 = 0 then .clean
  else if s0 = 0 ∨ s1 = 0 then .bad
  else match (List.range 130).find? fun j => gfMul s0 (gfExp j) == s1 with
    | some j => .fixed (2 * (129 - j) + c) s0
    | none => .bad

/-- What a decoding leaves of the wrong symbols: nothing after a right correction. -/
def rsLeft (errs : List (Nat × Nat)) : RsResult → List (Nat × Nat)
  | .fixed i e => (errs ++ [(i, e)])
  | _ => errs

/-- Outcome of a block by its two codewords and the inner code (R455): 0 clean, 1 inner corrected, 2 outer corrected, 3 not
correctable; and the codeword logged, the first that was corrected. -/
def blockOutcome (inner : Bool) (r0 r1 : RsResult) : Nat × Nat :=
  match r0, r1 with
  | .bad, _ => (3, 0)
  | _, .bad => (3, 1)
  | .fixed _ _, _ => (2, 0)
  | _, .fixed _ _ => (2, 1)
  | _, _ => (if inner then 1 else 0, 0)

/-- First byte of a store area in its table (Table 18.3), for the areas held once as plain bytes. -/
def areaTable (a : Nat) : Option Nat :=
  match a with
  | 2 => some (tbl 1 0) | 3 => some (tbl 2 0) | 4 => some (tbl 15 0) | 5 => some (tbl 15 0x80000)
  | 6 => some (tbl 5 0) | 7 => some (tbl 6 0) | 8 => some (tbl 4 0) | 9 => some (tbl 3 0)
  | _ => none

/-- The wrong bytes of a block that a list of errors leaves, those on one byte taken together. -/
def netErrors (errs : List (Nat × Nat)) : List (Nat × Nat) :=
  (List.range 256).filterMap fun i =>
    let e := errs.foldl (fun e x => if x.1 = i then e.xor x.2 else e) 0
    if e = 0 then none else some (i, e)

/-- Errors that no code has seen, or that a wrong correction has made, stand in the data from now on. Copies hold their own CRC, by
which a read passes over the wrong one. -/
def State.leaveErrors (s : State) (blk : Nat) (left : List (Nat × Nat)) : State :=
  match areaTable (areaOf blk).1 with
  | some t => s.each (netErrors left) fun e s =>
      let a := t + 256 * (areaOf blk).2 + e.1
      s.wrByte a ((s.rdByte a).xor e.2)
  | none => s

/-- A read of a block whose cells hold the errors `flips` (R454, R455). -/
def State.codedRead (s : State) (blk : Nat) (flips : List (Nat × Nat)) (otherBad : Bool) : State :=
  let r := s.innerBlock flips
  let r0 := rsRead r.2.2 0
  let r1 := rsRead r.2.2 1
  let o := blockOutcome r.2.1 r0 r1
  let s := r.1.when (o.1 != 3) fun s => s.leaveErrors blk (rsLeft (rsLeft r.2.2 r0) r1)
  s.blockRead blk o.1 o.2 otherBad

/-- SCRUB_READ (R454, R457): the next block, ascending, with the bit errors its data words and the word of its check symbols hold; a
finished pass is counted. -/
def execScrubRead (flips : List (Nat × Nat)) (check : Nat) (otherBad : Bool) (s : State) : Result :=
  (s.when (s.on F.MEM_SCRUB_CFG_EN && (!s.sys.held || s.lens.started) && s.mode != .vault && s.mode != .dormant) fun s =>
    let blk := s.get F.MEM_SCRUB_POS_BLOCK
    let s := (s.codedRead blk (flips ++ [(32, check)]) otherBad).set F.MEM_SCRUB_POS_BLOCK (blk + 1)
    s.when (blk == 16383) fun s =>
      let s := s.inc F.MEM_SCRUB_PASSES_COUNT
      (s.ev E.MEM_SCRUB_PASS 0 [s.get F.MEM_SCRUB_PASSES_COUNT, s.life.corr]).modLife fun l => { l with corr := 0 }).finish

end Sys2Proof.Machine
end

