-- ==== Sys2Proof/Machine/DieLinks.lean ====
section
/-! DEFINITION. The die-to-die links and what crosses them (R12 to R15, R405), records the control die asks for, and the key
generator. -/
namespace Sys2Proof.Machine

/-! ### Control–metrology (R14) -/

/-- CTL_METROLOGY_LINK_LOST (R14, R184): tamper type 14; every outlet loses its control feedback, at the end of a VAULT or HANDOVER
in progress (R192), or when the control die has started again. The metrology die logs the loss whenever it runs. In a pair it is a
failure of this unit alone (R378). -/
def execCtlMetrologyLinkLost (s : State) : Result :=
  (s.when ((!s.sys.held || s.lens.started) && !s.sys.metLost && s.mode != .dormant) fun s =>
    let old := s
    let s := (s.modSys fun y => { y with metLost := true }).tamperBegin 14
    let s := s.each (s.outlets.filter fun _ => s.stagesRun && !s.sys.held) fun n s => s.fbLost n 3
    s.ownOutputs old).finish

/-- CTL_METROLOGY_LINK_RESTORED (R14, R448). -/
def execCtlMetrologyLinkRestored (s : State) : Result :=
  (s.when s.sys.metLost fun s =>
    let s := s.each s.outlets fun n s => s.modOut n fun o => { o with fbLive := 0 }
    let old := s
    (((s.modSys fun y => { y with metLost := false }).tamperEnd 14).sendPend).ownOutputs old).finish

/-! ### Control–power (R15, R405) -/

/-- CTL_POWER_LINK_LOST (R15, R378, R405). -/
def execCtlPowerLinkLost (s : State) : Result :=
  (s.when (!s.sys.held && !s.on F.LSW_STATUS_LINK_LOST && s.mode != .dormant) fun s =>
    let old := s
    let s := s.cutPower
    let s := { s with pdie := { s.pdie with
      lostTick := s.ticks, stale := s.regs.filter fun (e : Nat × Nat) => let p := e.1 / 32 / 0x1000; p == 0x2B || p == 0x2C } }
    (((s.setB F.LSW_STATUS_LINK_LOST true).setB F.LSW_SUPPLY_LINK_LOST true).ev E.LSW_LINK_LOST 0 []).refreshChans.ownOutputs old).finish

/-- CTL_POWER_LINK_RESTORED (R405, R406). -/
def execCtlPowerLinkRestored (s : State) : Result :=
  (s.when (s.on F.LSW_STATUS_LINK_LOST) fun s =>
    let us := s.since s.pdie.lostTick / ticksUs
    let old := s
    let s := { s with pdie := { s.pdie with stale := [], cut := s.mode.early || s.mode == Mode.configure } }
    (((s.setB F.LSW_STATUS_LINK_LOST false).setB F.LSW_SUPPLY_LINK_LOST false).ev E.LSW_LINK_RESTORED 0 [us]).refreshChans.ownOutputs old).finish

/-! ### Records (R12, R60 to R62) -/

/-- RECORD_APPEND_REQ (R12, Table 1.2): an event (code, severity, instance, data: bytes 12 to 31 of Table 3.5), a change-log
record (page, kind, offset, old, new: bytes 12 to 23 of Table 14.7) or lifetime increments (number and amount, two and four
bytes each). The metrology die stamps it. -/
def execRecordAppendReq (kind : Fin 3) (content : List Nat) (s : State) : Result :=
  (let le := fun i n => ofLe (slice content i n)
   s.when (!s.sys.metLost && !s.sys.held) fun s =>
    match kind.val with
    | 0 => (s.logOne ⟨⟨le 1 1, le 0 1, le 2 1⟩, le 3 1, [le 4 4, le 8 4, le 12 4, le 16 4], false⟩).judgeFill
    | 1 => if s.clogFull then s.err E.SEAL_LOG_FULL 0 [le 0 1, le 2 2] else s.clogAppend (le 0 1) (le 1 1) (le 2 2) (le 4 4) (le 8 4)
    | _ => s.each (List.range (content.length / 6)) fun i s =>
        if le (6 * i) 2 < 448 then s.lifeStore (le (6 * i) 2) (le (6 * i + 2) 4) else s).finish

/-- EVENT_APPEND (R45, R60 to R62): an event of a page kind, with its instance and data. -/
def execEventAppend (page code sev inst : Nat) (data : List Nat) (s : State) : Result :=
  (s.when (decide (page < 0x47) && !s.sys.held) fun s => s.ev ⟨page, code % 256, sev⟩ inst data).finish

/-! ### The key generator (R243) -/

/-- KEYGEN: a key pair of the curve, refused while a TLS connection is open. -/
def State.keygen (s : State) (v : Nat) : State :=
  let c := v % 4
  s.guarded false 0x22 0x040 none (fun s => s.when (s.get F.CRYPT_STATUS_TLS_OPEN != 0) fun s =>
      s.err E.CRYPT_KEYGEN_BUSY 0 [s.get F.CRYPT_STATUS_TLS_OPEN]) fun s =>
    if s.get F.CRYPT_STATUS_TLS_OPEN ≠ 0 ∨ c = 3 then none
    else
      let k := s.free
      let s := (s.freeNext).modVde fun w => { w with keys := mins c k w.keys }
      let s := (s.set F.CRYPT_KEYGEN_CURVE c).setBit F.CRYPT_KEY_STAT_PRESENT c true
      some ((s.ev E.CRYPT_KEY_GENERATED 0 [c]).refreshTrust)

/-- KEYGEN (R243). -/
def execKeygen (value : Word) (s : State) : Result := (s.hostWrites 0x22 0x040 fun s => s.keygen value.toNat).finish

end Sys2Proof.Machine
end

