-- ==== Sys2Proof/Machine/Access.lean ====
section
/-! DEFINITION. Host reads of registers and tables, and the accesses common to every page and table (chapter 03): the
header, unmapped addresses, the test registers, the log's own registers, and table entries. -/
namespace Sys2Proof.Machine

/-! ### The common header (Tables 3.1, 3.2) -/

/-- A block field of the page has an access code that satisfies `p`. -/
def hasAcc (page : Nat) (p : Access → Bool) : Bool := (kindFields page).any fun f => p f.acc

/-- Block registers from 0x040: CAP.NREGS. -/
def nRegs (page : Nat) : Nat :=
  ((kindFields page).foldl (fun (acc : List Nat × Nat) f =>
    if f.off < 0x040 || acc.1.contains f.off then acc else (f.off :: acc.1, acc.2 + f.count)) ([], 0)).2

/-- LOCK (Table 3.2). -/
def State.lockWord (s : State) (page : Nat) : Nat :=
  let b := fun (c : Bool) (i : Nat) => if c then 2 ^ i else 0
  s.lockOwners page * 2 ^ 16 + b s.prot.lockSeal.isSome 11 + b s.prot.lockSafety.isSome 10 + b s.pwdOpen 9 + b s.sealOpen 8 +
    b (hasAcc page (· == .rwt)) 2 + b (hasAcc page fun a => a == .rwp || a == .rwpW1c) 1 + b (hasAcc page fun a => a == .rws || a == .rwsWo) 0

/-- The register word as read: write-only fields read 0. -/
def State.readFields (s : State) (page off : Nat) : Nat :=
  (fieldsAt page off).foldl (fun w f => if f.acc == .wo || f.acc == .rwsWo then w else w + s.get f * 2 ^ f.lo) 0

/-- The pages that request an interrupt, 32 from page 32 j on (R428). -/
def State.pagePend (s : State) (j : Nat) : Nat :=
  (List.range 32).foldl (fun w b => if decide (32 * j + b < 0x47) && s.evtPend (32 * j + b) != 0 then w + 2 ^ b else w) 0

/-- The blocks of GATE_EN that have no work, by their bits (R27, log entry 111): groups unrouted, slow slots all off, no Sentence
open, no allocation under way, no dialogue and no exchange of it, no TLS connection, no DMA channel at work, no sensor converted, no
output armed or active, and a link's PHY down. -/
def State.idleBlocks (s : State) : Nat :=
  let b := fun (c : Bool) (i : Nat) => if c then 2 ^ i else 0
  let talk := s.outlets.any fun n => s.get (F.VDE_CTX_STATE_STEP.nth n) != 0 || s.get (F.VDE_CTX_STATE_CONN.nth n) != 0
  b (s.groups.any fun g => s.stage g == .unrouted) 0 +
  b ((List.range 48).all fun k => s.slotState (16 + k) == 0) 1 +
  b (!(List.range 16).any fun k => decide (1 ≤ (s.slot k).st) && decide ((s.slot k).st ≤ 5)) 2 +
  b s.tree.capDue.isEmpty 3 + b (!talk) 4 + b (s.get F.CRYPT_STATUS_TLS_OPEN == 0) 5 + b (!talk) 6 +
  b ((List.range 16).all fun c => !(s.dst c == 1 || s.dst c == 2)) 7 +
  b (!((List.range 48).any fun c => s.on (F.SENS_CH_CFG_EN.nth c)) && s.outlets.all fun n => s.linkKind n == 0) 8 +
  b ((List.range 8).all fun n => !s.on (F.TPO_STATUS_ARMED.nth n) && !s.on (F.TPO_STATUS_ACTIVE.nth n)) 9 +
  b (s.outlets.any fun n => s.lstate n == 0) 10

/-- GATE_STAT.GATED at the moment it is read (R27). -/
def State.gatedNow (s : State) : Nat :=
  if s.mode == .ready || s.mode == .deliver then s.idleBlocks.land (s.get F.CLK_GATE_EN_EN) else 0

/-- RESTART and AON_PPM, which show clocks as they happen to run: the longest restart is free up to the 1 µs of R27 and never
falls; OFFSET is free (log entry 1). -/
def State.clockFree (s : State) (off : Nat) : Nat :=
  if off = 0x04C then max (s.get F.CLK_RESTART_MAX_NS) (s.free % 1001) else s.free % 2 ^ 32

/-- LINK.STATUS.SELECTED: the transmitters of a link that is not disabled are enabled in an unpaired or selected unit (R215,
R229). -/
def State.linkSelected (s : State) (page : Nat) : Bool :=
  pageKind page == 0x1D && s.get (F.LINK_CFG_KIND.inst (page - 0x1D)) != 0 && (!s.on F.MIR_CFG_EN || s.on F.MIR_STATUS_SELECTED)

/-- PUBi of the SESS page: 0x04 ‖ X ‖ Y of the metrology key, four bytes a word, least significant byte first (R317). -/
def sessPub (i : Nat) : Nat := ofLe (slice (4 :: beBytes 64 Config.metrologyPoint) (4 * i) 4)

/-- The value of the register at `off` of `page`; none where no register is defined (R44). -/
def State.regValue (s : State) (page off : Nat) : Option Nat :=
  match off with
  | 0x000 => some (pageKind page * 2 ^ 16 + pageInst page * 2 ^ 8 + 1)
  | 0x004 => some (s.get (hCapBlock page) * 2 ^ 16 + nRegs page)
  | 0x008 => some (s.readFields page 0x008)
  | 0x00C => some (s.readFields page 0x00C + s.get (hErrNew page) * 2 ^ 31 + (if s.linkSelected page then 32 else 0))
  | 0x010 => some (s.get (hEvtRaw page))
  | 0x014 => some (s.get (hEvtEn page))
  | 0x018 => some (s.evtPend page)
  | 0x01C => some 0
  | 0x020 => some (s.get (hErrCount page) * 2 ^ 16 + s.get (hErrCode page))
  | 0x024 => some (s.get (hErrNs page))
  | 0x028 => some (s.get (hErrSec page))
  | 0x02C => some (s.lockWord page)
  | 0x030 => some (if s.testMode then s.get (hDiagSel page) * 2 ^ 16 + s.get (hDiagArm page) else 0)
  | _ =>
    if page = 0x2D ∧ 0x800 ≤ off ∧ off < 0xC00 then some (s.msixRead off)
    else if page = 0x2D ∧ (off = 0xC00 ∨ off = 0xC04) then some (s.host.pba / 2 ^ (8 * (off - 0xC00)) % 2 ^ 32)
    else if (fieldsAt page off).isEmpty then none
    else if page = 0x2B ∧ 0x100 ≤ off ∧ !s.hasLsw (if off < 0x300 then (off - 0x100) / 16 else (off % 0x80) / 4) then some 0
    else if page = 0x2D ∧ off = 0x044 then some ((if s.is7680 then 0x7680 else 0x7640) * 2 ^ 16 + 0x1F3C)
    else if page = 0x2D ∧ off = 0x058 then some (s.vecConditions % 2 ^ 32)
    else if page = 0x2D ∧ off = 0x05C then some (s.vecConditions / 2 ^ 32)
    else if page = 0x2D ∧ 0x060 ≤ off ∧ off < 0x06C then some (s.pagePend ((off - 0x060) / 4))
    else if page = 0x46 ∧ 0x100 ≤ off ∧ off < 0x144 then some (sessPub ((off - 0x100) / 4))
    else if page = 0x3F ∧ off = 0x044 then some 0
    else if page = 0x01 ∧ off = 0x048 then some s.gatedNow
    else if page = 0x01 ∧ (off = 0x04C ∨ off = 0x050) then some (s.clockFree off)
    else some (s.readFields page off)

/-- The page shows what was last received before the control–power link was lost (R406). -/
def State.staleView (s : State) (page : Nat) : Bool := (page == 0x2B || page == 0x2C) && s.on F.LSW_STATUS_LINK_LOST

/-- The state seen through the page. -/
def State.viewOf (s : State) (page off : Nat) : State :=
  if s.staleView page && decide (0x040 ≤ off) then
    ({ s with regs := s.pdie.stale }.setB F.LSW_SUPPLY_LINK_LOST true).set F.SYS_DEVICE_VARIANT (s.get F.SYS_DEVICE_VARIANT)
  else if s.staleView page && off == 0x00C then s.set F.LSW_STATUS_CLUSTER_WARN (mget 0 s.pdie.stale F.LSW_STATUS_CLUSTER_WARN.key)
  else s

/-- What reading a register changes: ERR_NEW, and its RC fields (R43, R46, R406); a free value is used up. -/
def State.readEffect (s : State) (page off : Nat) : State :=
  if off = 0x020 then s.setB (hErrNew page) false
  else if s.staleView page then s
  else if page = 0x01 ∧ off = 0x04C then (s.set F.CLK_RESTART_MAX_NS (s.clockFree off)).freeNext
  else if page = 0x01 ∧ off = 0x050 then s.freeNext
  else s.each (fieldsAt page off) fun f s => s.when (f.acc == .rc) fun s => s.set f 0

/-- A host read of a register: its value and what it leaves. -/
def State.regRead (s : State) (page off : Nat) : Nat × State :=
  if !s.hostOpen then (0, s)
  else if 0x47 ≤ page then (0, s.err E.EVT_UNMAPPED_ACCESS 0 [page * 0x1000 + off, 0])
  else if !s.hasPage page then (0, s)
  else if dieOf page == .metrology && s.sys.metLost then (0, s.err E.HOST_D2D_ABORT 0 [page * 0x1000 + off])
  else
    let s := if page = 0x04 ∧ off = 0x048 then s.copyNow else s
    match (s.viewOf page off).regValue page off with
    | some v => (v, s.readEffect page off)
    | none => (0, s.errC .noRegister page [off])

/-- The bits of the bytes that byte enables `be` ask for. -/
def beMask (be : Nat) : Nat := (List.range 4).foldl (fun m k => if be.testBit k then m + 255 * 256 ^ k else m) 0

/-- A host read of the bytes `be` of a register, answered (R43): those bytes are returned, and a read of any byte is a read of the
register; one of no byte reads nothing. A metrology page out of reach ends in Completer Abort (R424). -/
def State.hostRead (s : State) (page off be : Nat) : State :=
  let a := page * 0x1000 + off / 4 * 4
  let r := s.regRead page (off / 4 * 4)
  let t := if be = 0 then s else r.2
  if !s.hostOpen then t
  else if dieOf page == .metrology && s.hasPage page && s.sys.metLost then t.emit (.cplAbort a)
  else t.emit (.rdata a (r.1.land (beMask be)))

/-- READ_CLEAR (R43). -/
def execReadClear (page : Nat) (word : ReadAt) (s : State) : Result := (s.hostRead page word.off word.be).finish

/-- ERR_CODE_READ (R46). -/
def execErrCodeRead (page : Nat) (s : State) : Result := (s.hostRead page 0x020 15).finish

/-- An address that R44 calls unmapped. -/
def unmapped (addr : Nat) : Bool := decide (2 ≤ addr / 2 ^ 28) || (addr / 2 ^ 28 == 0 && decide (0x47 ≤ addr / 0x1000))

/-- UNMAPPED_ACCESS (R44). -/
def execUnmappedAccess (addr : Nat) (write : Bool) (s : State) : Result :=
  (s.when (s.hostOpen && unmapped addr) fun s =>
    let s := s.err E.EVT_UNMAPPED_ACCESS 0 [addr, if write then 1 else 0]
    if write then s else s.emit (.rdata addr 0)).finish

/-! ### Event flags and tests (R45, R47) -/

/-- A 1 clears its bit in EVT_RAW, and so in EVT_PEND; a group that has had an event in this tick stays set (R45). -/
def State.pendClear (s : State) (page v : Nat) : State :=
  s.set (hEvtRaw page) (((s.get (hEvtRaw page)).land (2 ^ 32 - 1 - v % 2 ^ 32)).lor ((s.get (hEvtRaw page)).land (s.rawNow page)))

/-- EVT_PEND_CLEAR (R45). -/
def execEvtPendClear (page : Nat) (mask : Word) (s : State) : Result := (s.hostWrites page 0x018 fun s => s.pendClear page mask.toNat).finish

/-- Each 1 is an event of code bit × 8, of severity 6 (R47). -/
def State.evtSet (s : State) (page v : Nat) : State :=
  if !s.testMode then s.errC .evtSetRefused page [v]
  else s.each ((List.range 32).filter fun b => v.testBit b) fun b s => s.ev ⟨pageKind page, 8 * b, 6⟩ (pageInst page) []

/-- SELFTEST's own sequence writes the test registers itself; elsewhere the host does (R47). -/
def State.testWrites (s : State) (page off : Nat) (f : State → State) : State :=
  if s.mode = .selftest then (if s.hasPage page then f s else s) else s.hostWrites page off f

/-- EVT_SET (R47). -/
def execEvtSet (page : Nat) (mask : Word) (s : State) : Result := (s.testWrites page 0x01C fun s => s.evtSet page mask.toNat).finish

/-- DIAG_INJ_WRITE (R47). -/
def execDiagInjWrite (page : Nat) (value : Word) (s : State) : Result := (s.testWrites page 0x030 fun s => s.diagInj page value.toNat).finish

/-! ### The rings' registers (R471, R472) -/

/-- LOG_CFG_WRITE (R471). -/
def execLogCfgWrite (value : Word) (s : State) : Result := (s.hostWrites 0x43 0x054 fun s => s.logCfg value.toNat).finish

/-- TAIL_WRITE (R472). -/
def execTailWrite (ring : Ring) (value : Word) (s : State) : Result :=
  (s.hostWrites (ringPage ring) (ringOff ring) fun s => s.tailWrite ring value.toNat).finish

/-! ### Tables (R54, R55) -/

/-- A byte of a number, least significant first. -/
def byteOf (v i : Nat) : Nat := v / 256 ^ i % 256

/-- A counter or bin less its value at the baseline, `n` bytes at byte `b` of table 12 (R451). -/
def State.lifeDelta (s : State) (b n : Nat) : Nat := s.rdLe (tbl 12 b) n - { s with mem := s.life.base }.rdLe (tbl 12 b) n

/-- The 32-bit word of table `t` at byte `off`. -/
def State.tableWord (s : State) (t off : Nat) : Nat :=
  let o := off / 4 * 4
  if t = 0 then ofLe (slice ((s.billBytes (o / 64)) ++ List.replicate 16 0) (o % 64) 4)
  else if t = 9 ∧ !s.is7680 ∧ 36 * 16 ≤ o then 0
  else if t = 12 ∧ s.on F.LIFE_VIEW_DELTA then
    if o < 0x1000 then s.lifeDelta (o / 8 * 8) 8 / 2 ^ (8 * (o % 8)) % 2 ^ 32 else s.lifeDelta o 4
  else s.rdLe (tbl t o) 4

/-- A host read of a table. -/
def State.tableRead (s : State) (t off : Nat) : Nat × State :=
  if !s.hostOpen then (0, s)
  else if tableSize t ≤ off then (0, s.err E.EVT_TABLE_RANGE 0 [t, off])
  else if tableMet t && s.sys.metLost then (0, s.err E.HOST_D2D_ABORT 0 [0x10000000 + t * 0x1000000 + off])
  else (s.tableWord t off, s)

/-- Entry size of the tables whose host writes are buffered (R55). -/
def bufStride (t : Nat) : Nat := match t with | 3 => 16 | 5 => 32 | _ => 2048

/-- The entry of `n` bytes at byte `a` with its buffered words; the buffer lets them go. -/
def State.takeEntry (s : State) (a n : Nat) : State × List Nat :=
  let bytes := (List.range (n / 4)).flatMap fun i =>
    leBytes 4 (match s.tabBuf.find? fun e => e.1 == a + 4 * i with | some e => e.2 | none => s.rdLe (a + 4 * i) 4)
  ({ s with tabBuf := s.tabBuf.filter fun e => !(decide (a ≤ e.1) && decide (e.1 < a + n)) }, bytes)

/-- An entry is applied whole, without the bits its layout gives as zero (R6); `logged` when it belongs to a protected table (R51,
R55, Table 14.7). -/
def State.applyEntry (s : State) (t e : Nat) (logged : Bool) : State :=
  let n := bufStride t
  let a := tbl t (n * e)
  let old := s.rdBytes a n
  let r := s.takeEntry a n
  let new := entryBytes t (r.2.getD 0 0) 0 r.2
  let s := r.1.wrBytes a new
  s.when logged fun s => s.clogAppend 0xFF 3 (t * 4096 + e) (crc32 old) (crc32 new)

/-- A word of a buffered table: the word at the entry's highest offset applies the entry. -/
def State.bufWrite (s : State) (t off v : Nat) (logged : Bool) (after : State → State) : State :=
  let n := bufStride t
  let s := { s with tabBuf := mins (tbl t off) v s.tabBuf }
  s.when (off % n == n - 4) fun s => after (s.applyEntry t (off / n) logged)

/-- A word of the mailbox (R432). -/
def State.mbxWrite (s : State) (off v : Nat) : State :=
  let k := off / 4096
  if k < 8 then s.mbxBad k 1 else if s.mbx k = 2 then s.mbxBad k 2 else s.wrLe (tbl 14 off) 4 v

/-- A word of a table as it reaches the table, `off` a multiple of 4. -/
def State.tablePut (s : State) (t off v : Nat) : State :=
  match t with
  | 3 =>
    if !s.sealOpen then s.errC .writeSealed 0x26 [off]
    else if off / 8192 = s.bank then s.err E.TARIFF_BANK_ACTIVE 0 [off / 16]
    else if s.clogFull then s.err E.SEAL_LOG_FULL 0 [0x26, off]
    else s.bufWrite 3 off v true fun s => s.tamper 12
  | 5 => s.bufWrite 5 off v false State.refreshList
  | 6 =>
    if !s.pwdOpen then s.errC .writeNeedsPassword 0x22 [off]
    else if s.clogFull then s.err E.SEAL_LOG_FULL 0 [0x22, off]
    else s.bufWrite 6 off v true fun s => { s with prot := { s.prot with rwpTick := s.ticks } }.trustApply (off / 2048)
  | 7 => s.wrLe (tbl 7 off) 4 v
  | 8 => s.slotWrite (off / 64) (off % 64 / 4) v
  | 9 => if !s.is7680 && decide (36 * 16 ≤ off) then s else s.errC .writeNeedsSentence 0x1A [off]
  | 10 => s.errC .writeNeedsSentence 0x07 [off]
  | 11 => s.routeWrite (off / 8) (off % 8 == 4) v
  | 14 => s.mbxWrite off v
  | 15 => s.imageWrite off v
  | _ => s

/-- A host write of a word of a table. -/
def State.tableWrite (s : State) (t off v : Nat) : State := s.tableWrites t off fun s => s.tablePut t (off / 4 * 4) v

/-- TABLE_ENTRY_WRITE (R55). -/
def execTableEntryWrite (table byteOff : Nat) (value : Word) (s : State) : Result :=
  (s.when (decide (table < 16)) fun s => s.tableWrite table byteOff value.toNat).finish

end Sys2Proof.Machine
end

