-- ==== Sys2Proof/Machine/HostBus.lean ====
section
/-! DEFINITION. Host writes to registers (R43, R44, R50): every register's own operation, the rule of each access code for
the others, and the quad-SPI target (R426, R427). -/
namespace Sys2Proof.Machine

/-- The state of an answer. -/
def stateOf (s : State) (r : Result) : State :=
  match r with
  | .next t => t
  | _ => s

def word (v : Nat) : Word := BitVec.ofNat 32 v

/-! ### Registers with operations of their own -/

/-- SYS. -/
def State.writeSys (s : State) (off v : Nat) : Option State :=
  match off with
  | 0x008 => some (s.when (v.testBit 0) State.configDone)
  | 0x048 => some (s.modeReq (v % 16))
  | 0x060 => some (s.when (v.testBit 16) State.stuckClear)
  | 0x064 => some (s.swReset v)
  | 0x06C => some (s.imageCmd (v / 65536) (v % 4))
  | _ => none

/-- PWD_CMD (R362): OP 1 to 6; the seal's need SEAL_N. -/
def State.pwdCmd (s : State) (op len : Nat) : State :=
  match op with
  | 1 => s.pwdEnter 0 1 len
  | 2 => if s.prot.sealN then s.pwdEnter 1 2 len else s
  | 3 => s.closePwd
  | 4 => s.closeSeal
  | 5 => s.pwdChange 0 5 len
  | 6 => if s.prot.sealN then s.pwdChange 1 6 len else s
  | _ => s

/-- TIME beside what a Clause may write too: STEP, a configuration that may end Sentences, and the slew (R66, R70, R99). -/
def State.hostTime (s : State) (off v : Nat) : Option State :=
  match off with
  | 0x008 => some (s.when (v.testBit 0) State.hostStep)
  | 0x040 => some (s.timeCfgWrite v)
  | 0x06C => some (s.adjWrite v)
  | _ => s.ownReg 0x04 off 0xFFFFFFFF v

/-- SENT.CMD (Table 5.4). -/
def sentCommand (op slot : Nat) (s : State) : Result :=
  match op with
  | 1 => execSentOpen s
  | 2 => execSentStage (Fin.ofNat 16 slot) s
  | 3 => execSentPrepare (Fin.ofNat 16 slot) s
  | 4 => execSentAbort (Fin.ofNat 16 slot) s
  | 5 => execSentRelease (Fin.ofNat 16 slot) s
  | 6 => execSentClear (Fin.ofNat 16 slot) s
  | _ => execSentBadOp (Fin.ofNat 16 op) (Fin.ofNat 16 slot) s

/-- COOL: OCFG, and the flags of OSTAT. -/
def State.writeCool (s : State) (off v : Nat) : Option State :=
  match (List.range 4).find? fun n => off == 0x19C + 0x20 * n with
  | some n => some (s.ostatClear n v)
  | none => s.ownReg 0x1C off 0xFFFFFFFF v

/-- Registers that refuse a value, or have an operation of their own; none for the others. -/
def State.ownWrite (s : State) (page off v : Nat) : Option State :=
  let shared := s.ownReg page off 0xFFFFFFFF v
  match pageKind page with
  | 0x00 => s.writeSys off v
  | 0x03 => if off = 0x060 then some (s.pwdCmd (bits v 31 28) (v % 64)) else shared
  | 0x04 => s.hostTime off v
  | 0x0E => if off = 0x008 then some (s.when (v.testBit 0) fun s => s.faultClr (page - 0x0E) (!(s.grp (page - 0x0E)).gflt)) else none
  | 0x1C => s.writeCool off v
  | 0x1D => if off = 0x040 then some (s.linkCfgWrite (page - 0x1D) v) else shared
  | 0x22 => if off = 0x040 then some (s.keygen v) else none
  | 0x23 => if off = 0x180 then shared else none
  | 0x2A =>
    if off = 0x008 then some (s.modMir fun m => { m with failAsked := if v.testBit 0 then true else if v.testBit 1 then false else m.failAsked })
    else shared
  | 0x2B =>
    if 0x100 ≤ off ∧ off < 0x300 ∧ off % 16 = 12 then some (s.chStatClear ((off - 0x100) / 16) v) else shared
  | 0x2D =>
    if off = 0x054 then some (s.vecEoi v)
    else if off = 0x084 then some (s.mbxPost v)
    else if off = 0x088 then some (s.mbxDone v)
    else if 0x800 ≤ off ∧ off < 0xC00 then some (s.msixWrite off v)
    else none
  | 0x2F => if off = 0x054 then some (s.dmaAppend (page - 0x2F)) else shared
  | 0x3F =>
    if off = 0x044 then some (s.baseline v)
    else if off = 0x054 then some (s.hostInc v)
    else if off = 0x058 then some (s.hostHist v)
    else none
  | 0x45 => match (List.range 4).find? fun k => off == 0x084 + 16 * k with
    | some k => some (s.arbForce k v)
    | none => shared
  | _ => shared

/-- The flags of FB_STAT whose cause is still present: a clock, data or link that is still lost (R184, R188). -/
def State.fbLiveWord (s : State) (n : Nat) : Nat :=
  let l := if s.sys.metLost then 3 else (s.outSt n).fbLive
  128 * (l % 2) + 64 * (l / 2 % 2)

/-- Registers whose write is a command of the table with its own meaning. -/
def State.ownCommand (s : State) (page off v : Nat) : Option Result :=
  match pageKind page with
  | 0x09 => if off = 0x040 then some (sentCommand (bits v 31 28) (bits v 27 24) s) else none
  | 0x0A =>
    let n := page - 0x0A
    if off = F.OUTLET_FB_STAT_LOST_V.off then some (execFbStatClear (Fin.ofNat 4 n) (word v) (word (s.fbLiveWord n)) s) else none
  | 0x1D =>
    let n := page - 0x1D
    if off = 0x008 then
      let s := if v.testBit 0 then stateOf s (execLinkUnlatch (Fin.ofNat 4 n) s) else s
      some (if v.testBit 1 then execLinkRestart (Fin.ofNat 4 n) s else s.finish)
    else if off = 0x058 then some (execCpPwmWrite (Fin.ofNat 4 n) (word v) s)
    else none
  | 0x21 =>
    if off = 0x008 then
      some (if v.testBit 0 then execExiLoadSet s else execExiLoadClear s)
    else match (List.range 4).find? fun n => off == 0x104 + 0x40 * n with
      | some n => some (if v.testBit 0 then execCtxStop (Fin.ofNat 4 n) s else s.finish)
      | none => none
  | 0x23 =>
    if 0x200 ≤ off ∧ off < 0x200 + 16 * 23 ∧ off % 16 ≠ 12 then
      some (execLensCalWrite (Fin.ofNat 23 ((off - 0x200) / 16)) (Fin.ofNat 3 (off % 16 / 4)) (word v) s)
    else none
  | 0x25 =>
    if off = 0x008 then some (execClosePeriod (word v) s)
    else if off = 0x040 then some (execDemandCfgWrite (word v) s)
    else none
  | 0x26 => if off = 0x008 then some (execTariffActivate (word v) s) else none
  | 0x28 =>
    if off = 0x088 then some (execWeldClear false (word v) s)
    else if off = 0x08C then some (execWeldClear true (word v) s)
    else if off = 0x090 then some (execSafeRestart (word v) s)
    else if off = 0x094 then some (execSafeClr (word v) s)
    else none
  | 0x29 =>
    if off = 0x074 then some (execGscHostRxGo (word v) s)
    else if 0x100 ≤ off ∧ off < 0x500 ∧ off % 64 = 0x0C then some (execGscCtimeWrite (Fin.ofNat 16 ((off - 0x100) / 64)) (word v) s)
    else if 0x100 ≤ off ∧ off < 0x500 ∧ off % 64 = 0x14 then some (execGscAck (Fin.ofNat 16 ((off - 0x100) / 64)) (word v) s)
    else none
  | 0x2B => if off = 0x048 then some (execLswRearm (word v) s) else none
  | 0x2C => if off = 0x008 then some (execLsxRearm (word v) s) else none
  | 0x2F =>
    if off = 0x048 then
      let c := Fin.ofNat 16 (page - 0x2F)
      some (match v % 16 with
        | 1 => execDmaGo c s
        | 2 => execDmaStart c s
        | 3 => (s.hostWrites page off fun s => s.dmaPause c).finish
        | 4 => execDmaResume c s
        | 5 => execDmaSkip c s
        | 6 => execDmaRetry c s
        | 7 => (s.hostWrites page off fun s => s.dmaAbort c).finish
        | op => (s.hostWrites page off fun s => s.dmaRefuse c op).finish)
    else none
  | 0x41 =>
    if 0x040 ≤ off ∧ off < 0x140 ∧ (off - 0x040) % 32 < 12 then
      some (execPulseCfgWrite (Fin.ofNat 8 ((off - 0x040) / 32)) (Fin.ofNat 3 ((off - 0x040) % 32 / 4)) (word v) s)
    else none
  | 0x46 => if off = 0x054 then some (execSessRead (word v) s) else none
  | _ => none

/-! ### The rule of each access code (R43 to R50) -/

/-- What follows an accepted write of protected or ordinary fields, beside `afterReg`; `old` is the state before it. -/
def State.afterWrite (s old : State) (page off : Nat) : State :=
  let s := s.afterReg page off
  match pageKind page with
  | 0x08 => s.refreshChildren
  | 0x22 => s.refreshTrust
  | 0x23 => s.when ((fieldsAt page off).any fun f => f.acc == .rws) fun s => s.lensDefer page off
  | 0x24 => (s.lensDefer page off).setB F.SYS_MODE_GRID_HOST (s.on F.GRID_CFG_EN)
  | 0x28 => ((s.judgeSf1).each (s.outlets.filter fun n => s.imdGood n != old.imdGood n) fun n s => s.judgeImd n (old.imdGood n)).refreshCfgCrc
  | 0x29 => (s.refreshGsc).refreshCfgCrc
  | 0x2D => s
  | _ => s

/-- The fields of one protection at a register take the value, guarded and recorded (R50, R51). -/
def State.writeGuarded (s : State) (rws : Bool) (page off v : Nat) : State :=
  let p := fun (a : Access) => if rws then a == .rws else a == .rwp
  s.when ((fieldsAt page off).any fun f => p f.acc) fun s =>
    s.guarded rws page off none id fun s =>
      if reservedKind page off v then none else some ((s.setWord page off 0xFFFFFFFF v p).afterWrite s page off)

/-- Each field of a register by its own access code: RW and WO take the value, W1C bits clear, RWT is refused, RWS and RWP
are judged by their protection, RO and RC ignore it. -/
def State.writeByAccess (s : State) (page off v : Nat) : State :=
  let fs := fieldsAt page off
  let s := s.when (fs.any fun f => f.acc == .rw || f.acc == .wo || f.acc == .w1c) fun old =>
    let s := old.setWord page off 0xFFFFFFFF v fun a => a == .rw || a == .wo
    (s.each fs fun f s => s.when (f.acc == .w1c) fun s => s.set f ((s.get f).land (2 ^ f.width - 1 - bits v f.hi f.lo))).afterWrite old page off
  let s := s.when (fs.any fun f => f.acc == .rwt) fun s => s.errC .writeNeedsSentence page [off]
  (s.writeGuarded false page off v).writeGuarded true page off v

/-- The register belongs to a channel the variant lacks (R3). -/
def State.absentReg (s : State) (page off : Nat) : Bool :=
  page == 0x2B && decide (0x100 ≤ off) && !s.hasLsw (if off < 0x300 then (off - 0x100) / 16 else (off % 0x80) / 4)

/-- A write of a whole word to a block register or CTRL as it reaches the register. -/
def State.regPut (s : State) (page off v : Nat) : State :=
  if s.absentReg page off then s
  else match s.ownWrite page off v with
    | some s' => s'
    | none => s.writeByAccess page off v

/-- The registers of the common header other than CTRL. -/
def State.headerPut (s : State) (page off v : Nat) : State :=
  match off with
  | 0x014 => s.set (hEvtEn page) v
  | 0x018 => s.pendClear page v
  | 0x01C => s.evtSet page v
  | 0x030 => s.diagInj page v
  | _ => s

/-- A register is defined at the offset (R44). -/
def defined (page off : Nat) : Bool :=
  decide (off ≤ 0x030) || !(fieldsAt page off).isEmpty || (page == 0x2D && ((decide (0x800 ≤ off) && decide (off < 0xC00)) || off == 0xC00 || off == 0xC04))

/-- A host write of a whole register. -/
def State.regWrite (s : State) (page off v : Nat) : Result :=
  if 0x47 ≤ page then (s.when s.hostOpen fun s => s.err E.EVT_UNMAPPED_ACCESS 0 [page * 0x1000 + off, 1]).finish
  else if !defined page off then (s.hostReach page off fun s => s.errC .noRegister page [off]).finish
  else if off < 0x040 ∧ off ≠ 0x008 then (s.hostWrites page off fun s => s.headerPut page off v).finish
  else match s.ownCommand page off v with
    | some r => r
    | none => (s.hostWrites page off fun s => s.regPut page off v).finish

/-- REGISTER_WRITE (R43, R44, R50): `be` are the byte enables. A partial write to an offset with no register meets R43 and R44, and
is recorded as PARTIAL_WRITE (log entry 112). -/
def execRegisterWrite (addr : Nat) (be : Fin 16) (value : Word) (s : State) : Result :=
  let page := addr / 0x1000
  let off := addr % 0x1000 / 4 * 4
  if be.val ≠ 15 ∧ page < 0x47 then (s.hostReach page off fun s => s.errC .partialWrite page [off]).finish
  else s.regWrite page off value.toNat

/-! ### The quad-SPI target (R426, R427) -/

/-- The STATUS byte (Table 17.3). -/
def State.spiStatus (s : State) (wait busErr crcErr busy : Bool) : Nat :=
  let b := fun (c : Bool) (v : Nat) => if c then v else 0
  0x80 + b wait 0x20 + b busErr 0x10 + b crcErr 8 + b busy 4 + b s.host.intN 2

/-- The device's part of a frame without data. -/
def State.spiReply (s : State) (st : Nat) : State := s.emit (.spi [st, crc8 [st]])

/-- The device's part of a read frame. -/
def State.spiData (s : State) (st v : Nat) : State :=
  let l := st :: beBytes 4 v
  s.emit (.spi (l ++ [crc8 l]))

/-- DATA of a read frame that has no effect: the manual gives none (log entry 1). -/
def State.spiNoData (s : State) (st : Nat) : State := (s.freeNext).spiData st (s.free % 2 ^ 32)

/-- A frame whose host fields fail their CRC is counted and logged (R426). -/
def State.spiCrcErr (s : State) (op : Nat) : State := (s.incSat F.HOST_SPI_ERR_CRC).ev E.HOST_SPI_CRC 0 [op]

def State.modHost (s : State) (f : HostState → HostState) : State := { s with host := f s.host }

/-- BUSY: SELFTEST has not passed yet (R39). -/
def State.spiBusy (s : State) : Bool := !s.hostOpen

/-- A read by SPI address: value, whether the access ended as R424 describes, and what it leaves. -/
def State.spiFetch (s : State) (addr : Nat) : Nat × Bool × State :=
  if addr / 2 ^ 28 = 0 then
    let r := s.regRead (addr / 0x1000) (addr % 0x1000 / 4 * 4)
    (r.1, addr / 0x1000 < 0x47 && dieOf (addr / 0x1000) == .metrology && s.sys.metLost, r.2)
  else if addr / 2 ^ 28 = 1 then
    let t := addr / 0x1000000 % 16
    let r := s.tableRead t (addr % 0x1000000 / 4 * 4)
    (r.1, tableMet t && s.sys.metLost && decide (addr % 0x1000000 < tableSize t), r.2)
  else (0, false, s.err E.EVT_UNMAPPED_ACCESS 0 [addr, 0])

/-- The device is on and its frames are answered. -/
def State.spiOn (s : State) : Bool := !s.sys.held && s.mode != .dormant

/-- A read frame; `ready` tells whether the data is there at the end of the dummy clocks. -/
def State.spiRead (s : State) (op addr crc : Nat) (ready : Bool) : State :=
  if !s.spiOn then s
  else if crc8 (op :: beBytes 4 addr) ≠ crc then
    let s := s.spiCrcErr op
    s.spiNoData (s.spiStatus false false true false)
  else if s.spiBusy then s.spiNoData (s.spiStatus false false false true)
  else match s.host.spiHeld with
    | some h =>
      if h.op = op ∧ h.addr = addr then (s.modHost fun x => { x with spiHeld := none }).spiData (s.spiStatus false h.busErr false false) h.data
      else s.spiNoData (s.spiStatus true false false false)
    | none =>
      let (v, be, s) := s.spiFetch addr
      if ready then s.spiData (s.spiStatus false be false false) v
      else (s.modHost fun x => { x with spiHeld := some ⟨op, addr, v, be⟩ }).spiNoData (s.spiStatus true false false false)

/-- SPI_READ (R426, R427). -/
def execSpiRead (addr : Word) (crc : Byte) (ready : Bool) (s : State) : Result := (s.spiRead 0x0B addr.toNat crc.toNat ready).finish

/-- SPI_QUAD_READ (R426, R427). -/
def execSpiQuadRead (addr : Word) (crc : Byte) (ready : Bool) (s : State) : Result := (s.spiRead 0x6B addr.toNat crc.toNat ready).finish

/-- A write frame: queued, four deep. -/
def State.spiWrite (s : State) (op addr data crc : Nat) : State :=
  if !s.spiOn then s
  else if crc8 (op :: beBytes 4 addr ++ beBytes 4 data) ≠ crc then
    let s := s.spiCrcErr op
    s.spiReply (s.spiStatus false false true false)
  else if s.spiBusy then s.spiReply (s.spiStatus false false false true)
  else if s.host.spiHeld.isSome ∨ 4 ≤ s.host.spiQ.length then s.spiReply (s.spiStatus true false false false)
  else (s.modHost fun h => { h with spiQ := h.spiQ ++ [(addr, data)] }).spiReply (s.spiStatus false false false false)

/-- SPI_WRITE (R426, R427). -/
def execSpiWrite (addr data : Word) (crc : Byte) (s : State) : Result := (s.spiWrite 0x02 addr.toNat data.toNat crc.toNat).finish

/-- SPI_QUAD_WRITE (R426, R427). -/
def execSpiQuadWrite (addr data : Word) (crc : Byte) (s : State) : Result := (s.spiWrite 0x32 addr.toNat data.toNat crc.toNat).finish

/-- A status frame. -/
def State.spiStat (s : State) (op crc : Nat) : State :=
  if !s.spiOn then s
  else if crc8 [op] ≠ crc then
    let s := s.spiCrcErr op
    s.spiReply (s.spiStatus false false true false)
  else s.spiReply (s.spiStatus false false false s.spiBusy)

/-- SPI_STATUS (R426). -/
def execSpiStatus (crc : Byte) (s : State) : Result := (s.spiStat 0x05 crc.toNat).finish

/-- SPI_QUAD_STATUS (R426). -/
def execSpiQuadStatus (crc : Byte) (s : State) : Result := (s.spiStat 0x35 crc.toNat).finish

/-- SPI_FRAME_ABORT (R426). -/
def execSpiFrameAbort (s : State) : Result := (s.when s.spiOn fun s => s.incSat F.HOST_SPI_ERR_ABORTED).finish

/-- A write by SPI address reaches its register or table (R42, R44). -/
def State.busWrite (s : State) (addr v : Nat) : Result :=
  if addr / 2 ^ 28 = 0 then s.regWrite (addr / 0x1000) (addr % 0x1000 / 4 * 4) v
  else if addr / 2 ^ 28 = 1 then (s.tableWrite (addr / 0x1000000 % 16) (addr % 0x1000000) v).finish
  else (s.when s.hostOpen fun s => s.err E.EVT_UNMAPPED_ACCESS 0 [addr, 1]).finish

/-- SPI_QUEUED_WRITE (R427): the oldest queued write is carried out. -/
def execSpiQueuedWrite (s : State) : Result :=
  match s.host.spiQ with
  | (a, v) :: rest => (s.modHost fun h => { h with spiQ := rest }).busWrite a v
  | [] => s.finish

/-- SPI_HELD_READ_EXPIRY (R427). -/
def execSpiHeldReadExpiry (s : State) : Result := (s.modHost fun h => { h with spiHeld := none }).finish

end Sys2Proof.Machine
end

