-- ==== Sys2Proof/Machine/Mover.lean ====
section
/-! DEFINITION. The data mover: the bytes of a transfer, burst by burst, and how a transfer ends (R433, R436, R437, R439,
R440, R443, R444). -/
namespace Sys2Proof.Machine

/-! ### One device access of the mover (R433: it is a host access) -/

/-- The tables held in the ferroelectric store (Table 3.3). -/
def tableFerro (t : Nat) : Bool := t < 7 || t == 12 || t == 15

/-- The code of Table 17.7 with which a device access fails; none where it goes through, or is ignored for want of the instance on
the variant (R2, R3). -/
def State.devCode (s : State) (space addr : Nat) (write : Bool) : Option Nat :=
  if space = 2 then
    let page := addr / 0x1000
    let off := addr % 0x1000
    let acc := fun a => (fieldsAt page off).any fun f => f.acc == a
    if 0x47 ≤ page then some 0x2F34
    else if !s.hasPage page || s.absentReg page off then none
    else if !defined page off then some 0x2F34
    else if write && ((acc .rws && !s.sealOpen) || (acc .rwsWo && !s.sealOpen) || (acc .rwp && !s.pwdOpen) || acc .rwt) then some 0x2F35
    else none
  else
    let t := addr / 0x1000000
    let off := addr % 0x1000000
    if 16 ≤ t ∨ tableSize t ≤ off then some 0x2F34
    else if write && (t == 0 || t == 1 || t == 2 || t == 4 || (t == 9 && (s.is7680 || decide (off < 576))) || t == 10 || t == 12 || t == 13 || (t == 3 && !s.sealOpen) ||
      (t == 6 && !s.pwdOpen) || (t == 15 && off / 0x80000 == s.activeImg)) then some 0x2F35
    else none

/-- A word read at a device address of space 1 or 2. -/
def State.devRead (s : State) (space addr : Nat) : Nat × State :=
  if space = 2 then s.regRead (addr / 0x1000) (addr % 0x1000) else s.tableRead (addr / 0x1000000) (addr % 0x1000000)

/-- A word written at a device address of space 1 or 2. -/
def State.devWrite (s : State) (space addr v : Nat) : State :=
  if space = 2 then stateOf s (s.regWrite (addr / 0x1000) (addr % 0x1000) v) else s.tableWrite (addr / 0x1000000) (addr % 0x1000000) v

/-! ### One burst -/

/-- Bytes to a burst: 64 where a ferroelectric table or registers take part or the ranges overlap, 256 otherwise. -/
def DmaChan.burst (d : DmaChan) : Nat :=
  let slow := fun sp a => sp == 2 || (sp == 1 && tableFerro (a / 0x1000000))
  if d.overlap || slow d.srcSpace d.src || slow d.dstSpace d.dst then 64 else 256

/-- The words that `n` bytes from address `a` lie in, upward (R54). -/
def wordsOf (a n : Nat) : List Nat := if n = 0 then [] else (List.range ((a % 4 + n + 3) / 4)).map fun i => a / 4 * 4 + 4 * i

/-- The first failing word of a burst of `n` bytes: its code, its address, and whether it is written. -/
def State.burstBad (s : State) (d : DmaChan) (src dst n : Nat) : Option (Nat × Nat × Bool) :=
  let side := fun (sp a : Nat) (w : Bool) => if sp = 0 then none else (wordsOf a n).findSome? fun b => (s.devCode sp b w).map fun c => (c, b, w)
  match side d.srcSpace src false with
  | some x => some x
  | none => side d.dstSpace dst true

/-- The source bytes of a burst, in address order; `host` are those that host memory answers. -/
def State.burstRead (s : State) (d : DmaChan) (src n : Nat) (host : List Nat) : List Nat × State :=
  if d.srcSpace = 0 then ((List.range n).map fun i => host.getD i 0 % 256, s)
  else
    let r := (wordsOf src n).foldl (fun (acc : List Nat × State) b =>
      let r := acc.2.devRead d.srcSpace b
      (acc.1 ++ leBytes 4 r.1, r.2)) ([], s)
    (slice r.1 (src % 4) n, r.2)

/-- The word a table holds at `a`, as written so far: a buffered one, else the table's own. -/
def State.heldWord (s : State) (a : Nat) : Nat :=
  match s.tabBuf.find? fun e => e.1 == tbl (a / 0x1000000) (a % 0x1000000) with
  | some e => e.2
  | none => s.tableWord (a / 0x1000000) (a % 0x1000000)

/-- The word written at `a` when `bytes` go to `dst`: bytes of a table's word that lie outside them keep their value. -/
def State.mergedWord (s : State) (d : DmaChan) (dst : Nat) (bytes : List Nat) (a : Nat) : Nat :=
  let old := if d.dstSpace = 1 then s.heldWord a else 0
  ofLe ((List.range 4).map fun k => if dst ≤ a + k ∧ a + k < dst + bytes.length then bytes.getD (a + k - dst) 0 else byteOf old k)

/-- The bytes of a burst reach the destination, in descending order of words for an overlapping copy (R439). -/
def State.burstWrite (s : State) (d : DmaChan) (dst : Nat) (bytes : List Nat) : State :=
  let ws := wordsOf dst bytes.length
  if d.dstSpace = 0 then s.emit (.hostMem dst bytes)
  else s.each (if d.down then ws.reverse else ws) fun a s => s.devWrite d.dstSpace a (s.mergedWord d dst bytes a)

/-- More bytes have moved. -/
def State.dmaMoved (s : State) (c n : Nat) : State :=
  (s.modDch c fun d => { d with moved := d.moved + n }).set2 F.DMA_BYTES_HI_BYTES F.DMA_BYTES_LO_BYTES
    (s.get2 F.DMA_BYTES_HI_BYTES F.DMA_BYTES_LO_BYTES + n)

/-- One burst between two addresses. A refused access ends the descriptor BAD before the burst; that access alone is made,
and records what it records. -/
def State.burstAt (s : State) (c src dst n : Nat) (host : List Nat) : State :=
  let d := s.dch c
  match s.burstBad d src dst n with
  | some (code, a, true) =>
    let r := s.burstRead d src n host
    (r.2.devWrite d.dstSpace a (r.2.mergedWord d dst r.1 a)).dmaBad c code 7
  | some (code, a, false) => (s.devRead d.srcSpace a).2.dmaBad c code 7
  | none =>
    let r := s.burstRead d src n host
    (r.2.burstWrite d dst r.1).dmaMoved c n

/-- The next burst of an open transfer; `base` is what had moved when the command came, `host` its host bytes. -/
def State.burstStep (s : State) (c base total : Nat) (host : List Nat) : State :=
  let d := s.dch c
  let n := min d.burst (d.len - d.moved)
  if s.dst c ≠ 2 ∨ d.len ≤ d.moved then s
  else if d.down then
    let o := d.len - d.moved - n
    s.burstAt c (d.src + o) (d.dst + o) n (host.drop (o - (d.len - base - total)))
  else s.burstAt c (d.src + d.moved) (d.dst + d.moved) n (host.drop (d.moved - base))

/-- One record of a paced transfer (R440). -/
def State.paceStep (s : State) (c : Nat) : State :=
  let d := s.dch c
  let k := s.paceSrc c
  let r := paceRing k
  if s.dst c ≠ 2 ∨ d.len ≤ d.moved then s
  else
    let s := s.burstAt c (r.1 * 0x1000000 + s.ringTail k * r.2.1) (d.dst + d.moved) r.2.1 []
    if s.dst c ≠ 2 then s
    else
      let s := s.setTail k ((s.ringTail k + 1) % r.2.2)
      if (s.dch c).moved < d.len ∧ s.ringFill k ≤ s.get (F.DMACH_PACE_LO.inst c) then
        ((s.modDch c fun d => { d with flowing := false }).showPos c).setDst c 4
      else s

/-- The transfer waits for VAULT to end: a ferroelectric table takes part (R444). -/
def State.dmaWaits (s : State) (c : Nat) : Bool :=
  let d := s.dch c
  s.mode == .vault && (d.paced || (d.srcSpace == 1 && tableFerro (d.src / 0x1000000)) || (d.dstSpace == 1 && tableFerro (d.dst / 0x1000000)))

/-- `n` bursts, or records, of a transfer that holds the mover. -/
def State.moveBursts (s : State) (c n : Nat) (host : List Nat) : State :=
  let d := s.dch c
  let total := min (n * d.burst) (d.len - d.moved)
  s.when (!s.dmaWaits c) fun s =>
    s.each (List.range n) fun _ s => if d.paced then s.paceStep c else s.burstStep c d.moved total host

/-- Unit of movement: a burst, or a record of a paced ring. -/
def State.moveUnit (s : State) (c : Nat) : Nat := if (s.dch c).paced then (paceRing (s.paceSrc c)).2.1 else (s.dch c).burst

/-- Bursts still to move. -/
def State.burstsLeft (s : State) (c : Nat) : Nat :=
  let u := s.moveUnit c
  ((s.dch c).len - (s.dch c).moved + u - 1) / u

/-- `moved` more bytes, to the end of the burst in flight (R437). -/
def State.moveTo (s : State) (c moved : Nat) (host : List Nat) : State :=
  let u := s.moveUnit c
  s.moveBursts c (min ((moved + u - 1) / u) (s.burstsLeft c)) host

/-- All bytes of the descriptor have moved and it is still running. -/
def State.dmaAllMoved (s : State) (c : Nat) : Bool := s.dst c == 2 && decide ((s.dch c).len ≤ (s.dch c).moved)

/-! ### The commands -/

/-- PAUSE (R437, R441). -/
def State.dmaPauseCmd (s : State) (c moved : Nat) (host : List Nat) : State :=
  if s.dst c ≠ 2 then s.dmaPause c
  else
    let s := s.moveTo c moved host
    if s.dmaAllMoved c then s.dmaDone c 0 true
    else if s.dst c = 2 then s.dmaPauseAt c 3
    else s.when (s.dst c == 4) fun s => s.dmaPauseAt c 4

/-- DMA_PAUSE (R437). -/
def execDmaPause (c : Fin 16) (moved : Nat) (hostData : List Nat) (s : State) : Result :=
  (s.dmaCmdAt c fun s => s.dmaPauseCmd c moved hostData).finish

/-- ABORT (R436, R437). -/
def State.dmaAbortCmd (s : State) (c moved : Nat) (host : List Nat) : State :=
  if s.dst c ≠ 2 then s.dmaAbort c else (s.moveTo c moved host).dmaAbort c

/-- DMA_ABORT (R437). -/
def execDmaAbort (c : Fin 16) (moved : Nat) (hostData : List Nat) (s : State) : Result :=
  (s.dmaCmdAt c fun s => s.dmaAbortCmd c moved hostData).finish

/-- DMA_TRANSFER_DONE (R436): the rest moves, and STATUS is written back with the outcome `wbCode`, 0 for success. -/
def execDmaTransferDone (c : Fin 16) (hostData : List Nat) (wbCode : Nat) (s : State) : Result :=
  (s.when (s.dst c == 2) fun s =>
    let s := s.moveBursts c (s.burstsLeft c) hostData
    s.when (s.dmaAllMoved c) fun s => s.dmaDone c wbCode false).finish

/-- A burst fails with a code of Table 17.7 after `moved` more bytes; a fetch fails as such (R436, R443). -/
def State.dmaFail (s : State) (c code moved : Nat) (host : List Nat) : State :=
  if s.dst c = 1 then s.fetchFail c code
  else s.when (s.dst c == 2 && (s.dch c).usesHost && !s.dmaWaits c) fun s =>
    let s := s.moveBursts c (min (moved / s.moveUnit c) (s.burstsLeft c - 1)) host
    s.when (s.dst c == 2) fun s => s.dmaBad c code 7

/-- DMA_BUS_ERROR (R436, R443): an Unsupported Request, a Completer Abort or a poisoned completion. -/
def execDmaBusError (c : Fin 16) (code moved : Nat) (hostData : List Nat) (s : State) : Result :=
  (s.dmaFail c code moved hostData).finish

/-- DMA_CPL_TIMEOUT (R436). -/
def execDmaCplTimeout (c : Fin 16) (moved : Nat) (hostData : List Nat) (s : State) : Result :=
  (s.dmaFail c 0x2F33 moved hostData).finish

end Sys2Proof.Machine
end

