-- ==== Sys2Proof/Machine/Dispatch.lean ====
section
/-! DEFINITION. The dispatch: one arm per command, each one call of its meaning. -/
namespace Sys2Proof.Machine

def exec (i : Instr) (s : State) : Host.Outcome State Fault Refusal :=
  match i with
  | .railsGood cfgHost unitB selHigh buttonHeld => Sys2Proof.Machine.execRailsGood cfgHost unitB selHigh buttonHeld s
  | .vaonPowerOnReset => Sys2Proof.Machine.execVaonPowerOnReset s
  | .wakeEvent cause => Sys2Proof.Machine.execWakeEvent cause s
  | .pllLocked lockUs => Sys2Proof.Machine.execPllLocked lockUs s
  | .selftestDone durationUs firstFail => Sys2Proof.Machine.execSelftestDone durationUs firstFail s
  | .configLoadDone => Sys2Proof.Machine.execConfigLoadDone s
  | .configDone => Sys2Proof.Machine.execConfigDone s
  | .modeReqDormant => Sys2Proof.Machine.execModeReqDormant s
  | .modeReqReady => Sys2Proof.Machine.execModeReqReady s
  | .dormantIdleExpiry => Sys2Proof.Machine.execDormantIdleExpiry s
  | .vaultEnter rail vlsMv => Sys2Proof.Machine.execVaultEnter rail vlsMv s
  | .vaultFlushDone flushUs => Sys2Proof.Machine.execVaultFlushDone flushUs s
  | .vaultRecovery lowestMv vaultUs => Sys2Proof.Machine.execVaultRecovery lowestMv vaultUs s
  | .vaultVreset => Sys2Proof.Machine.execVaultVreset s
  | .holdupShort vholdMv => Sys2Proof.Machine.execHoldupShort vholdMv s
  | .vholdLow vholdMv => Sys2Proof.Machine.execVholdLow vholdMv s
  | .ctlRailFlush rail => Sys2Proof.Machine.execCtlRailFlush rail s
  | .resetButtonRelease => Sys2Proof.Machine.execResetButtonRelease s
  | .resetStuck => Sys2Proof.Machine.execResetStuck s
  | .resetButtonReleased1s => Sys2Proof.Machine.execResetButtonReleased1s s
  | .resetStuckClear => Sys2Proof.Machine.execResetStuckClear s
  | .swReset key => Sys2Proof.Machine.execSwReset key s
  | .deferredResetDone => Sys2Proof.Machine.execDeferredResetDone s
  | .pllUnlock xtal => Sys2Proof.Machine.execPllUnlock xtal s
  | .pcieReset => Sys2Proof.Machine.execPcieReset s
  | .functionLevelReset => Sys2Proof.Machine.execFunctionLevelReset s
  | .pcieLinkUp speed width msixEn => Sys2Proof.Machine.execPcieLinkUp speed width msixEn s
  | .pcieLinkDown => Sys2Proof.Machine.execPcieLinkDown s
  | .imageCheck key => Sys2Proof.Machine.execImageCheck key s
  | .imageCheckDone => Sys2Proof.Machine.execImageCheckDone s
  | .imageActivate key => Sys2Proof.Machine.execImageActivate key s
  | .imageWrite byteOff value => Sys2Proof.Machine.execImageWrite byteOff value s
  | .registerWrite addr be value => Sys2Proof.Machine.execRegisterWrite addr be value s
  | .readClear page word => Sys2Proof.Machine.execReadClear page word s
  | .errCodeRead page => Sys2Proof.Machine.execErrCodeRead page s
  | .unmappedAccess addr write => Sys2Proof.Machine.execUnmappedAccess addr write s
  | .evtPendClear page mask => Sys2Proof.Machine.execEvtPendClear page mask s
  | .evtSet page mask => Sys2Proof.Machine.execEvtSet page mask s
  | .diagInjWrite page value => Sys2Proof.Machine.execDiagInjWrite page value s
  | .tableEntryWrite table byteOff value => Sys2Proof.Machine.execTableEntryWrite table byteOff value s
  | .eventAppend page code sev inst data => Sys2Proof.Machine.execEventAppend page code sev inst data s
  | .logCfgWrite value => Sys2Proof.Machine.execLogCfgWrite value s
  | .tailWrite ring value => Sys2Proof.Machine.execTailWrite ring value s
  | .timeIncrWrite isFrac value => Sys2Proof.Machine.execTimeIncrWrite isFrac value s
  | .timeNowRead => Sys2Proof.Machine.execTimeNowRead s
  | .timeCfgWrite value => Sys2Proof.Machine.execTimeCfgWrite value s
  | .ptpSyncRx port f => Sys2Proof.Machine.execPtpSyncRx port f s
  | .ptpFollowUpRx port f => Sys2Proof.Machine.execPtpFollowUpRx port f s
  | .ptpDelayReqRx port f => Sys2Proof.Machine.execPtpDelayReqRx port f s
  | .ptpDelayRespRx port f => Sys2Proof.Machine.execPtpDelayRespRx port f s
  | .ptpPdelayReqRx port f => Sys2Proof.Machine.execPtpPdelayReqRx port f s
  | .ptpPdelayRespRx port f => Sys2Proof.Machine.execPtpPdelayRespRx port f s
  | .ptpPdelayRespFollowUpRx port f => Sys2Proof.Machine.execPtpPdelayRespFollowUpRx port f s
  | .ptpAnnounceRx port f => Sys2Proof.Machine.execPtpAnnounceRx port f s
  | .ptpSyncTx port => Sys2Proof.Machine.execPtpSyncTx port s
  | .tcFollowUpTimeout port seqId => Sys2Proof.Machine.execTcFollowUpTimeout port seqId s
  | .holdoverEnter => Sys2Proof.Machine.execHoldoverEnter s
  | .syncAgeExpiry => Sys2Proof.Machine.execSyncAgeExpiry s
  | .timeStep => Sys2Proof.Machine.execTimeStep s
  | .timeAdjWrite value => Sys2Proof.Machine.execTimeAdjWrite value s
  | .adjCfgWrite value => Sys2Proof.Machine.execAdjCfgWrite value s
  | .legalSteer => Sys2Proof.Machine.execLegalSteer s
  | .tpoArm n => Sys2Proof.Machine.execTpoArm n s
  | .tpoDisarm n => Sys2Proof.Machine.execTpoDisarm n s
  | .tpoStart n => Sys2Proof.Machine.execTpoStart n s
  | .tpoPulseEnd n => Sys2Proof.Machine.execTpoPulseEnd n s
  | .sentOpen => Sys2Proof.Machine.execSentOpen s
  | .sentStage slot => Sys2Proof.Machine.execSentStage slot s
  | .sentPrepare slot => Sys2Proof.Machine.execSentPrepare slot s
  | .sentAbort slot => Sys2Proof.Machine.execSentAbort slot s
  | .sentRelease slot => Sys2Proof.Machine.execSentRelease slot s
  | .sentClear slot => Sys2Proof.Machine.execSentClear slot s
  | .sentBadOp op slot => Sys2Proof.Machine.execSentBadOp op slot s
  | .validationDone slot => Sys2Proof.Machine.execValidationDone slot s
  | .fullStop slot => Sys2Proof.Machine.execFullStop slot s
  | .takeInstant slot => Sys2Proof.Machine.execTakeInstant slot s
  | .prepareRx payload => Sys2Proof.Machine.execPrepareRx payload s
  | .voteRx payload => Sys2Proof.Machine.execVoteRx payload s
  | .voteDeadline slot => Sys2Proof.Machine.execVoteDeadline slot s
  | .decideRepeat sid => Sys2Proof.Machine.execDecideRepeat sid s
  | .decideRx payload => Sys2Proof.Machine.execDecideRx payload s
  | .queryRx payload => Sys2Proof.Machine.execQueryRx payload s
  | .querySend slot => Sys2Proof.Machine.execQuerySend slot s
  | .guardInstant slot => Sys2Proof.Machine.execGuardInstant slot s
  | .outcomeRx payload => Sys2Proof.Machine.execOutcomeRx payload s
  | .outcomeMissing sid child => Sys2Proof.Machine.execOutcomeMissing sid child s
  | .galeshFrameRx port frame => Sys2Proof.Machine.execGaleshFrameRx port frame s
  | .nonGaleshFrameRx port bytes => Sys2Proof.Machine.execNonGaleshFrameRx port bytes s
  | .routeEntryWrite entry high value => Sys2Proof.Machine.execRouteEntryWrite entry high value s
  | .fabLinkUp port speed anDone => Sys2Proof.Machine.execFabLinkUp port speed anDone s
  | .fabLinkDown port => Sys2Proof.Machine.execFabLinkDown port s
  | .leaseRx port msg => Sys2Proof.Machine.execLeaseRx port msg s
  | .demandRx msg => Sys2Proof.Machine.execDemandRx msg s
  | .epochBoundary => Sys2Proof.Machine.execEpochBoundary s
  | .epochCfgWrite value => Sys2Proof.Machine.execEpochCfgWrite value s
  | .leaseExpiry => Sys2Proof.Machine.execLeaseExpiry s
  | .leaseRampStep => Sys2Proof.Machine.execLeaseRampStep s
  | .childExpiry e => Sys2Proof.Machine.execChildExpiry e s
  | .childReclaim e => Sys2Proof.Machine.execChildReclaim e s
  | .capacityYield n => Sys2Proof.Machine.execCapacityYield n s
  | .periodStart p => Sys2Proof.Machine.execPeriodStart p s
  | .comparatorTrip p onTicks => Sys2Proof.Machine.execComparatorTrip p onTicks s
  | .maxOnExpiry p => Sys2Proof.Machine.execMaxOnExpiry p s
  | .phaseOpenDetected p => Sys2Proof.Machine.execPhaseOpenDetected p s
  | .senseBlock n icMean => Sys2Proof.Machine.execSenseBlock n icMean s
  | .phasePeriodWrite value => Sys2Proof.Machine.execPhasePeriodWrite value s
  | .phaseTimingWrite isBlank value => Sys2Proof.Machine.execPhaseTimingWrite isBlank value s
  | .ovTruncate n => Sys2Proof.Machine.execOvTruncate n s
  | .ovRelease n => Sys2Proof.Machine.execOvRelease n s
  | .groupFaultInput g => Sys2Proof.Machine.execGroupFaultInput g s
  | .faultClr g gfltHigh => Sys2Proof.Machine.execFaultClr g gfltHigh s
  | .matchTimeout g => Sys2Proof.Machine.execMatchTimeout g s
  | .matrixClosed g travelMs => Sys2Proof.Machine.execMatrixClosed g travelMs s
  | .contactorCloseTimeout g => Sys2Proof.Machine.execContactorCloseTimeout g s
  | .leavingDone g => Sys2Proof.Machine.execLeavingDone g s
  | .leaveTimeout g => Sys2Proof.Machine.execLeaveTimeout g s
  | .zeroConfirmed g => Sys2Proof.Machine.execZeroConfirmed g s
  | .zeroTimeout g => Sys2Proof.Machine.execZeroTimeout g s
  | .matrixOpened g travelMs => Sys2Proof.Machine.execMatrixOpened g travelMs s
  | .matrixOpenTimeout g => Sys2Proof.Machine.execMatrixOpenTimeout g s
  | .fastSample n vc ic => Sys2Proof.Machine.execFastSample n vc ic s
  | .slowSample slot => Sys2Proof.Machine.execSlowSample slot s
  | .sampleDeadlineMiss slot => Sys2Proof.Machine.execSampleDeadlineMiss slot s
  | .loopSlotWrite slot word value => Sys2Proof.Machine.execLoopSlotWrite slot word value s
  | .loopSwapReq value => Sys2Proof.Machine.execLoopSwapReq value s
  | .directionZeroReached n => Sys2Proof.Machine.execDirectionZeroReached n s
  | .mainSeqStepDone n => Sys2Proof.Machine.execMainSeqStepDone n s
  | .mainTimeout n => Sys2Proof.Machine.execMainTimeout n s
  | .prechargeDone n => Sys2Proof.Machine.execPrechargeDone n s
  | .prechargeTimeout n => Sys2Proof.Machine.execPrechargeTimeout n s
  | .stopZeroReached n => Sys2Proof.Machine.execStopZeroReached n s
  | .stopContactorsOpen n => Sys2Proof.Machine.execStopContactorsOpen n s
  | .stopOpenTimeout n posClosed negClosed => Sys2Proof.Machine.execStopOpenTimeout n posClosed negClosed s
  | .fbLost n cause => Sys2Proof.Machine.execFbLost n cause s
  | .fbFrozen n isI => Sys2Proof.Machine.execFbFrozen n isI s
  | .fbMismatchBlock n vc vm ic im => Sys2Proof.Machine.execFbMismatchBlock n vc vm ic im s
  | .fbHoldEnd n => Sys2Proof.Machine.execFbHoldEnd n s
  | .faultRampDone n => Sys2Proof.Machine.execFaultRampDone n s
  | .fbStatClear n value live => Sys2Proof.Machine.execFbStatClear n value live s
  | .sensFrame codes => Sys2Proof.Machine.execSensFrame codes s
  | .sensChStuck c => Sys2Proof.Machine.execSensChStuck c s
  | .sensChValid c => Sys2Proof.Machine.execSensChValid c s
  | .sensCfgWrite c value => Sys2Proof.Machine.execSensCfgWrite c value s
  | .observerUpdate i0 i1 i2 i3 => Sys2Proof.Machine.execObserverUpdate i0 i1 i2 i3 s
  | .operatorRecompute => Sys2Proof.Machine.execOperatorRecompute s
  | .coolObserverEnable n value => Sys2Proof.Machine.execCoolObserverEnable n value s
  | .pinImplausible n neg => Sys2Proof.Machine.execPinImplausible n neg s
  | .orderImplausible n => Sys2Proof.Machine.execOrderImplausible n s
  | .pressLow n => Sys2Proof.Machine.execPressLow n s
  | .flowLow n => Sys2Proof.Machine.execFlowLow n s
  | .coolFlagClear n value => Sys2Proof.Machine.execCoolFlagClear n value s
  | .linkCfgWrite n value => Sys2Proof.Machine.execLinkCfgWrite n value s
  | .levelAccepted n isB mv => Sys2Proof.Machine.execLevelAccepted n isB mv s
  | .gapFault n isB mv => Sys2Proof.Machine.execGapFault n isB mv s
  | .cpDiodeFault n lowMv => Sys2Proof.Machine.execCpDiodeFault n lowMv s
  | .latchEnergise n => Sys2Proof.Machine.execLatchEnergise n s
  | .latchRelease n => Sys2Proof.Machine.execLatchRelease n s
  | .linkUnlatch n => Sys2Proof.Machine.execLinkUnlatch n s
  | .latchAutoTimeout n => Sys2Proof.Machine.execLatchAutoTimeout n s
  | .latchFault n feedback => Sys2Proof.Machine.execLatchFault n feedback s
  | .cpPwmWrite n value => Sys2Proof.Machine.execCpPwmWrite n value s
  | .phyStart n => Sys2Proof.Machine.execPhyStart n s
  | .plcaStatusOk status => Sys2Proof.Machine.execPlcaStatusOk status s
  | .transportLost n => Sys2Proof.Machine.execTransportLost n s
  | .plcaConflict n source => Sys2Proof.Machine.execPlcaConflict n source s
  | .rmiiRefclkLost n => Sys2Proof.Machine.execRmiiRefclkLost n s
  | .cmSetKeyCnf n result => Sys2Proof.Machine.execCmSetKeyCnf n result s
  | .modemNoKey n => Sys2Proof.Machine.execModemNoKey n s
  | .cmSlacParmReq n runId => Sys2Proof.Machine.execCmSlacParmReq n runId s
  | .cmStartAttenCharInd n runId => Sys2Proof.Machine.execCmStartAttenCharInd n runId s
  | .cmMnbcSoundInd n runId => Sys2Proof.Machine.execCmMnbcSoundInd n runId s
  | .cmAttenProfileInd n groups => Sys2Proof.Machine.execCmAttenProfileInd n groups s
  | .cmAttenCharRsp n runId success => Sys2Proof.Machine.execCmAttenCharRsp n runId success s
  | .cmSlacMatchReq n runId vehicleMac => Sys2Proof.Machine.execCmSlacMatchReq n runId vehicleMac s
  | .cmValidateReq n runId => Sys2Proof.Machine.execCmValidateReq n runId s
  | .slacStepTimeout n => Sys2Proof.Machine.execSlacStepTimeout n s
  | .linkRestart n => Sys2Proof.Machine.execLinkRestart n s
  | .dadDone n conflict => Sys2Proof.Machine.execDadDone n conflict s
  | .icmpv6NsRx n src target => Sys2Proof.Machine.execIcmpv6NsRx n src target s
  | .icmpv6EchoRx n src dst data => Sys2Proof.Machine.execIcmpv6EchoRx n src dst data s
  | .sdpRequestRx n src dst udpPort version inverse security transport => Sys2Proof.Machine.execSdpRequestRx n src dst udpPort version inverse security transport s
  | .tcpSynRx n src dstPort => Sys2Proof.Machine.execTcpSynRx n src dstPort s
  | .tcpSegmentRx n src len v2gLen ack fin => Sys2Proof.Machine.execTcpSegmentRx n src len v2gLen ack fin s
  | .tcpRto n => Sys2Proof.Machine.execTcpRto n s
  | .tlsRecordRx n record => Sys2Proof.Machine.execTlsRecordRx n record s
  | .pkeDone n => Sys2Proof.Machine.execPkeDone n s
  | .tlsHandshakeTimeout n => Sys2Proof.Machine.execTlsHandshakeTimeout n s
  | .supportedAppProtocol n offers => Sys2Proof.Machine.execSupportedAppProtocol n offers s
  | .sessionSetup n evccid => Sys2Proof.Machine.execSessionSetup n evccid s
  | .authorizationSetup n => Sys2Proof.Machine.execAuthorizationSetup n s
  | .serviceDiscovery n kind bpt contract => Sys2Proof.Machine.execServiceDiscovery n kind bpt contract s
  | .certificateInstallation n update body => Sys2Proof.Machine.execCertificateInstallation n update body s
  | .paymentDetails n emaid chain => Sys2Proof.Machine.execPaymentDetails n emaid chain s
  | .authorization n emaid chain => Sys2Proof.Machine.execAuthorization n emaid chain s
  | .chargeParameterDiscovery n req => Sys2Proof.Machine.execChargeParameterDiscovery n req s
  | .cableCheckReq n => Sys2Proof.Machine.execCableCheckReq n s
  | .cableCheckStart n => Sys2Proof.Machine.execCableCheckStart n s
  | .cableCheckHoldDone n => Sys2Proof.Machine.execCableCheckHoldDone n s
  | .cableCheckDischarged n => Sys2Proof.Machine.execCableCheckDischarged n s
  | .cableCheckTimeout n => Sys2Proof.Machine.execCableCheckTimeout n s
  | .prechargeReq n present target => Sys2Proof.Machine.execPrechargeReq n present target s
  | .powerDeliveryStart n req => Sys2Proof.Machine.execPowerDeliveryStart n req s
  | .chargeLoopReq n req => Sys2Proof.Machine.execChargeLoopReq n req s
  | .targetSetIssue n => Sys2Proof.Machine.execTargetSetIssue n s
  | .v2gResponseSend n => Sys2Proof.Machine.execV2gResponseSend n s
  | .meteringConfirmation n body => Sys2Proof.Machine.execMeteringConfirmation n body s
  | .powerDeliveryStop n => Sys2Proof.Machine.execPowerDeliveryStop n s
  | .weldingDetection n => Sys2Proof.Machine.execWeldingDetection n s
  | .sessionStop n => Sys2Proof.Machine.execSessionStop n s
  | .v2gUnexpectedReq n message length undecodable => Sys2Proof.Machine.execV2gUnexpectedReq n message length undecodable s
  | .seqTimeout n => Sys2Proof.Machine.execSeqTimeout n s
  | .loopTimeout n => Sys2Proof.Machine.execLoopTimeout n s
  | .ctxStop n => Sys2Proof.Machine.execCtxStop n s
  | .hostStopTimeout n => Sys2Proof.Machine.execHostStopTimeout n s
  | .authRes n reqId grant => Sys2Proof.Machine.execAuthRes n reqId grant s
  | .authTimeout n => Sys2Proof.Machine.execAuthTimeout n s
  | .certRes n reqId part parts body => Sys2Proof.Machine.execCertRes n reqId part parts body s
  | .certTimeout n => Sys2Proof.Machine.execCertTimeout n s
  | .ocspSet entry der => Sys2Proof.Machine.execOcspSet entry der s
  | .exiLoadSet => Sys2Proof.Machine.execExiLoadSet s
  | .exiLoadClear => Sys2Proof.Machine.execExiLoadClear s
  | .keygen value => Sys2Proof.Machine.execKeygen value s
  | .trustEntryApply entry => Sys2Proof.Machine.execTrustEntryApply entry s
  | .rngFail test => Sys2Proof.Machine.execRngFail test s
  | .metrologyStart okA okB => Sys2Proof.Machine.execMetrologyStart okA okB s
  | .lensSample raw ctl => Sys2Proof.Machine.execLensSample raw ctl s
  | .lensBlockSend => Sys2Proof.Machine.execLensBlockSend s
  | .metrologyCycleEnd => Sys2Proof.Machine.execMetrologyCycleEnd s
  | .boundaryCommit => Sys2Proof.Machine.execBoundaryCommit s
  | .lensChLost c data => Sys2Proof.Machine.execLensChLost c data s
  | .lensChFrozen c => Sys2Proof.Machine.execLensChFrozen c s
  | .lensLossJudged c kind => Sys2Proof.Machine.execLensLossJudged c kind s
  | .lensChRestored c kind => Sys2Proof.Machine.execLensChRestored c kind s
  | .gridWindowEnd => Sys2Proof.Machine.execGridWindowEnd s
  | .gridFreqLost => Sys2Proof.Machine.execGridFreqLost s
  | .lensCalWrite c reg value => Sys2Proof.Machine.execLensCalWrite c reg value s
  | .pulseStart k => Sys2Proof.Machine.execPulseStart k s
  | .pulseEnd k => Sys2Proof.Machine.execPulseEnd k s
  | .pulseCfgWrite k reg value => Sys2Proof.Machine.execPulseCfgWrite k reg value s
  | .capArm value => Sys2Proof.Machine.execCapArm value s
  | .capFire value => Sys2Proof.Machine.execCapFire value s
  | .capTrigger => Sys2Proof.Machine.execCapTrigger s
  | .capDone => Sys2Proof.Machine.execCapDone s
  | .tariffActivate value => Sys2Proof.Machine.execTariffActivate value s
  | .closePeriod value => Sys2Proof.Machine.execClosePeriod value s
  | .demandCfgWrite value => Sys2Proof.Machine.execDemandCfgWrite value s
  | .sessionOpenReq point sid => Sys2Proof.Machine.execSessionOpenReq point sid s
  | .sessionCloseReq point => Sys2Proof.Machine.execSessionCloseReq point s
  | .sessionSigned => Sys2Proof.Machine.execSessionSigned s
  | .sessRead value => Sys2Proof.Machine.execSessRead value s
  | .recordAppendReq kind content => Sys2Proof.Machine.execRecordAppendReq kind content s
  | .metrologyRequestRefused => Sys2Proof.Machine.execMetrologyRequestRefused s
  | .tamperInput inp => Sys2Proof.Machine.execTamperInput inp s
  | .tamperPpm ppm => Sys2Proof.Machine.execTamperPpm ppm s
  | .ctlMetrologyLinkLost => Sys2Proof.Machine.execCtlMetrologyLinkLost s
  | .ctlMetrologyLinkRestored => Sys2Proof.Machine.execCtlMetrologyLinkRestored s
  | .ctlPowerLinkLost => Sys2Proof.Machine.execCtlPowerLinkLost s
  | .ctlPowerLinkRestored => Sys2Proof.Machine.execCtlPowerLinkRestored s
  | .sinDemand k => Sys2Proof.Machine.execSinDemand k s
  | .sinFault k stray => Sys2Proof.Machine.execSinFault k stray s
  | .sinPairFault p => Sys2Proof.Machine.execSinPairFault p s
  | .stpPulse inp => Sys2Proof.Machine.execStpPulse inp s
  | .sf2GateCut n => Sys2Proof.Machine.execSf2GateCut n s
  | .sf3Trip n => Sys2Proof.Machine.execSf3Trip n s
  | .sf5Weld fb => Sys2Proof.Machine.execSf5Weld fb s
  | .fbDropout fb => Sys2Proof.Machine.execFbDropout fb s
  | .sf6Trip n => Sys2Proof.Machine.execSf6Trip n s
  | .sf10Trip n => Sys2Proof.Machine.execSf10Trip n s
  | .sf11Trip n => Sys2Proof.Machine.execSf11Trip n s
  | .coilOffDeadline scope => Sys2Proof.Machine.execCoilOffDeadline scope s
  | .imdFault n => Sys2Proof.Machine.execImdFault n s
  | .imdPwmLost n => Sys2Proof.Machine.execImdPwmLost n s
  | .weldcheckJudged n => Sys2Proof.Machine.execWeldcheckJudged n s
  | .dischargeDone n => Sys2Proof.Machine.execDischargeDone n s
  | .diagInterval us fail corrected badMet badPower => Sys2Proof.Machine.execDiagInterval us fail corrected badMet badPower s
  | .cycleOverrun us => Sys2Proof.Machine.execCycleOverrun us s
  | .safeClr value => Sys2Proof.Machine.execSafeClr value s
  | .unplugClear n => Sys2Proof.Machine.execUnplugClear n s
  | .safeRestart value => Sys2Proof.Machine.execSafeRestart value s
  | .safeRestartDone fail => Sys2Proof.Machine.execSafeRestartDone fail s
  | .weldClear high value => Sys2Proof.Machine.execWeldClear high value s
  | .degradedExpired n => Sys2Proof.Machine.execDegradedExpired n s
  | .degradedTimerReset n => Sys2Proof.Machine.execDegradedTimerReset n s
  | .gscTx c => Sys2Proof.Machine.execGscTx c s
  | .gscRx src pdu => Sys2Proof.Machine.execGscRx src pdu s
  | .gscWatchdog c => Sys2Proof.Machine.execGscWatchdog c s
  | .gscAck c value => Sys2Proof.Machine.execGscAck c value s
  | .gscHostRxGo value => Sys2Proof.Machine.execGscHostRxGo value s
  | .gscCtimeWrite c value => Sys2Proof.Machine.execGscCtimeWrite c value s
  | .pwdEnterSafety len => Sys2Proof.Machine.execPwdEnterSafety len s
  | .pwdEnterSeal len sealN => Sys2Proof.Machine.execPwdEnterSeal len sealN s
  | .pwdCloseSafety => Sys2Proof.Machine.execPwdCloseSafety s
  | .pwdCloseSeal => Sys2Proof.Machine.execPwdCloseSeal s
  | .pwdChangeSafety len => Sys2Proof.Machine.execPwdChangeSafety len s
  | .pwdChangeSeal len sealN => Sys2Proof.Machine.execPwdChangeSeal len sealN s
  | .pwdLockoutEnd isSeal => Sys2Proof.Machine.execPwdLockoutEnd isSeal s
  | .pwdIdleTimeout => Sys2Proof.Machine.execPwdIdleTimeout s
  | .sealNRelease => Sys2Proof.Machine.execSealNRelease s
  | .partnerHbLost => Sys2Proof.Machine.execPartnerHbLost s
  | .partnerHbOk => Sys2Proof.Machine.execPartnerHbOk s
  | .mirFail => Sys2Proof.Machine.execMirFail s
  | .mirUnfail => Sys2Proof.Machine.execMirUnfail s
  | .arbSwitch k => Sys2Proof.Machine.execArbSwitch k s
  | .arbUnitStateChange k isB hbOk failLow => Sys2Proof.Machine.execArbUnitStateChange k isB hbOk failLow s
  | .pairarbEnable value levels => Sys2Proof.Machine.execPairarbEnable value levels s
  | .pairarbForce k value => Sys2Proof.Machine.execPairarbForce k value s
  | .mirrorAligned variant ctlStep metStep pwrStep cfgCrc configSame => Sys2Proof.Machine.execMirrorAligned variant ctlStep metStep pwrStep cfgCrc configSame s
  | .mirrorLaneLost => Sys2Proof.Machine.execMirrorLaneLost s
  | .mirrorFrameTx => Sys2Proof.Machine.execMirrorFrameTx s
  | .mirrorFrameRx frame => Sys2Proof.Machine.execMirrorFrameRx frame s
  | .mirrorStatusFrame received => Sys2Proof.Machine.execMirrorStatusFrame received s
  | .handoverStart => Sys2Proof.Machine.execHandoverStart s
  | .handoverDone gapUs handUs => Sys2Proof.Machine.execHandoverDone gapUs handUs s
  | .deselected => Sys2Proof.Machine.execDeselected s
  | .selGlitch widthNs => Sys2Proof.Machine.execSelGlitch widthNs s
  | .lswCmdWrite c value => Sys2Proof.Machine.execLswCmdWrite c value s
  | .safeOff => Sys2Proof.Machine.execSafeOff s
  | .safeOffRelease => Sys2Proof.Machine.execSafeOffRelease s
  | .lswLimiting c curMa => Sys2Proof.Machine.execLswLimiting c curMa s
  | .lswThermalShutdown c temp => Sys2Proof.Machine.execLswThermalShutdown c temp s
  | .lswThermalClear c temp => Sys2Proof.Machine.execLswThermalClear c temp s
  | .lswBlankEnd c => Sys2Proof.Machine.execLswBlankEnd c s
  | .lswOverload c curMa => Sys2Proof.Machine.execLswOverload c curMa s
  | .lswClusterWarn k temp => Sys2Proof.Machine.execLswClusterWarn k temp s
  | .lswClusterClear k temp => Sys2Proof.Machine.execLswClusterClear k temp s
  | .lswRetry c => Sys2Proof.Machine.execLswRetry c s
  | .lswRetryReload c => Sys2Proof.Machine.execLswRetryReload c s
  | .lswRearm value => Sys2Proof.Machine.execLswRearm value s
  | .lswOpenLoad c => Sys2Proof.Machine.execLswOpenLoad c s
  | .lswDissCheck curMa out => Sys2Proof.Machine.execLswDissCheck curMa out s
  | .lswDissHigh => Sys2Proof.Machine.execLswDissHigh s
  | .lswSupplyFault cond vlsMv => Sys2Proof.Machine.execLswSupplyFault cond vlsMv s
  | .lswSupplyRecover cond => Sys2Proof.Machine.execLswSupplyRecover cond s
  | .lswLinkDownWrite isLsx off => Sys2Proof.Machine.execLswLinkDownWrite isLsx off s
  | .lsxChainShift => Sys2Proof.Machine.execLsxChainShift s
  | .lsxScanConversion x senseMv => Sys2Proof.Machine.execLsxScanConversion x senseMv s
  | .lsxOverload x => Sys2Proof.Machine.execLsxOverload x s
  | .lsxRearm value => Sys2Proof.Machine.execLsxRearm value s
  | .spiRead addr crc ready => Sys2Proof.Machine.execSpiRead addr crc ready s
  | .spiQuadRead addr crc ready => Sys2Proof.Machine.execSpiQuadRead addr crc ready s
  | .spiWrite addr data crc => Sys2Proof.Machine.execSpiWrite addr data crc s
  | .spiQuadWrite addr data crc => Sys2Proof.Machine.execSpiQuadWrite addr data crc s
  | .spiStatus crc => Sys2Proof.Machine.execSpiStatus crc s
  | .spiQuadStatus crc => Sys2Proof.Machine.execSpiQuadStatus crc s
  | .spiFrameAbort => Sys2Proof.Machine.execSpiFrameAbort s
  | .spiQueuedWrite => Sys2Proof.Machine.execSpiQueuedWrite s
  | .spiHeldReadExpiry => Sys2Proof.Machine.execSpiHeldReadExpiry s
  | .vecEoi value => Sys2Proof.Machine.execVecEoi value s
  | .msixUnmask v => Sys2Proof.Machine.execMsixUnmask v s
  | .mbxDeviceMessage => Sys2Proof.Machine.execMbxDeviceMessage s
  | .mbxDone value => Sys2Proof.Machine.execMbxDone value s
  | .mbxPost value => Sys2Proof.Machine.execMbxPost value s
  | .mbxConsumed slot => Sys2Proof.Machine.execMbxConsumed slot s
  | .mbxFullTimeout => Sys2Proof.Machine.execMbxFullTimeout s
  | .dmaGo c => Sys2Proof.Machine.execDmaGo c s
  | .dmaStart c => Sys2Proof.Machine.execDmaStart c s
  | .dmaPause c moved hostData => Sys2Proof.Machine.execDmaPause c moved hostData s
  | .dmaResume c => Sys2Proof.Machine.execDmaResume c s
  | .dmaSkip c => Sys2Proof.Machine.execDmaSkip c s
  | .dmaRetry c => Sys2Proof.Machine.execDmaRetry c s
  | .dmaAbort c moved hostData => Sys2Proof.Machine.execDmaAbort c moved hostData s
  | .dmaAppend c value => Sys2Proof.Machine.execDmaAppend c value s
  | .dmaMoverGrant => Sys2Proof.Machine.execDmaMoverGrant s
  | .dmaDescFetched c desc code => Sys2Proof.Machine.execDmaDescFetched c desc code s
  | .dmaTransferDone c hostData wbCode => Sys2Proof.Machine.execDmaTransferDone c hostData wbCode s
  | .dmaBusError c code moved hostData => Sys2Proof.Machine.execDmaBusError c code moved hostData s
  | .dmaCplTimeout c moved hostData => Sys2Proof.Machine.execDmaCplTimeout c moved hostData s
  | .dmaPaceResume c => Sys2Proof.Machine.execDmaPaceResume c s
  | .lifeSecondUpdate means => Sys2Proof.Machine.execLifeSecondUpdate means s
  | .lifeHostInc value => Sys2Proof.Machine.execLifeHostInc value s
  | .lifeHostHist value => Sys2Proof.Machine.execLifeHostHist value s
  | .lifeBaseline value => Sys2Proof.Machine.execLifeBaseline value s
  | .scrubRead flips check otherBad => Sys2Proof.Machine.execScrubRead flips check otherBad s
  | .leaveOutFault n => Sys2Proof.Machine.execLeaveOutFault n s
  | .sinDemandEnd k => Sys2Proof.Machine.execSinDemandEnd k s
  | .imdVerdictGood n pwm freq duty => Sys2Proof.Machine.execImdVerdictGood n pwm freq duty s
  | .tamperInputReleased inp => Sys2Proof.Machine.execTamperInputReleased inp s
  | .delayReqTx port => Sys2Proof.Machine.execDelayReqTx port s
  | .announceTx port => Sys2Proof.Machine.execAnnounceTx port s

end Sys2Proof.Machine
end

