-- ==== Sys2Proof/Machine/Ticks.lean ====
section
/-! DEFINITION. What the block does while no command waits: time passes, and the registers that show times follow each
millisecond (log entry 7). -/
namespace Sys2Proof.Machine

/-- The registers that show a time or follow a condition that time alone ends: at whole milliseconds of the tick count. -/
def State.msRefresh (s : State) : State :=
  let s := (((s.refreshLease).refreshLock).refreshDegStat).refreshDt
  let s := s.each s.outlets fun n s =>
    (s.refreshActive n).when (s.get (F.VDE_CTX_STATE_STEP.nth n) != 0) fun s =>
      s.set (F.VDE_CTX_LAST_REQ_MS.nth n) (satTo 32 (s.since (s.ctx n).reqTick / ticksMs))
  s.each (List.range 4) fun k s => s.refreshArb k

/-- An idle step. -/
def State.idle (s : State) : Result :=
  let s := s.idleTick
  let s := s.when (!s.tree.capDue.isEmpty) State.capCatchUp
  (s.when (decide (s.ticks % ticksMs = 0) && s.mode != .dormant) State.msRefresh).finish

end Sys2Proof.Machine
end

