-- ==== Sys2Proof/Safety.lean ====
section
/-! DEFINITION. The terms statements are made in: where a host access reaches its register, what stands settled between
commands, and what a command leaves alone. -/
namespace Sys2Proof.Machine

/-- A host write to the register at `off` of `page` reaches the register: the host is answered (R39), the page is present
(R2), the register is not the standby's to take from the Mirror (R385), and the register's die can be reached (R406, R424). -/
def State.reaches (s : State) (page off : Nat) : Bool :=
  s.hostOpen && s.hasPage page && !(s.mode == .mirror && mirroredReg page off) && !(dieOf page == .metrology && s.sys.metLost) &&
    !((page == 0x2B || page == 0x2C) && s.on F.LSW_STATUS_LINK_LOST)

/-- A host write to byte `off` of table `t` reaches the table (R54, R385, R424). -/
def State.tableReach (s : State) (t off : Nat) : Bool :=
  s.hostOpen && decide (off < tableSize t) && !(s.mode == .mirror && decide (8 ≤ t) && decide (t ≤ 11)) && !(tableMet t && s.sys.metLost)

/-- A host access to `page` reaches it (R2, R39, R424). -/
def State.readReach (s : State) (page : Nat) : Bool := s.hostOpen && s.hasPage page && !(dieOf page == .metrology && s.sys.metLost)

/-- A request of step `k` on context `n` is in order (R249): its connection carries messages, the outlet's state takes the step,
and the step may follow the last one. -/
def State.v2gDue (s : State) (n k : Nat) : Bool :=
  s.v2gUp n && s.ostate n != .fault && (stepStates k).contains (s.ostate n) && s.follows n k

/-- Between commands: no event waits, the interrupt outputs stand as R428 to R430 and Table 17.1 say, and FAIL_N as R377. -/
structure Settled (s : State) : Prop where
  noEvent : s.evWait = []
  cond : s.host.vecCond = s.vecConditions
  intN : s.host.intN = s.intNow s.vecConditions
  intA : s.host.intA = s.intaNow s.vecConditions
  failN : s.mir.failN = s.failNow

/-- A field that the end of a command leaves alone: no header register of a page, and none of the log ring's own. -/
def quiet (f : Field) : Bool :=
  decide (f.lo < 32) && decide (f.off < 0x1000) && decide (0x040 ≤ f.off) && !(f.page == 0x43)

/-- A byte of the tables that the end of a command leaves alone: none of the event log, none of the lifetime counters. -/
def quietByte (a : Nat) : Bool := !(a / 0x1000000 == 1) && !(a / 0x1000000 == 12)

/-- The hidden state beside registers, tables and what `done` itself moves is the same: the clocks, the engines, the queue. -/
structure SameParts (s t : State) : Prop where
  pending : t.pending = s.pending
  freeCtr : t.freeCtr = s.freeCtr
  ticks : t.ticks = s.ticks
  sys : t.sys = s.sys
  tim : t.tim = s.tim
  tpo : t.tpo = s.tpo
  phases : t.phases = s.phases
  grps : t.grps = s.grps
  outs : t.outs = s.outs
  loop : t.loop = s.loop
  sens : t.sens = s.sens
  sensFrame : t.sensFrame = s.sensFrame
  cool : t.cool = s.cool
  chans : t.chans = s.chans
  pdie : t.pdie = s.pdie
  safe : t.safe = s.safe
  dma : t.dma = s.dma
  tabBuf : t.tabBuf = s.tabBuf
  slots : t.slots = s.slots
  sent : t.sent = s.sent
  tree : t.tree = s.tree
  links : t.links = s.links
  ctxs : t.ctxs = s.ctxs
  vde : t.vde = s.vde
  lens : t.lens = s.lens
  bill : t.bill = s.bill
  prot : t.prot = s.prot
  gsc : t.gsc = s.gsc
  arb : t.arb = s.arb

end Sys2Proof.Machine
end

