-- ==== Sys2Proof/Certificates/Slice0/Obligations.lean ====
section
/-! DEFINITION. The statements for the provers. A statement of a command gives its next state as `x.done`, where `x` is the effect
the manual gives the command and `done` what ends every command: its events are logged, then the interrupts and FAIL_N follow
(`EndFrame` says what that leaves alone, `EveryStepSettles` and `InterruptLines` what holds after it). The hypotheses are those
under which the manual has the command act; where it does not, a clause says what happens instead. -/
open Sys2Proof Sys2Proof.Machine

/-- One step: the command at the front of the queue acts on the state with the queue's rest; with no command waiting, time passes by
one step of the clock, log entry 7 (the model's choice). -/
def Obligations.QueueStep : Prop :=
  (∀ (s : State) (c : Instr) (rest : List Instr), step { s with pending := c :: rest } = exec c { s with pending := rest }) ∧
  (∀ s : State, s.pending = [] → (s.idleTick.ticks % ticksMs ≠ 0 ∨ s.idleTick.mode = .dormant) → step s = .next s.idleTick.done) ∧
  (∀ s : State, s.mode ≠ .dormant → s.idleTick.ticks = s.ticks + 1)

/-- The state after reset: every register field holds its reset value, the queue is empty, no byte of a table is listed (an unlisted
byte reads 0, the model's choice, log entry 2), the device is held in reset in WAKING until its rails are good, and the
invariant of the steps holds. Reset values the manual does not give are the model's choice, log entry 3 (R21, R34, R42). -/
def Obligations.ResetState : Prop :=
  (∀ f : Field, State.reset.get f = f.reset % 2 ^ f.width) ∧
  State.reset.pending = [] ∧ State.reset.mem = [] ∧ State.reset.mode = .waking ∧ State.reset.sys.held = true ∧
  Settled State.reset ∧ Memory.wf State.reset.mem = true

/-- No command of the table stops the block, and after every step the block stands settled: no event waits to be logged, the vector
conditions, INT_N and the legacy interrupt follow the pending events of the pages, FAIL_N follows the mode (R45, R61, R377,
R428, R430). -/
def Obligations.EveryStepSettles : Prop :=
  (∀ (c : Instr) (s : State), ∃ t, exec c s = .next t ∧ Settled t) ∧
  (∀ s : State, ∃ t, step s = .next t) ∧
  (∀ s t : State, step s = .next t → Settled t)

/-- The frame of the end of a command, and so of every command whose statement gives its next state as `x.done`: every field but
those of the page headers and the log's own, every table byte but those of the event log and the lifetime counters, and the
hidden state of every engine are as in `x`; the table memory keeps its canonical form (R45, R46, R60, R62, R428, R448). -/
def Obligations.EndFrame : Prop :=
  (∀ (s : State) (f : Field), quiet f = true → s.done.get f = s.get f) ∧
  (∀ (s : State) (a : Nat), quietByte a = true → s.done.rdByte a = s.rdByte a) ∧
  (∀ s : State, SameParts s s.done) ∧
  (∀ s : State, Memory.wf s.mem = true → Memory.wf s.done.mem = true)

/-- Registers and tables: what is written is read back, a write leaves every other field and every byte outside its range alone,
every write keeps the canonical form, and memories in that form that read alike are equal (R5, R42). -/
def Obligations.ReadAfterWrite : Prop :=
  (∀ (s : State) (f : Field) (v : Nat), (s.set f v).get f = v % 2 ^ f.width ∧ ∀ a, (s.set f v).rdByte a = s.rdByte a) ∧
  (∀ (s : State) (f g : Field) (v : Nat), f.key ≠ g.key → (s.set f v).get g = s.get g) ∧
  (∀ (s : State) (a n v : Nat), (s.wrLe a n v).rdLe a n = v % 256 ^ n) ∧
  (∀ (s : State) (a : Nat) (l : List Nat) (k : Nat), k < a ∨ a + l.length ≤ k → (s.wrBytes a l).rdByte k = s.rdByte k) ∧
  (∀ (s : State) (a : Nat) (l : List Nat) (f : Field), (s.wrBytes a l).get f = s.get f) ∧
  (∀ (s : State) (a : Nat) (l : List Nat), Memory.wf s.mem = true → Memory.wf (s.wrBytes a l).mem = true) ∧
  (∀ m n : List Host.Cell, Memory.wf m = true → Memory.wf n = true → (∀ a, memGet m a = memGet n a) → m = n)

/-- Numbers in bytes and in two's complement: a number written in n bytes, least significant first or most significant first, is
read back, and a signed number in the range of w bits is read back from its pattern (R5, R8). -/
def Obligations.NumberFormats : Prop :=
  (∀ n v : Nat, ofLe (leBytes n v) = v % 256 ^ n ∧ ofBe (beBytes n v) = v % 256 ^ n ∧ (leBytes n v).length = n) ∧
  (∀ (n v i : Nat), i < n → (leBytes n v).getD i 0 = v / 256 ^ i % 256 ∧ (beBytes n v).getD (n - 1 - i) 0 = v / 256 ^ i % 256) ∧
  (∀ (w : Nat) (z : Int), 0 < w → -(2 : Int) ^ (w - 1) ≤ z → z < 2 ^ (w - 1) → toSigned w (ofSigned w z) = z ∧ ofSigned w z < 2 ^ w) ∧
  (∀ (w n : Nat), 0 < w → n < 2 ^ w → ofSigned w (toSigned w n) = n)

/-- The log, R61: the events of one command, with one stamp, are appended in ascending code order, none added and none dropped;
severities 0 to 2 are logged only from MIN_SEV on; a repeat of severity 0 to 3 within 1 ms is counted and not logged; severities
4 to 6 are always logged. (LOG_OVERRUN is appended by the rule of R62, past both tests.) -/
def Obligations.EventOrder : Prop :=
  (∀ s : State, s.flushEvents = ({ s with evWait := [] } : State).takeEvents [] (evSort s.evWait)) ∧
  (∀ l : List Ev, (evSort l).Perm l ∧ (evSort l).Pairwise fun a b => a.code.code16 ≤ b.code.code16) ∧
  (∀ (s : State) (e : Ev), e.code.sev ≤ 2 → e.code.sev < s.get F.EVT_LOG_CFG_MIN_SEV → s.logOne e = s) ∧
  (∀ (s : State) (e : Ev), e.code.sev ≤ 3 → (e.code.sev ≤ 2 → s.get F.EVT_LOG_CFG_MIN_SEV ≤ e.code.sev) → mget 0 s.evt.lastLogged e.key ≠ 0 →
    s.ticks + 1 - mget 0 s.evt.lastLogged e.key ≤ ticksMs → s.logOne e = s.inc F.EVT_SUPPRESSED_COUNT) ∧
  (∀ (s : State) (e : Ev), 4 ≤ e.code.sev →
    s.logOne e = { s.logAppend e with evt := { (s.logAppend e).evt with lastLogged := mput 0 (s.logAppend e).evt.lastLogged e.key (s.ticks + 1) } }) ∧
  (∀ (s : State) (e : Ev) (l : List Nat) (f : Field), quiet f = true → (s.takeEvent l e).get f = s.get f)

/-- The log as a ring, R62: a record goes to HEAD, which advances; a full log first discards its oldest record and counts it lost;
the first loss of an episode appends LOG_OVERRUN after the record, which discards one more and holds LOST as it then stands; a
further loss of the episode appends none; reading LOST clears it. -/
def Obligations.LogOverrun : Prop :=
  (∀ (s : State) (e : Ev) (i : Nat), i < 32 →
    (s.logWrite e).rdByte (tbl 1 (s.get F.EVT_HEAD_INDEX * 32) + i) = (s.evRecord e).getD i 0 % 256) ∧
  (∀ (s : State) (e : Ev), (s.logWrite e).get F.EVT_HEAD_INDEX = (s.get F.EVT_HEAD_INDEX + 1) % 8192 ∧
    (s.logWrite e).get F.EVT_TAIL_INDEX = s.get F.EVT_TAIL_INDEX ∧ (s.logWrite e).get F.EVT_LOST_COUNT = s.get F.EVT_LOST_COUNT) ∧
  (∀ s : State, s.logFill ≤ 8191 ∧ (s.logFill = 0 ↔ s.get F.EVT_HEAD_INDEX = s.get F.EVT_TAIL_INDEX)) ∧
  (∀ (s : State) (e : Ev), s.logFill < 8191 → s.logAppend e = s.logWrite e) ∧
  (∀ (s : State) (e : Ev),
    let t := (s.set F.EVT_TAIL_INDEX ((s.get F.EVT_TAIL_INDEX + 1) % 8192)).inc F.EVT_LOST_COUNT
    s.logFill = 8191 → s.get F.EVT_LOST_COUNT ≠ 0 → s.logAppend e = t.logWrite e) ∧
  (∀ (s : State) (e : Ev),
    let t := ((s.set F.EVT_TAIL_INDEX ((s.get F.EVT_TAIL_INDEX + 1) % 8192)).inc F.EVT_LOST_COUNT).logWrite e
    let u := (t.set F.EVT_TAIL_INDEX ((t.get F.EVT_TAIL_INDEX + 1) % 8192)).inc F.EVT_LOST_COUNT
    s.logFill = 8191 → s.get F.EVT_LOST_COUNT = 0 →
    s.logAppend e = (u.logWrite ⟨E.EVT_LOG_OVERRUN, 0, [2], false⟩).setRaw ⟨E.EVT_LOG_OVERRUN, 0, [2], false⟩) ∧
  (∀ s : State, (s.readEffect 0x43 F.EVT_LOST_COUNT.off).get F.EVT_LOST_COUNT = 0)

/-- The interrupt lines of a settled block, and so after every step: a vector's condition is 1 exactly while a page routed to it,
and not disabled there, has a pending event; INT_N is asserted exactly while it is enabled and a vector in its masks has its
condition (R428, R430). -/
def Obligations.InterruptLines : Prop :=
  (∀ (s : State) (v : Nat), Settled s → v < 64 →
    (s.host.vecCond.testBit v = true ↔ ∃ p ∈ allPages, s.evtPend p ≠ 0 ∧ s.vecMap p < 128 ∧ s.vecMap p % 64 = v)) ∧
  (∀ s : State, Settled s →
    (s.host.intN = true ↔ s.on F.HOST_IRQ_CFG_INTN_EN = true ∧ ∃ v, v < 64 ∧ s.host.vecCond.testBit v = true ∧
      (if v < 32 then s.bit F.HOST_INTN_MASK_LO_EN v else s.bit F.HOST_INTN_MASK_HI_EN (v - 32)) = true))

/-- R37: writing 1 to SYS.BUTTON.RESET_STUCK clears it while the button is released; while the button is pressed the write is
ignored and the flag stays as it is. -/
def Obligations.ResetStuckClear : Prop :=
  (∀ s : State, s.reaches 0x00 0x060 = true → s.on F.SYS_BUTTON_PRESSED = false →
    exec .resetStuckClear s = .next (s.setB F.SYS_BUTTON_RESET_STUCK false).done ∧
      (s.setB F.SYS_BUTTON_RESET_STUCK false).done.on F.SYS_BUTTON_RESET_STUCK = false) ∧
  (∀ s : State, s.reaches 0x00 0x060 = true → s.on F.SYS_BUTTON_PRESSED = true →
    exec .resetStuckClear s = .next s.done ∧ s.done.on F.SYS_BUTTON_RESET_STUCK = s.on F.SYS_BUTTON_RESET_STUCK)

/-- R381: a write of PAIRk_FORCE, accepted by the password's rule (R50), selects the unit it names at once, whatever the hold-off,
provided the unit is not failed; for a failed unit it is refused and recorded. -/
def Obligations.ForcedSelection : Prop :=
  (∀ (s : State) (k : Fin 4) (v : Word) (isB : Bool), s.reaches 0x45 (0x084 + 16 * k.val) = true → s.pwdOpen = true → s.clogFull = false →
    s.arbOn k = true → v.toNat % 4 = (if isB then 2 else 1) → (s.arbUnit k isB).failed = false →
    exec (.pairarbForce k v) s = .next ((s.arbSwitch k isB).rwpLogged 0x45 (0x084 + 16 * k.val) 0 v.toNat).done ∧
      ((s.arbSwitch k isB).rwpLogged 0x45 (0x084 + 16 * k.val) 0 v.toNat).done.arbSelB k = isB) ∧
  (∀ (s : State) (k : Fin 4) (v : Word) (isB : Bool), s.reaches 0x45 (0x084 + 16 * k.val) = true → s.pwdOpen = true → s.clogFull = false →
    s.arbOn k = true → v.toNat % 4 = (if isB then 2 else 1) → (s.arbUnit k isB).failed = true →
    exec (.pairarbForce k v) s = .next (s.err E.PAIRARB_FORCE_REFUSED 0 [k, v.toNat % 4]).done)

/-- Each request to reset that finds the device in reach of one resets it with its cause of Table 2.6; a request while an outlet
delivers is deferred and ramps the outlets to zero, and a further one waits with it; the reset follows once no outlet delivers
and every outlet that stops carries no current; one in VAULT is held (R34, R35, R425). The reset button: a press of 8 s latches
RESET_STUCK, is logged and disregarded until the button has been released for 1 s; RESET_STUCK clears only while the button is
released (R36, R37). -/
def Obligations.Resets : Prop :=
  (∀ s : State,
    let u := (s.modSys fun y => { y with btnIgnored := false }).deviceReset 1
    exec .vaonPowerOnReset s = .next { u.freeNext with tim := { u.tim with legal := u.free * 2 ^ 32 } }.done) ∧
  (∀ s : State, s.reaches 0x00 0x064 = true → s.sys.held = false → s.mode ≠ .vault → s.sys.deferred = 0 →
    ((s.mode == .deliver || s.mode == .degraded) && s.anyEnergy) = false →
    exec (.swReset 0xA5C30F5A) s = .next (s.deviceReset (setBitOf 0 4 true)).done) ∧
  (∀ s : State, s.reaches 0x00 0x064 = true → s.sys.held = false → s.mode ≠ .vault → s.sys.deferred ≠ 0 →
    exec (.swReset 0xA5C30F5A) s = .next (s.modSys fun y => { y with deferred := setBitOf y.deferred 4 true }).done) ∧
  (∀ s : State,
    let u := s.setB F.SYS_BUTTON_PRESSED false
    s.sys.btnIgnored = false → s.sys.held = false → u.mode ≠ .vault → s.sys.deferred = 0 →
    ((u.mode == .deliver || u.mode == .degraded) && u.anyEnergy) = false →
    exec .resetButtonRelease s = .next (u.deviceReset (setBitOf 0 3 true)).done) ∧
  (∀ s : State,
    let u := s.pcieDown
    u.sys.held = false → u.mode ≠ .vault → u.sys.deferred = 0 → ((u.mode == .deliver || u.mode == .degraded) && u.anyEnergy) = false →
    exec .pcieReset s = .next (u.deviceReset (setBitOf 0 6 true)).done) ∧
  (∀ s : State, s.sys.deferred ≠ 0 → s.mode ≠ .vault → s.anyEnergy = false →
    (∀ n ∈ s.outlets, s.ostate n = .stopping → s.icZero n = true) →
    exec .deferredResetDone s = .next (s.deviceReset s.sys.deferred).done) ∧
  (∀ s : State, s.reaches 0x00 0x064 = true → s.sys.held = false → s.mode = .vault →
    exec (.swReset 0xA5C30F5A) s = .next (s.modSys fun y => { y with heldRequest := setBitOf y.heldRequest 4 true }).done) ∧
  (∀ s : State, s.reaches 0x00 0x064 = true → s.sys.held = false → s.mode = .deliver → s.sys.deferred = 0 → s.anyEnergy = true →
    let l := s.outlets.filter fun n => s.ostate n == .energy
    exec (.swReset 0xA5C30F5A) s = .next
      (((((s.modSys fun y => { y with deferred := setBitOf y.deferred 4 true }).setB F.SYS_BUTTON_DEFER_PENDING true).ev
        E.SYS_RESET_DEFERRED 0 [l.foldl (fun m n => setBitOf m n true) 0]).each l fun n s =>
          s.modOut n fun o => { o with resetRamp := max 1 o.refUa })).done) ∧
  (∀ (s : State) (key : Word), s.reaches 0x00 0x064 = true → key ≠ 0xA5C30F5A → exec (.swReset key) s = .next s.done) ∧
  (∀ s : State, s.sys.btnIgnored = false →
    exec .resetStuck s = .next
      ((((s.setB F.SYS_BUTTON_PRESSED true).setB F.SYS_BUTTON_RESET_STUCK true).modSys fun y => { y with btnIgnored := true }).ev
        E.SYS_RESET_STUCK 0 []).done) ∧
  (∀ s : State, exec .resetButtonReleased1s s = .next
      ((s.setB F.SYS_BUTTON_PRESSED false).modSys fun y => { y with btnIgnored := false }).done) ∧
  (∀ s : State, s.sys.btnIgnored = true → exec .resetButtonRelease s = .next (s.setB F.SYS_BUTTON_PRESSED false).done) ∧
  (∀ s : State, s.reaches 0x00 0x060 = true →
    exec .resetStuckClear s = .next (if s.on F.SYS_BUTTON_PRESSED = true then s else s.setB F.SYS_BUTTON_RESET_STUCK false).done)

/-- From the rails to service: reset is left for WAKING with its causes recorded, WAKING for SELFTEST once the PLL has locked,
SELFTEST for CONFIGURE or SAFE_HOLD by its verdict, CONFIGURE by the image or the host (Table 2.2, R23, R26, R34, R38). DORMANT
is entered on request or after its idle time while no condition of R25 bars it, and the request is refused and recorded while
one does; READY is reached from SEALED_SERVICE by closing the seal (R25, Table 2.2, Table 2.9). -/
def Obligations.StartUp : Prop :=
  (∀ (s : State) (cfgHost unitB selHigh : Bool), s.sys.held = true → s.sys.resetCauses = 1 →
    ∃ t, exec (.railsGood cfgHost unitB selHigh false) s = .next t ∧ t.mode = .waking ∧
      t.sys = { s.sys with held := false, resetCauses := 0, btnIgnored := s.sys.btnIgnored } ∧
      t.on F.SYS_BOOT_CFG_HOST = cfgHost ∧ t.on F.MIR_CFG_UNIT_B = unitB ∧ t.on F.MIR_STATUS_SELECTED = (selHigh != unitB) ∧
      t.get F.SYS_RESET_CAUSE_CAUSE = ((s.get F.SYS_RESET_CAUSE_CAUSE).lor 1) % 128 ∧ t.get F.PWR_RAIL_STAT_UV = 0) ∧
  (∀ (s : State) (src : Fin 8) (n : Fin 4) (isB : Bool) (mv : Int), s.mode = .dormant → s.bit F.SYS_WAKE_EN_EN src = true →
    s.wakes src n isB mv = true →
    exec (.wakeEvent ⟨src, n, isB, mv⟩) s = .next ((s.setBit F.SYS_WAKE_SRC_SRC src true).setMode .waking 2).done) ∧
  (∀ (s : State) (src : Fin 8) (n : Fin 4) (isB : Bool) (mv : Int), s.wakes src n isB mv = false →
    exec (.wakeEvent ⟨src, n, isB, mv⟩) s = .next s.done) ∧
  (∀ (s : State) (src : Fin 8) (n : Fin 4) (isB : Bool) (mv : Int) (w : WakeWindow), src.val < 3 → s.sys.wakeWindows[n.val]? = some w →
    (s.wakes src n isB mv = true ↔
      ((src.val = 0 ∧ w.kind = 1) ∨ (src.val = 1 ∧ w.kind = 2 ∧ isB = false) ∨ (src.val = 2 ∧ w.kind = 2 ∧ isB = true)) ∧
        (if isB then mv < w.loB ∨ w.hiB < mv else mv < w.loA ∨ w.hiA < mv))) ∧
  (∀ (s : State) (us : Nat), s.mode = .waking → s.sys.held = false →
    exec (.pllLocked us) s = .next
      (((({ s with mem := s.mem.filter fun e => !sramByte e.1 }.set F.CLK_PLL_STAT_LOCK_TIME (satTo 16 us)).setB
        F.CLK_PLL_STAT_XTAL_OK true).setB F.CLK_PLL_STAT_LOCKED true).setMode .selftest 3).done) ∧
  (∀ (s : State) (us : Nat), s.mode = .selftest →
    let u := (s.pulseCoils.set F.DIAG_SELFTEST_DURATION_US us).set F.DIAG_SELFTEST_FIRST_FAIL 0
    exec (.selftestDone us 0) s = .next
      ((u.modSys fun y => { y with selftestPassed := true, waitHost := u.on F.SYS_BOOT_CFG_HOST }).setMode .configure 4).done) ∧
  (∀ (s : State) (us k : Nat), s.mode = .selftest → k ≠ 0 →
    let u := (s.pulseCoils.set F.DIAG_SELFTEST_DURATION_US us).set F.DIAG_SELFTEST_FIRST_FAIL k
    let v := (u.ev E.DIAG_TEST_FAIL 0 [k, u.mode.code]).modSys fun y => { y with safeFrom := .selftest }
    let w : State := { v with safe := { v.safe with internalFailure := true } }
    exec (.selftestDone us k) s = .next (((w.setMode .safeHold 5).tripNode 3).enterSafeHold 5).done) ∧
  (∀ s : State, s.mode = .configure → s.sys.waitHost = false → s.mir.waitAlign = false → (s.imageCheck s.activeImg).1 = 2 →
    exec .configLoadDone s = .next
      (((((s.modSys fun y => { y with imageFresh := false }).loadImage s.activeImg s.sys.imageFresh).set F.SYS_BOOT_CONFIG_SRC
        (1 + s.activeImg)).afterLoad s.sys.imageFresh).configured).done) ∧
  (∀ s : State, s.mode = .configure → s.sys.waitHost = false → s.mir.waitAlign = false → (s.imageCheck s.activeImg).1 ≠ 2 →
    (s.imageCheck (1 - s.activeImg)).1 ≠ 2 →
    exec .configLoadDone s = .next (s.modSys fun y => { y with waitHost := true }).done) ∧
  (∀ s : State, s.reaches 0x00 0x008 = true → s.mode = .configure → s.sys.waitHost = true →
    exec .configDone s = .next s.configured.done) ∧
  (∀ s : State, s.reaches 0x00 0x048 = true → s.dormantBar = none → exec .modeReqDormant s = .next s.enterDormant.done) ∧
  (∀ (s : State) (c : Nat), s.reaches 0x00 0x048 = true → s.dormantBar = some c →
    exec .modeReqDormant s = .next (s.err E.SYS_MODE_REQ_REFUSED 0 [0, c]).done) ∧
  (∀ s : State, s.mode = .ready → s.get F.SYS_DORMANT_IDLE_SECONDS ≠ 0 →
    s.get F.SYS_DORMANT_IDLE_SECONDS * 400000000 ≤ s.since s.sys.idleSince → s.dormantBar = none →
    exec .dormantIdleExpiry s = .next s.enterDormant.done) ∧
  (∀ s : State, s.reaches 0x00 0x048 = true → s.mode = .sealedService → exec .modeReqReady s = .next s.closeSeal.done)

/-- VAULT: entered from any powered mode when VLS or a metrology rail falls, flushed, left by recovery to the mode held, or by a
reset once VRESET has been seen (R30, R31, R300, R469). -/
def Obligations.Vault : Prop :=
  (∀ (s : State) (rail : Fin 9) (mv : Int), s.sys.held = false → s.mode ≠ .dormant → s.mode ≠ .vault →
    (rail.val = 4 ∨ rail.val = 5 ∨ rail.val = 7 ∨ rail.val = 8) →
    exec (.vaultEnter rail mv) s = .next (s.enterVault rail mv).done) ∧
  (∀ (s : State) (us : Nat), s.mode = .vault → s.sys.flushing = true →
    exec (.vaultFlushDone us) s = .next
      ((((s.vaultRecord.set F.PWR_VAULT_STAT_LAST_FLUSH_US (satTo 16 us)).set F.PWR_VAULT_STAT_RESULT 1).ev E.PWR_VAULT_DONE 0
        [us]).flushEnd).done) ∧
  (∀ (s : State) (low : Int) (us : Nat), s.mode = .vault → s.sys.flushing = false → s.sys.vresetSeen = false →
    exec (.vaultRecovery low us) s = .next (s.leaveVault low us).done) ∧
  (∀ (s : State) (low : Int) (us : Nat), s.mode = .vault → s.sys.flushing = true → s.sys.vresetSeen = false →
    exec (.vaultRecovery low us) s = .next (s.modSys fun y => { y with recoverDue := some (low, us) }).done) ∧
  (∀ (s : State) (rail : Fin 9) (mv : Int), s.sys.held = false → s.mode = .vault →
    (rail.val = 4 ∨ rail.val = 5 ∨ rail.val = 7 ∨ rail.val = 8) →
    exec (.vaultEnter rail mv) s = .next (s.modSys fun y => { y with recoverDue := none }).done) ∧
  (∀ s : State,
    let u := s.modSys fun y => { y with flushing := false }
    s.sys.vresetSeen = false → u.vaultComplete.sys.recoverDue = none → s.flushEnd = u.vaultComplete) ∧
  (∀ (s : State) (low : Int) (us : Nat),
    let u := s.modSys fun y => { y with flushing := false }
    s.sys.vresetSeen = false → u.vaultComplete.sys.recoverDue = some (low, us) → s.flushEnd = u.vaultComplete.leaveVault low us) ∧
  (∀ s : State,
    let u := s.modSys fun y => { y with flushing := false }
    s.sys.vresetSeen = true → s.flushEnd = u.deviceReset s.sys.vaultCauses) ∧
  (∀ s : State,
    let u := ((s.setBit F.PWR_RAIL_STAT_UV 7 true).ev E.PWR_RAIL_UV 0 [7]).modSys fun y =>
      { y with vresetSeen := true, vaultCauses := setBitOf y.vaultCauses 1 true }
    s.mode = .vault → u.sys.flushing = false → exec .vaultVreset s = .next (u.deviceReset u.sys.vaultCauses).done) ∧
  (∀ s : State,
    let u := ((s.setBit F.PWR_RAIL_STAT_UV 7 true).ev E.PWR_RAIL_UV 0 [7]).modSys fun y =>
      { y with vresetSeen := true, vaultCauses := setBitOf y.vaultCauses 1 true }
    s.mode = .vault → u.sys.flushing = true → exec .vaultVreset s = .next u.done) ∧
  (∀ (s : State) (mv : Int), s.mode = .vault → s.sys.flushing = true → mv < 6000 →
    exec (.holdupShort mv) s = .next ((((s.set F.PWR_VAULT_STAT_RESULT 2).setI F.PWR_VHOLD_MEAS_MV mv).modSys fun y =>
      { y with holdupShort := some mv }).flushEnd).done) ∧
  (∀ (s : State) (mv : Int), exec (.vholdLow mv) s = .next
    ((s.setI F.PWR_VHOLD_MEAS_MV mv).setB F.PWR_RAIL_STAT_HOLDUP_LOW
      (s.get F.PWR_VHOLD_WARN_MV != 0 && decide (mv < (s.get F.PWR_VHOLD_WARN_MV : Int)))).done) ∧
  (∀ (s : State) (rail : Fin 4),
    let u := (s.setBit F.PWR_RAIL_STAT_UV rail true).ev E.PWR_RAIL_UV 0 [rail]
    s.sys.held = false → s.mode ≠ .dormant → u.mode ≠ .vault →
    exec (.ctlRailFlush rail) s = .next (((((u.vaultIntent).vaultRecord).vaultComplete).ev E.PWR_CTL_RAIL_FLUSH 0 [rail]).controlReset).done) ∧
  (∀ (s : State) (rail : Fin 4),
    let u := (s.setBit F.PWR_RAIL_STAT_UV rail true).ev E.PWR_RAIL_UV 0 [rail]
    s.sys.held = false → s.mode ≠ .dormant → u.mode = .vault → exec (.ctlRailFlush rail) s = .next (u.vaultResets 2).done) ∧
  (∀ s : State, s.sys.held = false → s.mode ≠ .dormant → s.mode ≠ .waking →
    exec (.pllUnlock false) s = .next ((((s.setB F.CLK_PLL_STAT_LOCKED false).ev E.CLK_PLL_UNLOCK 0 []).modSys fun y =>
      { y with needsReset := true }).enterSafeHold 16).done) ∧
  (∀ s : State, s.sys.held = false → s.mode ≠ .dormant → s.mode ≠ .waking →
    exec (.pllUnlock true) s = .next (((((s.setB F.CLK_PLL_STAT_XTAL_OK false).setB F.CLK_PLL_STAT_LOCKED false).ev E.CLK_XTAL_FAIL 0 []).modSys
      fun y => { y with needsReset := true }).enterSafeHold 16).done) ∧
  (∀ (s : State) (okA okB : Bool), s.lens.started = false → s.sys.held = false → s.mode ≠ .dormant →
    (s.metrologyStart okA okB).logHoldup.sys.vaultReset = false →
    exec (.metrologyStart okA okB) s = .next (s.metrologyStart okA okB).logHoldup.done)

/-- The images: a check reads checking and then its verdict on the inactive image, a valid image is activated with its change-log
record, and only the inactive image takes writes, which drop its verdict (R57, R58). -/
def Obligations.Images : Prop :=
  (∀ s : State, s.reaches 0x00 0x06C = true → exec (.imageCheck 0x1A6E) s = .next ((s.imageResult 1 0).setImgGood false).done) ∧
  (∀ (s : State) (key : Nat), s.reaches 0x00 0x06C = true → key ≠ 0x1A6E → exec (.imageCheck key) s = .next s.done) ∧
  (∀ s : State, s.get F.SYS_IMAGE_STAT_RESULT = 1 →
    exec .imageCheckDone s = .next ((s.imageResult (s.imageCheck (1 - s.activeImg)).1 (s.imageCheck (1 - s.activeImg)).2).setImgGood
      ((s.imageCheck (1 - s.activeImg)).1 == 2)).done) ∧
  (∀ s : State, s.reaches 0x00 0x06C = true → s.sys.imgGood = true → s.imgFlag (1 - s.activeImg) 0 = false →
    s.imgFlag (1 - s.activeImg) 1 = false → s.clogFull = false →
    let img := 1 - s.activeImg
    let u := (((s.clogAppend 0xFF 3 (15 * 4096 + img) (s.imgBodyCrc (1 - img)) (s.imgBodyCrc img)).set F.SYS_IMAGE_STAT_ACTIVE img).setB
      F.SYS_IMAGE_STAT_SWAP_PENDING true).imageResult 0 0
    let v := { u with sys := { u.sys with imageFresh := true, imgGood := false } }
    exec (.imageActivate 0x1A6E) s = .next (v.ev E.SYS_IMAGE_ACTIVATED 0 [img, u.rdLe (imgBase img + 12) 4, u.imgBodyCrc img]).done) ∧
  (∀ s : State, s.reaches 0x00 0x06C = true → s.sys.imgGood = false →
    exec (.imageActivate 0x1A6E) s = .next (s.ev E.SYS_IMAGE_REFUSED 0
      [s.get F.SYS_IMAGE_STAT_RESULT, s.get F.SYS_IMAGE_STAT_FIRST_BAD]).done) ∧
  (∀ (s : State) (off : Nat) (v : Word), s.tableReach 15 off = true → off / 4 * 4 / 0x80000 ≠ s.activeImg →
    exec (.imageWrite off v) s = .next (((s.wrLe (tbl 15 (off / 4 * 4)) 4 v.toNat).imageResult 0 0).setImgGood false).done) ∧
  (∀ (s : State) (off : Nat) (v : Word), s.tableReach 15 off = true → off / 4 * 4 / 0x80000 = s.activeImg →
    exec (.imageWrite off v) s = .next s.done)

/-- Host reads: the bytes asked for of the register's value go out and its read effects happen, whichever bytes are asked for;
reading ERR_CODE clears ERR_NEW; an offset with no register reads 0 and is recorded; a metrology page out of reach ends in
Completer Abort; an unmapped address reads 0, ignores a write and is recorded (R43, R44, R46, R424). The event registers of a
page: EVT_PEND clears by ones, but not a group that has an event in the same tick, EVT_SET raises events and DIAG_INJ arms, both
only in SELFTEST and SEALED_SERVICE, and are refused and recorded elsewhere (R45, R47). -/
def Obligations.HostReads : Prop :=
  (∀ (s : State) (page off v : Nat) (be : Fin 16),
    let o := off / 4 * 4
    s.readReach page = true → ¬(page = 0x04 ∧ o = 0x048) → page < 0x47 → (s.viewOf page o).regValue page o = some v → be.val ≠ 0 →
    exec (.readClear page ⟨off, be⟩) s = .next ((s.readEffect page o).emit (.rdata (page * 0x1000 + o) (v.land (beMask be)))).done) ∧
  (∀ (s : State) (page off : Nat) (be : Fin 16),
    let o := off / 4 * 4
    s.readReach page = true → ¬(page = 0x04 ∧ o = 0x048) → page < 0x47 → (s.viewOf page o).regValue page o = none → be.val ≠ 0 →
    exec (.readClear page ⟨off, be⟩) s = .next ((s.errC .noRegister page [o]).emit (.rdata (page * 0x1000 + o) 0)).done) ∧
  (∀ (be : Fin 16) (k : Fin 32), (beMask be).testBit k = be.val.testBit (k.val / 8)) ∧
  (∀ (s : State) (page : Nat), s.readReach page = true → page < 0x47 →
    exec (.errCodeRead page) s = .next ((s.setB (hErrNew page) false).emit
      (.rdata (page * 0x1000 + 0x020) (s.get (hErrCount page) * 2 ^ 16 + s.get (hErrCode page)))).done) ∧
  (∀ (s : State) (addr : Nat), s.hostOpen = true → unmapped addr = true →
    exec (.unmappedAccess addr false) s = .next ((s.err E.EVT_UNMAPPED_ACCESS 0 [addr, 0]).emit (.rdata addr 0)).done) ∧
  (∀ (s : State) (addr : Nat), s.hostOpen = true → unmapped addr = true →
    exec (.unmappedAccess addr true) s = .next (s.err E.EVT_UNMAPPED_ACCESS 0 [addr, 1]).done) ∧
  (∀ s : State, s.readReach 0x04 = true → exec .timeNowRead s = .next s.copyNow.done) ∧
  (∀ (s : State) (page off : Nat) (be : Fin 16),
    let a := page * 0x1000 + off / 4 * 4
    s.hostOpen = true → s.hasPage page = true → dieOf page = .metrology → s.sys.metLost = true → page < 0x47 → be.val ≠ 0 →
    exec (.readClear page ⟨off, be⟩) s = .next ((s.err E.HOST_D2D_ABORT 0 [a]).emit (.cplAbort a)).done) ∧
  (∀ (s : State) (page : Nat) (mask : Word), s.reaches page 0x018 = true →
    exec (.evtPendClear page mask) s = .next
      (s.set (hEvtRaw page) (((s.get (hEvtRaw page)).land (2 ^ 32 - 1 - mask.toNat % 2 ^ 32)).lor
        ((s.get (hEvtRaw page)).land (s.rawNow page)))).done) ∧
  (∀ (s : State) (page : Nat) (mask : Word), s.reaches page 0x01C = true → s.mode = .sealedService →
    exec (.evtSet page mask) s = .next (s.each ((List.range 32).filter fun b => mask.toNat.testBit b) fun b s =>
      s.ev ⟨pageKind page, 8 * b, 6⟩ (pageInst page) []).done) ∧
  (∀ (s : State) (page : Nat) (mask : Word), s.hasPage page = true → s.mode = .selftest →
    exec (.evtSet page mask) s = .next (s.each ((List.range 32).filter fun b => mask.toNat.testBit b) fun b s =>
      s.ev ⟨pageKind page, 8 * b, 6⟩ (pageInst page) []).done) ∧
  (∀ (s : State) (page : Nat) (mask : Word), s.reaches page 0x01C = true → s.mode ≠ .selftest → s.mode ≠ .sealedService →
    exec (.evtSet page mask) s = .next (s.errC .evtSetRefused page [mask.toNat]).done) ∧
  (∀ (s : State) (page : Nat) (value : Word), s.reaches page 0x030 = true → s.mode = .sealedService →
    exec (.diagInjWrite page value) s = .next
      ((s.set (hDiagSel page) (value.toNat / 2 ^ 16)).set (hDiagArm page) (value.toNat % 2)).done) ∧
  (∀ (s : State) (page : Nat) (value : Word), s.hasPage page = true → s.mode = .selftest →
    exec (.diagInjWrite page value) s = .next
      ((s.set (hDiagSel page) (value.toNat / 2 ^ 16)).set (hDiagArm page) (value.toNat % 2)).done) ∧
  (∀ (s : State) (page : Nat) (value : Word), s.reaches page 0x030 = true → s.mode ≠ .selftest → s.mode ≠ .sealedService →
    exec (.diagInjWrite page value) s = .next (s.errC .diagInjRefused page [value.toNat]).done) ∧
  (∀ (s : State) (page code sev inst : Nat) (data : List Nat), page < 0x47 → s.sys.held = false →
    exec (.eventAppend page code sev inst data) s = .next (s.ev ⟨page, code % 256, sev⟩ inst data).done)

/-- A host write of a whole register, of a table word and of part of a register: an ordinary register takes the write by its access
codes, a table word by its table's rule, and a partial write changes nothing and is recorded (R43, R50, R54, R55). The rings:
TAIL moves within the unread records and no further, LOG_CFG takes its value and is judged at once, a record requested over the
die link is appended (R471, R472, R51, R448). -/
def Obligations.HostWrites : Prop :=
  (∀ (s : State) (page off : Nat) (v : Word), page < 0x47 → off < 0x1000 → off % 4 = 0 → 0x040 ≤ off → defined page off = true →
    s.ownCommand page off v.toNat = none → s.reaches page off = true →
    exec (.registerWrite (page * 0x1000 + off) 15 v) s = .next (s.regPut page off v.toNat).done) ∧
  (∀ (s : State) (page off : Nat) (v : Word) (be : Fin 16), page < 0x47 → off < 0x1000 → off % 4 = 0 → be ≠ 15 → s.readReach page = true →
    exec (.registerWrite (page * 0x1000 + off) be v) s = .next (s.errC .partialWrite page [off]).done) ∧
  (∀ (s : State) (page off : Nat) (v : Word), page < 0x47 → off < 0x1000 → off % 4 = 0 → defined page off = false → s.readReach page = true →
    exec (.registerWrite (page * 0x1000 + off) 15 v) s = .next (s.errC .noRegister page [off]).done) ∧
  (∀ (s : State) (off : Nat) (v : Word), s.tableReach 7 off = true →
    exec (.tableEntryWrite 7 off v) s = .next (s.wrLe (tbl 7 (off / 4 * 4)) 4 v.toNat).done) ∧
  (∀ (s : State) (off : Nat) (v : Word), s.tableReach 5 off = true → off / 4 * 4 % 32 ≠ 28 →
    exec (.tableEntryWrite 5 off v) s = .next { s with tabBuf := mins (tbl 5 (off / 4 * 4)) v.toNat s.tabBuf }.done) ∧
  (∀ (s : State) (off : Nat) (v : Word), s.tableReach 3 off = true → s.sealOpen = false →
    exec (.tableEntryWrite 3 off v) s = .next (s.errC .writeSealed 0x26 [off / 4 * 4]).done) ∧
  (∀ (s : State) (off : Nat) (v : Word), s.tableReach 10 off = true →
    exec (.tableEntryWrite 10 off v) s = .next (s.errC .writeNeedsSentence 0x07 [off / 4 * 4]).done) ∧
  (∀ (s : State) (t off : Nat) (v : Word), t ∈ [0, 1, 2, 4, 12, 13] → s.tableReach t off = true →
    exec (.tableEntryWrite t off v) s = .next s.done) ∧
  (∀ (s : State) (off : Nat) (v : Word), s.tableReach 6 off = true → s.pwdOpen = false →
    exec (.tableEntryWrite 6 off v) s = .next (s.errC .writeNeedsPassword 0x22 [off / 4 * 4]).done) ∧
  (∀ (s : State) (off : Nat) (v : Word), s.tableReach 9 off = true → s.is7680 = true →
    exec (.tableEntryWrite 9 off v) s = .next (s.errC .writeNeedsSentence 0x1A [off / 4 * 4]).done) ∧
  (∀ (s : State) (off : Nat) (v : Word), s.hostOpen = true → tableSize 7 ≤ off →
    exec (.tableEntryWrite 7 off v) s = .next (s.err E.EVT_TABLE_RANGE 0 [7, off]).done) ∧
  (∀ (s : State) (r : Ring) (v : Word),
    let n := (paceRing (ringNo r)).2.2
    s.reaches (ringPage r) (ringOff r) = true →
    (v.toNat % n + n - s.ringTail (ringNo r)) % n ≤ s.ringFill (ringNo r) →
    exec (.tailWrite r v) s = .next (s.setTail (ringNo r) (v.toNat % n)).done) ∧
  (∀ (s : State) (r : Ring) (v : Word),
    let n := (paceRing (ringNo r)).2.2
    s.reaches (ringPage r) (ringOff r) = true →
    s.ringFill (ringNo r) < (v.toNat % n + n - s.ringTail (ringNo r)) % n →
    exec (.tailWrite r v) s = .next (s.errC .tailRange (ringPage r) [ringOff r]).done) ∧
  (∀ (s : State) (v : Word), s.reaches 0x43 0x054 = true →
    exec (.logCfgWrite v) s = .next
      ((((s.set F.EVT_LOG_CFG_FILL_IRQ (v.toNat / 2 ^ 16)).set F.EVT_LOG_CFG_MIN_SEV v.toNat).refreshFill).judgeFill).done) ∧
  (∀ (s : State) (content : List Nat),
    let le := fun i n => ofLe (slice content i n)
    s.sys.metLost = false → s.sys.held = false →
    exec (.recordAppendReq 0 content) s = .next ((s.logOne ⟨⟨le 1 1, le 0 1, le 2 1⟩, le 3 1, [le 4 4, le 8 4, le 12 4, le 16 4], false⟩).judgeFill).done) ∧
  (∀ (s : State) (content : List Nat),
    let le := fun i n => ofLe (slice content i n)
    s.sys.metLost = false → s.sys.held = false → s.clogFull = false →
    exec (.recordAppendReq 1 content) s = .next (s.clogAppend (le 0 1) (le 1 1) (le 2 2) (le 4 4) (le 8 4)).done) ∧
  (∀ (s : State) (content : List Nat),
    let le := fun i n => ofLe (slice content i n)
    s.sys.metLost = false → s.sys.held = false →
    exec (.recordAppendReq 2 content) s = .next (s.each (List.range (content.length / 6)) fun i s =>
      if le (6 * i) 2 < 448 then s.lifeStore (le (6 * i) 2) (le (6 * i + 2) 4) else s).done)

/-- The quad-SPI target: a good read frame answers the register's value, a good write frame is queued four deep and carried out in
order, a frame whose CRC fails is counted and has no effect, an aborted one is counted (R426, R427). -/
def Obligations.SpiTarget : Prop :=
  (∀ (s : State) (addr : Word) (crc : Byte), s.spiOn = true → crc8 (0x0B :: beBytes 4 addr.toNat) = crc.toNat → s.spiBusy = false →
    s.host.spiHeld = none →
    let f := s.spiFetch addr.toNat
    exec (.spiRead addr crc true) s = .next ((f.2.2).spiData (f.2.2.spiStatus false f.2.1 false false) f.1).done) ∧
  (∀ (s : State) (addr : Word) (crc : Byte), s.spiOn = true → crc8 (0x6B :: beBytes 4 addr.toNat) = crc.toNat → s.spiBusy = false →
    s.host.spiHeld = none →
    let f := s.spiFetch addr.toNat
    exec (.spiQuadRead addr crc true) s = .next ((f.2.2).spiData (f.2.2.spiStatus false f.2.1 false false) f.1).done) ∧
  (∀ (s : State) (addr data : Word) (crc : Byte), s.spiOn = true → crc8 (0x02 :: beBytes 4 addr.toNat ++ beBytes 4 data.toNat) = crc.toNat →
    s.spiBusy = false → s.host.spiHeld = none → s.host.spiQ.length < 4 →
    let u := s.modHost fun h => { h with spiQ := h.spiQ ++ [(addr.toNat, data.toNat)] }
    exec (.spiWrite addr data crc) s = .next (u.spiReply (u.spiStatus false false false false)).done) ∧
  (∀ (s : State) (addr data : Word) (crc : Byte), s.spiOn = true → crc8 (0x32 :: beBytes 4 addr.toNat ++ beBytes 4 data.toNat) = crc.toNat →
    s.spiBusy = false → s.host.spiHeld = none → s.host.spiQ.length < 4 →
    let u := s.modHost fun h => { h with spiQ := h.spiQ ++ [(addr.toNat, data.toNat)] }
    exec (.spiQuadWrite addr data crc) s = .next (u.spiReply (u.spiStatus false false false false)).done) ∧
  (∀ (s : State) (crc : Byte), s.spiOn = true → crc8 [0x05] = crc.toNat →
    exec (.spiStatus crc) s = .next (s.spiReply (s.spiStatus false false false s.spiBusy)).done) ∧
  (∀ (s : State) (crc : Byte), s.spiOn = true → crc8 [0x35] = crc.toNat →
    exec (.spiQuadStatus crc) s = .next (s.spiReply (s.spiStatus false false false s.spiBusy)).done) ∧
  (∀ (s : State) (addr data : Word) (crc : Byte), s.spiOn = true → crc8 (0x02 :: beBytes 4 addr.toNat ++ beBytes 4 data.toNat) ≠ crc.toNat →
    let u := (s.incSat F.HOST_SPI_ERR_CRC).ev E.HOST_SPI_CRC 0 [0x02]
    exec (.spiWrite addr data crc) s = .next (u.spiReply (u.spiStatus false false true false)).done) ∧
  (∀ s : State, s.spiOn = true → exec .spiFrameAbort s = .next (s.incSat F.HOST_SPI_ERR_ABORTED).done) ∧
  (∀ (s : State) (addr : Word) (crc : Byte) (ready : Bool), s.spiOn = true → crc8 (0x0B :: beBytes 4 addr.toNat) ≠ crc.toNat →
    let u := (s.incSat F.HOST_SPI_ERR_CRC).ev E.HOST_SPI_CRC 0 [0x0B]
    exec (.spiRead addr crc ready) s = .next (u.spiNoData (u.spiStatus false false true false)).done) ∧
  (∀ (s : State) (addr : Word) (crc : Byte) (ready : Bool), s.spiOn = true → crc8 (0x6B :: beBytes 4 addr.toNat) ≠ crc.toNat →
    let u := (s.incSat F.HOST_SPI_ERR_CRC).ev E.HOST_SPI_CRC 0 [0x6B]
    exec (.spiQuadRead addr crc ready) s = .next (u.spiNoData (u.spiStatus false false true false)).done) ∧
  (∀ (s : State) (addr data : Word) (crc : Byte), s.spiOn = true → crc8 (0x32 :: beBytes 4 addr.toNat ++ beBytes 4 data.toNat) ≠ crc.toNat →
    let u := (s.incSat F.HOST_SPI_ERR_CRC).ev E.HOST_SPI_CRC 0 [0x32]
    exec (.spiQuadWrite addr data crc) s = .next (u.spiReply (u.spiStatus false false true false)).done) ∧
  (∀ (s : State) (crc : Byte), s.spiOn = true → crc8 [0x05] ≠ crc.toNat →
    let u := (s.incSat F.HOST_SPI_ERR_CRC).ev E.HOST_SPI_CRC 0 [0x05]
    exec (.spiStatus crc) s = .next (u.spiReply (u.spiStatus false false true false)).done) ∧
  (∀ (s : State) (crc : Byte), s.spiOn = true → crc8 [0x35] ≠ crc.toNat →
    let u := (s.incSat F.HOST_SPI_ERR_CRC).ev E.HOST_SPI_CRC 0 [0x35]
    exec (.spiQuadStatus crc) s = .next (u.spiReply (u.spiStatus false false true false)).done) ∧
  (∀ (s : State) (addr v : Nat) (rest : List (Nat × Nat)),
    let t := s.modHost fun h => { h with spiQ := rest }
    let page := addr / 0x1000
    let off := addr % 0x1000 / 4 * 4
    s.host.spiQ = (addr, v) :: rest → page < 0x47 → 0x040 ≤ off → defined page off = true → t.ownCommand page off v = none → t.reaches page off = true →
    exec .spiQueuedWrite s = .next (t.regPut page off v).done) ∧
  (∀ (s : State) (addr v : Nat) (rest : List (Nat × Nat)), s.host.spiQ = (addr, v) :: rest → addr / 2 ^ 28 = 1 → 
    exec .spiQueuedWrite s = .next
      ((s.modHost fun h => { h with spiQ := rest }).tableWrite (addr / 0x1000000 % 16) (addr % 0x1000000) v).done) ∧
  (∀ s : State, exec .spiHeldReadExpiry s = .next (s.modHost fun h => { h with spiHeld := none }).done)

/-- The increment, the step, the slew and the roles of TIME: CFG takes its roles unless both ports are slaves; while the host owns
the servo the increment and the adjustment take their values and the clock steps to the SET registers, and while the hardware
owns it these three are refused with SERVO_OWNS; an increment outside its limits is taken and recorded, and the clock runs at
the limit; ADJ_CFG takes slews of 1 to 1,000 ppm and refuses others (R64, R66, R70). A Sentence that a fall of SYNC_OK ends does
so at once (R99). Clock states and legal time: without a Sync for LOSS_MS a locked clock is in holdover, the hardware servo with
the mean of its last increments and the host's as it stands; a Sync older than SENT_MS in LOCKED or HOLDOVER ends SYNC_OK; legal
time within 10 µs of the fabric's is left, further off it slews up to 2 s and steps beyond (R68, R69, R74). -/
def Obligations.TimeHostWrites : Prop :=
  (∀ (s : State) (v : Word), s.reaches 0x04 0x040 = true → ¬(bits v.toNat 11 10 = 2 ∧ bits v.toNat 9 8 = 2) →
    exec (.timeCfgWrite v) s = .next ((s.setWord 0x04 0x040 0xFFFFFFFF v.toNat fun a => a == .rw).ptpState.syncSentences).done) ∧
  (∀ (s : State) (v : Word), s.reaches 0x04 0x040 = true → bits v.toNat 11 10 = 2 ∧ bits v.toNat 9 8 = 2 →
    exec (.timeCfgWrite v) s = .next ((s.err E.TIME_BAD_ROLE 0 [v.toNat]).syncSentences).done) ∧
  (∀ (s : State) (v : Word), s.reaches 0x04 0x058 = true → s.hostServo = true →
    exec (.timeIncrWrite false v) s = .next (s.setIncr (v.toNat % 16 * 2 ^ 32 + s.get F.TIME_INCR_FRAC_FRAC)).done) ∧
  (∀ (s : State) (v : Word), s.reaches 0x04 0x05C = true → s.hostServo = true →
    exec (.timeIncrWrite true v) s = .next (s.setIncr (s.get F.TIME_INCR_NS_NS * 2 ^ 32 + v.toNat)).done) ∧
  (∀ (s : State) (v : Word), s.reaches 0x04 0x058 = true → s.hostServo = false →
    exec (.timeIncrWrite false v) s = .next (s.err E.TIME_SERVO_OWNS 0 [0x058]).done) ∧
  (∀ (s : State) (v : Word), s.reaches 0x04 0x05C = true → s.hostServo = false →
    exec (.timeIncrWrite true v) s = .next (s.err E.TIME_SERVO_OWNS 0 [0x05C]).done) ∧
  (∀ (s : State) (v : Nat), incrMin ≤ v → v ≤ incrMax →
    s.setIncr v = (s.set F.TIME_INCR_NS_NS (v / 2 ^ 32)).set F.TIME_INCR_FRAC_FRAC (v % 2 ^ 32)) ∧
  (∀ (s : State) (v : Nat), v < incrMin ∨ incrMax < v →
    s.setIncr v = ((s.set F.TIME_INCR_NS_NS (v / 2 ^ 32)).set F.TIME_INCR_FRAC_FRAC (v % 2 ^ 32)).err E.TIME_INCR_CLAMPED 0
      [v / 2 ^ 32, v % 2 ^ 32]) ∧
  (∀ s : State, incrMin ≤ s.incr ∧ s.incr ≤ incrMax ∧ (incrMin ≤ s.incrReg → s.incrReg ≤ incrMax → s.incr = s.incrReg)) ∧
  (∀ s : State, s.reaches 0x04 0x008 = true → s.hostServo = true →
    exec .timeStep s = .next ((s.stepFab s.setTarget 1).syncSentences).done) ∧
  (∀ s : State, s.reaches 0x04 0x008 = true → s.hostServo = false → exec .timeStep s = .next (s.err E.TIME_SERVO_OWNS 0 [0x008]).done) ∧
  (∀ (s : State) (v : Word), s.reaches 0x04 0x06C = true → s.hostServo = true →
    exec (.timeAdjWrite v) s = .next ({ s with tim := { s.tim with slew := toSigned 32 v.toNat * 2 ^ 32 } }.showSlew).done) ∧
  (∀ (s : State) (v : Word), s.reaches 0x04 0x06C = true → s.hostServo = false →
    exec (.timeAdjWrite v) s = .next (s.err E.TIME_SERVO_OWNS 0 [0x06C]).done) ∧
  (∀ (s : State) (v : Word), s.reaches 0x04 0x070 = true → 1 ≤ v.toNat % 2 ^ 16 → v.toNat % 2 ^ 16 ≤ 1000 →
    exec (.adjCfgWrite v) s = .next (s.set F.TIME_ADJ_CFG_SLEW_PPM (v.toNat % 2 ^ 16)).done) ∧
  (∀ (s : State) (v : Word), s.reaches 0x04 0x070 = true → v.toNat % 2 ^ 16 = 0 ∨ 1000 < v.toNat % 2 ^ 16 →
    exec (.adjCfgWrite v) s = .next (s.err E.TIME_BAD_SLEW 0 [v.toNat]).done) ∧
  (∀ s : State, s.get F.TIME_SYNC_STATE_STATE = 2 → s.get F.TIME_HOLDOVER_LOSS_MS * ticksMs ≤ s.since (s.tim.lastSync.getD 0) →
    s.tim.incrs.isEmpty = true ∨ s.hostServo = true →
    exec .holdoverEnter s = .next
      ((((s.modTim fun t => { t with holdoverTick := s.ticks }).set F.TIME_SYNC_STATE_STATE 3).set F.TIME_SYNC_STATE_HOLDOVER_S 0).ev
        E.TIME_HOLDOVER 0 [s.get F.TIME_OFFSET_NS_NS]).done) ∧
  (∀ s : State,
    let u := s.servoIncrSet ((s.tim.incrs.sum / s.tim.incrs.length : Nat) : Int)
    s.get F.TIME_SYNC_STATE_STATE = 2 → s.get F.TIME_HOLDOVER_LOSS_MS * ticksMs ≤ s.since (s.tim.lastSync.getD 0) →
    s.tim.incrs.isEmpty = false → s.hostServo = false →
    exec .holdoverEnter s = .next
      ((((u.modTim fun t => { t with holdoverTick := u.ticks }).set F.TIME_SYNC_STATE_STATE 3).set F.TIME_SYNC_STATE_HOLDOVER_S 0).ev
        E.TIME_HOLDOVER 0 [u.get F.TIME_OFFSET_NS_NS]).done) ∧
  (∀ (s : State) (t : Nat), s.tim.lastSync = some t → s.get F.TIME_SYNC_STATE_STATE = 2 ∨ s.get F.TIME_SYNC_STATE_STATE = 3 → s.on F.TIME_SYNC_STATE_SYNC_OK = true →
    s.get F.TIME_HOLDOVER_SENT_MS * ticksMs < s.since t →
    exec .syncAgeExpiry s = .next ((s.ev E.TIME_HOLDOVER_EXCEEDED 0 [s.since t / ticksMs]).setSyncOk false).done) ∧
  (∀ s : State,
    let want : Int := (s.tim.fab : Int) - s.getI F.TIME_UTC_OFFSET_SECONDS * secUnit
    let d : Int := (s.tim.legal : Int) - want
    let u := (s.setI F.TIME_LEGAL_DIFF_MS (clampI (-(2 : Int) ^ 31) (2 ^ 31 - 1) (divZ d (1000000 * 2 ^ 32)))).setB F.TIME_LEGAL_STAT_LEGAL_SET true
    s.on F.TIME_SYNC_STATE_SYNC_OK = true → s.on F.TIME_LEGAL_STAT_STEER_EN = true → s.sys.metLost = false → s.sys.held = false →
    10000 * 2 ^ 32 < d.natAbs → d.natAbs ≤ 2 * secUnit →
    exec .legalSteer s = .next ((u.modTim fun t => { t with legalSlew := -d }).setB F.TIME_LEGAL_STAT_SLEWING true).done) ∧
  (∀ s : State,
    let want : Int := (s.tim.fab : Int) - s.getI F.TIME_UTC_OFFSET_SECONDS * secUnit
    let d : Int := (s.tim.legal : Int) - want
    let u := (s.setI F.TIME_LEGAL_DIFF_MS (clampI (-(2 : Int) ^ 31) (2 ^ 31 - 1) (divZ d (1000000 * 2 ^ 32)))).setB F.TIME_LEGAL_STAT_LEGAL_SET true
    s.on F.TIME_SYNC_STATE_SYNC_OK = true → s.on F.TIME_LEGAL_STAT_STEER_EN = true → s.sys.metLost = false → s.sys.held = false →
    2 * secUnit < d.natAbs → 10000 * 2 ^ 32 < d.natAbs →
    exec .legalSteer s = .next (u.legalStep want.toNat).done) ∧
  (∀ s : State,
    let want : Int := (s.tim.fab : Int) - s.getI F.TIME_UTC_OFFSET_SECONDS * secUnit
    let d : Int := (s.tim.legal : Int) - want
    s.on F.TIME_SYNC_STATE_SYNC_OK = true → s.on F.TIME_LEGAL_STAT_STEER_EN = true → s.sys.metLost = false → s.sys.held = false →
    d.natAbs ≤ 10000 * 2 ^ 32 →
    exec .legalSteer s = .next (s.setI F.TIME_LEGAL_DIFF_MS (clampI (-(2 : Int) ^ 31) (2 ^ 31 - 1) (divZ d (1000000 * 2 ^ 32)))).done) ∧
  (∀ s : State, s.on F.TIME_SYNC_STATE_SYNC_OK = false ∨ s.on F.TIME_LEGAL_STAT_STEER_EN = false → exec .legalSteer s = .next s.done)

/-- Time-triggered outputs: an output with sound timing is armed and judged against the instant 50 ns after the arming write, one
without is disarmed and recorded; a late one-shot is carried out at that instant, or by LATE_POLICY disarmed as missed, and a
periodic output skips the instances before it; its start drives it active, and a pulse's end drives it inactive and disarms a
one-shot (R76, R77, R78). -/
def Obligations.TimeTriggeredOutputs : Prop :=
  (∀ (s : State) (n : Fin 8), s.reaches 0x05 (0x040 + n * 0x20) = true → tpoBadTiming s n = false → tpoMode s n ≠ 0 →
    exec (.tpoArm n) s = .next ((((s.setB (F.TPO_CFG_ARM.nth n) true).setB (F.TPO_STATUS_ARMED.nth n) true).setTpo n
      { stop := (s.tpoOf n).stop }).tpoJudge n).done) ∧
  (∀ (s : State) (n : Fin 8), s.reaches 0x05 (0x040 + n * 0x20) = true → tpoBadTiming s n = true →
    exec (.tpoArm n) s = .next ((s.tpoDisarm n).err E.TPO_BAD_TIMING 0 [n]).done) ∧
  (∀ (s : State) (n : Fin 8), s.reaches 0x05 (0x040 + n * 0x20) = true →
    exec (.tpoDisarm n) s = .next
      ((((s.setB (F.TPO_CFG_ARM.nth n) false).setB (F.TPO_STATUS_ARMED.nth n) false).setTpo n {}).tpoDrive n false).done) ∧
  (∀ (s : State) (n : Nat), tpoMode s n = 1 ∨ tpoMode s n = 2 → (s.tpoOf n).acted = false → s.tim.fab + nsUnits 50 ≤ tpoStart s n →
    s.tpoJudge n = s.setTpo n { s.tpoOf n with due := tpoStart s n }) ∧
  (∀ (s : State) (n : Nat), tpoMode s n = 1 ∨ tpoMode s n = 2 → (s.tpoOf n).acted = false → tpoStart s n < s.tim.fab + nsUnits 50 →
    s.on (F.TPO_CFG_LATE_POLICY.nth n) = false →
    s.tpoJudge n = ((s.setTpo n { s.tpoOf n with due := s.tim.fab + nsUnits 50 }).setB (F.TPO_STATUS_LATE.nth n) true).ev E.TPO_LATE 0 [n, 0]) ∧
  (∀ (s : State) (n : Nat), tpoMode s n = 1 ∨ tpoMode s n = 2 → (s.tpoOf n).acted = false → tpoStart s n < s.tim.fab + nsUnits 50 →
    s.on (F.TPO_CFG_LATE_POLICY.nth n) = true →
    s.tpoJudge n = (((s.setB (F.TPO_CFG_ARM.nth n) false).setB (F.TPO_STATUS_ARMED.nth n) false).setB (F.TPO_STATUS_MISSED.nth n) true).ev
      E.TPO_MISSED 0 [n, tpoStart s n / secUnit, tpoStart s n % secUnit / 2 ^ 32]) ∧
  (∀ (s : State) (n : Nat),
    let k := tpoFirst (tpoStart s n) (tpoPeriod s n) (s.tim.fab + nsUnits 50)
    tpoMode s n = 3 → (s.tpoOf n).next < k →
    s.tpoJudge n = (((s.setTpo n { s.tpoOf n with next := k, due := tpoStart s n + k * tpoPeriod s n }).setB (F.TPO_STATUS_LATE.nth n) true).set
      (F.TPO_STATUS_SKIPPED.nth n) (satTo 16 (k - (s.tpoOf n).next))).ev E.TPO_LATE 0 [n, satTo 16 (k - (s.tpoOf n).next)]) ∧
  (∀ a p t k : Nat, 0 < p → (k = tpoFirst a p t ↔ t ≤ a + k * p ∧ ∀ j, j < k → a + j * p < t)) ∧
  (∀ (s : State) (n : Fin 8), s.tpoRuns = true → s.on (F.TPO_STATUS_ARMED.nth n) = true → tpoMode s n = 1 →
    exec (.tpoStart n) s = .next ((s.setTpo n { s.tpoOf n with acted := true }).tpoDrive n true).done) ∧
  (∀ (s : State) (n : Fin 8), s.tpoRuns = true → s.on (F.TPO_STATUS_ARMED.nth n) = true → tpoMode s n = 2 → (s.tpoOf n).acted = false →
    exec (.tpoStart n) s = .next
      ((s.setTpo n { s.tpoOf n with acted := true, stop := some ((s.tpoOf n).due + tpoWidth s n) }).tpoDrive n true).done) ∧
  (∀ (s : State) (n : Fin 8), s.tpoRuns = true → s.on (F.TPO_STATUS_ARMED.nth n) = true → tpoMode s n = 3 →
    let t := s.tpoOf n
    exec (.tpoStart n) s = .next
      ((s.setTpo n { t with next := t.next + 1, due := t.due + tpoPeriod s n, stop := some (t.due + tpoWidth s n) }).tpoDrive n true).done) ∧
  (∀ (s : State) (n : Fin 8), s.on (F.TPO_STATUS_ACTIVE.nth n) = true → (s.tpoOf n).stop.isSome = true →
    let u := (s.setTpo n { s.tpoOf n with stop := none }).tpoDrive n false
    exec (.tpoPulseEnd n) s = .next (u.when (tpoMode u n == 2) fun s => s.setB (F.TPO_STATUS_ARMED.nth n) false).done)

/-- PTP messages on a slave port: a one-step Sync gives a result at once, a two-step Sync waits for the Follow_Up that carries its
sequence number, the peer's times and the fourth timestamp complete a delay measurement, and an Announce brings the UTC offset
(R66, R67, R74). PTP messages a port sends: a master answers Delay_Req and sends Sync and Announce, a P2P port answers
Pdelay_Req with its receive and transmit times, a slave or a P2P port starts a delay measurement; any other frame is switched to
the other port, as it is without TC_EN, a one-step Sync with its residence time added with it (R66, R72, R73). -/
def Obligations.PtpMessages : Prop :=
  (∀ (s : State) (port : Fin 2) (f : PtpMsg), s.ptpAccepts port f = true → s.ptpRole port = 2 → f.twoStep = false →
    exec (.ptpSyncRx port f) s = .next (s.syncResult ((f.ts : Int) + divZ f.corr 65536) (s.rxStamp port)).done) ∧
  (∀ (s : State) (port : Fin 2) (f : PtpMsg), s.ptpAccepts port f = true → s.ptpRole port = 2 → f.twoStep = true →
    exec (.ptpSyncRx port f) s = .next (s.modTim fun t => { t with pendingSync := some (f.seqId, s.rxStamp port, f.corr) }).done) ∧
  (∀ (s : State) (port : Fin 2) (f : PtpMsg) (rx c : Int), s.ptpAccepts port f = true → s.ptpRole port = 2 →
    s.tim.pendingSync = some (f.seqId, rx, c) →
    exec (.ptpFollowUpRx port f) s = .next (s.syncResult ((f.ts : Int) + divZ (c + f.corr) 65536) rx).done) ∧
  (∀ (s : State) (port : Fin 2) (f : PtpMsg), s.ptpAccepts port f = true → s.ptpRole port = 2 → s.ptpP2p port = false →
    (s.delayOf port).busy = true → (s.delayOf port).seqId = f.seqId →
    let d := { s.delayOf port with
      t1 := s.tim.syncT1, t2 := s.tim.syncT2, t4 := (f.ts : Int), corr := (s.delayOf port).corr + f.corr, busy := false }
    exec (.ptpDelayRespRx port f) s = .next (s.setPath port d d.path).done) ∧
  (∀ (s : State) (port : Fin 2) (f : PtpMsg), s.ptpAccepts port f = true → s.ptpP2p port = true →
    (s.delayOf port).busy = true → (s.delayOf port).seqId = f.seqId → f.twoStep = true →
    exec (.ptpPdelayRespRx port f) s = .next
      (s.setDelay port { s.delayOf port with t2 := (f.ts : Int), t4 := s.rxStamp port, corr := (s.delayOf port).corr + f.corr }).done) ∧
  (∀ (s : State) (port : Fin 2) (f : PtpMsg), s.ptpAccepts port f = true → s.ptpP2p port = true →
    (s.delayOf port).busy = true → (s.delayOf port).seqId = f.seqId →
    let d := { s.delayOf port with t3 := (f.ts : Int), corr := (s.delayOf port).corr + f.corr, busy := false }
    exec (.ptpPdelayRespFollowUpRx port f) s = .next (s.setPath port d d.path).done) ∧
  (∀ (s : State) (port : Fin 2) (f : PtpMsg), s.ptpAccepts port f = true → s.ptpRole port = 2 →
    s.on F.TIME_UTC_OFFSET_FROM_ANNOUNCE = true →
    exec (.ptpAnnounceRx port f) s = .next
      ({ s with tim := { s.tim with announced := some f.utc } }.setI F.TIME_UTC_OFFSET_SECONDS f.utc).done) ∧
  (∀ (s : State) (port : Fin 2) (f : PtpMsg), s.ptpAccepts port f = true → s.ptpRole port = 1 →
    exec (.ptpDelayReqRx port f) s = .next (s.ptpOwn port ptpDelayResp f.seqId (s.rxStamp port) f.corr false).done) ∧
  (∀ (s : State) (port : Fin 2) (f : PtpMsg), s.ptpAccepts port f = true → s.ptpP2p port = true →
    exec (.ptpPdelayReqRx port f) s = .next ((s.ptpOwn port ptpPdelayResp f.seqId (s.rxStamp port) f.corr true).ptpOwn port
      ptpPdelayRespFollowUp f.seqId (s.txStamp port) f.corr false).done) ∧
  (∀ (s : State) (port : Fin 2), s.on F.TIME_CFG_ENABLE = true → s.ptpRole port = 1 → s.ptpOneStep port = true →
    exec (.ptpSyncTx port) s = .next
      ((s.ptpOwn port ptpSync s.tim.txSeq (s.txStamp port) ((s.tim.fab % 2 ^ 32 / 65536 : Nat) : Int) false).nextSeq).done) ∧
  (∀ (s : State) (port : Fin 2), s.on F.TIME_CFG_ENABLE = true → s.ptpRole port = 1 → s.ptpOneStep port = false →
    exec (.ptpSyncTx port) s = .next (((s.ptpOwn port ptpSync s.tim.txSeq 0 0 true).ptpOwn port ptpFollowUp s.tim.txSeq (s.txStamp port)
      ((s.tim.fab % 2 ^ 32 / 65536 : Nat) : Int) false).nextSeq).done) ∧
  (∀ (s : State) (port : Fin 2), s.on F.TIME_CFG_ENABLE = true → s.ptpRole port = 2 → s.ptpP2p port = false →
    exec (.delayReqTx port) s = .next
      (((s.setDelay port { seqId := s.tim.txSeq, t3 := s.txStamp port, busy := true }).ptpOwn port ptpDelayReq s.tim.txSeq 0 0 false).nextSeq).done) ∧
  (∀ (s : State) (port : Fin 2), s.on F.TIME_CFG_ENABLE = true → s.ptpRole port ≠ 0 → s.ptpP2p port = true →
    exec (.delayReqTx port) s = .next
      (((s.setDelay port { seqId := s.tim.txSeq, t1 := s.txStamp port, busy := true }).ptpOwn port ptpPdelayReq s.tim.txSeq 0 0 false).nextSeq).done) ∧
  (∀ (s : State) (port : Fin 2), s.on F.TIME_CFG_ENABLE = true → s.ptpRole port = 1 →
    exec (.announceTx port) s = .next ((s.ptpOwn port ptpAnnounce s.tim.txSeq 0 0 false).nextSeq).done) ∧
  (∀ (s : State) (port : Fin 2) (f : PtpMsg), s.ptpAccepts port f = false →
    exec (.ptpSyncRx port f) s = .next (s.ptpForward port ptpSync f).done) ∧
  (∀ (s : State) (port : Fin 2) (f : PtpMsg), s.ptpAccepts port f = false →
    exec (.ptpFollowUpRx port f) s = .next (s.ptpForward port ptpFollowUp f).done ∧
    exec (.ptpDelayReqRx port f) s = .next (s.ptpForward port ptpDelayReq f).done ∧
    exec (.ptpDelayRespRx port f) s = .next (s.ptpForward port ptpDelayResp f).done ∧
    exec (.ptpPdelayReqRx port f) s = .next (s.ptpForward port ptpPdelayReq f).done ∧
    exec (.ptpPdelayRespRx port f) s = .next (s.ptpForward port ptpPdelayResp f).done ∧
    exec (.ptpPdelayRespFollowUpRx port f) s = .next (s.ptpForward port ptpPdelayRespFollowUp f).done ∧
    exec (.ptpAnnounceRx port f) s = .next (s.ptpForward port ptpAnnounce f).done) ∧
  (∀ (s : State) (port kind : Nat) (m : PtpMsg), s.on F.TIME_CFG_TC_EN = false →
    s.ptpForward port kind m = s.emit (.ptp (1 - port) kind m)) ∧
  (∀ (s : State) (port : Nat) (m : PtpMsg), s.on F.TIME_CFG_TC_EN = true → s.on F.TIME_CFG_TC_P2P = false → m.twoStep = false →
    s.ptpForward port ptpSync m = s.freeNext.emit (.ptp (1 - port) ptpSync { m with corr := m.corr + s.residence port })) ∧
  (∀ (s : State) (port : Fin 2) (seqId : Nat),
    exec (.tcFollowUpTimeout port seqId) s = .next
      { s with tim := { s.tim with heldResidence := mput 0 s.tim.heldResidence (port * 65536 + seqId) 0 } }.done)

/-- Opening, staging, clearing, preparing, aborting and releasing a Sentence from the host's slots (R82 to R85). The host's Sentence
commands on a slot of another owner, and on a slot in the wrong state: refused, recorded and shown in CMD_RESULT (R84, Table
5.4). -/
def Obligations.SentenceCommands : Prop :=
  (∀ (s : State) (k : Nat), s.reaches 0x09 0x040 = true → s.on F.SENT_CMD_RESULT_BUSY = false → s.freeSlot 12 16 = some k →
    exec .sentOpen s = .next (((s.setSlot k { st := 1, owner := 0 }).cmdResult k 0).refreshSent).done) ∧
  (∀ (s : State) (k : Fin 16), s.reaches 0x09 0x040 = true → s.on F.SENT_CMD_RESULT_BUSY = false → 12 ≤ (k : Nat) →
    (s.slot k).st = 1 → s.clauseBad s.stagedClause false = none → (s.slot k).clauses.length < 64 →
    exec (.sentStage k) s = .next
      (((s.setSlot k { s.slot k with clauses := (s.slot k).clauses ++ [s.stagedClause] }).cmdResult k 0).refreshSent).done) ∧
  (∀ (s : State) (k : Fin 16) (e : EvCode), s.reaches 0x09 0x040 = true → s.on F.SENT_CMD_RESULT_BUSY = false → 12 ≤ (k : Nat) →
    (s.slot k).st = 1 → s.clauseBad s.stagedClause false = some e → (s.slot k).clauses.length < 64 →
    exec (.sentStage k) s = .next (s.cmdRefuse e k [k, (s.slot k).clauses.length]).done) ∧
  (∀ (s : State) (k : Fin 16), s.reaches 0x09 0x040 = true → s.on F.SENT_CMD_RESULT_BUSY = false → 12 ≤ (k : Nat) →
    (s.slot k).st = 1 →
    exec (.sentPrepare k) s = .next (((s.setSlot k { s.slot k with st := 2, prepNs := s.fabNs }).cmdResult k 0).refreshSent).done) ∧
  (∀ (s : State) (k : Fin 16), s.reaches 0x09 0x040 = true → s.on F.SENT_CMD_RESULT_BUSY = false → 12 ≤ (k : Nat) →
    (s.slot k).st = 1 → exec (.sentAbort k) s = .next ((s.endSlot k 7 0 0).cmdResult k 0).done) ∧
  (∀ (s : State) (k : Fin 16), s.reaches 0x09 0x040 = true → s.on F.SENT_CMD_RESULT_BUSY = false → 12 ≤ (k : Nat) →
    (s.slot k).st = 3 → (s.slot k).dist = false → (s.slot k).vaultDue = none →
    exec (.sentAbort k) s = .next ((s.endSlot k 7 0 0).cmdResult k 0).done) ∧
  (∀ (s : State) (k : Fin 16), s.reaches 0x09 0x040 = true → s.on F.SENT_CMD_RESULT_BUSY = false → 12 ≤ (k : Nat) →
    (s.slot k).st = 3 → (s.slot k).dist = true → exec (.sentAbort k) s = .next ((s.decideAbort k 0).cmdResult k 0).done) ∧
  (∀ (s : State) (k : Fin 16), s.reaches 0x09 0x040 = true → s.on F.SENT_CMD_RESULT_BUSY = false → 12 ≤ (k : Nat) →
    6 ≤ (s.slot k).st → exec (.sentRelease k) s = .next (((s.freeSlotNow k).cmdResult k 0).refreshSent).done) ∧
  (∀ (s : State) (k : Fin 16), s.reaches 0x09 0x040 = true → s.on F.SENT_CMD_RESULT_BUSY = false → 12 ≤ (k : Nat) →
    (s.slot k).st = 1 →
    exec (.sentClear k) s = .next (((s.setSlot k { s.slot k with clauses := [] }).cmdResult k 0).refreshSent).done) ∧
  (∀ (s : State) (op k : Fin 16), s.reaches 0x09 0x040 = true → s.on F.SENT_CMD_RESULT_BUSY = false → 7 ≤ (op : Nat) →
    exec (.sentBadOp op k) s = .next (s.cmdRefuse E.SENT_BAD_OP k [op]).done) ∧
  (∀ (s : State) (k : Fin 16), s.reaches 0x09 0x040 = true → s.on F.SENT_CMD_RESULT_BUSY = false → (k : Nat) < 12 →
    exec (.sentStage k) s = .next (s.cmdRefuse E.SENT_NOT_OWNER k [k, 2]).done ∧
    exec (.sentPrepare k) s = .next (s.cmdRefuse E.SENT_NOT_OWNER k [k, 3]).done ∧
    exec (.sentAbort k) s = .next (s.cmdRefuse E.SENT_NOT_OWNER k [k, 4]).done ∧
    exec (.sentRelease k) s = .next (s.cmdRefuse E.SENT_NOT_OWNER k [k, 5]).done ∧
    exec (.sentClear k) s = .next (s.cmdRefuse E.SENT_NOT_OWNER k [k, 6]).done) ∧
  (∀ (s : State) (k : Fin 16), s.reaches 0x09 0x040 = true → s.on F.SENT_CMD_RESULT_BUSY = false → 12 ≤ (k : Nat) →
    (s.slot k).st ≠ 1 → (s.slot k).st < 6 →
    exec (.sentStage k) s = .next (s.cmdRefuse E.SENT_NOT_OPEN k [k, 2]).done ∧
    exec (.sentPrepare k) s = .next (s.cmdRefuse E.SENT_NOT_OPEN k [k, 3]).done ∧
    exec (.sentClear k) s = .next (s.cmdRefuse E.SENT_NOT_OPEN k [k, 6]).done) ∧
  (∀ (s : State) (k : Fin 16), s.reaches 0x09 0x040 = true → s.on F.SENT_CMD_RESULT_BUSY = false → 12 ≤ (k : Nat) →
    (s.slot k).st < 6 → exec (.sentRelease k) s = .next (s.cmdRefuse E.SENT_NOT_TERMINAL k [k, 5]).done) ∧
  (∀ (s : State) (k : Fin 16), s.reaches 0x09 0x040 = true → s.on F.SENT_CMD_RESULT_BUSY = false → 12 ≤ (k : Nat) →
    (s.slot k).st ≠ 1 → (s.slot k).st ≠ 3 → exec (.sentAbort k) s = .next (s.cmdRefuse E.SENT_ABORT_REFUSED k [k, 4]).done) ∧
  (∀ (s : State) (k : Fin 16), s.reaches 0x09 0x040 = true → s.on F.SENT_CMD_RESULT_BUSY = false → 12 ≤ (k : Nat) →
    (s.slot k).st = 3 → (s.slot k).dist = false → (s.slot k).vaultDue.isSome = true →
    exec (.sentAbort k) s = .next (s.cmdRefuse E.SENT_ABORT_REFUSED k [k, 4]).done) ∧
  (∀ (s : State), s.reaches 0x09 0x040 = true → s.on F.SENT_CMD_RESULT_BUSY = false → s.freeSlot 12 16 = none →
    exec .sentOpen s = .next (s.cmdRefuse E.SENT_NO_SLOT_FREE 0 [0]).done)

/-- Validation, the full stop and the take instant: a failed check aborts the Sentence with its record, a passed local one is
PREPARED with its yields and takes fixed; the full stop applies the yields, the take instant the takes (R86, R88, R89). -/
def Obligations.SentenceExecution : Prop :=
  (∀ (s : State) (k : Fin 16) (e : Nat × SentErr),
    let x := s.slot k
    let t := s.setSlot k { x with yields := (s.slotParts x).1, takes := (s.slotParts x).2, delay := s.takeDelay x, kids := [] }
    x.st = 2 → x.dist = false → t.validate k = some e → exec (.validationDone k) s = .next (t.abortErr k e).done) ∧
  (∀ (s : State) (k : Fin 16),
    let x := s.slot k
    let y := { x with yields := (s.slotParts x).1, takes := (s.slotParts x).2, delay := s.takeDelay x, kids := [] }
    let t := s.setSlot k y
    x.st = 2 → x.dist = false → t.validate k = none →
    exec (.validationDone k) s = .next ((t.setSlot k { y with st := 3 }).refreshSent).done) ∧
  (∀ (s : State) (k : Fin 16), s.stopDue k = true → s.stagesRun = true → s.mode ≠ .mirror →
    exec (.fullStop k) s = .next (((s.stopAll (s.stopSet k)).sendDue k).syncSentences).done) ∧
  (∀ (s : State) (k : Fin 16), s.stopDue k = false → exec (.fullStop k) s = .next ((s.sendDue k).syncSentences).done) ∧
  (∀ (s : State) (k : Fin 16), s.stopDue k = true → s.stagesRun = false → s.mode ≠ .mirror →
    exec (.fullStop k) s = .next ((((s.modSlot k fun x => { x with vaultDue := some (x.vaultDue.getD E.PWR_VAULT_ENTER.code16) }).sendDue
      k).syncSentences).done)) ∧
  (∀ (s : State) (k j : Nat), j ∈ s.stopSet k ↔
    j < 16 ∧ s.stopDue j = true ∧ (j = k ∨ ((s.slot k).mode = 2 ∧ (s.slot j).mode = 2 ∧ (s.slot j).stop = (s.slot k).stop))) ∧
  (∀ (s : State) (k : Nat),
    let t := s.applyYields k
    (t.slot k).bound = false → s.stopAll [k] = t.afterYields k) ∧
  (∀ (s : State) (k : Nat),
    let t := s.applyYields k
    (t.slot k).bound = true → (t.slot k).leaseOut = false → s.stopAll [k] = t.halve k 0) ∧
  (∀ (s : State) (k : Fin 16),
    let t := s.applyActs k (s.slot k).takes
    (s.slot k).st = 5 → s.stagesRun = true → s.mode ≠ .mirror → s.leaseBars (s.slot k) = false →
    exec (.takeInstant k) s = .next (((t.setSlot k { s.slot k with takesOn := true }).endSlot k 6 0 0).refreshMode.syncSentences).done) ∧
  (∀ (s : State) (k : Fin 16), (s.slot k).st = 5 → s.stagesRun = true → s.mode ≠ .mirror → s.leaseBars (s.slot k) = true →
    exec (.takeInstant k) s = .next ((s.endSlot k 8 E.TREE_LEASE_EXPIRED.code16 0x7F).syncSentences).done)

/-- A participant's part: the vote, the decision, the query and the guard instant (R93, R95). -/
def Obligations.SentenceParticipant : Prop :=
  (∀ (s : State) (p : List Nat) (k : Nat), s.galeshIn = true → s.fromParent p = true → s.partSlot (payloadSid p) = some k →
    exec (.prepareRx p) s = .next (s.sendVote (payloadSid p) 0).done) ∧
  (∀ (s : State) (p : List Nat), s.galeshIn = true → s.fromParent p = true → s.partSlot (payloadSid p) = none → s.on F.TIME_SYNC_STATE_SYNC_OK = false →
    exec (.prepareRx p) s = .next ((s.err E.SENT_NO_SYNC 0 [0xFF, 0x7F]).sendVote (payloadSid p) E.SENT_NO_SYNC.code16).done) ∧
  (∀ (s : State) (p : List Nat) (k : Nat), s.galeshIn = true → s.fromParent p = true → s.partSlot (payloadSid p) = some k →
    (s.slot k).bound = false → (s.slot k).st = 3 → p.getD 8 0 = 1 →
    exec (.decideRx p) s = .next ((s.setSlot k { s.slot k with st := 4 }).refreshSent).done) ∧
  (∀ (s : State) (p : List Nat) (k : Nat), s.galeshIn = true → s.fromParent p = true → s.partSlot (payloadSid p) = some k →
    (s.slot k).bound = false → (s.slot k).st = 3 → p.getD 8 0 = 2 →
    exec (.decideRx p) s = .next (s.endSlot k 7 0 0x7F).done) ∧
  (∀ (s : State) (p : List Nat), s.fromParent p = false →
    exec (.decideRx p) s = .next s.done ∧ exec (.prepareRx p) s = .next s.done) ∧
  (∀ (s : State) (p : List Nat), s.galeshIn = false →
    exec (.decideRx p) s = .next s.done ∧ exec (.prepareRx p) s = .next s.done ∧ exec (.voteRx p) s = .next s.done ∧
    exec (.queryRx p) s = .next s.done ∧ exec (.outcomeRx p) s = .next s.done) ∧
  (∀ (s : State) (p : List Nat) (k : Nat), s.galeshIn = true → s.fromParent p = true → s.partSlot (payloadSid p) = some k →
    (s.slot k).bound = true → p.getD 8 0 = 1 → s.sent.lateSeen.contains (payloadSid p) = false →
    exec (.decideRx p) s = .next
      ((((s.modSent fun e => { e with lateSeen := payloadSid p :: e.lateSeen }).ev E.SENT_LATE_DECISION 0 [payloadSid p, 1]).setSlot k
        { s.slot k with late := true }).refreshSent).done) ∧
  (∀ (s : State) (k : Fin 16), (s.slot k).undecided = true → (s.slot k).queried = false →
    exec (.querySend k) s = .next ((s.setSlot k { s.slot k with queried := true }).galeshSend 0x35 (s.get F.TREE_PARENT_ADDRESS)
      ([0x35, 1] ++ beBytes 2 s.ownAddr ++ beBytes 4 (s.slot k).sid ++ [0, 0, 0, 0])).done) ∧
  (∀ (s : State) (k : Fin 16), (s.slot k).undecided = true →
    exec (.guardInstant k) s = .next (s.setSlot k { s.slot k with bound := true }).done) ∧
  (∀ (s : State) (p : List Nat) (k : Nat),
    let x : SentSlot := { st := 2, owner := 3, clauses := payloadClauses p, mode := 2, dist := true, autoRel := true,
                          stop := ofBe (slice p 8 6) * 1000000000 + ofBe (slice p 14 4), delay := max 2 (ofBe (slice p 18 4)),
                          prepNs := s.fabNs, sid := payloadSid p }
    let y := { x with yields := (s.slotParts x).1 ++ s.makeRoom k (s.slotParts x).1, takes := (s.slotParts x).2 }
    s.galeshIn = true → s.fromParent p = true → s.partSlot (payloadSid p) = none → s.on F.TIME_SYNC_STATE_SYNC_OK = true → s.on F.SENT_CTRL_DIST_EN = true →
    s.freeSlot 4 12 = some k → s.fabNs + (s.get F.SENT_TIMING_GUARD_US + 100) * 1000 ≤ x.stop →
    clauseIdx (fun c => (s.clauseBad c true).isSome) 0 x.clauses = none → (s.setSlot k y).validate k = none →
    exec (.prepareRx p) s = .next (((s.setSlot k { y with st := 3 }).sendVote (payloadSid p) 0).refreshSent).done)

/-- The coordinator's part: votes are counted, the last YES commits and the first NO or a missing vote aborts, the decision goes out
three times, queries are answered, outcomes are counted (R94, R96). -/
def Obligations.SentenceCoordinator : Prop :=
  (∀ (s : State) (p : List Nat) (k : Nat),
    let x := s.slot k
    s.galeshIn = true → s.coordSlot (payloadSid p) = some k → x.st = 3 → x.kids.contains (payloadSender p) = true → x.yes.contains (payloadSender p) = false →
    p.getD 8 0 = 0 → x.yes.length + 1 = x.kids.length →
    exec (.voteRx p) s = .next ((s.setSlot k { x with yes := x.yes ++ [payloadSender p] }).decideCommit k).done) ∧
  (∀ (s : State) (p : List Nat) (k : Nat),
    let x := s.slot k
    s.galeshIn = true → s.coordSlot (payloadSid p) = some k → x.st = 3 → x.kids.contains (payloadSender p) = true → x.yes.contains (payloadSender p) = false →
    p.getD 8 0 = 0 → x.yes.length + 1 ≠ x.kids.length →
    exec (.voteRx p) s = .next ((s.setSlot k { x with yes := x.yes ++ [payloadSender p] }).refreshSent).done) ∧
  (∀ (s : State) (p : List Nat) (k : Nat),
    let x := s.slot k
    s.galeshIn = true → s.coordSlot (payloadSid p) = some k → x.st = 3 → x.kids.contains (payloadSender p) = true → x.yes.contains (payloadSender p) = false →
    p.getD 8 0 = 1 →
    exec (.voteRx p) s = .next (((s.setSlot k { x with noCnt := x.noCnt + 1, noFacet := payloadSender p, noReason := ofBe (slice p 10 2) }).when
      (ofBe (slice p 10 2) == E.SENT_CAPACITY.code16) fun s => s.ev E.ALLOC_SHED_SHORT 0 [payloadSender p, x.sid]).decideAbort k
      (ofBe (slice p 10 2))).done) ∧
  (∀ (s : State) (k : Fin 16),
    let x := s.slot k
    x.owner ≠ 3 → x.dist = true → x.st = 3 →
    exec (.voteDeadline k) s = .next
      ((s.err E.SENT_VOTES_MISSING 0 [x.sid, x.kids.length - x.yes.length - x.noCnt]).decideAbort k E.SENT_VOTES_MISSING.code16).done) ∧
  (∀ (s : State) (sid : Word),
    let c := s.coord sid.toNat
    c.decision ≠ 0 → c.copies < 3 →
    exec (.decideRepeat sid) s = .next ((s.setCoord sid.toNat { c with copies := c.copies + 1 }).galeshCast 0x33
      (s.decidePayload sid.toNat c.decision c.copies)).done) ∧
  (∀ (s : State) (p : List Nat), s.galeshIn = true → (s.coord (payloadSid p)).decision ≠ 0 →
    exec (.queryRx p) s = .next
      (s.galeshSend 0x33 (payloadSender p) (s.decidePayload (payloadSid p) (s.coord (payloadSid p)).decision 0)).done) ∧
  (∀ (s : State) (p : List Nat) (k : Nat),
    let c := s.coord (payloadSid p)
    let t := s.setCoord (payloadSid p) { c with waiting := c.waiting.filter fun a => a != payloadSender p }
    s.galeshIn = true → p.getD 8 0 = 1 → c.waiting.contains (payloadSender p) = true → t.coordSlot (payloadSid p) = some k →
    exec (.outcomeRx p) s = .next ((t.modSlot k fun x => { x with outDone := x.outDone + 1 }).refreshSent).done) ∧
  (∀ (s : State) (p : List Nat) (k : Nat),
    let u := s.when (s.childOf (payloadSender p)).isSome fun s =>
      s.ev E.SENT_HALF_REPORTED 0 [payloadSid p, payloadSender p, ofBe (slice p 10 2)]
    let c := s.coord (payloadSid p)
    let t := u.setCoord (payloadSid p) { c with waiting := c.waiting.filter fun a => a != payloadSender p }
    s.galeshIn = true → p.getD 8 0 = 2 → c.waiting.contains (payloadSender p) = true → t.coordSlot (payloadSid p) = some k →
    exec (.outcomeRx p) s = .next ((t.modSlot k fun x => { x with outHalf := x.outHalf + 1 }).refreshSent).done) ∧
  (∀ (s : State) (p : List Nat) (k : Nat),
    let c := s.coord (payloadSid p)
    let t := s.setCoord (payloadSid p) { c with waiting := c.waiting.filter fun a => a != payloadSender p }
    s.galeshIn = true → p.getD 8 0 ≠ 1 → p.getD 8 0 ≠ 2 → c.waiting.contains (payloadSender p) = true → t.coordSlot (payloadSid p) = some k →
    exec (.outcomeRx p) s = .next ((t.modSlot k fun x => { x with outAborted := x.outAborted + 1 }).refreshSent).done) ∧
  (∀ (s : State) (sid : Word) (child k : Nat),
    let c := s.coord sid.toNat
    c.waiting.contains child = true → c.decision ≠ 0 → (s.ev E.SENT_OUTCOME_MISSING 0 [sid.toNat, child]).coordSlot sid.toNat = some k →
    exec (.outcomeMissing sid child) s = .next
      (((s.ev E.SENT_OUTCOME_MISSING 0 [sid.toNat, child]).modSlot k fun x => { x with outMissing := x.outMissing + 1 }).refreshSent).done)

/-- A Galesh frame on a fabric port goes through the steps of R104: a broken one is counted, one for another controller is forwarded
with HOPS one lower or dropped at the hop limit, one for this controller is consumed; other frames pass to the other port or are
dropped, and the route table takes its entry with the second word (R102, R104 to R107). -/
def Obligations.FabricFrames : Prop :=
  (∀ (s : State) (port : Fin 2) (frame : List Nat), s.get F.FAB_ETYPE_ETYPE ≠ 0 → s.fabEnabled port = true → s.fabLink port = true →
    frame.length < 12 →
    exec (.galeshFrameRx port frame) s = .next ((s.inc F.FAB_DROP_FORMAT_COUNT).ev E.FAB_BAD_FRAME 0 [port, frame.getD 1 0]).done) ∧
  (∀ (s : State) (port : Fin 2) (frame : List Nat),
    let conflict := s.internalPort && s.hostsAddr (ofBe (slice frame 6 2))
    s.get F.FAB_ETYPE_ETYPE ≠ 0 → s.fabEnabled port = true → s.fabLink port = true → 12 + ofBe (slice frame 8 2) ≤ frame.length →
    frame.getD 0 0 = 1 → (frame.getD 2 0).testBit 0 = false → conflict = false → s.hostsAddr (ofBe (slice frame 4 2)) = false →
    1 < frame.getD 3 0 → exec (.galeshFrameRx port frame) s = .next (s.forwardFrame port (lowerHops frame)).done) ∧
  (∀ (s : State) (port : Fin 2) (frame : List Nat),
    let conflict := s.internalPort && s.hostsAddr (ofBe (slice frame 6 2))
    s.get F.FAB_ETYPE_ETYPE ≠ 0 → s.fabEnabled port = true → s.fabLink port = true → 12 + ofBe (slice frame 8 2) ≤ frame.length →
    frame.getD 0 0 = 1 → (frame.getD 2 0).testBit 0 = false → conflict = false → s.hostsAddr (ofBe (slice frame 4 2)) = false →
    frame.getD 3 0 ≤ 1 → exec (.galeshFrameRx port frame) s =
      .next ((s.inc F.FAB_DROP_HOP_COUNT).ev E.FAB_HOP_LIMIT 0 [ofBe (slice frame 4 2), ofBe (slice frame 6 2)]).done) ∧
  (∀ (s : State) (port : Fin 2) (frame : List Nat),
    s.get F.FAB_ETYPE_ETYPE ≠ 0 → s.fabEnabled port = true → s.fabLink port = true → 12 + ofBe (slice frame 8 2) ≤ frame.length →
    frame.getD 0 0 = 1 → (frame.getD 2 0).testBit 0 = false → s.internalPort = true → s.hostsAddr (ofBe (slice frame 6 2)) = false →
    s.hostsAddr (ofBe (slice frame 4 2)) = true → exec (.galeshFrameRx port frame) s = .next (s.galeshConsume port frame).done) ∧
  (∀ (s : State) (port : Fin 2) (bytes : List Nat), s.on F.FAB_ROUTE_CFG_PASS_OTHER = true → s.fabEnabled (1 - port) = true →
    s.fabLink (1 - port) = true → exec (.nonGaleshFrameRx port bytes) s = .next (s.emit (.fabric (1 - port) bytes)).done) ∧
  (∀ (s : State) (port : Fin 2) (bytes : List Nat), s.on F.FAB_ROUTE_CFG_PASS_OTHER = false →
    exec (.nonGaleshFrameRx port bytes) s = .next s.done) ∧
  (∀ (s : State) (i : Nat) (v : Word), s.tableReach 11 (8 * i) = true →
    exec (.routeEntryWrite i false v) s = .next ({ s with sent := { s.sent with routeBuf := mins i v.toNat s.sent.routeBuf } } : State).done) ∧
  (∀ (s : State) (i : Nat) (v : Word), s.tableReach 11 (8 * i + 4) = true →
    exec (.routeEntryWrite i true v) s = .next
      ({ (s.wrBytes (tbl 11 (8 * i)) (entryBytes 11 0 0 (leBytes 8 (mget (s.rdLe (tbl 11 (8 * i)) 4) s.sent.routeBuf i + v.toNat * 2 ^ 32)))) with
          sent := { s.sent with routeBuf := mdel i s.sent.routeBuf } } : State).done) ∧
  (∀ (s : State) (speed : Nat) (an : Bool), s.hostOpen = true → s.fabEnabled 0 = true → s.fabLink 0 = false →
    let t := ((s.setB F.FAB_PORT_STAT_P0_LINK true).set F.FAB_PORT_STAT_P0_SPEED speed).setB F.FAB_PORT_STAT_P0_AN_DONE an
    let u := t.ev E.FAB_LINK_UP 0 [0, speed]
    u.get F.TREE_PARENT_PORT = 1 → exec (.fabLinkUp 0 speed an) s = .next u.done) ∧
  (∀ (s : State) (speed : Nat) (an : Bool), s.hostOpen = true → s.fabEnabled 1 = true → s.fabLink 1 = false →
    let t := ((s.setB F.FAB_PORT_STAT_P1_LINK true).set F.FAB_PORT_STAT_P1_SPEED speed).setB F.FAB_PORT_STAT_P1_AN_DONE an
    let u := t.ev E.FAB_LINK_UP 0 [1, speed]
    u.get F.TREE_PARENT_PORT = 0 → exec (.fabLinkUp 1 speed an) s = .next u.done) ∧
  (∀ (s : State) (speed : Nat) (an : Bool), s.hostOpen = true → s.fabEnabled 0 = true → s.fabLink 0 = false →
    let t := ((s.setB F.FAB_PORT_STAT_P0_LINK true).set F.FAB_PORT_STAT_P0_SPEED speed).setB F.FAB_PORT_STAT_P0_AN_DONE an
    let u := t.ev E.FAB_LINK_UP 0 [0, speed]
    u.get F.TREE_PARENT_PORT = 0 ∨ u.get F.TREE_PARENT_PORT = 3 → exec (.fabLinkUp 0 speed an) s = .next
      (u.each (u.sent.halves.filter fun x => !u.sent.outDue.any fun o => o.2.1 == x.1) fun x s => s.sendEnd x.1 2 x.2.code).done) ∧
  (∀ (s : State) (port : Fin 2) (speed : Nat) (an : Bool), s.hostOpen = false → exec (.fabLinkUp port speed an) s = .next s.done) ∧
  (∀ (s : State), s.fabLink 1 = true →
    exec (.fabLinkDown 1) s = .next
      ((s.resetFields [F.FAB_PORT_STAT_P1_LINK, F.FAB_PORT_STAT_P1_SPEED, F.FAB_PORT_STAT_P1_AN_DONE]).ev E.FAB_LINK_DOWN 0 [1]).done) ∧
  (∀ (s : State), s.fabLink 0 = true →
    exec (.fabLinkDown 0) s = .next
      ((s.resetFields [F.FAB_PORT_STAT_P0_LINK, F.FAB_PORT_STAT_P0_SPEED, F.FAB_PORT_STAT_P0_AN_DONE]).ev E.FAB_LINK_DOWN 0 [0]).done)

/-- Leases on the child's side: a LEASE from the parent starts or renews it, one from another sender is only recorded, its expiry
starts the ramp, each step of the ramp lowers the ceilings along the line (R111, R113 to R115, R117). Children on the parent's
side: a DEMAND makes a child ACTIVE and keeps what it reports, a passed expiry makes it EXPIRED, reclaiming lowers its entry to
the reserved floor (R116, R129). -/
def Obligations.Leases : Prop :=
  (∀ (s : State) (port : Fin 2) (src : Nat) (p : List Nat),
    let remain := ofBe (slice p 8 4)
    let lease := ofBe (slice p 26 2)
    let tight := decide (remain < lease * 500)
    let t := s.modTree fun t => { t with
      expiry := some (s.ticks + remain * 999 * ticksUs / 1000), rampMs := ofBe (slice p 24 2), leaseMs := lease, ramp := [], rampStep := 0 }
    s.internalPort = true → s.fabLink port = true → s.on F.TREE_SELF_ROOT = false → src = s.get F.TREE_PARENT_ADDRESS →
    payloadSender p = s.get F.TREE_PARENT_ADDRESS →
    exec (.leaseRx port ⟨src, p⟩) s = .next
      (((((((t.set F.TREE_TARGET_W (ofBe (slice p 20 4))).set F.TREE_DEPTH_DEPTH (p.getD 28 0)).set F.TREE_PARENT_PORT port).set
        F.TREE_LEASE_STAT_STATE 1).setB F.TREE_LEASE_STAT_TIGHT tight).when tight fun s =>
          s.ev E.TREE_LEASE_TIGHT 0 [remain, p.getD 28 0]).refreshLease).done) ∧
  (∀ (s : State) (port : Fin 2) (src : Nat) (p : List Nat), s.internalPort = true → s.fabLink port = true →
    (s.on F.TREE_SELF_ROOT = true ∨ src ≠ s.get F.TREE_PARENT_ADDRESS ∨ payloadSender p ≠ s.get F.TREE_PARENT_ADDRESS) →
    exec (.leaseRx port ⟨src, p⟩) s = .next (s.ev E.TREE_NOT_PARENT_FRAME 0 [src]).done) ∧
  (∀ (s : State) (port : Fin 2) (src : Nat) (p : List Nat), s.fabLink port = false → exec (.leaseRx port ⟨src, p⟩) s = .next s.done) ∧
  (∀ s : State, s.get F.TREE_LEASE_STAT_STATE = 1 → s.mode ≠ .mirror →
    let a := (s.set F.TREE_LEASE_STAT_STATE 2).inc F.TREE_EXPIRED_COUNT_COUNT
    let b := a.ev E.TREE_LEASE_EXPIRED 0 [a.get F.TREE_OWN_CEIL_W, ofSigned 32 (a.getI F.TREE_OWN_FLOOR_W)]
    exec .leaseExpiry s = .next
      (((b.modTree fun t => { t with expiry := none, rampStep := 0, ramp := b.rampTargets.map fun t => (t, b.aptCeil t, b.aptRes t) }).refreshLease).expirySentences).done) ∧
  (∀ s : State,
    let t := s.modTree fun t => { t with rampStep := s.tree.rampStep + 1 }
    s.get F.TREE_LEASE_STAT_STATE = 2 → s.mode ≠ .mirror → t.stagesRun = false → exec .leaseRampStep s = .next t.done) ∧
  (∀ s : State,
    let t := s.modTree fun t => { t with rampStep := s.tree.rampStep + 1 }
    let want := t.tree.ramp.map fun x => (x.1, rampLine x.2.1 x.2.2 (s.tree.rampStep + 1) s.tree.rampMs)
    let cs := (want.filter fun x => decide (x.2 < t.aptCeil x.1) && !t.aptHeld 16 x.1).map fun x => aptClause x.1 (t.aptFloor x.1) x.2
    s.get F.TREE_LEASE_STAT_STATE = 2 → s.mode ≠ .mirror → t.stagesRun = true → cs.isEmpty = false → s.tree.rampStep + 1 < s.tree.rampMs →
    exec .leaseRampStep s = .next (t.commitNow cs).1.done) ∧
  (∀ (s : State) (src : Nat) (p : List Nat) (e : Nat),
    let c := s.child e
    let t := s.setChild e { c with
      heard := true, demand := (List.range 8).map fun k => ofBe (slice p (8 + 4 * k) 4), cap := ofBe (slice p 40 4),
      shed := ofBe (slice p 44 4), ownCeil := ofBe (slice p 48 4), ownFloor := toSigned 32 (ofBe (slice p 52 4)),
      measured := toSigned 32 (ofBe (slice p 56 4)), owed := c.owed || s.fState e != 1, entryCeil := s.fCeil e,
      backTick := if s.fState e = 1 then c.backTick else some s.ticks }
    s.galeshIn = true → s.childOf src = some e →
    exec (.demandRx ⟨src, p⟩) s = .next ((t.setFState e 1 0).ev E.TREE_CHILD_ACTIVE 0 [src]).done) ∧
  (∀ (s : State) (src : Nat) (p : List Nat), s.childOf src = none → exec (.demandRx ⟨src, p⟩) s = .next s.done) ∧
  (∀ (s : State) (e : Fin 256), s.fKind e = 1 → (s.fState e = 1 ∨ s.fState e = 2) → s.mode ≠ .mirror →
    exec (.childExpiry e) s = .next (s.setFState e 3 (s.fEpochs e)).done) ∧
  (∀ (s : State) (e : Fin 256),
    let t := (s.setFState e 4 (s.fEpochs e)).ev E.TREE_CHILD_RECLAIMED 0 [s.fAddr e, s.fCeil e - s.aptRes e]
    s.fKind e = 1 → (s.fState e = 1 ∨ s.fState e = 2 ∨ s.fState e = 3) → s.childBack e = false → s.mode ≠ .mirror → s.aptRes e < s.fCeil e →
    exec (.childReclaim e) s = .next (t.commitNow [aptClause e (t.fFloor e) (s.aptRes e)]).1.done) ∧
  (∀ (s : State) (e : Fin 256),
    let t := s.ev E.TREE_CHILD_RECLAIMED 0 [s.fAddr e, s.fCeil e - s.aptRes e]
    s.fKind e = 1 → s.fState e = 1 → s.childBack e = true → s.mode ≠ .mirror → s.aptRes e < s.fCeil e →
    exec (.childReclaim e) s = .next (t.commitNow [aptClause e (t.fFloor e) (s.aptRes e)]).1.done)

/-- The epoch: the boundary counts, freezes the inputs, sends DEMAND and LEASE and allocates; EPOCH_CFG takes a lawful value and
refuses another; an outlet whose capacity falls yields its ceiling at once (R112, R118, R119, R127, R130). -/
def Obligations.Epochs : Prop :=
  (∀ (s : State) (v : Word),
    let e := bits v.toNat 31 16
    let o := bits v.toNat 15 0
    s.reaches 0x08 0x040 = true → 10 ≤ e → e ≤ 1000 → 1000 % e = 0 → o < e → s.get F.SENT_DIST_LEAD_LEAD_US + 1000 ≤ o * 1000 →
    exec (.epochCfgWrite v) s = .next ((s.set F.ALLOC_EPOCH_CFG_EPOCH_MS e).set F.ALLOC_EPOCH_CFG_STOP_OFFSET_MS o).done) ∧
  (∀ (s : State) (v : Word),
    let e := bits v.toNat 31 16
    let o := bits v.toNat 15 0
    s.reaches 0x08 0x040 = true → (e < 10 ∨ 1000 < e ∨ 1000 % e ≠ 0 ∨ e ≤ o ∨ o * 1000 < s.get F.SENT_DIST_LEAD_LEAD_US + 1000) →
    exec (.epochCfgWrite v) s = .next (s.err E.ALLOC_BAD_EPOCH 0 [v.toNat]).done) ∧
  (∀ s : State,
    let t := (s.inc F.ALLOC_EPOCH_COUNT_COUNT).freezeInputs
    let u := t.keepUp.sendLeases
    s.treeRuns = true → t.on F.TREE_SELF_ROOT = true → u.on F.ALLOC_CFG_ENABLE = false →
    exec .epochBoundary s = .next ((u.modTree fun t => { t with epochTick := u.ticks, pSum := [], pCnt := 0 }).refreshSent).done) ∧
  (∀ s : State,
    let t := (s.inc F.ALLOC_EPOCH_COUNT_COUNT).freezeInputs
    let u := t.sendDemand.keepUp.sendLeases
    let w := u.reconcile.allocate
    s.treeRuns = true → t.on F.TREE_SELF_ROOT = false → u.on F.ALLOC_CFG_ENABLE = true →
    exec .epochBoundary s = .next ((w.modTree fun t => { t with epochTick := w.ticks, pSum := [], pCnt := 0 }).refreshSent).done) ∧
  (∀ (s : State) (n : Fin 4),
    let t := 0x1000 + n.val
    let c := max (s.outletCap n) (s.aptRes t)
    let u := s.modTree fun x => { x with capDue := x.capDue.filter fun k => k != n.val }
    s.treeRuns = true → s.hasOutlet n = true → u.on F.ALLOC_CFG_ENABLE = true → c < u.aptCeil t → s.aptHeld 16 t = false →
    exec (.capacityYield n) s = .next ((u.commitNow [aptClause t (u.aptFloor t) c]).1.when (u.commitNow [aptClause t (u.aptFloor t) c]).2
      fun s => s.ev E.ALLOC_CAPACITY_YIELD 0 [n, c]).done) ∧
  (∀ (s : State) (n : Fin 4), s.tree.capDue.contains n.val = true → s.aptHeld 16 (0x1000 + n) = true →
    exec (.capacityYield n) s = .next s.done)

/-- The timing registers of the phases: PERIOD only while no group is in use, each write only when the timing of all phases still
fits, else recorded and nothing changes. The pulse of a phase: it starts with the reference the controller computes, or is
skipped below the skip threshold; the comparator or the maximum on-time ends it; a phase with three such ends in a row while its
peers trip is lost. The overvoltage truncation of an outlet and its release, and the block of the current-sense comparison. The
block of the current-sense comparison is refused its verdict while the outlet's feedback is flagged, clears the run on agreement
and adds to it on disagreement (R134, R135, R136, R137, R139, R140, R141, R149, R150, R153, R154, R155). -/
def Obligations.PhasePulses : Prop :=
  (∀ (s : State) (v : Word), s.reaches 0x1A 0x040 = true → s.anyGroupBusy = false →
    timingOk (bits v.toNat 19 0) (s.get F.PHASE_DEADTIME_DT_HL) (s.get F.PHASE_DEADTIME_DT_LH) (s.get F.PHASE_BLANK_MAXON_BLANK)
      (s.get F.PHASE_BLANK_MAXON_MAX_ON) = true →
    exec (.phasePeriodWrite v) s = .next ((s.set F.PHASE_PERIOD_FT (bits v.toNat 19 0)).refreshOffsets).done) ∧
  (∀ (s : State) (v : Word), s.reaches 0x1A 0x040 = true → s.anyGroupBusy = true →
    exec (.phasePeriodWrite v) s = .next (s.err E.PHASE_PERIOD_BUSY 0 [v.toNat]).done) ∧
  (∀ (s : State) (v : Word), s.reaches 0x1A 0x040 = true → s.anyGroupBusy = false →
    timingOk (bits v.toNat 19 0) (s.get F.PHASE_DEADTIME_DT_HL) (s.get F.PHASE_DEADTIME_DT_LH) (s.get F.PHASE_BLANK_MAXON_BLANK)
      (s.get F.PHASE_BLANK_MAXON_MAX_ON) = false →
    exec (.phasePeriodWrite v) s = .next (s.err E.PHASE_BAD_TIMING 0 [0x040]).done) ∧
  (∀ (s : State) (v : Word), s.reaches 0x1A 0x048 = true →
    timingOk (s.get F.PHASE_PERIOD_FT) (s.get F.PHASE_DEADTIME_DT_HL) (s.get F.PHASE_DEADTIME_DT_LH) (bits v.toNat 23 16) (bits v.toNat 15 0) = false →
    exec (.phaseTimingWrite true v) s = .next (s.err E.PHASE_BAD_TIMING 0 [0x048]).done) ∧
  (∀ (s : State) (v : Word), s.reaches 0x1A 0x048 = true →
    timingOk (s.get F.PHASE_PERIOD_FT) (s.get F.PHASE_DEADTIME_DT_HL) (s.get F.PHASE_DEADTIME_DT_LH) (bits v.toNat 23 16) (bits v.toNat 15 0) = true →
    exec (.phaseTimingWrite true v) s = .next
      ((s.set F.PHASE_BLANK_MAXON_BLANK (bits v.toNat 23 16)).set F.PHASE_BLANK_MAXON_MAX_ON (bits v.toNat 15 0)).done) ∧
  (∀ (s : State) (v : Word), s.reaches 0x1A 0x044 = true →
    timingOk (s.get F.PHASE_PERIOD_FT) (bits v.toNat 11 0) (bits v.toNat 27 16) (s.get F.PHASE_BLANK_MAXON_BLANK) (s.get F.PHASE_BLANK_MAXON_MAX_ON) = true →
    exec (.phaseTimingWrite false v) s = .next
      ((s.set F.PHASE_DEADTIME_DT_HL (bits v.toNat 11 0)).set F.PHASE_DEADTIME_DT_LH (bits v.toNat 27 16)).done) ∧
  (∀ (s : State) (v : Word), s.reaches 0x1A 0x044 = true →
    timingOk (s.get F.PHASE_PERIOD_FT) (bits v.toNat 11 0) (bits v.toNat 27 16) (s.get F.PHASE_BLANK_MAXON_BLANK) (s.get F.PHASE_BLANK_MAXON_MAX_ON) = false →
    exec (.phaseTimingWrite false v) s = .next (s.err E.PHASE_BAD_TIMING 0 [0x044]).done) ∧
  (∀ (s : State) (g : Nat), s.groupPeriod g = s.modGrp g fun v => { v with
    weight := if s.stage g == .unloading then 0 else if v.weightDue then (s.enabledPhases g).length else v.weight
    weightDue := false
    shareOut := v.shareOut || v.belowMin }) ∧
  (∀ (s : State) (p : Fin 72), s.hasGroup (p.val / 6) = true → (s.startPeriod p).matchReached (p.val / 6) = true →
    exec (.periodStart p) s = .next ((s.startPeriod p).startClosing (p.val / 6) ((s.startPeriod p).route (p.val / 6))).done) ∧
  (∀ (s : State) (p : Fin 72),
    let g := p.val / 6
    let t := s.startPeriod p
    s.hasGroup g = true → t.matchReached g = false → (t.phEnabled p = false ∨ t.grpSwitches g = false) →
    exec (.periodStart p) s = .next (t.stopPhase p).done) ∧
  (∀ (s : State) (p : Fin 72),
    let g := p.val / 6
    let t := s.startPeriod p
    let ua := t.groupShareUa g
    let o := (t.grp g).phys
    let u := (t.setI (F.GROUP_SHARE_MA_MA.inst g) (Int.tdiv ua 1000)).setB (F.GROUP_STATUS_DIRECTION.inst g) (decide (ua < 0))
    s.hasGroup g = true → t.matchReached g = false → t.phEnabled p = true → t.grpSwitches g = true → u.on (F.PHASE_OV_STAT_ACTIVE.nth o) = false →
    ua.natAbs < u.get F.PHASE_CFG_SKIP_A * 1000000 * (t.enabledPhases g).length →
    exec (.periodStart p) s = .next ((u.modPhs p fun v =>
      { v with pulse := false, started := true, exp := decide (ua < 0), nPrev := 0, impliedCnt := v.impliedCnt + 1, spoiled := true }).emit
        (.pwm p false false)).done) ∧
  (∀ (s : State) (p : Fin 72),
    let g := p.val / 6
    let t := s.startPeriod p
    let ua := t.groupShareUa g
    let o := (t.grp g).phys
    let u := (t.setI (F.GROUP_SHARE_MA_MA.inst g) (Int.tdiv ua 1000)).setB (F.GROUP_STATUS_DIRECTION.inst g) (decide (ua < 0))
    s.hasGroup g = true → t.matchReached g = false → t.phEnabled p = true → t.grpSwitches g = true → u.on (F.PHASE_OV_STAT_ACTIVE.nth o) = true →
    (u.stage g != .matching) = true →
    exec (.periodStart p) s = .next ((u.skipPeriod p (decide (ua < 0))).modOut o fun x => { x with truncSkipped := x.truncSkipped + 1 }).done) ∧
  (∀ (s : State) (p : Fin 72),
    let g := p.val / 6
    let t := s.startPeriod p
    let ua := t.groupShareUa g
    let o := (t.grp g).phys
    let u := (t.setI (F.GROUP_SHARE_MA_MA.inst g) (Int.tdiv ua 1000)).setB (F.GROUP_STATUS_DIRECTION.inst g) (decide (ua < 0))
    let code := u.startCode p ua (t.enabledPhases g).length (if (t.phs p).started then (t.phs p).nPrev else 0)
    let w := u.modPhs p fun v => { v with
      pulse := true, started := true, exp := decide (ua < 0), code := code, startTick := u.ticks, gain := u.phGain p, zero := u.phZero p, ofs := u.phOfs p }
    s.hasGroup g = true → t.matchReached g = false → t.phEnabled p = true → t.grpSwitches g = true → u.on (F.PHASE_OV_STAT_ACTIVE.nth o) = false →
    u.get F.PHASE_CFG_SKIP_A * 1000000 * (t.enabledPhases g).length ≤ ua.natAbs →
    exec (.periodStart p) s = .next
      (((w.set ((F.GROUP_PH_REF_DAC.inst g).nth (p.val % 6)) code).emit (.pwm p false false)).emit (.pwm p (!decide (ua < 0)) (decide (ua < 0)))).done) ∧
  (∀ (s : State) (p : Fin 72) (on : Nat), s.hasGroup (p.val / 6) = true → (s.phs p).pulse = true →
    s.get F.PHASE_BLANK_MAXON_BLANK ≤ on → on < s.maxOnTicks →
    exec (.comparatorTrip p on) s = .next ((s.endPulse p on).noteTrip p).done) ∧
  (∀ (s : State) (p : Fin 72), s.hasGroup (p.val / 6) = true → (s.phs p).pulse = true →
    exec (.maxOnExpiry p) s = .next ((s.endPulse p s.maxOnTicks).modPhs p fun v =>
      { v with maxOnRun := v.maxOnRun + 1, endedMax := true, openRun := if v.peerTrip then v.openRun + 1 else v.openRun }).done) ∧
  (∀ (s : State) (p : Fin 72), s.hasGroup (p.val / 6) = true → s.phEnabled p = true → 3 ≤ (s.phs p).openRun →
    exec (.phaseOpenDetected p) s = .next (s.losePhase p 1).done) ∧
  (∀ (s : State) (n : Fin 4), s.hasOutlet n = true → s.on (F.PHASE_OV_STAT_ACTIVE.nth n) = false →
    let t := ((s.setB (F.PHASE_OV_STAT_ACTIVE.nth n) true).incSat (F.PHASE_OV_STAT_COUNT.nth n)).modOut n fun o => { o with truncSkipped := 0 }
    exec (.ovTruncate n) s = .next
      ((t.each ((t.joined n).map groupPhases).flatten fun p s => s.truncatePhase p).ev E.PHASE_OV_TRUNCATE 0 [n]).done) ∧
  (∀ (s : State) (n : Fin 4), s.hasOutlet n = true → s.on (F.PHASE_OV_STAT_ACTIVE.nth n) = true →
    let t := s.each ((s.joined n).map groupPhases).flatten fun p s => s.modPhs p fun v => { v with nPrev := 0 }
    exec (.ovRelease n) s = .next
      ((((t.setB (F.PHASE_OV_STAT_ACTIVE.nth n) false).modOut n fun o => { o with truncSkipped := 0 }).clearActive n 2).ev E.PHASE_OV_RELEASE 0
        [n, (s.outSt n).truncSkipped]).done) ∧
  (∀ (s : State) (n : Fin 4) (ic : Int), s.hasOutlet n = true → s.slotsClosed n = true → s.mode.gateDrive = true →
    exec (.senseBlock n ic) s = .next (s.senseBlock n ic).done) ∧
  (∀ (s : State) (n : Nat) (ic : Int),
    let l := s.carrying n
    let implied : Int := (l.map fun p => let v := s.phs p; if v.impliedCnt = 0 then 0 else Int.tdiv v.impliedSum v.impliedCnt).foldl (· + ·) 0
    let t := s.setI (F.PHASE_IMPLIED_MA0_MA.nth n) implied
    s.fbFlagged n = true → s.senseBlock n ic = t.each l fun p s => s.freshBlock p) ∧
  (∀ (s : State) (n : Nat) (ic : Int),
    let l := s.carrying n
    let implied : Int := (l.map fun p => let v := s.phs p; if v.impliedCnt = 0 then 0 else Int.tdiv v.impliedSum v.impliedCnt).foldl (· + ·) 0
    let t := s.setI (F.PHASE_IMPLIED_MA0_MA.nth n) implied
    s.fbFlagged n = false → (l.any fun p => (s.phs p).spoiled) = false →
    (implied - ic).natAbs * 100 ≤ s.get F.PHASE_SENSE_WIN_WIN_A * 100000 + s.get F.PHASE_SENSE_WIN_WIN_PCT * ic.natAbs →
    s.senseBlock n ic = (((t.each l fun p s => s.clearRun p).modOut n fun o => { o with senseRun := 0, senseEpisode := false }).setBit
      F.PHASE_SENSE_STAT_MISMATCH n false).each l fun p s => s.freshBlock p)

/-- A group joins an outlet: matched within the time or faulted, its contactor closes or times out. A group leaves its outlet: its
current falls, zero is confirmed, the contactor opens and the group is released; each wait that runs out has its record and its
reaction. A group's fault input, and FAULT_CLR: a group in FAULT without a route, its input high and its contactors open returns
to UNROUTED with the phases that the fault had disabled (R144, R146, R147, R148, R151, R152, R159, R161). -/
def Obligations.GroupRouting : Prop :=
  (∀ (s : State) (g : Fin 12), s.hasGroup g = true → s.stage g = .matching → s.stagesRun = true → s.matchReached g = true →
    exec (.matchTimeout g) s = .next (s.startClosing g (s.route g)).done) ∧
  (∀ (s : State) (g : Fin 12), s.hasGroup g = true → s.stage g = .matching → s.stagesRun = true → s.matchReached g = false →
    exec (.matchTimeout g) s = .next ((s.setStage g .fault).ev E.GROUP_MATCH_TIMEOUT g
      [s.route g, s.get (F.GROUP_VOUT_MV.inst g), s.get (F.OUTLET_VC_MV_MV.inst (s.route g))]).done) ∧
  (∀ (s : State) (g : Fin 12) (ms : Nat),
    let o := (s.grp g).phys
    let t := (s.setFb (matrixCoil g o) true).set (F.GROUP_TRAVEL_CLOSE_MS.inst g) (satTo 16 ms)
    let u : State := { t with safe := { t.safe with travelled := setBitOf t.safe.travelled (matrixCoil g o) true } }
    s.hasGroup g = true → s.stage g = .closing → s.stagesRun = true → s.coilOn (matrixCoil g o) = true →
    (u.grp g).faultAfter = false → (u.grp g).leaveAfterClose = false →
    exec (.matrixClosed g ms) s = .next (((u.setStage g .routed).ev E.GROUP_JOINED g [o]).startMains o).done) ∧
  (∀ (s : State) (g : Fin 12), s.hasGroup g = true → s.stage g = .closing → s.stagesRun = true →
    let i := matrixCoil g (s.grp g).phys
    exec (.contactorCloseTimeout g) s = .next
      (((((s.setCoil i false).modGrp g fun v => { v with faultAfter := false, leaveAfterClose := false }).setStage g .fault).ev
        E.GROUP_CONTACTOR_TIMEOUT g [i, 1])).done) ∧
  (∀ (s : State) (g : Fin 12), s.hasGroup g = true → s.stage g = .leaving → s.stagesRun = true → s.refWithinCap (s.grp g).phys = true →
    exec (.leavingDone g) s = .next (s.startUnloading g).done) ∧
  (∀ (s : State) (g : Fin 12), s.hasGroup g = true → s.stage g = .leaving → s.stagesRun = true →
    exec (.leaveTimeout g) s = .next ((s.startUnloading g).ev E.GROUP_LEAVE_TIMEOUT g
      [(s.grp g).phys, s.get (F.OUTLET_REF_MA_MA.inst (s.grp g).phys)]).done) ∧
  (∀ (s : State) (g : Fin 12), s.hasGroup g = true → s.stage g = .unloading → s.stagesRun = true →
    exec (.zeroConfirmed g) s = .next ((s.setCoil (matrixCoil g (s.grp g).phys) false).setStage g .opening).done) ∧
  (∀ (s : State) (g : Fin 12), s.hasGroup g = true → s.stage g = .unloading → s.stagesRun = true →
    let o := (s.grp g).phys
    let t := (s.modGrp g fun v => { v with faultAfter := false, coilOffDue := true }).setStage g .fault
    exec (.zeroTimeout g) s = .next (((t.ev E.GROUP_ZERO_TIMEOUT g [o]).latchSrc o 3).faultRamp o).done) ∧
  (∀ (s : State) (g : Fin 12) (ms : Nat),
    let i := matrixCoil g (s.grp g).phys
    let t := (s.setFb i false).set (F.GROUP_TRAVEL_OPEN_MS.inst g) (satTo 16 ms)
    let u : State := { t with safe := { t.safe with weldedSince := setBitOf t.safe.weldedSince i false } }
    s.hasGroup g = true → s.stagesRun = true → (s.grp g).phys < 4 → s.coilOn i = false → u.stage g = .opening →
    exec (.matrixOpened g ms) s = .next (u.released g).done) ∧
  (∀ (s : State) (g : Fin 12), s.hasGroup g = true → s.stage g = .opening → s.stagesRun = true →
    let i := matrixCoil g (s.grp g).phys
    exec (.matrixOpenTimeout g) s = .next ((s.ev E.GROUP_CONTACTOR_TIMEOUT g [i, 0]).weld i).done) ∧
  (∀ (s : State) (g : Fin 12),
    let t := s.modGrp g fun v => { v with gflt := true, gfltDue := false }
    s.hasGroup g = true → s.stagesRun = true → t.stagesRun = true →
    exec (.groupFaultInput g) s = .next (t.groupFault g E.GROUP_FAULT_INPUT [(t.stage g).code]).done) ∧
  (∀ (s : State) (g : Fin 12),
    let t := s.modGrp g fun v => { v with gflt := true, gfltDue := true }
    s.hasGroup g = true → s.stagesRun = false → t.stagesRun = false →
    exec (.groupFaultInput g) s = .next (t.each (groupPhases g) fun p s => s.stopPhase p).done) ∧
  (∀ (s : State) (g : Fin 12),
    let t := s.modGrp g fun v => { v with gflt := false }
    let u := t.each ((groupPhases g).filter fun p => t.phReason p == 3) fun p s => s.setPhase p true (s.phLost p) 0
    s.reaches (0x0E + g.val) 0x008 = true → t.stagesRun = true → t.stage g = .fault → t.route g = 0xFF → (t.grp g).phys = 0xFF →
    ((List.range 4).all fun o => !t.fbClosed (matrixCoil g o)) = true →
    exec (.faultClr g true) s = .next
      (((u.setGrp g { u.grp g with phys := 0xFF, faultAfter := false, coilCut := false, leaveAfterClose := false }).setStage g .unrouted).judgeMin g).done) ∧
  (∀ (s : State) (g : Fin 12), s.reaches (0x0E + g.val) 0x008 = true →
    exec (.faultClr g false) s = .next (s.modGrp g fun v => { v with gflt := true }).done)

/-- The fast loops: a swap request selects its slots, a sample measures the outlet and advances its loop, a missed deadline is
counted and recorded, the direction changes at zero. A sample of an outlet whose loops are open only measures; one of an outlet
with closed loops advances the ramps and computes the reference, one under a fault reaction advances the fault ramp (R168, R170,
R171, R173, R175, R176, R187). -/
def Obligations.FastLoops : Prop :=
  (∀ (s : State) (v : Word), s.reaches 0x1B 0x040 = true →
    exec (.loopSwapReq v) s = .next ((s.set F.LOOP_SWAP_REQ ((s.get F.LOOP_SWAP_REQ).lor (v.toNat % 2 ^ s.fastSlots))).swapOff).done) ∧
  (∀ (s : State) (n : Fin 4) (vc ic : Int), s.hasOutlet n = true → s.stagesRun = true → s.mode ≠ .dormant →
    exec (.fastSample n vc ic) s = .next (s.fastSample n vc ic).done) ∧
  (∀ (s : State) (k : Fin 64),
    let m := satTo 16 (s.rdLe (slotBase k + 62) 2 + 1)
    s.stagesRun = true → 16 ≤ k.val → s.slotState k = 2 →
    exec (.sampleDeadlineMiss k) s = .next
      ((((s.wrLe (slotBase k + 62) 2 m).incSat F.LOOP_MISSED_COUNT).set F.LOOP_DEADLINE_LAST_SLOT k).ev E.LOOP_DEADLINE_MISSED 0 [k]).done) ∧
  (∀ (s : State) (k : Fin 64),
    let m := satTo 16 (s.rdLe (slotBase k + 62) 2 + 1)
    let n := k.val / 4
    let t := ((((s.wrLe (slotBase k + 62) 2 m).incSat F.LOOP_MISSED_COUNT).set F.LOOP_DEADLINE_LAST_SLOT k).ev E.LOOP_DEADLINE_MISSED 0 [k]).modOut n
      fun o => { o with missRun := o.missRun + 1 }
    s.stagesRun = true → k.val < 16 → k.val < s.fastSlots → s.slotState k = 2 → 
    exec (.sampleDeadlineMiss k) s = .next
      (t.when (t.slotsClosed n && decide ((t.outSt n).missRun = t.get F.LOOP_DEADLINE_FAST_LIMIT)) fun s =>
        (s.ev E.LOOP_DEADLINE_FAULT 0 [n]).loopReact n).done) ∧
  (∀ (s : State) (n : Fin 4), s.hasOutlet n = true → s.stagesRun = true → s.dirDiffers n = true →
    (s.outSt n).ihiUa = 0 → s.icZero n = true →
    let t := (s.setB (F.OUTLET_STATUS_DIRECTION.inst n) (s.on (F.OUTLET_DIR_EXPORT.inst n))).each (List.range 4) fun j s =>
      s.wrLe (slotBase (4 * n + j) + 44) 8 0
    exec (.directionZeroReached n) s = .next
      (((t.modOut n fun o => { o with dirRamp := false }).setRef n 0).setVramp n (t.vc n * 1000)).done) ∧
  (∀ (s : State) (n : Nat) (vc ic : Int),
    let a := (s.measure n vc ic).when (!s.fbFlagged n) fun s => s.modOut n fun o => { o with lastIc := ic.natAbs }
    let b := (a.when (!a.prechargeOk n) fun s => s.setB (F.OUTLET_STATUS_PRECHARGE_OK.inst n) false).refreshSafeMa n
    let c := b.set (F.OUTLET_APT_MA_MA.inst n) (b.aptMa n)
    let d := ((c.setI (F.OUTLET_ITGT_MA_MA.inst n) (if c.exporting n then -(c.targetMa n : Int) else (c.targetMa n : Int))).modOut n
      fun o => { o with missRun := 0 }).judgeDirection n
    d.slotsClosed n = false → s.fastSample n vc ic = (d.setVramp n (vc * 1000)).swapOff) ∧
  (∀ (s : State) (n : Nat) (vc ic : Int),
    let a := (s.measure n vc ic).when (!s.fbFlagged n) fun s => s.modOut n fun o => { o with lastIc := ic.natAbs }
    let b := (a.when (!a.prechargeOk n) fun s => s.setB (F.OUTLET_STATUS_PRECHARGE_OK.inst n) false).refreshSafeMa n
    let c := b.set (F.OUTLET_APT_MA_MA.inst n) (b.aptMa n)
    let d := ((c.setI (F.OUTLET_ITGT_MA_MA.inst n) (if c.exporting n then -(c.targetMa n : Int) else (c.targetMa n : Int))).modOut n
      fun o => { o with missRun := 0 }).judgeDirection n
    d.slotsClosed n = true → (d.outSt n).reaction ≠ .none → s.fastSample n vc ic = d.fastRamp n (s.slotRate (4 * n))) ∧
  (∀ (s : State) (n : Nat) (vc ic : Int),
    let a := (s.measure n vc ic).when (!s.fbFlagged n) fun s => s.modOut n fun o => { o with lastIc := ic.natAbs }
    let b := (a.when (!a.prechargeOk n) fun s => s.setB (F.OUTLET_STATUS_PRECHARGE_OK.inst n) false).refreshSafeMa n
    let c := b.set (F.OUTLET_APT_MA_MA.inst n) (b.aptMa n)
    let d := ((c.setI (F.OUTLET_ITGT_MA_MA.inst n) (if c.exporting n then -(c.targetMa n : Int) else (c.targetMa n : Int))).modOut n
      fun o => { o with missRun := 0 }).judgeDirection n
    let e := (d.showLoad n 480).setVramp n ((d.showLoad n 480).nextVramp n (s.slotRate (4 * n)))
    d.slotsClosed n = true → (d.outSt n).reaction = .none →
    s.fastSample n vc ic = ((e.setIhi n (e.nextIhi n (s.slotRate (4 * n)))).fastCompute n).resetStop n) ∧
  (∀ (s : State) (n : Nat), s.resetStop n = s.when
    ((s.outSt n).resetRamp != 0 && s.ostate n == .energy && decide ((s.outSt n).refUa = 0) && s.icZero n) fun s => s.setOState n .stopping)

/-- The sequences of an outlet: main contactors, precharge, the stop at zero current and the opening of the contactors, each with
the record of the wait that ran out (R180, R181, R183, R340). -/
def Obligations.OutletSequences : Prop :=
  (∀ (s : State) (n : Fin 4), s.hasOutlet n = true → s.ostate n = .check → s.stagesRun = true → (s.outSt n).seq ≠ 0 →
    exec (.mainTimeout n) s = .next
      (((s.ev E.OUTLET_MAIN_TIMEOUT n (seqCoil n (s.outSt n).seq)).latchSrc n 1).gateCutOutlet n).done) ∧
  (∀ (s : State) (n : Fin 4), s.hasOutlet n = true → s.ostate n = .precharge → s.prechargeOk n = true →
    s.on (F.OUTLET_STATUS_PRECHARGE_OK.inst n) = false →
    let t := s.setB (F.OUTLET_STATUS_PRECHARGE_OK.inst n) true
    exec (.prechargeDone n) s = .next
      (t.ev E.OUTLET_PRECHARGE_DONE n [s.get (F.OUTLET_VC_MV_MV.inst n), s.get (F.OUTLET_EV_MV_MV.inst n)]).done) ∧
  (∀ (s : State) (n : Fin 4), s.hasOutlet n = true → s.ostate n = .precharge → s.on (F.OUTLET_STATUS_PRECHARGE_OK.inst n) = false →
    exec (.prechargeTimeout n) s = .next
      ((s.ev E.OUTLET_PRECHARGE_TIMEOUT n [s.get (F.OUTLET_VC_MV_MV.inst n), s.get (F.OUTLET_EV_MV_MV.inst n)]).setOState n .stopping).done) ∧
  (∀ (s : State) (n : Fin 4), s.hasOutlet n = true → s.ostate n = .stopping → (s.outSt n).refUa = 0 → s.icZero n = true → s.stagesRun = true →
    exec (.stopZeroReached n) s = .next
      (((s.when (s.slotsClosed n) fun s => s.openSlots n).outletCoilsOff n).modOut n fun o => { o with seq := 6 }).done) ∧
  (∀ (s : State) (n : Fin 4), s.hasOutlet n = true → s.ostate n = .stopping → (s.outSt n).seq = 6 →
    exec (.stopContactorsOpen n) s = .next ((s.fbAllOpen n).setOState n .weldcheck).done) ∧
  (∀ (s : State) (n : Fin 4), s.hasOutlet n = true → s.ostate n = .stopping → (s.outSt n).seq = 6 →
    exec (.stopOpenTimeout n true true) s = .next
      (((((s.ev E.OUTLET_MAIN_TIMEOUT n [mainPos n, 0]).setFb (mainPos n) true).weld (mainPos n)).setFb (mainNeg n) true).weld (mainNeg n)).done) ∧
  (∀ (s : State) (n : Fin 4), s.hasOutlet n = true → s.ostate n = .stopping → (s.outSt n).seq = 6 →
    exec (.stopOpenTimeout n false true) s = .next
      ((((s.ev E.OUTLET_MAIN_TIMEOUT n [mainNeg n, 0]).fbGone (mainPos n)).setFb (mainNeg n) true).weld (mainNeg n)).done)

/-- The feedback of an outlet: lost, frozen or disagreeing with the metrology for 20 blocks, it is flagged, recorded and the loop
reacts; the hold ends in the ramp, the ramp in the fault state (R184, R185, R186, R187, R188). -/
def Obligations.FeedbackFaults : Prop :=
  (∀ (s : State) (n : Fin 4), s.hasOutlet n = true → s.stagesRun = true →
    exec (.fbLost n 1) s = .next ((((s.setB (F.OUTLET_FB_STAT_LOST_V.inst n) true).modOut n fun o => { o with fbLive := o.fbLive.lor 1 }).ev E.OUTLET_FB_LOST n [0, 1]).loopReact n).done) ∧
  (∀ (s : State) (n : Fin 4), s.hasOutlet n = true → s.stagesRun = true →
    exec (.fbLost n 2) s = .next ((((s.setB (F.OUTLET_FB_STAT_LOST_I.inst n) true).modOut n fun o => { o with fbLive := o.fbLive.lor 2 }).ev E.OUTLET_FB_LOST n [1, 2]).loopReact n).done) ∧
  (∀ (s : State) (n : Fin 4), s.hasOutlet n = true → s.stagesRun = true →
    exec (.fbLost n 3) s = .next
      (((((s.setB (F.OUTLET_FB_STAT_LOST_V.inst n) true).setB (F.OUTLET_FB_STAT_LOST_I.inst n) true).modOut n fun o => { o with fbLive := o.fbLive.lor 3 }).ev
        E.OUTLET_FB_LOST n [2, 3]).loopReact n).done) ∧
  (∀ (s : State) (n : Fin 4), s.hasOutlet n = true → s.stagesRun = true → s.slotsClosed n = true →
    let t := s.setB (F.OUTLET_FB_STAT_FROZEN_I.inst n) true
    exec (.fbFrozen n true) s = .next ((t.ev E.OUTLET_FB_FROZEN n [1, t.get (F.OUTLET_IC_MA_MA.inst n)]).loopReact n).done) ∧
  (∀ (s : State) (n : Fin 4), s.hasOutlet n = true → s.stagesRun = true → s.slotsClosed n = true →
    let t := s.setB (F.OUTLET_FB_STAT_FROZEN_V.inst n) true
    exec (.fbFrozen n false) s = .next ((t.ev E.OUTLET_FB_FROZEN n [0, t.get (F.OUTLET_VC_MV_MV.inst n)]).loopReact n).done) ∧
  (∀ (s : State) (n : Fin 4) (vc vm ic im : Int),
    let pct := s.get (F.OUTLET_FB_WIN_PCT.inst n)
    let bv := fbDisagrees vc vm (s.get (F.OUTLET_FB_WIN_V.inst n)) pct
    let bi := fbDisagrees ic im (s.get (F.OUTLET_FB_WIN_A.inst n)) pct
    let t := s.modOut n fun o => { o with fbRunV := if bv then o.fbRunV + 1 else 0, fbRunI := if bi then o.fbRunI + 1 else 0 }
    s.hasOutlet n = true → s.stagesRun = true → s.slotsClosed n = true → (t.outSt n).fbRunV ≠ 20 → (t.outSt n).fbRunI ≠ 20 →
    exec (.fbMismatchBlock n vc vm ic im) s = .next t.done) ∧
  (∀ (s : State) (n : Fin 4) (vc vm ic im : Int),
    let pct := s.get (F.OUTLET_FB_WIN_PCT.inst n)
    let bv := fbDisagrees vc vm (s.get (F.OUTLET_FB_WIN_V.inst n)) pct
    let bi := fbDisagrees ic im (s.get (F.OUTLET_FB_WIN_A.inst n)) pct
    let t := s.modOut n fun o => { o with fbRunV := if bv then o.fbRunV + 1 else 0, fbRunI := if bi then o.fbRunI + 1 else 0 }
    s.hasOutlet n = true → s.stagesRun = true → s.slotsClosed n = true → (t.outSt n).fbRunV = 20 → (t.outSt n).fbRunI ≠ 20 →
    exec (.fbMismatchBlock n vc vm ic im) s = .next
      (((t.setB (F.OUTLET_FB_STAT_MISMATCH_V.inst n) true).ev E.OUTLET_FB_MISMATCH n [0, ofSigned 32 vc, ofSigned 32 vm]).loopReact n).done) ∧
  (∀ (s : State) (n : Fin 4) (vc vm ic im : Int),
    let pct := s.get (F.OUTLET_FB_WIN_PCT.inst n)
    let bv := fbDisagrees vc vm (s.get (F.OUTLET_FB_WIN_V.inst n)) pct
    let bi := fbDisagrees ic im (s.get (F.OUTLET_FB_WIN_A.inst n)) pct
    let t := s.modOut n fun o => { o with fbRunV := if bv then o.fbRunV + 1 else 0, fbRunI := if bi then o.fbRunI + 1 else 0 }
    s.hasOutlet n = true → s.stagesRun = true → s.slotsClosed n = true → (t.outSt n).fbRunV ≠ 20 → (t.outSt n).fbRunI = 20 →
    exec (.fbMismatchBlock n vc vm ic im) s = .next
      (((t.setB (F.OUTLET_FB_STAT_MISMATCH_I.inst n) true).ev E.OUTLET_FB_MISMATCH n [1, ofSigned 32 ic, ofSigned 32 im]).loopReact n).done) ∧
  (∀ (s : State) (n : Fin 4) (vc vm ic im : Int),
    let pct := s.get (F.OUTLET_FB_WIN_PCT.inst n)
    let bv := fbDisagrees vc vm (s.get (F.OUTLET_FB_WIN_V.inst n)) pct
    let bi := fbDisagrees ic im (s.get (F.OUTLET_FB_WIN_A.inst n)) pct
    let t := s.modOut n fun o => { o with fbRunV := if bv then o.fbRunV + 1 else 0, fbRunI := if bi then o.fbRunI + 1 else 0 }
    let u := ((t.setB (F.OUTLET_FB_STAT_MISMATCH_V.inst n) true).ev E.OUTLET_FB_MISMATCH n [0, ofSigned 32 vc, ofSigned 32 vm]).loopReact n
    s.hasOutlet n = true → s.stagesRun = true → s.slotsClosed n = true → (t.outSt n).fbRunV = 20 → (t.outSt n).fbRunI = 20 →
    exec (.fbMismatchBlock n vc vm ic im) s = .next
      (((u.setB (F.OUTLET_FB_STAT_MISMATCH_I.inst n) true).ev E.OUTLET_FB_MISMATCH n [1, ofSigned 32 ic, ofSigned 32 im]).loopReact n).done) ∧
  (∀ (s : State) (n : Fin 4), s.hasOutlet n = true → s.stagesRun = true → (s.outSt n).reaction = .hold →
    exec (.fbHoldEnd n) s = .next
      ((((s.modOut n fun o => { o with reaction := .ramp }).setB (F.OUTLET_FB_STAT_HOLD.inst n) false).setB
        (F.OUTLET_FB_STAT_RAMPING.inst n) true).refreshSafeMa n).done) ∧
  (∀ (s : State) (n : Fin 4), s.hasOutlet n = true → s.stagesRun = true → (s.outSt n).reaction = .ramp → (s.outSt n).refUa = 0 →
    exec (.faultRampDone n) s = .next
      ((s.modOut n fun o => { o with coilDue := if o.coilDue == .none then .afterRamp else o.coilDue, reaction := .none }).setOState n .fault).done)

/-- The slow loops and the words of the slots: a closed slot computes, an open one drives its held word, a stopped one its zero; a
slot word is taken, refused while the slot is in use, or refused by its range. The sensor channels: a frame of codes, a stuck
channel turns invalid and a good one valid again, a channel's configuration is taken or refused (R165, R167, R170, R195, R196,
R197, R198). -/
def Obligations.SlowLoops : Prop :=
  (∀ (s : State) (k : Fin 48), s.stagesRun = true → s.mode ≠ .dormant → s.slotState (16 + k) = 2 →
    s.pvInvalid (s.rdByte (slotBase (16 + k) + 1)) = false → exec (.slowSample k) s = .next (s.slowClosed (16 + k)).done) ∧
  (∀ (s : State) (k : Fin 48), s.stagesRun = true → s.mode ≠ .dormant → s.slotState (16 + k) = 2 →
    s.pvInvalid (s.rdByte (slotBase (16 + k) + 1)) = true → exec (.slowSample k) s = .next (s.slotOpen (16 + k)).done) ∧
  (∀ (s : State) (k : Fin 48), s.stagesRun = true → s.mode ≠ .dormant → s.slotState (16 + k) = 1 →
    exec (.slowSample k) s = .next (s.slowDrive (16 + k) (s.slotWord (16 + k) 40)).done) ∧
  (∀ (s : State) (k : Fin 48), s.stagesRun = true → s.mode ≠ .dormant → s.slotState (16 + k) = 0 →
    exec (.slowSample k) s = .next ((s.wrLe (slotBase (16 + k) + 44) 8 0).slowDrive (16 + k) 0).done) ∧
  (∀ (s : State) (k : Fin 64) (w : Fin 16) (v : Word), s.tableReach 8 (64 * k + 4 * w) = true → 16 ≤ k.val → 1 ≤ w.val → w.val ≤ 8 →
    s.slotState k ≠ 2 → exec (.loopSlotWrite k w v) s = .next (s.setSlotWord k (4 * w) v.toNat).done) ∧
  (∀ (s : State) (k : Fin 64) (w : Fin 16) (v : Word), s.tableReach 8 (64 * k + 4 * w) = true → 16 ≤ k.val → 1 ≤ w.val → w.val ≤ 8 →
    s.slotState k = 2 → exec (.loopSlotWrite k w v) s = .next (s.slotLocked k (4 * w)).done) ∧
  (∀ (s : State) (k : Fin 64) (v : Word), s.tableReach 8 (64 * k + 4) = true → k.val < 16 → k.val < s.fastSlots → s.slotState k = 0 →
    400000 < v.toNat → exec (.loopSlotWrite k 1 v) s = .next (s.badSlot k 1).done) ∧
  (∀ (s : State) (c : Fin 48), s.chEnabled c = true → s.on (F.SENS_CH_CFG_STUCK_EN.nth c) = true → s.chInvalid c = false →
    exec (.sensChStuck c) s = .next
      ((s.setInvalid c true).ev E.SENS_CH_STUCK 0 [c, (s.sensOf c).codes.headD 0]).afterValidity.done) ∧
  (∀ (s : State) (c : Fin 48), s.chInvalid c = true →
    exec (.sensChValid c) s = .next
      ((((s.setInvalid c false).setSens c { s.sensOf c with outRun := 0 }).ev E.SENS_CH_VALID 0 [c]).afterValidity).done) ∧
  (∀ (s : State) (c : Fin 48) (v : Word), s.reaches 0x42 (0x100 + c * 0x10) = true → 5 < bits v.toNat 15 12 →
    exec (.sensCfgWrite c v) s = .next (s.err E.SENS_BAD_CFG 0 [c, bits v.toNat 15 12]).done) ∧
  (∀ (s : State) (c : Fin 48) (v : Word),
    let kind := bits v.toNat 15 12
    let t := ((s.set (F.SENS_CH_CFG_ZERO.nth c) (bits v.toNat 31 16)).set (F.SENS_CH_CFG_KIND.nth c) kind).set (F.SENS_CH_CFG_RATE.nth c) (bits v.toNat 9 8)
    s.reaches 0x42 (0x100 + c * 0x10) = true → kind ≤ 5 → bits v.toNat 9 8 ≠ 2 →
    exec (.sensCfgWrite c v) s = .next
      (((t.setB (F.SENS_CH_CFG_STUCK_EN.nth c) (v.toNat.testBit 7)).set (F.SENS_CH_CFG_FILTER.nth c) (bits v.toNat 6 4)).setB
        (F.SENS_CH_CFG_EN.nth c) (v.toNat.testBit 0)).refreshSar.done) ∧
  (∀ (s : State) (codes : List Nat),
    let t := s.each (s.frameChannels s.sensFrame) fun c s => s.sensSample c (min 65535 (codes.getD c 0))
    exec (.sensFrame codes) s = .next ((({ t with sensFrame := (t.sensFrame + 1) % 100 } : State).refreshSar).linkSamples codes).done)

/-- The thermal observer: enabled when its model is stable, its operator recomputed, its state advanced each period; an implausible
sensor is flagged and its flag cleared when the condition is gone; low pressure and low flow are recorded (R199, R200, R201,
R202, R205, R208, R209, R210). -/
def Obligations.Cooling : Prop :=
  (∀ s : State, exec .operatorRecompute s = .next
    (s.each (s.outlets.filter fun n => (s.coolOf n).running) fun n s =>
      s.modCool n fun v => { v with op := (m5Pow bits10000 m5One (s.stepMatrix n (s.gFlow n (s.flowNow n)))).take 10 ++
        (m5Pow bits10000 m5One (s.stepMatrix n (s.gFlow n (s.flowNow n)))).take 10, tinSrc := s.tInSource n }).done) ∧
  (∀ (s : State) (n : Fin 4) (v : Word),
    let t := ((((s.setB (F.COOL_OCFG_EN.nth n) true).set (F.COOL_OCFG_PIN_POS_CH.nth n) (bits v.toNat 29 24)).set
      (F.COOL_OCFG_PIN_NEG_CH.nth n) (bits v.toNat 21 16)).set (F.COOL_OCFG_T_IN_CH.nth n) (bits v.toNat 13 8)).set
      (F.COOL_OCFG_T_OUT_CH.nth n) (bits v.toNat 5 0)
    s.reaches 0x1C (0x080 + n * 0x40) = true → s.hasOutlet n = true → v.toNat.testBit 31 = true → bits v.toNat 29 24 ≠ 0x3F →
    bits v.toNat 21 16 ≠ 0x3F → s.unstableNode n = none →
    exec (.coolObserverEnable n v) s = .next ((t.followObserver n).refreshRoles n).done) ∧
  (∀ (s : State) (n : Fin 4) (v : Word) (k : Nat),
    s.reaches 0x1C (0x080 + n * 0x40) = true → s.hasOutlet n = true → v.toNat.testBit 31 = true → bits v.toNat 29 24 ≠ 0x3F →
    bits v.toNat 21 16 ≠ 0x3F → s.unstableNode n = some k →
    exec (.coolObserverEnable n v) s = .next (s.err E.COOL_BAD_MODEL 0 [n, k]).done) ∧
  (∀ (s : State) (i0 i1 i2 i3 : Nat), s.mode ≠ .dormant →
    let t := s.each s.outlets fun n s => s.followObserver n
    exec (.observerUpdate i0 i1 i2 i3) s = .next
      (t.each (t.outlets.filter fun n => (t.coolOf n).running) fun n s => s.observe n ([i0, i1, i2, i3].getD n 0)).refreshAllRoles.driveShared.done) ∧
  (∀ (s : State) (n : Fin 4), (s.coolOf n).running = true → (s.coolOf n).pinBad0 = true →
    exec (.pinImplausible n false) s = .next ((s.setB (F.COOL_OSTAT_INNOV_POS.nth n) true).refreshRoles n).done) ∧
  (∀ (s : State) (n : Fin 4), (s.coolOf n).running = true → (s.coolOf n).pinBad1 = true →
    exec (.pinImplausible n true) s = .next ((s.setB (F.COOL_OSTAT_INNOV_NEG.nth n) true).refreshRoles n).done) ∧
  (∀ (s : State) (n : Fin 4), (s.coolOf n).running = true → (s.coolOf n).orderBad = true →
    exec (.orderImplausible n) s = .next ((s.setB (F.COOL_OSTAT_ORDER.nth n) true).refreshRoles n).done) ∧
  (∀ (s : State) (n : Fin 4), (s.coolOf n).running = true → (s.coolOf n).pressBad = true →
    exec (.pressLow n) s = .next (s.ev E.COOL_PRESS_LOW 0 [n, s.chVal (s.roleCh n 5)]).done) ∧
  (∀ (s : State) (n : Fin 4), (s.coolOf n).running = true → (s.coolOf n).flowBad = true →
    exec (.flowLow n) s = .next (s.ev E.COOL_FLOW_LOW 0 [n, s.flowNow n, s.get (F.COOL_DEMAND_LPM.nth n)]).done) ∧
  (∀ (s : State) (n : Fin 4) (v : Word), s.reaches 0x1C (0x19C + n * 0x20) = true → v.toNat.testBit 7 = true → v.toNat.testBit 8 = false →
    v.toNat.testBit 9 = false → (s.coolOf n).pinBad0 = false →
    exec (.coolFlagClear n v) s = .next ((s.setB (F.COOL_OSTAT_INNOV_POS.nth n) false).refreshRoles n).done) ∧
  (∀ (s : State) (n : Fin 4) (v : Word), s.reaches 0x1C (0x19C + n * 0x20) = true → v.toNat.testBit 7 = true → v.toNat.testBit 8 = false →
    v.toNat.testBit 9 = false → (s.coolOf n).pinBad0 = true →
    exec (.coolFlagClear n v) s = .next (s.refreshRoles n).done)

/-- The link's configuration and the levels of its wires: the kind changes only while the outlet is idle, an accepted level shows
and acts, a level in no window or a pilot without its diode is a signal fault. The connector latch: energised in the states that
hold it, released below 60 V with its cause, its feedback judged (R215, R217, R218, R219, R220, R221, R222). -/
def Obligations.LinkSignals : Prop :=
  (∀ (s : State) (n : Fin 4) (v : Word), s.reaches (0x1D + n) 0x040 = true → bits v.toNat 1 0 ≠ s.linkKind n → s.ostate n ≠ .idle →
    exec (.linkCfgWrite n v) s = .next ((s.err E.LINK_KIND_BUSY n [(s.ostate n).code]).when
      ((s.err E.LINK_KIND_BUSY n [(s.ostate n).code]).linkOn n) fun t => t.recombine n).done) ∧
  (∀ (s : State) (n : Fin 4) (v : Word),
    let t := ((s.set (F.LINK_CFG_GAP_MS.inst n) (bits v.toNat 31 24)).set (F.LINK_CFG_DEBOUNCE_MS.inst n) (bits v.toNat 23 16)).setB
      (F.LINK_CFG_ALLOW_D.inst n) (v.toNat.testBit 12)
    let u := (((t.set (F.LINK_CFG_T1S_MODE.inst n) (bits v.toNat 11 10)).set (F.LINK_CFG_PILOT_MODE.inst n)
      (bits v.toNat 9 8)).set (F.LINK_CFG_KIND.inst n) (s.linkKind n)).refreshPilot n
    s.reaches (0x1D + n) 0x040 = true → bits v.toNat 1 0 = s.linkKind n → bits v.toNat 9 8 ≠ 2 → bits v.toNat 11 10 ≠ 1 →
    exec (.linkCfgWrite n v) s = .next (u.when (u.linkOn n) fun t => t.recombine n).done) ∧
  (∀ (s : State) (n : Fin 4) (v : Word),
    let t := ((s.set (F.LINK_CFG_GAP_MS.inst n) (bits v.toNat 31 24)).set (F.LINK_CFG_DEBOUNCE_MS.inst n) (bits v.toNat 23 16)).setB
      (F.LINK_CFG_ALLOW_D.inst n) (v.toNat.testBit 12)
    let a := (((t.set (F.LINK_CFG_T1S_MODE.inst n) (bits v.toNat 11 10)).set (F.LINK_CFG_PILOT_MODE.inst n) (bits v.toNat 9 8)).set
      (F.LINK_CFG_KIND.inst n) (bits v.toNat 1 0)).loadWindows n (bits v.toNat 1 0)
    let b := a.when (a.combined n != 0) fun s => s.ev E.LINK_UNPLUGGED n [(s.ostate n).code]
    let d := ((b.set (F.LINK_STATUS_LEVEL_A.inst n) 0).set (F.LINK_STATUS_LEVEL_B.inst n) 0).set (F.LINK_STATUS_COMBINED.inst n) 0
    let u := (d.setLink n {}).refreshPilot n
    s.reaches (0x1D + n) 0x040 = true → bits v.toNat 1 0 ≠ s.linkKind n → s.ostate n = .idle → bits v.toNat 9 8 ≠ 2 → bits v.toNat 11 10 ≠ 1 →
    exec (.linkCfgWrite n v) s = .next (u.when (u.linkOn n) fun t => t.recombine n).done) ∧
  (∀ (s : State) (n : Fin 4) (v : Word), s.reaches (0x1D + n) 0x040 = true → ¬(bits v.toNat 1 0 ≠ s.linkKind n ∧ s.ostate n ≠ .idle) →
    bits v.toNat 9 8 = 2 → s.mode ≠ .sealedService →
    exec (.linkCfgWrite n v) s = .next ((s.badCfg n 0x040).when ((s.badCfg n 0x040).linkOn n) fun t => t.recombine n).done) ∧
  (∀ (s : State) (n : Fin 4) (v : Word), s.reaches (0x1D + n) 0x058 = true →
    [500, 625, 800, 1000, 1250, 1600, 2000].contains (bits v.toNat 31 16) = true →
    exec (.cpPwmWrite n v) s = .next
      ((s.set (F.LINK_CP_PWM_PERIOD_US.inst n) (bits v.toNat 31 16)).set (F.LINK_CP_PWM_DUTY.inst n) (bits v.toNat 9 0)).done) ∧
  (∀ (s : State) (n : Fin 4) (v : Word), s.reaches (0x1D + n) 0x058 = true →
    [500, 625, 800, 1000, 1250, 1600, 2000].contains (bits v.toNat 31 16) = false →
    exec (.cpPwmWrite n v) s = .next (s.badCfg n 0x058).done) ∧
  (∀ (s : State) (n : Fin 4) (isB : Bool) (mv : Int),
    let l := s.levelOf n isB mv
    let t := s.modLink n fun x => if isB then { x with gapB := false, accB := l } else { x with gapA := false, accA := l }
    s.linkOn n = true → l ≠ 0xF → exec (.levelAccepted n isB mv) s = .next ((t.showLevel n isB mv).recombine n).done) ∧
  (∀ (s : State) (n : Fin 4) (isB : Bool) (mv : Int), s.linkOn n = true → s.levelOf n isB mv = 0xF →
    exec (.levelAccepted n isB mv) s = .next (s.showLevel n isB mv).done) ∧
  (∀ (s : State) (n : Nat) (isB : Bool), s.signalFault n isB =
    ((s.set (if isB then F.LINK_STATUS_LEVEL_B.inst n else F.LINK_STATUS_LEVEL_A.inst n) 0xF).modLink n fun x =>
      if isB then { x with gapB := true } else { x with gapA := true }).recombine n) ∧
  (∀ (s : State) (n : Fin 4) (isB : Bool) (mv : Int), s.linkOn n = true → s.levelOf n isB mv = 0xF →
    exec (.gapFault n isB mv) s = .next ((s.showLevel n isB mv).signalFault n isB).done) ∧
  (∀ (s : State) (n : Fin 4) (mv : Int), s.linkOn n = true → s.linkKind n = 2 → s.on (F.LINK_STATUS_PWM_ON.inst n) = true →
    s.getI (F.LINK_CP_SAMP_LOW_MAX.inst n) < mv →
    exec (.cpDiodeFault n mv) s = .next ((s.setI (F.LINK_MEAS_A_LOW.inst n) mv).signalFault n false).done) ∧
  (∀ (s : State) (n : Fin 4),
    let c := s.get (F.LINK_LATCH_CH.inst n)
    s.linkOn n = true → s.linkActs = true → c < 32 → s.on (F.LINK_STATUS_LATCH_CMD.inst n) = false → s.ostate n = .session →
    exec (.latchEnergise n) s = .next (((s.setB (F.LINK_STATUS_LATCH_CMD.inst n) true).ownerDrive 3 c 1 0).ev E.LINK_LATCHED n []).done) ∧
  (∀ (s : State) (n : Fin 4),
    s.hasOutlet n = true → s.linkActs = true → s.latchHeld n = false → s.ostate n = .release → (s.vc n).natAbs < 60000 → s.unlatchCause n ≠ 0 →
    s.on (F.LINK_STATUS_LATCH_CMD.inst n) = true →
    exec (.latchRelease n) s = .next
      ((((s.setB (F.LINK_STATUS_LATCH_CMD.inst n) false).modLink n fun l => { l with unlatch := 0 }).ownerDrive 3
        (s.get (F.LINK_LATCH_CH.inst n)) 0 0).ev E.LINK_UNLATCHED n [s.unlatchCause n]).done) ∧
  (∀ (s : State) (n : Fin 4), s.latchHeld n = true → exec (.latchRelease n) s = .next s.done) ∧
  (∀ (s : State) (n : Fin 4), s.reaches (0x1D + n) 0x008 = true →
    exec (.linkUnlatch n) s = .next (s.modLink n fun l => { l with unlatch := 2 }).done) ∧
  (∀ (s : State) (n : Fin 4), s.hasOutlet n = true → s.ostate n = .release → s.get (F.LINK_LATCH_AUTO_S.inst n) ≠ 0 →
    exec (.latchAutoTimeout n) s = .next (s.modLink n fun l => { l with unlatch := 3 }).done) ∧
  (∀ (s : State) (n : Fin 4),
    let t := (s.setB (F.LINK_STATUS_LATCH_FB.inst n) false).ev E.LINK_LATCH_FAULT n [1, 0]
    s.hasOutlet n = true → s.get (F.LINK_LATCH_FB_CH.inst n) ≠ 0x3F → s.on (F.LINK_STATUS_LATCH_CMD.inst n) = true → t.ostate n = .energy →
    exec (.latchFault n false) s = .next ((t.tripOut n 7).faultRamp n).done)

/-- The transports of a link: the single-pair Ethernet comes up, conflicts, is lost and restored; the modem takes its key or fails;
a restart starts again (R223, R224, R225, R227, R228). -/
def Obligations.Transports : Prop :=
  (∀ (s : State) (i : Instr) (f : State → State), (s.linkMine = false → s.onLink i f = s) ∧
    (s.linkMine = true → s.stagesRun = false → s.onLink i f = { s with mir := { s.mir with kept := s.mir.kept ++ [i] } })) ∧
  (∀ (s : State) (n : Fin 4), s.linkMine = true → s.stagesRun = true → s.linkOn n = true → s.linkKind n = 1 → s.lstate n = 1 → (s.link n).phyOn = false →
    (s.modLink n fun l => { l with phyOn := true }).t1sMode n < 2 →
    exec (.phyStart n) s = .next (s.modLink n fun l => { l with phyOn := true }).done) ∧
  (∀ (s : State) (n : Fin 4) (quiet : Bool),
    let t := s.modLink n fun l => { l with conflict := l.conflict && !quiet }
    s.linkMine = true → s.stagesRun = true → s.linkOn n = true → s.linkKind n = 1 → (s.link n).phyOn = true → s.t1sMode n < 2 →
    (t.link n).conflict = false → t.lstate n = 1 → exec (.plcaStatusOk ⟨n, quiet⟩) s = .next (t.linkReady n).done) ∧
  (∀ (s : State) (n : Fin 4) (quiet : Bool),
    let t := s.modLink n fun l => { l with conflict := l.conflict && !quiet }
    s.linkMine = true → s.stagesRun = true → s.linkOn n = true → s.linkKind n = 1 → (s.link n).phyOn = true → s.t1sMode n < 2 →
    (t.link n).conflict = false → t.lstate n = 5 → exec (.plcaStatusOk ⟨n, quiet⟩) s = .next
      ((t.linkReady n).ev E.LINK_TRANSPORT_RESTORED n [t.since (t.link n).lostTick / ticksMs]).done) ∧
  (∀ (s : State) (n : Fin 4) (quiet : Bool),
    let t := s.modLink n fun l => { l with conflict := l.conflict && !quiet }
    s.linkMine = true → s.stagesRun = true → s.linkOn n = true → s.linkKind n = 1 → (s.link n).phyOn = true → s.t1sMode n < 2 →
    (t.link n).conflict = true → exec (.plcaStatusOk ⟨n, quiet⟩) s = .next t.done) ∧
  (∀ (s : State) (n : Fin 4), s.linkOn n = true → s.linkMine = true → s.linkKind n = 1 → s.lstate n = 4 → s.stagesRun = true →
    exec (.transportLost n) s = .next ((s.linkLost n).ev E.LINK_TRANSPORT_LOST n [0]).done) ∧
  (∀ (s : State) (n : Fin 4) (src : Nat), s.linkMine = true → s.stagesRun = true → s.linkOn n = true → s.linkKind n = 1 → s.t1sMode n = 0 → (s.link n).phyOn = true →
    exec (.plcaConflict n src) s = .next
      (((s.ev E.LINK_PLCA_CONFLICT n [src]).modLink n fun l => { l with conflict := true }).linkLost n).done) ∧
  (∀ (s : State) (n : Fin 4), s.linkOn n = true → s.linkMine = true → s.linkKind n = 2 →
    exec (.rmiiRefclkLost n) s = .next ((s.linkLost n).ev E.LINK_TRANSPORT_LOST n [1]).done) ∧
  (∀ (s : State) (n : Fin 4), s.linkMine = true → s.stagesRun = true → s.linkOn n = true → s.linkKind n = 2 → s.lstate n = 2 →
    exec (.cmSetKeyCnf n 0) s = .next (((s.set (F.LINK_STATUS_LSTATE.inst n) 3).setStep n 1).refreshPilot n).done) ∧
  (∀ (s : State) (n : Fin 4), s.linkOn n = true → s.linkMine = true → s.linkKind n = 2 → s.lstate n = 2 →
    exec (.modemNoKey n) s = .next ((s.ev E.LINK_MODEM_NO_KEY n [0xFF]).linkFailed n).done) ∧
  (∀ (s : State) (n : Fin 4), s.reaches (0x1D + n) 0x008 = true → s.linkOn n = true → s.ostate n ≠ .idle → s.linkKind n = 1 →
    exec (.linkRestart n) s = .next (s.startTransport n).done) ∧
  (∀ (s : State) (n : Fin 4), s.reaches (0x1D + n) 0x008 = true → s.linkOn n = true → s.ostate n ≠ .idle → s.linkKind n = 2 → s.lstate n = 6 →
    exec (.linkRestart n) s = .next (s.startKeying n).done)

/-- The matching of the modem (SLAC): parameters, start, soundings, profiles, the response, the match, and the step that runs out
(R226, R227, R228). -/
def Obligations.Slac : Prop :=
  (∀ (s : State) (n : Fin 4) (run : Nat),
    let t := (s.modLink n fun l => { l with runId := some run, attenSum := 0, attenCnt := 0 }).set (F.LINK_SLAC_STAT_SOUNDS_RX.inst n) 0
    s.linkMine = true → s.stagesRun = true → s.linkOn n = true → s.linkKind n = 2 → s.lstate n = 3 → s.combined n = 1 → s.on (F.LINK_STATUS_PWM_ON.inst n) = true →
    (s.link n).runId = none → s.slacStep n ≤ 2 →
    exec (.cmSlacParmReq n run) s = .next
      ((t.setStep n 2).emit (.slac n 2 [run, t.get (F.LINK_SLAC_CFG_SOUNDS.inst n), (t.get (F.LINK_SLAC_CFG_SOUND_TO_10MS.inst n) + 9) / 10])).done) ∧
  (∀ (s : State) (n : Fin 4) (run : Nat), s.linkMine = true → s.stagesRun = true → s.slacRun n run = true → s.slacStep n = 2 →
    exec (.cmStartAttenCharInd n run) s = .next (s.setStep n 3).done) ∧
  (∀ (s : State) (n : Fin 4) (run : Nat), s.linkMine = true → s.stagesRun = true → exec (.cmMnbcSoundInd n run) s = .next s.done) ∧
  (∀ (s : State) (n : Fin 4) (groups : List Nat),
    let t := (s.modLink n fun l => { l with attenSum := l.attenSum + groups.sum, attenCnt := l.attenCnt + groups.length }).incSat
      (F.LINK_SLAC_STAT_SOUNDS_RX.inst n)
    s.linkMine = true → s.stagesRun = true → s.linkOn n = true → s.linkKind n = 2 → s.lstate n = 3 → s.slacStep n = 3 →
    t.get (F.LINK_SLAC_CFG_SOUNDS.inst n) ≤ t.get (F.LINK_SLAC_STAT_SOUNDS_RX.inst n) →
    exec (.cmAttenProfileInd n groups) s = .next (t.sendAtten n).done) ∧
  (∀ (s : State) (n : Fin 4) (groups : List Nat),
    let t := (s.modLink n fun l => { l with attenSum := l.attenSum + groups.sum, attenCnt := l.attenCnt + groups.length }).incSat
      (F.LINK_SLAC_STAT_SOUNDS_RX.inst n)
    s.linkMine = true → s.stagesRun = true → s.linkOn n = true → s.linkKind n = 2 → s.lstate n = 3 → s.slacStep n = 3 →
    t.get (F.LINK_SLAC_STAT_SOUNDS_RX.inst n) < t.get (F.LINK_SLAC_CFG_SOUNDS.inst n) →
    exec (.cmAttenProfileInd n groups) s = .next t.done) ∧
  (∀ (s : State) (n : Fin 4) (run : Nat), s.linkMine = true → s.stagesRun = true → s.slacRun n run = true → s.slacStep n = 5 →
    exec (.cmAttenCharRsp n run true) s = .next (s.setStep n 6).done) ∧
  (∀ (s : State) (n : Fin 4) (run : Nat), s.linkMine = true → s.stagesRun = true → s.slacRun n run = true → s.slacStep n = 5 →
    exec (.cmAttenCharRsp n run false) s = .next (s.slacFail n).done) ∧
  (∀ (s : State) (n : Fin 4) (run mac : Nat),
    let t := (s.emit (.slac n 4 [run, s.get2 (F.LINK_NID_HI_NID.inst n) (F.LINK_NID_LO_NID.inst n), (s.link n).nmk])).modLink n
      fun l => { l with vehMac := mac }
    s.linkMine = true → s.stagesRun = true → s.slacRun n run = true → s.slacStep n = 6 →
    exec (.cmSlacMatchReq n run mac) s = .next
      (((t.ev E.LINK_SLAC_MATCHED n [mac % 2 ^ 32, mac / 2 ^ 32, t.get (F.LINK_SLAC_STAT_ATTEN_DB.inst n)]).setStep n 0).linkReady n).done) ∧
  (∀ (s : State) (n : Fin 4) (run : Nat), s.linkMine = true → s.stagesRun = true → s.slacRun n run = true →
    exec (.cmValidateReq n run) s = .next (s.emit (.slac n 5 [run])).done) ∧
  (∀ (s : State) (n : Fin 4), s.linkOn n = true → s.linkMine = true → s.linkKind n = 2 → s.lstate n = 3 → s.stagesRun = true → s.slacStep n = 2 →
    exec (.slacStepTimeout n) s = .next (s.slacFail n).done) ∧
  (∀ (s : State) (n : Fin 4), s.linkOn n = true → s.linkMine = true → s.linkKind n = 2 → s.lstate n = 3 → s.stagesRun = true → s.slacStep n = 3 →
    (s.link n).attenCnt ≠ 0 → exec (.slacStepTimeout n) s = .next (s.sendAtten n).done)

/-- The vehicle's network: the address check, neighbour and echo answers, discovery, the TCP connection with its data and
retransmissions (R237 to R239). -/
def Obligations.VehicleNetwork : Prop :=
  (∀ (s : State) (n : Fin 4), s.vdeOwn n = true → (s.ctx n).dad = 1 →
    exec (.dadDone n false) s = .next ((s.modCtx n fun c => { c with dad := 2 }).set (F.VDE_CTX_STATE_CONN.nth n) 1).done) ∧
  (∀ (s : State) (n : Fin 4), s.vdeOwn n = true → (s.ctx n).dad = 1 →
    let t := s.modCtx n fun c => { c with dad := 3 }
    exec (.dadDone n true) s = .next (t.ev E.VDE_ADDR_CONFLICT n [s.ctxAddr n % 2 ^ 32, s.ctxAddr n / 2 ^ 32]).done) ∧
  (∀ (s : State) (n : Fin 4) (h : LinkFrame) (src : Nat), s.linkMine = true → s.stagesRun = true → h.src ≠ s.macOf n → h.etherType = 0x86DD →
    s.ctxUp n = true → localSrc src = true →
    exec (.icmpv6NsRx n ⟨h, src⟩ (s.ctxAddr n)) s = .next (s.emit (.net n 1 [src, s.ctxAddr n])).done) ∧
  (∀ (s : State) (n : Fin 4) (h : LinkFrame) (src : Nat) (data : List Nat), s.linkMine = true → s.stagesRun = true → h.src ≠ s.macOf n → h.etherType = 0x86DD →
    s.ctxUp n = true → localSrc src = true →
    exec (.icmpv6EchoRx n ⟨h, src⟩ (s.ctxAddr n) data) s = .next (s.emit (.net n 2 (src :: data))).done) ∧
  (∀ (s : State) (n : Fin 4) (h : LinkFrame) (src : Nat),
    let t := (s.modCtx n fun c => { c with sdpFrom := some src, sdpSec := s.sdpAnswer 0 }).set (F.VDE_CTX_STATE_CONN.nth n)
      (max 2 (s.get (F.VDE_CTX_STATE_CONN.nth n)))
    s.linkMine = true → s.stagesRun = true → h.src ≠ s.macOf n → h.etherType = 0x86DD →
    s.ctxUp n = true → s.ostate n = .link → s.on F.VDE_CTRL_EXI_LOAD = false → localSrc src = true →
    exec (.sdpRequestRx n ⟨h, src⟩ (s.ctxAddr n) 15118 1 0xFE 0 0) s = .next
      (t.emit (.net n 3 [src, t.ctxAddr n, t.get F.VDE_TCP_PORT, s.sdpAnswer 0])).done) ∧
  (∀ (s : State) (n : Fin 4) (h : LinkFrame) (src : Nat), s.linkMine = true → s.stagesRun = true → h.src ≠ s.macOf n → h.etherType = 0x86DD →
    s.ctxUp n = true → (s.ctx n).tcp = false → (s.ctx n).sdpFrom = some src → (s.ctx n).sdpSec = 0x10 →
    let c := { s.ctx n with tcp := true, peer := src, connSec := 0x10, closing := false, retx := 0, unacked := false, tls := 0, retried := false, certOk := false }
    let t := (s.setCtx n c).set (F.VDE_CTX_STATE_CONN.nth n) 3
    exec (.tcpSynRx n ⟨h, src⟩ (s.get F.VDE_TCP_PORT)) s = .next ((t.set (F.VDE_CTX_STATE_SEC.nth n) 1).segment n 4 [src, 1220, 8192]).done) ∧
  (∀ (s : State) (n : Fin 4) (h : LinkFrame) (src port : Nat), s.linkMine = true → s.stagesRun = true → h.src ≠ s.macOf n → h.etherType = 0x86DD →
    s.ctxUp n = true → (s.ctx n).tcp = true →
    exec (.tcpSynRx n ⟨h, src⟩ port) s = .next (s.segment n 5 [src]).done) ∧
  (∀ (s : State) (n : Fin 4) (h : LinkFrame) (src len v2g : Nat), s.linkMine = true → s.stagesRun = true → h.src ≠ s.macOf n → h.etherType = 0x86DD →
    s.ctxUp n = true → (s.ctx n).tcp = true → (s.ctx n).peer = src → v2g ≤ 8192 → len ≠ 0 →
    exec (.tcpSegmentRx n ⟨h, src⟩ len v2g true false) s = .next
      ((s.modCtx n fun c => { c with unacked := false, retx := 0 }).segment n 6 [len]).done) ∧
  (∀ (s : State) (n : Fin 4) (h : LinkFrame) (src len v2g : Nat), s.linkMine = true → s.stagesRun = true → h.src ≠ s.macOf n → h.etherType = 0x86DD →
    s.ctxUp n = true → (s.ctx n).tcp = true → (s.ctx n).peer = src → 8192 < v2g →
    exec (.tcpSegmentRx n ⟨h, src⟩ len v2g false false) s = .next
      (((s.ev E.VDE_BAD_MESSAGE n [1, v2g]).closeTcp n).dropConn n).done) ∧
  (∀ (s : State) (n : Fin 4), s.hasOutlet n = true → s.exclusive = true → (s.ctx n).tcp = true → (s.ctx n).unacked = true → (s.ctx n).retx < 6 →
    let t := s.modCtx n fun c => { c with retx := (s.ctx n).retx + 1 }
    exec (.tcpRto n) s = .next (t.segment n 7 [min 3200 (s.get F.VDE_TCP_RTO_MS * 2 ^ ((s.ctx n).retx + 1))]).done) ∧
  (∀ (s : State) (n : Fin 4), s.hasOutlet n = true → s.exclusive = true → (s.ctx n).tcp = true → (s.ctx n).unacked = true → (s.ctx n).retx = 6 →
    exec (.tcpRto n) s = .next ((s.segment n 5 []).dropConn n).done)

/-- TLS, the trust store and the grammar tables: a record is taken in its place, the finished handshake counts and opens the
connection, a wrong one alerts and closes it, an entry applied is checked, the tables are checked when loading ends (R241, R242,
R244, R247). -/
def Obligations.Credentials : Prop :=
  (∀ (s : State) (n : Fin 4), s.linkMine = true → s.stagesRun = true → s.ctxUp n = true → (s.ctx n).tcp = true → (s.ctx n).connSec = 0 → (s.ctx n).tls = 3 →
    (s.on F.CRYPT_TRUST_CFG_REQ_CLIENT = false ∨ (s.ctx n).v13 = false ∨ (s.ctx n).certOk = true) →
    let t := ((s.setCtx n { s.ctx n with tls := 4 }).inc F.CRYPT_HS_COUNT_COUNT).setBit F.CRYPT_STATUS_TLS_OPEN n true
    exec (.tlsRecordRx n (.finished true)) s = .next
      (((t.set (F.VDE_CTX_STATE_CONN.nth n) 4).set (F.VDE_CTX_STATE_SEC.nth n) (if (s.ctx n).v13 then 3 else 2)).ev E.CRYPT_TLS_UP 0
        [n, if (s.ctx n).v13 then 0x0304 else 0x0303, (s.ctx n).suite]).done) ∧
  (∀ (s : State) (n : Fin 4) (ok : Bool), s.linkMine = true → s.stagesRun = true → s.ctxUp n = true → (s.ctx n).tcp = true → (s.ctx n).connSec = 0 → (s.ctx n).tls ≠ 3 →
    exec (.tlsRecordRx n (.finished ok)) s = .next (s.tlsFail n 10).done) ∧
  (∀ (s : State) (n : Fin 4) (v13 : Bool) (suites groups shares algs : List Nat), s.linkMine = true → s.stagesRun = true → s.ctxUp n = true → (s.ctx n).tcp = true →
    (s.ctx n).connSec = 0 → (s.ctx n).tls = 0 →
    exec (.tlsRecordRx n (.clientHello v13 suites groups shares algs)) s = .next (s.clientHello n v13 suites groups shares algs).done) ∧
  (∀ (s : State) (n : Fin 4),
    let t := s.modCtx n fun c => { c with tls := 3 }
    s.vdeOwn n = true → (s.ctx n).tcp = true → (s.ctx n).tls = 2 → s.pkeNext = some n.val →
    exec (.pkeDone n) s = .next (t.segment n 11 (s.serverFlight n)).done) ∧
  (∀ (s : State) (n : Fin 4), s.vdeOwn n = true → (s.ctx n).tcp = true → (s.ctx n).connSec = 0 → (s.ctx n).tls ≠ 4 →
    exec (.tlsHandshakeTimeout n) s = .next (s.tlsFail n 80).done) ∧
  (∀ (s : State) (e : Fin 64), s.trustKind e = 0 →
    exec (.trustEntryApply e) s = .next (s.wrByte (trustBase e + 2) 0).refreshTrust.done) ∧
  (∀ (s : State) (e : Fin 64), s.trustKind e ≠ 0 → crc32 (s.trustDer e) ≠ s.rdLe (trustBase e + 8) 4 →
    exec (.trustEntryApply e) s = .next ((s.wrByte (trustBase e + 2) 3).ev E.CRYPT_TRUST_ENTRY_BAD 0 [e, 3]).refreshTrust.done) ∧
  (∀ (s : State) (e : Fin 64), s.trustKind e ≠ 0 → s.rdLe (trustBase e + 4) 2 ≠ 0 → s.rdLe (trustBase e + 4) 2 ≤ 1536 →
    crc32 (s.trustDer e) = s.rdLe (trustBase e + 8) 4 →
    exec (.trustEntryApply e) s = .next (if (Config.x509 (s.trustDer e)).isSome then (s.wrByte (trustBase e + 2) 1).refreshTrust
      else ((s.wrByte (trustBase e + 2) 2).ev E.CRYPT_TRUST_ENTRY_BAD 0 [e, 2]).refreshTrust).done) ∧
  (∀ (s : State) (e : Fin 64) (der : List Nat), der.length ≤ 496 →
    exec (.ocspSet e der) s = .next
      (((s.wrBytes (trustBase e + 1552) (der ++ List.replicate (496 - der.length) 0)).wrLe (trustBase e + 6) 2 der.length).wrByte (trustBase e + 1)
        (setBitOf (s.rdByte (trustBase e + 1)) 1 (!der.isEmpty))).done) ∧
  (∀ s : State, s.reaches 0x21 0x008 = true → s.get F.VDE_STATUS_ACTIVE = 0 →
    exec .exiLoadSet s = .next ((s.setB F.VDE_CTRL_EXI_LOAD true).setB F.VDE_STATUS_EXI_LOADING true).done) ∧
  (∀ s : State, s.reaches 0x21 0x008 = true → s.get F.VDE_STATUS_ACTIVE ≠ 0 →
    exec .exiLoadSet s = .next (s.err E.VDE_EXI_BUSY 0 []).done) ∧
  (∀ s : State, s.reaches 0x21 0x008 = true → s.on F.VDE_CTRL_EXI_LOAD = true →
    exec .exiLoadClear s = .next (((s.setB F.VDE_CTRL_EXI_LOAD false).setB F.VDE_STATUS_EXI_LOADING false).exiCheck).done) ∧
  (∀ (s : State) (test : Nat), exec (.rngFail test) s = .next
    (((s.setB F.CRYPT_RNG_STAT_FAIL true).setB F.CRYPT_RNG_STAT_OK false).ev E.CRYPT_RNG_FAIL 0 [test]).done)

/-- The session is set up: the protocol is chosen, the session starts with an ID of the random number generator, services and
certificates are answered, authorisation is decided here or by the host (R248, R249, R252, R253, R260). -/
def Obligations.SessionSetup : Prop :=
  (∀ (s : State) (n : Fin 4) (offers : List (Nat × Nat)) (p : Nat), s.linkMine = true → s.stagesRun = true → s.v2gUp n = true → s.ostate n = .link → s.ctxStep n ≤ 1 →
    s.on F.VDE_PROTO_PREF_EV = false →
    ([3, 2, 1].find? fun p => (offers.filter fun o => s.protoOk n o.1).any fun o => o.1 == p) = some p →
    exec (.supportedAppProtocol n offers) s = .next (((s.noteReq n 1).set (F.VDE_CTX_STATE_PROTO.nth n) p).respond n 1 0 [(p : Nat)]).done) ∧
  (∀ (s : State) (n : Fin 4) (offers : List (Nat × Nat)), s.linkMine = true → s.stagesRun = true → s.v2gUp n = true → s.ostate n = .link → s.ctxStep n ≤ 1 →
    s.on F.VDE_PROTO_PREF_EV = false →
    ([3, 2, 1].find? fun p => (offers.filter fun o => s.protoOk n o.1).any fun o => o.1 == p) = none →
    exec (.supportedAppProtocol n offers) s = .next
      ((((s.respond n 1 5 []).ev E.VDE_NO_PROTOCOL n [offers.length]).closeConn n).clearConn n).done) ∧
  (∀ (s : State) (n : Fin 4) (evccid : List Nat),
    let r := s.noteReq n 2
    let sid := r.free % 2 ^ 64
    let id := ofBe (evccid.take 6)
    let a := (r.freeNext.set (F.VDE_CTX_SID_LO_SID.nth n) sid).set (F.VDE_CTX_SID_HI_SID.nth n) (sid / 2 ^ 32)
    let b := ((a.set (F.VDE_CTX_EVCCID_LO_ID.nth n) id).set (F.VDE_CTX_EVCCID_HI_ID.nth n) (id / 2 ^ 32)).modCtx n fun c =>
      { c with session := true, evccid := evccid, closeDue := true }
    let d := ((b.inc F.VDE_SESSIONS_COUNT).d2dSend 1 (n.val :: b.proto n :: leBytes 8 sid ++ evccid)).ev E.VDE_SESSION_START n
      [b.proto n, id % 2 ^ 32, id / 2 ^ 32]
    s.linkMine = true → s.stagesRun = true → s.v2gDue n 2 = true → r.sys.sealedSvc = false → (r.mode == .sealedService) = false → r.on F.CRYPT_RNG_STAT_FAIL = false →
    exec (.sessionSetup n evccid) s = .next
      (((d.sessionInfo n E.VDE_SESSION_START.code16 0).setOState n .session).respond n 2 0 [(sid : Nat)]).done) ∧
  (∀ (s : State) (n : Fin 4) (evccid : List Nat), s.linkMine = true → s.stagesRun = true → s.v2gDue n 2 = true → (s.noteReq n 2).on F.CRYPT_RNG_STAT_FAIL = true →
    exec (.sessionSetup n evccid) s = .next ((s.noteReq n 2).respond n 2 5 []).done) ∧
  (∀ (s : State) (n : Fin 4), s.linkMine = true → s.stagesRun = true → s.v2gDue n 3 = true →
    exec (.authorizationSetup n) s = .next ((s.noteReq n 3).respond n 3 0 ((s.noteReq n 3).services n)).done) ∧
  (∀ (s : State) (n : Fin 4) (bpt contract : Bool), s.linkMine = true → s.stagesRun = true → s.v2gDue n 4 = true →
    exec (.serviceDiscovery n 0 bpt contract) s = .next ((s.noteReq n 4).respond n 4 0 ((s.noteReq n 4).services n)).done) ∧
  (∀ (s : State) (n : Fin 4) (update : Bool) (body : List Nat),
    let r := (s.noteReq n 5).nextReqId
    let t := r.1.modCtx n fun c => { c with certReq := some r.2, certBuf := [] }
    let m := t.mbxSend 3 n r.2 ([t.proto n, if update then 1 else 0] ++ body)
    let u := m.ev E.VDE_CERT_FORWARDED n [r.2, if update then 1 else 0]
    s.linkMine = true → s.stagesRun = true → s.v2gDue n 5 = true → ((s.noteReq n 5).ctx n).certAns = none → ((s.noteReq n 5).ctx n).certReq = none →
    exec (.certificateInstallation n update body) s = .next
      (u.when (decide (3 ≤ m.proto n)) fun s => s.respond n 5 1 []).done) ∧
  (∀ (s : State) (n : Fin 4) (emaid : List Nat) (chain : List (List Nat)),
    let r := (s.noteReq n 6).checkChain n [2, 1] ((s.noteReq n 6).contractAlgs n) chain
    s.linkMine = true → s.stagesRun = true → s.v2gDue n 6 = true →
    exec (.paymentDetails n emaid chain) s = .next
      ((r.1.modCtx n fun c => { c with emaid := emaid, chainOk := r.2 }).respond n 6 (if r.2 then 0 else 5) []).done) ∧
  (∀ (s : State) (n : Fin 4) (emaid : List Nat), s.linkMine = true → s.stagesRun = true → s.v2gDue n 7 = true → (s.noteReq n 7).authCode n = 0 →
    (s.noteReq n 7).proto n < 3 →
    exec (.authorization n emaid []) s = .next ((s.noteReq n 7).authorise n []).done) ∧
  (∀ (s : State) (n : Fin 4) (r : Nat), s.mode ≠ .mirror → (s.ctx n).authReq = some r →
    exec (.authRes n r true) s = .next ((s.modCtx n fun c => { c with authReq := none }).set (F.VDE_CTX_STATE_AUTH.nth n) 3).done) ∧
  (∀ (s : State) (n : Fin 4) (r : Nat), s.mode ≠ .mirror → (s.ctx n).authReq = some r →
    exec (.authRes n r false) s = .next ((s.modCtx n fun c => { c with authReq := none }).authDeny n 3).done) ∧
  (∀ (s : State) (n : Fin 4) (r : Nat) (grant : Bool), (s.ctx n).authReq = none →
    exec (.authRes n r grant) s = .next (s.ev E.VDE_MBX_LATE n [2, r]).done) ∧
  (∀ (s : State) (n : Fin 4) (r : Nat), s.vdeOwn n = true → (s.ctx n).authReq = some r → s.on F.VDE_AUTH_CFG_TO_ALLOW = true →
    exec (.authTimeout n) s = .next (((s.ev E.VDE_AUTH_TIMEOUT n [r, 1]).cancelReqs n).set (F.VDE_CTX_STATE_AUTH.nth n) 3).done) ∧
  (∀ (s : State) (n : Fin 4) (r : Nat), s.vdeOwn n = true → (s.ctx n).authReq = some r → s.on F.VDE_AUTH_CFG_TO_ALLOW = false →
    exec (.authTimeout n) s = .next (((s.ev E.VDE_AUTH_TIMEOUT n [r, 0]).cancelReqs n).authDeny n 3).done) ∧
  (∀ (s : State) (n : Fin 4) (r : Nat) (body : List Nat),
    let t := s.modCtx n fun c => { c with certBuf := c.certBuf ++ body }
    s.mode ≠ .mirror → (s.ctx n).certReq = some r →
    exec (.certRes n r 0 1 body) s = .next
      (t.certAnswer n 0 (t.ctx n).certBuf).done) ∧
  (∀ (s : State) (n res : Nat) (b : List Nat),
    let t := s.modCtx n fun c => { c with certReq := none, certBuf := [] }
    t.proto n < 3 → s.certAnswer n res b = t.respond n 5 res (b.map fun (x : Nat) => (x : Int))) ∧
  (∀ (s : State) (n res : Nat) (b : List Nat),
    let t := s.modCtx n fun c => { c with certReq := none, certBuf := [] }
    3 ≤ t.proto n → s.certAnswer n res b = t.modCtx n fun c => { c with certAns := some (res, b) }) ∧
  (∀ (s : State) (n : Fin 4) (r : Nat), s.vdeOwn n = true → (s.ctx n).certReq = some r →
    exec (.certTimeout n) s = .next
      (((s.mbxSend 7 n r []).ev E.VDE_CERT_TIMEOUT n [r]).certAnswer n 5 []).done)

/-- From the parameters to the energy: charge parameters, the cable check and its steps, precharge, power delivery, the charge loop
and the targets it issues (R254 to R257). -/
def Obligations.SessionCharge : Prop :=
  (∀ (s : State) (n : Fin 4) (t : TargetSet), (s.ctx n).waitSet = some t → (s.slot n).st = 0 →
    exec (.targetSetIssue n) s = .next
      (((s.modCtx n fun c => { c with waitSet := none }).setB (F.VDE_CTX_STATE_WAITING.nth n) false).issueTargets n t
        (s.outSt n).energyDue).done) ∧
  (∀ (s : State) (n : Fin 4) (req : EvReq),
    let r := s.noteReq n 8
    let mv := (clampI 0 (2 ^ 32 - 1) (milliOr req.maxV 1500000)).toNat
    let ma := (clampI 0 (2 ^ 32 - 1) (milliOr req.maxI 3000000)).toNat
    let w := (clampI 0 (2 ^ 32 - 1) (unitOr req.maxP 4500000)).toNat
    let a := ((r.set (F.VDE_CTX_EV_VMAX_MV.nth n) mv).set (F.VDE_CTX_EV_IMAX_MA.nth n) ma).set (F.VDE_CTX_EV_PMAX_W.nth n) w
    let b := (a.set (F.VDE_CTX_SOC_PCT.nth n) (req.soc.getD 0xFF)).modCtx n fun c => { c with dynamic := req.dynamic }
    s.linkMine = true → s.stagesRun = true → s.v2gDue n 8 = true →
    exec (.chargeParameterDiscovery n req) s = .next
      ((b.setDemand n { vcmd := max 150000 (min mv 1500000), ilimImp := min ma 3000000, plimImp := min w 4500000 }).respond n 8 0
        ([max 0 (b.getI (F.ALLOC_OUT_CEIL_W.nth n)), (b.get F.VDE_SCHED_S : Nat)] ++ b.v2gValues n)).done) ∧
  (∀ (s : State) (n : Fin 4), s.linkMine = true → s.stagesRun = true → s.v2gDue n 9 = true → ((s.noteReq n 9).ctx n).check = 4 →
    exec (.cableCheckReq n) s = .next ((s.noteReq n 9).respond n 9 0 []).done) ∧
  (∀ (s : State) (n : Fin 4), s.linkMine = true → s.stagesRun = true → s.v2gDue n 9 = true → ((s.noteReq n 9).ctx n).check = 2 →
    exec (.cableCheckReq n) s = .next ((s.noteReq n 9).respond n 9 1 []).done) ∧
  (∀ (s : State) (n : Fin 4), s.vdeOwn n = true → s.stagesRun = true → s.ostate n = .session → (s.ctx n).check = 1 → s.checkReady n = true →
    exec (.cableCheckStart n) s = .next ((s.modCtx n fun c => { c with check := 2 }).setOState n .check).done) ∧
  (∀ (s : State) (n : Fin 4), s.hasOutlet n = true → s.ostate n = .check → s.stagesRun = true → s.slotsClosed n = true →
    exec (.mainSeqStepDone n) s = .next (s.seqStep n).done) ∧
  (∀ (s : State) (n : Fin 4), s.hasOutlet n = true → s.ostate n = .check → s.stagesRun = true → s.slotsClosed n = false →
    (s.seqStep n).slotsClosed n = true → ((s.seqStep n).ctx n).check = 2 →
    exec (.mainSeqStepDone n) s = .next ((s.seqStep n).issueVcmd n ((s.seqStep n).checkMv n)).done) ∧
  (∀ (s : State) (n : Fin 4), s.vdeOwn n = true → s.stagesRun = true → s.ostate n = .check → (s.ctx n).check = 2 → s.slotsClosed n = true →
    s.on (F.OUTLET_STATUS_SLEWING.inst n) = false → s.imdGood n = true → (s.slot n).st = 0 →
    exec (.cableCheckHoldDone n) s = .next ((s.modCtx n fun c => { c with check := 3 }).issueVcmd n 0).done) ∧
  (∀ (s : State) (n : Fin 4), s.vdeOwn n = true → s.stagesRun = true → s.ostate n = .check → (s.ctx n).check = 3 →
    s.vc n ≤ (s.get F.VDE_CHECK_END_V * 1000 : Nat) → 0 < s.getI (F.ALLOC_OUT_CEIL_W.nth n) →
    exec (.cableCheckDischarged n) s = .next ((s.modCtx n fun c => { c with check := 4 }).setOState n .precharge).done) ∧
  (∀ (s : State) (n : Fin 4), s.vdeOwn n = true → (s.ctx n).check ≠ 0 → (s.ctx n).check ≠ 4 →
    exec (.cableCheckTimeout n) s = .next ((s.ev E.VDE_CHECK_FAILED n [(s.ctx n).check]).sessEnd n E.VDE_CHECK_FAILED.code16).done) ∧
  (∀ (s : State) (n : Fin 4) (present target : V2gNum),
    let r := s.noteReq n 10
    let t := r.issueTargets n { vcmd := (clampI 150000 1500000 (milliOf target)).toNat,
                                evMv := some (clampI 0 1500000 (if 3 ≤ r.proto n then milliOf present else milliOf target)).toNat } false
    s.linkMine = true → s.stagesRun = true → s.v2gDue n 10 = true → (t.slot n).st ≠ 0 →
    exec (.prechargeReq n present target) s = .next (t.modCtx n fun c => { c with rspDue := 10 }).done) ∧
  (∀ (s : State) (n : Fin 4) (req : EvReq),
    let r := s.noteReq n 11
    let t := r.targets n req
    s.linkMine = true → s.stagesRun = true → s.v2gDue n 11 = true → r.on (F.OUTLET_STATUS_PRECHARGE_OK.inst n) = true →
    exec (.powerDeliveryStart n req) s = .next
      ((((r.setDemand n t).modOut n fun o => { o with energyDue := true }).modCtx n fun c => { c with rspDue := 11 }).issueTargets n t true).done) ∧
  (∀ (s : State) (n : Fin 4) (req : EvReq), s.linkMine = true → s.stagesRun = true → s.v2gDue n 11 = true →
    (s.noteReq n 11).on (F.OUTLET_STATUS_PRECHARGE_OK.inst n) = false →
    exec (.powerDeliveryStart n req) s = .next ((s.noteReq n 11).respond n 11 5 []).done) ∧
  (∀ (s : State) (n : Fin 4) (req : EvReq),
    let r := s.noteReq n 12
    let d := r.setDemand n (r.targets n req)
    s.linkMine = true → s.stagesRun = true → s.v2gDue n 12 = true → req.soc = none → (d.targetClauses n (r.targets n req) false).isEmpty = false →
    exec (.chargeLoopReq n req) s = .next ((d.modCtx n fun c => { c with rspDue := 12 }).issueTargets n (r.targets n req) false).done)

/-- The session's answers and its end: a waiting response leaves when its Sentence has ended, metering and stop requests, a request
out of order, an undecodable one, the timers and the host's stop (R249, R251, R258, R260). -/
def Obligations.SessionEnd : Prop :=
  (∀ (s : State) (n : Fin 4), s.vdeOwn n = true → s.stagesRun = true → (s.ctx n).rspDue ≠ 0 → (s.slot n).st = 0 →
    let t := s.modCtx n fun c => { c with rspDue := 0 }
    exec (.v2gResponseSend n) s = .next (t.respondNow n (s.ctx n).rspDue 0).done) ∧
  (∀ (s : State) (n : Fin 4) (body : List Nat), s.linkMine = true → s.stagesRun = true → s.v2gDue n 13 = true →
    exec (.meteringConfirmation n body) s = .next (((s.noteReq n 13).mbxSend 6 n 0 body).respond n 13 0 []).done) ∧
  (∀ (s : State) (n : Fin 4), s.linkMine = true → s.stagesRun = true → s.v2gDue n 14 = true →
    let t := ((s.noteReq n 14).modCtx n fun c => { c with stopAsked := false }).set (F.VDE_CTX_DEMAND_W_W.nth n) 0
    exec (.powerDeliveryStop n) s = .next ((t.setOState n .stopping).respondNow n 14 0).done) ∧
  (∀ (s : State) (n : Fin 4),
    let r := s.noteReq n 15
    s.linkMine = true → s.stagesRun = true → s.v2gDue n 15 = true → r.ostate n = .release →
    exec (.weldingDetection n) s = .next (r.respondNow n 15 0).done) ∧
  (∀ (s : State) (n : Fin 4), s.linkMine = true → s.stagesRun = true → s.v2gDue n 16 = true →
    exec (.sessionStop n) s = .next (((s.noteReq n 16).respond n 16 0 []).sessEnd n 0).done) ∧
  (∀ (s : State) (n : Fin 4) (m len : Nat), s.linkMine = true → s.stagesRun = true → s.v2gUp n = true →
    exec (.v2gUnexpectedReq n m len true) s = .next
      (((s.respond n m 2 []).ev E.VDE_BAD_MESSAGE n [2, len]).sessEnd n E.VDE_BAD_MESSAGE.code16).done) ∧
  (∀ (s : State) (n : Fin 4) (m len : Nat), s.linkMine = true → s.stagesRun = true → s.v2gUp n = true →
    exec (.v2gUnexpectedReq n m len false) s = .next
      (((s.respond n m 2 []).ev E.VDE_SEQUENCE_ERROR n [m, (s.ostate n).code]).sessEnd n E.VDE_SEQUENCE_ERROR.code16).done) ∧
  (∀ (s : State) (n : Fin 4), s.vdeOwn n = true → (s.ctx n).session = true → s.ostate n = .session → s.stagesRun = true →
    exec (.seqTimeout n) s = .next
      ((s.ev E.VDE_SEQ_TIMEOUT n [s.ctxStep n, OState.session.code]).sessEnd n E.VDE_SEQ_TIMEOUT.code16).done) ∧
  (∀ (s : State) (n : Fin 4), s.vdeOwn n = true → (s.ctx n).session = true → s.ostate n = .energy → s.stagesRun = true →
    let t := (s.ev E.VDE_LOOP_TIMEOUT n [s.since (s.ctx n).reqTick / ticksMs]).sessEnd n E.VDE_LOOP_TIMEOUT.code16
    exec (.loopTimeout n) s = .next ((t.tripOut n 8).faultRamp n).done) ∧
  (∀ (s : State) (n : Fin 4), s.reaches 0x21 (0x104 + n * 0x40) = true → s.vdeOwn n = true → (s.ctx n).session = true → s.stopped n = false →
    let t := s.modCtx n fun c => { c with stopAsked := true }
    exec (.ctxStop n) s = .next (t.ev E.VDE_HOST_STOP n [(s.ostate n).code]).done) ∧
  (∀ (s : State) (n : Fin 4), s.vdeOwn n = true → (s.ctx n).stopAsked = true → (s.ctx n).session = true →
    exec (.hostStopTimeout n) s = .next (s.sessEnd n E.VDE_HOST_STOP.code16).done)

/-- The safety inputs: demand and its end show and are judged for SF1, a fault is recorded once, a pair that disagrees faults both,
the test outputs pulse (R335 to R337). The trips of an outlet: each function latches with its own reaction, gates cut or fault
ramp, and the coils are off at the deadline, which waits through HANDOVER (R330, R338, R370, R393). -/
def Obligations.SafetyInputs : Prop :=
  (∀ (s : State) (k : Fin 8), s.safetyRuns = true →
    exec (.sinDemand k) s = .next
      (((((s.modSafe fun v => { v with sinDemand := setBitOf v.sinDemand k true }).setBit F.SAFE_SIN_STAT_DEMAND k true).judgePair k).judgeSf1).done)) ∧
  (∀ (s : State) (k : Fin 8), s.safetyRuns = true →
    exec (.sinDemandEnd k) s = .next
      (((((s.modSafe fun v => { v with sinDemand := setBitOf v.sinDemand k false }).setBit F.SAFE_SIN_STAT_DEMAND k false).judgePair k).judgeSf1).done)) ∧
  (∀ (s : State) (k : Fin 8), s.safetyRuns = true → s.get (F.SAFE_SIN_CFG_TEST.nth k) ≠ 0 → s.mode ≠ .mirror →
    (k.val % 2 == 1 && s.sinPaired k && s.on (F.SAFE_SIN_CFG_ANTI.nth (k.val - 1))) = false →
    exec (.sinFault k true) s = .next (s.sinFault [k] 2).done ∧ exec (.sinFault k false) s = .next (s.sinFault [k] 1).done) ∧
  (∀ (s : State) (p : Fin 4), s.safetyRuns = true → s.sinPaired (2 * p) = true →
    exec (.sinPairFault p) s = .next (s.sinFault [2 * p.val, 2 * p.val + 1] 3).done) ∧
  (∀ (s : State) (i : Fin 2), s.safetyRuns = true → s.exclusive = true →
    exec (.stpPulse i) s = .next ((s.emit (.stp i false)).emit (.stp i true)).done) ∧
  (∀ (s : State) (n : Fin 4), s.safetyRuns = true → s.hasOutlet n = true →
    exec (.sf2GateCut n) s = .next ((s.tripOut n 2).gateCutOutlet n).done) ∧
  (∀ (s : State) (n : Fin 4), s.safetyRuns = true → s.hasOutlet n = true → s.charging n = true → s.get (F.VDE_CTX_EV_VMAX_MV.nth n) ≠ 0 →
    exec (.sf3Trip n) s = .next ((s.tripOut n 3).gateCutOutlet n).done) ∧
  (∀ (s : State) (n : Fin 4), s.get (F.VDE_CTX_EV_VMAX_MV.nth n) = 0 → exec (.sf3Trip n) s = .next s.done) ∧
  (∀ (s : State) (n : Fin 4), s.safetyRuns = true → s.hasOutlet n = true →
    exec (.sf6Trip n) s = .next ((s.tripOut n 6).faultRamp n).done) ∧
  (∀ (s : State) (n : Fin 4), s.safetyRuns = true → s.hasOutlet n = true → s.ostate n = .energy →
    exec (.sf10Trip n) s = .next ((s.tripOut n 10).gateCutOutlet n).done) ∧
  (∀ (s : State) (n : Fin 4), s.safetyRuns = true → s.hasOutlet n = true → s.ostate n = .release → 60000 ≤ s.vc n →
    exec (.sf11Trip n) s = .next ((s.tripOut n 11).setOState n .fault).done) ∧
  (∀ (s : State) (n : Fin 4), s.mode ≠ .handover → (s.outSt n).coilDue ≠ .none →
    exec (.coilOffDeadline n.castSucc) s = .next ((s.outletCoilsOff n).modOut n fun o => { o with coilDue := .none }).done) ∧
  (∀ (s : State), s.mode ≠ .handover → s.safe.nodeCoilDue = true →
    exec (.coilOffDeadline 4) s = .next ((s.cutMatrix.each (List.range 60) fun i s => s.setCoil i false).modSafe fun v => { v with nodeCoilDue := false }).done) ∧
  (∀ (s : State) (k : Fin 5), s.mode = .handover →
    exec (.coilOffDeadline k) s = .next ({ s with mir := { s.mir with coilHeld := setBitOf s.mir.coilHeld k true } } : State).done)

/-- The contactors and the insulation monitor: a weld and a dropout are recorded with their reactions, the weld check ends in
release, the discharge ends, the monitor's verdicts are judged (R339, R342 to R345, R350). -/
def Obligations.ContactorsAndInsulation : Prop :=
  (∀ (s : State) (i : Fin 60), s.safetyRuns = true → s.monitored i = true → s.coilOn i = false → s.safe.weldedSince.testBit i = false →
    exec (.sf5Weld i) s = .next ((s.setFb i true).weld i).done) ∧
  (∀ (s : State) (i : Fin 60),
    let n := if i.val < 56 then (i.val - 48) / 2 else i.val - 56
    let t := ((s.setFb i false).modSafe fun v => { v with travelled := setBitOf v.travelled i false }).ev E.SAFE_FB_MISMATCH 0 [i, 1, 0]
    s.safetyRuns = true → s.monitored i = true → s.coilOn i = true → s.safe.travelled.testBit i = true → 48 ≤ i.val →
    exec (.fbDropout i) s = .next ((t.latchSrc n 5).gateCutOutlet n).done) ∧
  (∀ (s : State) (n : Fin 4), s.hasOutlet n = true → s.stagesRun = true → s.ostate n = .weldcheck → s.fbClosed (mainPos n) = false →
    s.fbClosed (mainNeg n) = false → s.welded (mainPos n) = false → s.welded (mainNeg n) = false → s.welded (prechargeCoil n) = false →
    exec (.weldcheckJudged n) s = .next (s.enterRelease n).done) ∧
  (∀ (s : State) (n : Fin 4), s.hasOutlet n = true → s.bit (F.SAFE_OUT_TRIP_ACTIVE.nth n) 10 = false →
    exec (.dischargeDone n) s = .next (s.setDisch n false).done) ∧
  (∀ (s : State) (n : Fin 4), s.safetyRuns = true → s.hasOutlet n = true → (s.outSt n).imdFault = false →
    exec (.imdFault n) s = .next
      ((((s.modOut n fun o => { o with imdFault := true }).setB (F.SAFE_OUT_IMD_OK.nth n) false).judgeImd n (s.imdGood n))).done) ∧
  (∀ (s : State) (n : Fin 4), s.safetyRuns = true → s.hasOutlet n = true → (s.outSt n).imdPwmLost = false → s.bit F.SAFE_IMD_CFG_PWM_EN n = false →
    exec (.imdPwmLost n) s = .next
      ((((s.modOut n fun o => { o with imdPwmLost := true }).set (F.SAFE_OUT_IMD_FREQ.nth n) 0).set (F.SAFE_OUT_IMD_DUTY.nth n) 0).judgeImd n (s.imdGood n)).done) ∧
  (∀ (s : State) (n : Fin 4) (f d : Nat), s.safetyRuns = true → s.hasOutlet n = true →
    exec (.imdVerdictGood n true f d) s = .next
      ((((s.modOut n fun o => { o with imdPwmLost := false }).set (F.SAFE_OUT_IMD_FREQ.nth n) f).set (F.SAFE_OUT_IMD_DUTY.nth n) d).judgeImd n false).done) ∧
  (∀ (s : State) (n : Fin 4) (f d : Nat), s.safetyRuns = true → s.hasOutlet n = true →
    exec (.imdVerdictGood n false f d) s = .next
      (((s.modOut n fun o => { o with imdFault := false }).setB (F.SAFE_OUT_IMD_OK.nth n) true).judgeImd n false).done)

/-- The diagnostics, the clears of an outlet's fault, the restart from SAFE_HOLD and the degraded service (R342, R346 to R349,
R351). -/
def Obligations.FaultsCleared : Prop :=
  (∀ (s : State) (us : Nat), s.safetyRuns = true →
    exec (.diagInterval us none none 0 0) s = .next
      ((s.inc F.DIAG_CYCLE_COUNT).set F.DIAG_CYCLE_MAX_US (max (s.get F.DIAG_CYCLE_MAX_US) us)).done) ∧
  (∀ (s : State) (us a : Nat), s.safetyRuns = true →
    let t := (s.inc F.DIAG_CYCLE_COUNT).set F.DIAG_CYCLE_MAX_US (max (s.get F.DIAG_CYCLE_MAX_US) us)
    exec (.diagInterval us none (some a) 0 0) s = .next
      (((t.incSat F.DIAG_SRAM_ECC_CORR).set F.DIAG_SRAM_ADDR_ADDR a).ev E.DIAG_SRAM_CORRECTED 0 [a]).done) ∧
  (∀ (s : State) (us : Nat), s.safetyRuns = true →
    exec (.cycleOverrun us) s = .next
      (((s.set F.DIAG_CYCLE_MAX_US (max (s.get F.DIAG_CYCLE_MAX_US) us)).ev E.DIAG_CYCLE_OVERRUN 0 [us]).testFail 16).done) ∧
  (∀ (s : State) (v : Word), s.reaches 0x28 0x094 = true →
    exec (.safeClr v) s = .next (s.each (s.outlets.filter fun n => v.toNat.testBit n) fun n s => s.hostClear n).done) ∧
  (∀ (s : State) (n : Fin 4),
    let t := s.refreshActive n
    s.hasOutlet n = true → s.combined n = 0 → t.get (F.SAFE_OUT_TRIP_LATCHED.nth n) = 0 → t.bit (F.SAFE_OUT_TRIP_LATCHED.nth n) 2 = false →
    t.bit (F.SAFE_OUT_TRIP_LATCHED.nth n) 5 = false → t.bit (F.SAFE_OUT_TRIP_LATCHED.nth n) 6 = false → t.bit (F.SAFE_OUT_TRIP_LATCHED.nth n) 7 = false →
    (t.outSt n).src.testBit 0 = true →
    exec (.unplugClear n) s = .next ((t.unlatchSrc n 0).leaveFault n).done) ∧
  (∀ (s : State) (n : Fin 4), s.hasOutlet n = true → s.ostate n = .fault → s.get (F.SAFE_OUT_TRIP_LATCHED.nth n) = 0 → (s.outSt n).src = 0 →
    let u := s.fbAllOpen n
    u.mayLeaveFault n = true → u.stagesRun = true →
    let t := (u.ev E.SAFE_CLEARED 0 [n, (u.outSt n).clearedFn]).modOut n fun o => { o with clearedFn := 0 }
    t.combined n = 0 → exec (.leaveOutFault n) s = .next (t.toIdle n).done) ∧
  (∀ (s : State) (n : Fin 4), s.hasOutlet n = true → s.ostate n = .fault → s.get (F.SAFE_OUT_TRIP_LATCHED.nth n) ≠ 0 → s.mayLeaveFault n = false →
    exec (.leaveOutFault n) s = .next s.done) ∧
  (∀ (s : State) (n : Fin 4) (v live : Word), s.reaches (0x0A + n) F.OUTLET_FB_STAT_LOST_V.off = true → s.hasOutlet n = true → s.ostate n = .fault →
    exec (.fbStatClear n v live) s = .next
      (((s.modOut n fun o => { o with fbLive := bits live.toNat 7 7 + 2 * bits live.toNat 6 6 }).each fbStatFlags fun f s => s.when (v.toNat.testBit f.lo && !live.toNat.testBit f.lo) fun s => s.setB (f.inst n) false).leaveFault n).done) ∧
  (∀ (s : State) (v : Word),
    let t := s.each (List.range 32) fun b s => s.when (v.toNat.testBit b && s.welded b && !s.fbClosed b) fun s => s.setWeld b false
    s.reaches 0x28 0x088 = true → s.pwdOpen = true → s.clogFull = false →
    exec (.weldClear false v) s = .next (t.rwpLogged 0x28 0x088 (s.regWord 0x28 0x088) (t.regWord 0x28 0x088)).done) ∧
  (∀ (s : State) (v : Word), s.reaches 0x28 0x08C = true → s.pwdOpen = false →
    exec (.weldClear true v) s = .next (s.errC .writeNeedsPassword 0x28 [0x08C]).done) ∧
  (∀ (s : State), s.reaches 0x28 0x090 = true → s.mode = .safeHold → s.clearInputFaults.restartBar = none →
    exec (.safeRestart 0xC3A5#32) s = .next (s.clearInputFaults.modSafe fun v => { v with restarting := true }).done) ∧
  (∀ (s : State) (c : Nat), s.reaches 0x28 0x090 = true → s.mode = .safeHold → s.clearInputFaults.restartBar = some c →
    exec (.safeRestart 0xC3A5#32) s = .next (s.clearInputFaults.err E.SAFE_RESTART_REFUSED 0 [c]).done) ∧
  (∀ (s : State), s.safe.restarting = true → s.mode = .safeHold →
    let t := s.modSafe fun v => { v with restarting := false }
    t.restartBar = none → exec (.safeRestartDone 0) s = .next t.leaveHold.done) ∧
  (∀ (s : State) (n : Fin 4), s.safetyRuns = true → s.hasOutlet n = true → s.degraded n = true → (s.outSt n).src.testBit 6 = false →
    let t := s.ev E.SAFE_DEGRADED_EXPIRED 0 [n]
    (t.outlets.all fun m => t.degraded m) = false →
    exec (.degradedExpired n) s = .next (((t.latchSrc n 6).faultRamp n).refreshMode).done) ∧
  (∀ (s : State) (n : Fin 4), s.hasOutlet n = true → s.degraded n = false →
    exec (.degradedTimerReset n) s = .next ((s.modOut n fun o => { o with degTicks := 0 }).refreshDegStat).done)

/-- The safe channel: a unit is sent with its number and counted on, a received one is checked, silence faults the connection, an
acknowledgement opens it again, the timing is guarded by the password (R353 to R360, R50). What a received unit of the safe
channel meets: a wrong CRC, a number out of the window and an old stamp are recorded and counted, a good one is accepted (R356). -/
def Obligations.SafeChannel : Prop :=
  (∀ (s : State) (c : Fin 16),
    let t := (s.setConn c { s.conn c with next := ((s.conn c).next + 1) % 65536 }).set (F.GSC_CSEQ_TX.nth c) (s.conn c).next
    s.on (F.GSC_CCFG_EN.nth c) = true → s.cstate c ≠ 0 → s.mode ≠ .mirror → t.on (F.GSC_CCFG_HOST.nth c) = false →
    exec (.gscTx c) s = .next (t.galeshSend 0x40 (t.get (F.GSC_CPEER_ADDRESS.nth c)) (s.gscUnit c)).done) ∧
  (∀ (s : State) (c : Fin 16), s.on (F.GSC_CCFG_EN.nth c) = false → exec (.gscTx c) s = .next s.done) ∧
  (∀ (s : State) (src : Nat) (p : List Nat) (c : Nat), s.galeshIn = true → p.length = 20 → p.getD 0 0 = 1 →
    ((List.range 16).find? fun c => s.cstate c != 0 && !s.on (F.GSC_CCFG_HOST.nth c) && s.get (F.GSC_CPEER_ADDRESS.nth c) == src &&
      s.get (F.GSC_CCFG_TAG.nth c) == p.getD 1 0) = some c →
    exec (.gscRx src p) s = .next (s.gscCheck c p).done) ∧
  (∀ (s : State) (c : Fin 16), s.gscFresh c = true → exec (.gscWatchdog c) s = .next s.done) ∧
  (∀ (s : State) (c : Fin 16), s.cstate c = 2 → s.mode ≠ .mirror → s.gscFresh c = false →
    exec (.gscWatchdog c) s = .next ((s.ev E.GSC_TIMEOUT 0 [c, s.since (s.conn c).rxTick / ticksMs]).gscFault c).done) ∧
  (∀ (s : State) (c : Fin 16) (v : Word), s.reaches 0x29 (0x114 + 64 * c) = true → v.toNat.testBit 0 = true → s.cstate c = 3 →
    (s.conn c).safeTick = none →
    let t := ((s.setConn c { s.conn c with restart := true }).setCstate c 1).ev E.GSC_ACKED 0 [c]
    exec (.gscAck c v) s = .next (t.gscActions.each t.outlets fun n s =>
      s.when (s.bit (F.SAFE_OUT_TRIP_LATCHED.nth n) 8 && !s.causeOn n 9) fun s => (s.unlatchFn n 9).leaveFault n).done) ∧
  (∀ (s : State) (v : Word),
    let c := v.toNat % 16
    let p := (List.range 5).flatMap fun i => beBytes 4 (s.get (F.GSC_HOST_RX_PDU.nth i))
    s.reaches 0x29 0x074 = true → v.toNat.testBit 31 = true → s.cstate c ≠ 0 → s.on (F.GSC_CCFG_HOST.nth c) = true →
    s.get (F.GSC_CCFG_TAG.nth c) = p.getD 1 0 → exec (.gscHostRxGo v) s = .next (s.gscCheck c p).done) ∧
  (∀ (s : State) (c : Fin 16) (v : Word),
    let t := (((s.set (F.GSC_CTIME_WD_MS.nth c) (bits v.toNat 31 16)).set (F.GSC_CTIME_PERIOD_MS.nth c) (bits v.toNat 15 8)).set
      (F.GSC_CTIME_AGE_MS.nth c) (bits v.toNat 7 0)).refreshCfgCrc
    s.reaches 0x29 (0x10C + 64 * c.val) = true → s.pwdOpen = true → s.clogFull = false → 2 * bits v.toNat 15 8 + 2 ≤ bits v.toNat 31 16 →
    exec (.gscCtimeWrite c v) s = .next
      (t.rwpLogged 0x29 (0x10C + 64 * c.val) (s.regWord 0x29 (0x10C + 64 * c.val)) (t.regWord 0x29 (0x10C + 64 * c.val))).done) ∧
  (∀ (s : State) (c : Fin 16) (v : Word), s.reaches 0x29 (0x10C + 64 * c.val) = true → s.pwdOpen = true → s.clogFull = false →
    bits v.toNat 31 16 < 2 * bits v.toNat 15 8 + 2 →
    exec (.gscCtimeWrite c v) s = .next (s.err E.GSC_BAD_TIMING 0 [c]).done) ∧
  (∀ (s : State) (c : Fin 16) (v : Word), s.reaches 0x29 (0x10C + 64 * c.val) = true → s.pwdOpen = false →
    exec (.gscCtimeWrite c v) s = .next (s.errC .writeNeedsPassword 0x29 [0x10C + 64 * c.val]).done) ∧
  (∀ (s : State) (c : Nat) (p : List Nat), gscCrc (s.get (F.GSC_CID_ID.nth c)) p ≠ ofBe (slice p 16 4) →
    s.gscCheck c p = (s.ev E.GSC_CRC_ERROR 0 [c]).gscBad c) ∧
  (∀ (s : State) (c : Nat) (p : List Nat),
    let seq := ofBe (slice p 4 2)
    let gap := (seq + 65536 - s.get (F.GSC_CSEQ_RX.nth c)) % 65536
    gscCrc (s.get (F.GSC_CID_ID.nth c)) p = ofBe (slice p 16 4) → (p.getD 2 0).testBit 1 = false → (gap = 0 ∨ s.get (F.GSC_CCFG_MAX_GAP.nth c) < gap) →
    s.gscCheck c p = (s.ev E.GSC_SEQ_ERROR 0 [c, seq]).gscBad c) ∧
  (∀ (s : State) (c : Nat) (p : List Nat),
    let seq := ofBe (slice p 4 2)
    let gap := (seq + 65536 - s.get (F.GSC_CSEQ_RX.nth c)) % 65536
    let age := (s.gscStamp + 2 ^ 32 - ofBe (slice p 6 4)) % 2 ^ 32
    gscCrc (s.get (F.GSC_CID_ID.nth c)) p = ofBe (slice p 16 4) → (p.getD 2 0).testBit 1 = false → 1 ≤ gap → gap ≤ s.get (F.GSC_CCFG_MAX_GAP.nth c) →
    s.on (F.GSC_CCFG_AGE_EN.nth c) = false → s.gscCheck c p = s.gscAccept c p seq age) ∧
  (∀ (s : State) (c : Nat) (p : List Nat),
    let seq := ofBe (slice p 4 2)
    let gap := (seq + 65536 - s.get (F.GSC_CSEQ_RX.nth c)) % 65536
    let age := (s.gscStamp + 2 ^ 32 - ofBe (slice p 6 4)) % 2 ^ 32
    gscCrc (s.get (F.GSC_CID_ID.nth c)) p = ofBe (slice p 16 4) → (p.getD 2 0).testBit 1 = false → 1 ≤ gap → gap ≤ s.get (F.GSC_CCFG_MAX_GAP.nth c) →
    s.on (F.GSC_CCFG_AGE_EN.nth c) = true → (s.get (F.GSC_CTIME_AGE_MS.nth c) * 1000 < age ∨ s.on F.TIME_SYNC_STATE_SYNC_OK = false) →
    s.gscCheck c p = (s.ev E.GSC_AGE_ERROR 0 [c, age]).gscBad c) ∧
  (∀ (s : State) (c : Nat) (p : List Nat),
    let seq := ofBe (slice p 4 2)
    let gap := (seq + 65536 - s.get (F.GSC_CSEQ_RX.nth c)) % 65536
    let age := (s.gscStamp + 2 ^ 32 - ofBe (slice p 6 4)) % 2 ^ 32
    gscCrc (s.get (F.GSC_CID_ID.nth c)) p = ofBe (slice p 16 4) → (p.getD 2 0).testBit 1 = false → 1 ≤ gap → gap ≤ s.get (F.GSC_CCFG_MAX_GAP.nth c) →
    age ≤ s.get (F.GSC_CTIME_AGE_MS.nth c) * 1000 → s.on F.TIME_SYNC_STATE_SYNC_OK = true → s.gscCheck c p = s.gscAccept c p seq age) ∧
  (∀ (s : State) (c : Nat) (p : List Nat), gscCrc (s.get (F.GSC_CID_ID.nth c)) p = ofBe (slice p 16 4) → (p.getD 2 0).testBit 1 = true →
    s.cstate c = 2 → s.gscCheck c p = (s.gscBad c).gscFault c)

/-- The passwords: the right one opens and is recorded, three wrong ones lock for ten minutes, a close and a change are recorded,
the seal needs SEAL_N and closes with it (R48, R49, R361 to R365). -/
def Obligations.Passwords : Prop :=
  (∀ (s : State) (len : Fin 64) (stored : List Nat), s.reaches 0x03 0x060 = true → pwdFormat len (s.pwdChars len) = true → s.lockOf 0 = none →
    1 ≤ s.clogFree → s.pwOf 0 = some stored → pwdMatches stored (s.pwdChars len) = true →
    let t := (s.setFails 0 0).ev E.SEAL_PWD_ACCEPTED 0 [0]
    let u := (t.clogAppend 3 7 0 0 0).setB F.SEAL_PWD_STAT_PWD_OPEN true
    exec (.pwdEnterSafety len) s = .next ((u.modProt fun p => { p with rwpTick := t.ticks }).refreshPwd 0).done) ∧
  (∀ (s : State) (len : Fin 64) (stored : List Nat), s.reaches 0x03 0x060 = true → pwdFormat len (s.pwdChars len) = true → s.lockOf 0 = none →
    1 ≤ s.clogFree → s.pwOf 0 = some stored → pwdMatches stored (s.pwdChars len) = false → s.failsOf 0 = 2 →
    let t := (s.setFails 0 3).ev E.SEAL_PWD_REFUSED 0 [0, 3]
    exec (.pwdEnterSafety len) s = .next (((t.setLock 0 (some t.ticks)).ev E.SEAL_PWD_LOCKOUT 0 [0]).refreshPwd 0).done) ∧
  (∀ (s : State) (len : Fin 64), s.reaches 0x03 0x060 = true → pwdFormat len (s.pwdChars len) = false →
    exec (.pwdEnterSafety len) s = .next (s.err E.SEAL_PWD_FORMAT 0 [1, len]).done) ∧
  (∀ (s : State) (len : Fin 64) (stored : List Nat),
    let a := s.seeSealN true
    s.reaches 0x03 0x060 = true → pwdFormat len (a.pwdChars len) = true → a.lockOf 1 = none →
    (if (!a.sealOpen) = true then 2 else 1) ≤ a.clogFree → a.pwOf 1 = some stored → pwdMatches stored (a.pwdChars len) = true →
    exec (.pwdEnterSeal len true) s = .next ((((a.setFails 1 0).ev E.SEAL_PWD_ACCEPTED 0 [1]).openSeal).refreshPwd 1).done) ∧
  (∀ (s : State) (len : Fin 64), s.reaches 0x03 0x060 = true → exec (.pwdEnterSeal len false) s = .next (s.seeSealN false).done) ∧
  (∀ s : State, s.reaches 0x03 0x060 = true → exec .pwdCloseSafety s = .next (s.setB F.SEAL_PWD_STAT_PWD_OPEN false).done) ∧
  (∀ s : State, s.reaches 0x03 0x060 = true → exec .pwdCloseSeal s = .next s.closeSeal.done) ∧
  (∀ (s : State) (len : Fin 64), s.reaches 0x03 0x060 = true → pwdFormat len (s.pwdChars len) = true → s.pwdOpen = true → 1 ≤ s.clogFree →
    exec (.pwdChangeSafety len) s = .next
      ((((s.pwdStore 0 (s.pwdChars len)).clogAppend 3 4 0 0 0).ev E.SEAL_PWD_CHANGED 0 [0]).refreshPwd 0).done) ∧
  (∀ (s : State) (len : Fin 64),
    let a := s.seeSealN true
    s.reaches 0x03 0x060 = true → pwdFormat len (a.pwdChars len) = true → a.sealOpen = true → 1 ≤ a.clogFree →
    exec (.pwdChangeSeal len true) s = .next
      ((((a.pwdStore 1 (a.pwdChars len)).clogAppend 3 4 1 0 0).ev E.SEAL_PWD_CHANGED 0 [1]).refreshPwd 1).done) ∧
  (∀ (s : State) (isSeal : Bool),
    exec (.pwdLockoutEnd isSeal) s = .next ((s.setLock (if isSeal then 1 else 0) none).refreshLock).done) ∧
  (∀ s : State, s.pwdOpen = true → exec .pwdIdleTimeout s = .next (s.setB F.SEAL_PWD_STAT_PWD_OPEN false).done) ∧
  (∀ s : State, exec .sealNRelease s = .next
    (((s.modProt fun p => { p with sealN := false }).setB F.SEAL_PWD_STAT_SEAL_N false).closeSeal).done)

/-- The pair: heartbeats, the lane, the frames of the Mirror, and the request to fail (R376, R377, R383 to R385, R391, R392, R398). -/
def Obligations.MirrorLane : Prop :=
  (∀ s : State, s.paired = true →
    exec .partnerHbLost s = .next
      ((((s.setB F.MIR_STATUS_PARTNER_HB_OK false).when s.selected fun s => s.setB F.MIR_STATUS_PARTNER_ABSENT true)).ev
        E.MIR_PARTNER_HB_LOST 0 [s.role]).done) ∧
  (∀ s : State, s.paired = true →
    exec .partnerHbOk s = .next (((s.setB F.MIR_STATUS_PARTNER_HB_OK true).partnerBack).ev E.MIR_PARTNER_HB_OK 0 []).done) ∧
  (∀ s : State, s.reaches 0x2A 0x008 = true →
    exec .mirFail s = .next (s.modMir fun m => { m with failAsked := true }).done ∧
    exec .mirUnfail s = .next (s.modMir fun m => { m with failAsked := false }).done) ∧
  (∀ (s : State) (variant c m p : Nat) (crc : Word) (same : Bool),
    let a := ((s.setB F.MIR_STATUS_ALIGNED true).setB F.MIR_STATUS_LANE_UP true).ev E.MIR_ALIGNED 0 []
    let b := ((a.set F.MIR_PARTNER_VARIANT variant).set F.MIR_PARTNER_CTL_STEP c).partnerBack
    let d := b.modMir fun m => { m with matched := true, goodRun := 0, last := [] }
    s.paired = true → s.hostOpen = true → b.laneMismatch variant c m p crc.toNat same = none →
    (d.mode == .configure) = true → d.mir.waitAlign = true → d.selected = false →
    exec (.mirrorAligned variant c m p crc same) s = .next ((d.modMir fun m => { m with waitAlign := false }).setMode .mirror 7).done) ∧
  (∀ (s : State) (variant c m p : Nat) (crc : Word) (same : Bool) (x : Nat × Nat × Nat),
    let a := ((s.setB F.MIR_STATUS_ALIGNED true).setB F.MIR_STATUS_LANE_UP true).ev E.MIR_ALIGNED 0 []
    let b := ((a.set F.MIR_PARTNER_VARIANT variant).set F.MIR_PARTNER_CTL_STEP c).partnerBack
    s.paired = true → s.hostOpen = true → b.laneMismatch variant c m p crc.toNat same = some x → b.selected = false →
    exec (.mirrorAligned variant c m p crc same) s = .next
      ((b.modMir fun m => { m with matched := false }).ev E.MIR_CONFIG_MISMATCH 0 [x.1, x.2.1, x.2.2]).done) ∧
  (∀ s : State,
    let t := (((s.setB F.MIR_STATUS_ALIGNED false).setB F.MIR_STATUS_LANE_UP false).imageLost).modMir fun m => { m with matched := false }
    s.paired = true → s.on F.MIR_STATUS_ALIGNED = true →
    exec .mirrorLaneLost s = .next ((t.when t.selected fun s => s.setB F.MIR_STATUS_PARTNER_ABSENT true).ev E.MIR_LANE_LOST 0
      [t.role]).releaseMirror.done) ∧
  (∀ s : State,
    let t := s.inc F.MIR_SEQ_TX_SEQ
    let j := t.mir.sliceNo
    s.paired = true → s.selected = true → s.on F.MIR_STATUS_ALIGNED = true → s.hostOpen = true → s.mode ≠ .mirror →
    t.ownFail = false →
    exec .mirrorFrameTx s = .next ((t.modMir fun m => { m with last := t.imageOf, sliceNo := (j + 1) % 100, reqs := [] }).emit
      (.mirror ⟨t.get F.MIR_SEQ_TX_SEQ, t.ticks, imageDelta t.mir.last t.imageOf ++
        (.slice j :: t.imageOf.filter fun r => mirIdx r % 100 == j) ++ t.mir.reqs.map fun r => .req r.1 r.2, true⟩)).releaseMirror.done) ∧
  (∀ s : State, s.releaseMirror = ({ s with mir := { s.mir with held := [] } } : State).each s.mir.held fun h t => t.sendHeld h) ∧
  (∀ s : State,
    let t := s.inc F.MIR_SEQ_TX_SEQ
    s.paired = true → s.selected = true → s.on F.MIR_STATUS_ALIGNED = true → s.hostOpen = true → s.mode ≠ .mirror →
    t.ownFail = true →
    exec .mirrorFrameTx s = .next (t.emit (.mirror ⟨t.get F.MIR_SEQ_TX_SEQ, t.ticks, [], true⟩)).releaseMirror.done) ∧
  (∀ (s : State) (f : MirFrame), s.paired = true → s.on F.MIR_STATUS_ALIGNED = true → s.mir.matched = true → s.mode = .mirror → f.crcOk = true →
    exec (.mirrorFrameRx f) s = .next (s.mirrorRx f).done) ∧
  (∀ (s : State) (f : MirFrame), s.paired = true → s.on F.MIR_STATUS_ALIGNED = true → s.mir.matched = true → s.mode = .mirror → f.crcOk = false →
    exec (.mirrorFrameRx f) s = .next ((s.incSat F.MIR_LANE_ERR_CRC).imageGap 1).done) ∧
  (∀ s : State, s.paired = true → s.on F.MIR_STATUS_ALIGNED = true → s.mode = .mirror →
    exec (.mirrorStatusFrame none) s = .next
      (s.emit (.mirStatus ⟨s.get F.SYS_MODE_CURRENT, !s.failNow, s.get F.MIR_SEQ_RX_SEQ, s.get F.SAFE_NODE_TRIP_ACTIVE,
        (List.range 4).map fun n => (s.get (F.SAFE_OUT_TRIP_ACTIVE.nth n)).lor (mget 0 s.mir.ownTrips n)⟩)).done) ∧
  (∀ (s : State) (p : MirStatus), s.paired = true → s.on F.MIR_STATUS_ALIGNED = true → s.selected = true →
    exec (.mirrorStatusFrame (some p)) s = .next (s.mirrorStatus p).done)

/-- The switchover: the selection starts HANDOVER on the standby, waits through VAULT, ends it, and its loss ends the service; a
pulse too short is counted and only drops the running pulses (R374, R387, R394 to R397). The pair arbiter: a unit's change is
judged, the output moves to the healthy unit, a pair is enabled at the level read on its ball, a forced selection is guarded by
the password (R376, R379 to R381). -/
def Obligations.Switchover : Prop :=
  (∀ s : State, s.paired = true → (s.setSelected true).mode = .mirror →
    exec .handoverStart s = .next ((((s.setSelected true).setMode .handover 18).ev E.MIR_HANDOVER_START 0
      [((s.setSelected true).get F.MIR_SEQ_RX_SEQ)])).done) ∧
  (∀ s : State, s.paired = true → (s.setSelected true).mode = .vault → ((s.setSelected true).sys.vaultFrom == .mirror) = true →
    exec .handoverStart s = .next ((s.setSelected true).modMir fun m => { m with selDue := true }).done) ∧
  (∀ (s : State) (gap hand : Nat), s.mode = .handover →
    exec (.handoverDone gap hand) s = .next (s.endHandover gap hand).done) ∧
  (∀ s : State, s.paired = true → s.selected = true → (((s.tpoBalls false).setSelected false).modMir fun m => { m with held := [] }).mode = .ready →
    let t := ((s.tpoBalls false).setSelected false).modMir fun m => { m with held := [] }
    exec .deselected s = .next (((((t.imageLost).modMir fun m => { m with coilHeld := 0 }).setMode .mirror 20).ev E.MIR_DESELECTED 0
      [t.get F.SYS_MODE_CURRENT]).refreshPilots).done) ∧
  (∀ (s : State) (w : Nat),
    let t := (s.inc F.MIR_GLITCH_COUNT).ev E.MIR_SEL_GLITCH 0 [w]
    s.paired = true → w < 1000 → t.selected = true → t.exclusive = true →
    exec (.selGlitch w) s = .next t.blink.done) ∧
  (∀ (s : State) (w : Nat),
    let t := (s.inc F.MIR_GLITCH_COUNT).ev E.MIR_SEL_GLITCH 0 [w]
    s.paired = true → w < 1000 → t.selected = false → exec (.selGlitch w) s = .next t.done) ∧
  (∀ (s : State) (k : Fin 4),
    let t := s.setArbUnit k false { s.arbUnit k false with hb := true, low := true, since := none }
    let u := (t.setB (F.PAIRARB_PAIR_STAT_A_HB_OK.nth k) true).setB (F.PAIRARB_PAIR_STAT_A_FAIL.nth k) true
    (s.arbUnit k false).failed = false → u.arbOn k = true → ((u.ev E.PAIRARB_UNIT_FAILED 0 [k, 1, 2]).arbUnit k true).failed = false →
    (u.arbUnit k true).failed = false →
    exec (.arbUnitStateChange k false true true) s = .next ((u.ev E.PAIRARB_UNIT_FAILED 0 [k, 1, 2]).refreshArb k).done) ∧
  (∀ (s : State) (k : Fin 4) (isB hb low : Bool),
    let t := s.setArbUnit k isB { s.arbUnit k isB with hb := hb, low := low, since := none }
    let u := if isB then (t.setB (F.PAIRARB_PAIR_STAT_B_HB_OK.nth k) hb).setB (F.PAIRARB_PAIR_STAT_B_FAIL.nth k) low
      else (t.setB (F.PAIRARB_PAIR_STAT_A_HB_OK.nth k) hb).setB (F.PAIRARB_PAIR_STAT_A_FAIL.nth k) low
    let w := u.ev E.PAIRARB_UNIT_FAILED 0 [k, unitNo isB, if hb then 2 else 1]
    (!hb || low) = true → (s.arbUnit k isB).failed = false → u.arbOn k = true →
    exec (.arbUnitStateChange k isB hb low) s = .next
      ((w.when (u.arbUnit k (!isB)).failed fun s => s.ev E.PAIRARB_BOTH_FAILED 0 [k]).refreshArb k).done) ∧
  (∀ (s : State) (k : Fin 4) (isB : Bool),
    let t := s.setArbUnit k isB { s.arbUnit k isB with hb := true, low := false, since := some s.ticks }
    let u := if isB then (t.setB (F.PAIRARB_PAIR_STAT_B_HB_OK.nth k) true).setB (F.PAIRARB_PAIR_STAT_B_FAIL.nth k) false
      else (t.setB (F.PAIRARB_PAIR_STAT_A_HB_OK.nth k) true).setB (F.PAIRARB_PAIR_STAT_A_FAIL.nth k) false
    (s.arbUnit k isB).failed = true → exec (.arbUnitStateChange k isB true false) s = .next (u.refreshArb k).done) ∧
  (∀ (s : State) (k : Fin 4), s.arbOn k = true → s.arbSelB k = false → (s.arbUnit k false).failed = true → s.arbQualified k true = true →
    exec (.arbSwitch k) s = .next (((s.arbSelect k true).inc (F.PAIRARB_PAIR_COUNT_COUNT.nth k)).ev E.PAIRARB_SWITCHED 0 [k, 2]).done) ∧
  (∀ (s : State) (k : Fin 4) (act : Bool), s.arbOn k = true → s.arbSelB k = act → (s.arbUnit k act).failed = true → s.arbQualified k (!act) = true →
    exec (.arbSwitch k) s = .next (((s.arbSelect k (!act)).inc (F.PAIRARB_PAIR_COUNT_COUNT.nth k)).ev E.PAIRARB_SWITCHED 0 [k, unitNo (!act)]).done) ∧
  (∀ (s : State) (v : Word) (levels : Fin 16), s.reaches 0x45 0x040 = true →
    exec (.pairarbEnable v levels) s = .next
      (((s.set F.PAIRARB_CFG_EN v.toNat).set F.PAIRARB_CFG_HOLDOFF_MS (v.toNat / 2 ^ 16)).each (List.range 4) fun k t =>
        if v.toNat.testBit k && !(s.get F.PAIRARB_CFG_EN).testBit k then t.arbSelect k (!levels.val.testBit k)
        else if !v.toNat.testBit k && (s.get F.PAIRARB_CFG_EN).testBit k then (t.emit (.arb k none)).refreshArb k
        else t.refreshArb k).done) ∧
  (∀ (s : State) (k : Fin 4) (v : Word), s.reaches 0x45 (0x084 + 16 * k.val) = true → s.pwdOpen = false →
    exec (.pairarbForce k v) s = .next (s.errC .writeNeedsPassword 0x45 [0x084 + 16 * k.val]).done)

/-- The load-switch channels: a command of the host drives a free channel and is refused on an owned one, a write with the link lost
is dropped and recorded, the safe-off wire and its release act on all channels (R403 to R407, R420, R421). The protections of
the channels: limiting, overload after blanking, the thermal latch, the cluster's warning, the retries and the rearm (R408 to
R412, R418, R419). -/
def Obligations.LoadSwitchProtection : Prop :=
  (∀ (s : State) (c : Fin 32) (v : Word), s.reaches 0x2B (0x108 + c * 0x10) = true → s.hasLsw c = true → s.get (F.LSW_CH_STAT_OWNER.nth c) = 0 →
    exec (.lswCmdWrite c v) s = .next
      (((s.set (F.LSW_CH_CMD_MODE.nth c) (bits v.toNat 31 30)).set (F.LSW_CH_CMD_DUTY.nth c) (bits v.toNat 13 0)).refreshChan c).done) ∧
  (∀ (s : State) (c : Fin 32) (v : Word), s.reaches 0x2B (0x108 + c * 0x10) = true → s.hasLsw c = true → s.get (F.LSW_CH_STAT_OWNER.nth c) ≠ 0 →
    exec (.lswCmdWrite c v) s = .next (s.err E.LSW_CH_OWNED c [c, s.get (F.LSW_CH_STAT_OWNER.nth c)]).done) ∧
  (∀ (s : State) (off : Nat), s.on F.LSW_STATUS_LINK_LOST = true → s.hostOpen = true → s.hasPage 0x2B = true → (s.mode == .mirror && mirroredReg 0x2B off) = false →
    (dieOf 0x2B == .metrology) = false →
    exec (.lswLinkDownWrite false off) s = .next (s.err E.LSW_LINK_DOWN 0 [off]).done) ∧
  (∀ (s : State) (off : Nat), s.on F.LSW_STATUS_LINK_LOST = true → s.hostOpen = true → s.hasPage 0x2C = true → (s.mode == .mirror && mirroredReg 0x2C off) = false →
    (dieOf 0x2C == .metrology) = false → ((0x2C : Nat) == 0x2B) = false →
    exec (.lswLinkDownWrite true off) s = .next (s.err E.LSX_LINK_DOWN 0 [off]).done) ∧
  (∀ s : State, s.pdie.wire = false →
    exec .safeOff s = .next (({ s with pdie := { s.pdie with wire := true } } : State).ev E.LSW_SAFE_OFF 0 [s.safeCtlMask]).refreshChans.done) ∧
  (∀ s : State, s.pdie.wire = true →
    exec .safeOffRelease s = .next ({ s with pdie := { s.pdie with wire := false } } : State).refreshChans.done) ∧
  (∀ (s : State) (c : Fin 32) (i : Int), s.hasLsw c = true → (s.chan c).on = true →
    exec (.lswLimiting c i) s = .next ((s.setB (F.LSW_CH_STAT_LIMITING.nth c) true).setI (F.LSW_CUR_MA.nth c) i).done) ∧
  (∀ (s : State) (c : Fin 32) (temp : Int),
    let a := (s.modChan c fun v => { v with hot := true }).setI (F.LSW_TEMP_C.nth c) temp
    let b := (a.setB (chLatch c) true).ev E.LSW_THERMAL_SHUTDOWN c [c, ofSigned 32 temp]
    s.hasLsw c = true → (s.chan c).hot = false → a.on (chLatch c) = false → (b.chan c).on = true →
    exec (.lswThermalShutdown c temp) s = .next (b.shutdownChan c).done) ∧
  (∀ (s : State) (c : Fin 32) (temp : Int), s.hasLsw c = true → (s.chan c).hot = true →
    exec (.lswThermalClear c temp) s = .next
      (((s.modChan c fun v => { v with hot := false }).setI (F.LSW_TEMP_C.nth c) temp).tryClearLatch c).done) ∧
  (∀ (s : State) (c : Fin 96), s.hasChan c = true → exec (.lswBlankEnd c) s = .next (s.setB (chBlanking c) false).done) ∧
  (∀ (s : State) (c : Fin 32) (i : Int), s.hasLsw c = true → (s.chan c).on = true → s.on (F.LSW_CH_STAT_LIMITING.nth c) = true →
    s.on (chBlanking c) = false →
    exec (.lswOverload c i) s = .next
      ((((s.setI (F.LSW_CUR_MA.nth c) i).setB (chOverload c) true).ev E.LSW_OVERLOAD c [c, ofSigned 32 i]).shutdownChan c).done) ∧
  (∀ (s : State) (k : Fin 4) (temp : Int),
    let l := (List.range 32).filter fun c => s.hasLsw c && c / 8 == k.val && s.on (F.LSW_CH_STAT_LIMITING.nth c)
    let t := ((s.setBit F.LSW_STATUS_CLUSTER_WARN k true).setI (F.LSW_CLUSTER_TEMP_C.nth k) temp).ev E.LSW_CLUSTER_WARN 0
      [k, ofSigned 32 temp, l.foldl (fun m c => setBitOf m c true) 0]
    s.hasCluster k = true → s.bit F.LSW_STATUS_CLUSTER_WARN k = false →
    exec (.lswClusterWarn k temp) s = .next
      (t.each l fun c s => ((s.modChan c fun v => { v with byCluster := true }).setB (chLatch c) true).shutdownChan c).done) ∧
  (∀ (s : State) (k : Fin 4) (temp : Int),
    let t := ((s.setBit F.LSW_STATUS_CLUSTER_WARN k false).setI (F.LSW_CLUSTER_TEMP_C.nth k) temp).ev E.LSW_CLUSTER_CLEAR 0 [k]
    s.bit F.LSW_STATUS_CLUSTER_WARN k = true →
    exec (.lswClusterClear k temp) s = .next
      (t.each ((List.range 32).filter fun c => t.hasLsw c && c / 8 == k.val && (t.chan c).byCluster) fun c s => s.tryClearLatch c).done) ∧
  (∀ (s : State) (c : Fin 96), s.hasChan c = true → (s.chan c).shut = true → s.on (chLatch c) = false →
    exec (.lswRetry c) s = .next ((s.modChan c fun v => { v with delayDone := true }).refreshChan c).done) ∧
  (∀ (s : State) (c : Fin 96), s.hasChan c = true → (s.chan c).on = true →
    exec (.lswRetryReload c) s = .next (s.set (chRetriesLeft c) (s.get (chRetryN c))).done) ∧
  (∀ (s : State) (v : Word), s.reaches 0x2B 0x048 = true →
    exec (.lswRearm v) s = .next
      (s.each ((List.range 32).filter fun c => s.hasLsw c && v.toNat.testBit c) fun c s => s.rearm c).done)

/-- Open load, dissipation and supply of the channels, and the external switches: the chain, the scan, their overload and rearm
(R401, R413 to R417, R422). -/
def Obligations.LoadSwitchMonitoring : Prop :=
  (∀ (s : State) (c : Fin 32), s.hasLsw c = true → s.on (F.LSW_CH_CFG_OL_EN.nth c) = true → (s.chan c).on = false →
    (s.on F.MIR_CFG_EN && (s.chan c).commanded) = false →
    exec (.lswOpenLoad c) s = .next
      ((((s.setB (F.LSW_CH_STAT_OUT_HIGH.nth c) true).setB (F.LSW_CH_STAT_OPEN_LOAD.nth c) true).ev E.LSW_OPEN_LOAD c [c]).refreshFault c).done) ∧
  (∀ (s : State) (cur : List Int) (out : List LswOut),
    let l := (List.range 32).filter fun c => s.hasLsw c
    let t := s.each l fun c s => s.measured c (cur.getD c 0) (lswOut out c)
    let mw := satTo 16 (((l.filter fun c => (t.chan c).on).map fun c => dissNw c (cur.getD c 0) (lswOut out c).temp).sum / 1000000)
    exec (.lswDissCheck cur out) s = .next
      ((t.set F.LSW_DISS_MW mw).set F.LSW_DISS_PEAK_MW (max mw (t.get F.LSW_DISS_PEAK_MW))).done) ∧
  (∀ s : State, 4000 < s.get F.LSW_DISS_MW → exec .lswDissHigh s = .next (s.ev E.LSW_DISS_HIGH 0 [s.get F.LSW_DISS_MW]).done) ∧
  (∀ s : State, s.get F.LSW_DISS_MW ≤ 4000 → exec .lswDissHigh s = .next s.done) ∧
  (∀ (s : State) (mv : Int), s.on F.LSW_SUPPLY_UV = false →
    exec (.lswSupplyFault 0 mv) s = .next ((s.setB F.LSW_SUPPLY_UV true).ev E.LSW_SUPPLY_UV 0 [ofSigned 32 mv]).refreshChans.done) ∧
  (∀ (s : State) (mv : Int), s.on F.LSW_SUPPLY_OV = false →
    exec (.lswSupplyFault 1 mv) s = .next ((s.setB F.LSW_SUPPLY_OV true).ev E.LSW_SUPPLY_OV 0 [ofSigned 32 mv]).refreshChans.done) ∧
  (∀ (s : State) (mv : Int), s.on F.LSW_SUPPLY_REVERSE = false →
    exec (.lswSupplyFault 2 mv) s = .next ((s.setB F.LSW_SUPPLY_REVERSE true).ev E.LSW_SUPPLY_REVERSE 0 []).refreshChans.done) ∧
  (∀ (s : State) (mv : Int), s.on F.LSW_SUPPLY_GND_LOST = false →
    exec (.lswSupplyFault 3 mv) s = .next ((s.setB F.LSW_SUPPLY_GND_LOST true).ev E.LSW_GND_LOST 0 []).refreshChans.done) ∧
  (∀ (s : State) (k : Fin 4), s.on (supplyField k) = true →
    exec (.lswSupplyRecover k) s = .next (s.setB (supplyField k) false).refreshChans.done) ∧
  (∀ s : State,
    let n := s.get F.LSX_CHAIN_LEN
    let t := s.each (List.range 64) fun x s => s.setB (F.LSX_XSTAT_ON.nth x) ((s.chan (32 + x)).on && decide (x < n))
    s.is7680 = true → s.on F.LSX_CFG_EN = true →
    exec .lsxChainShift s = .next
      (t.emit (.chain n ((List.range (min n 64)).foldl (fun m x => setBitOf m x (t.chan (32 + x)).on) 0))).done) ∧
  (∀ (s : State) (x : Fin 64) (mv : Nat), s.is7680 = true → s.on F.LSX_CFG_EN = true → s.on (F.LSX_XCFG_EN.nth x) = true →
    exec (.lsxScanConversion x mv) s = .next (s.lsxConvert x mv).done) ∧
  (∀ (s : State) (x : Fin 64), s.is7680 = true → (s.chan (32 + x)).on = true → (s.chan (32 + x)).above = true →
    let t := s.setB (chOverload (32 + x)) true
    exec (.lsxOverload x) s = .next ((t.ev E.LSX_OVERLOAD x [x, s.get (F.LSX_XSTAT_CUR.nth x)]).shutdownChan (32 + x)).done) ∧
  (∀ (s : State) (v : Word), s.reaches 0x2C 0x008 = true → v.toNat.testBit 31 = true →
    exec (.lsxRearm v) s = .next (s.rearm (32 + v.toNat % 64)).done)

/-- The metrology channels: every sample and block, a lost or frozen channel, its judgement and its return, the calibration behind
the seal (R269, R271, R272, R278, R279, R281, R282, R290). -/
def Obligations.MetrologyChannels : Prop :=
  (∀ (s : State) (raw ctl : List Nat), s.lensRuns = true → exec (.lensSample raw ctl) s = .next (s.lensSample raw ctl).done) ∧
  (∀ s : State, s.lensRuns = true → s.sys.metLost = false → exec .lensBlockSend s = .next s.sendBlock.done) ∧
  (∀ (s : State) (c : Fin 23) (data : Bool), s.lensRuns = true → s.chanOn c = true → (s.lossOf 0 c).present = false →
    let t := (s.setBit (lossReg 0) c true).setLoss 0 c
      { present := true, tick := s.ticks - 0 * ticksMs, sec := (s.legalNs - 0 * 1000000) / 1000000000, ns := (s.legalNs - 0 * 1000000) % 1000000000, data := if data then 1 else 0,
        supply := s.mode == .vault }
    exec (.lensChLost c data) s = .next
      ((t.modLens fun l => { l with badSeen := setBitOf l.badSeen c true }).refreshMeter).done) ∧
  (∀ (s : State) (c : Fin 23),
    let ago := s.lget F.LENS_FREEZE_MS
    let t := s.lossBegin 1 c ago (ofSigned 32 (mget 0 s.lens.codes c))
    s.lensRuns = true → s.chanOn c = true → (s.lossOf 1 c).present = false →
    exec (.lensChFrozen c) s = .next (t.when (!isControl c && t.mode != .vault) fun s =>
      s.modLens fun l => { l with froz := l.froz ++ [(c.val, t.ticks - ago * ticksMs)] }).done) ∧
  (∀ (s : State) (c : Fin 23) (k : Fin 3),
    let l := s.lossOf k c
    l.present = true → l.judged = false → isControl c = false → (s.mode == .vault || l.supply) = false →
    exec (.lensLossJudged c k) s = .next
      (((((s.setLoss k c { l with judged := true, tamper := true }).lensEv5 (lossEv k) [c, l.data, l.sec, l.ns]).setBit F.TAMPER_ACTIVE_TYPE (2 + k) true).tamperAt
        (2 + k) l.sec s.epoch).done)) ∧
  (∀ (s : State) (c : Fin 23) (k : Fin 3),
    let l := s.lossOf k c
    l.present = true → l.judged = false → isControl c = false → (s.mode == .vault || l.supply) = true →
    exec (.lensLossJudged c k) s = .next ((s.setLoss k c { l with judged := true, supply := true }).when (k.val == 0) fun s =>
      s.lensEv5 E.LENS_CH_LOST [c, 2, l.sec, l.ns]).done) ∧
  (∀ (s : State) (c : Fin 23) (k : Fin 3),
    let l := s.lossOf k c
    l.present = true → l.judged = false → isControl c = true →
    exec (.lensLossJudged c k) s = .next (s.setLoss k c { l with judged := true }).done) ∧
  (∀ (s : State) (c : Fin 23) (k : Fin 3),
    let l := s.lossOf k c
    let u := s.fbBack c k
    let t := ((u.setBit (lossReg k) c false).setLoss k c {}).ev E.LENS_CH_RESTORED 0 [c, u.since l.tick / ticksMs]
    l.present = true →
    exec (.lensChRestored c k) s = .next ((t.when (l.tamper && !(List.range 23).any fun d => (t.lossOf k d).tamper) fun s =>
      s.tamperEnd (2 + k)).refreshMeter).done) ∧
  (∀ (s : State) (c : Fin 23) (reg : Fin 3) (v : Word), s.reaches 0x23 (0x200 + 16 * c.val + 4 * reg.val) = true → s.sealOpen = true →
    s.mode ≠ .sealedService →
    exec (.lensCalWrite c reg v) s = .next (s.err E.LENS_NOT_SERVICE 0 [0x200 + 16 * c.val + 4 * reg.val]).done) ∧
  (∀ (s : State) (c : Fin 23) (reg : Fin 3) (v : Word),
    let off := 0x200 + 16 * c.val + 4 * reg.val
    let f := if reg.val = 0 then F.LENS_CAL_GAIN_GAIN.nth c else if reg.val = 1 then F.LENS_CAL_OFFSET_CODE.nth c else F.LENS_CAL_DELAY_CLOCKS.nth c
    let a := ((s.set f v.toNat).inc F.LENS_CAL_SEQ_COUNT).lensDefer 0x23 off
    let b := a.modLens fun l => { l with calDone := setBitOf l.calDone c true }
    let d := b.when (b.calBad && (List.range b.nChan).all fun k => b.lens.calDone.testBit k) fun s =>
      (s.setB F.LENS_STATUS_CAL_BAD false).tamperEnd 11
    let t := d.lensEv5 E.LENS_CAL_WRITTEN [c, reg, d.get F.LENS_CAL_SEQ_COUNT]
    s.reaches 0x23 off = true → s.sealOpen = true → s.mode = .sealedService → s.clogFull = false →
    exec (.lensCalWrite c reg v) s = .next (t.rwsLogged 0x23 off (s.regWord 0x23 off) (t.regWord 0x23 off)).done) ∧
  (∀ (s : State) (c : Fin 23) (reg : Fin 3) (v : Word), s.reaches 0x23 (0x200 + 16 * c.val + 4 * reg.val) = true → s.sealOpen = false →
    exec (.lensCalWrite c reg v) s = .next (s.errC .writeSealed 0x23 [0x200 + 16 * c.val + 4 * reg.val]).done)

/-- The grid, the pulse outputs and the capture: a window ends, the frequency is lost, a pulse starts and ends, the capture is
armed, fired and filled (R277, R283, R284, R285, R286, R287). -/
def Obligations.PulsesAndCapture : Prop :=
  (∀ s : State, s.lensRuns = true → s.gridOn = true → exec .gridWindowEnd s = .next s.gridWindow.done) ∧
  (∀ s : State, s.lensRuns = true → s.gridOn = true → s.lens.grid.lost = false →
    let t := (((s.ev E.GRID_FREQ_LOST 0 [s.get F.GRID_FREQ_MHZ]).set F.GRID_FREQ_MHZ 0).setB F.GRID_WIN_STAT_VALID false).modLens fun l =>
      { l with grid := { l.grid with lost := true } }
    exec .gridFreqLost s = .next (t.modLens fun l => { l with grid := { l.grid with cross := [] } }).done) ∧
  (∀ (s : State) (k : Fin 8) (x : Nat) (rest : List Nat), (s.pulseOf k).due = x :: rest → (s.pulseOf k).phase = 0 →
    s.lget (F.PULSE_CFG_EN.nth k) ≠ 0 → s.mode ≠ .vault → s.mode ≠ .dormant → s.lens.started = true →
    exec (.pulseStart k) s = .next
      ((((s.setPulse k { s.pulseOf k with due := rest, phase := 1 }).inc (F.PULSE_COUNT_COUNT.nth k)).pulseBall k true)).done) ∧
  (∀ (s : State) (k : Fin 8), (s.pulseOf k).phase = 1 →
    exec (.pulseEnd k) s = .next ((s.setPulse k { s.pulseOf k with phase := 2 }).pulseBall k false).done) ∧
  (∀ (s : State) (k : Fin 8), (s.pulseOf k).phase = 2 →
    exec (.pulseEnd k) s = .next (s.setPulse k { s.pulseOf k with phase := 0 }).done) ∧
  (∀ (s : State) (k : Fin 8) (reg : Fin 3) (v : Word),
    let off := 0x040 + 32 * k.val + 4 * reg.val
    let t := (s.setWord 0x41 off 0xFFFFFFFF v.toNat fun a => a == .rws).lensDefer 0x41 off
    s.reaches 0x41 off = true → s.sealOpen = true → s.clogFull = false →
    ¬(reg.val = 2 ∧ (bits v.toNat 31 16 = 0 ∨ bits v.toNat 15 0 = 0)) →
    exec (.pulseCfgWrite k reg v) s = .next (t.rwsLogged 0x41 off (s.regWord 0x41 off) (t.regWord 0x41 off)).done) ∧
  (∀ (s : State) (k : Fin 8) (v : Word), s.reaches 0x41 (0x040 + 32 * k.val + 8) = true → s.sealOpen = true → s.clogFull = false →
    bits v.toNat 31 16 = 0 ∨ bits v.toNat 15 0 = 0 →
    exec (.pulseCfgWrite k 2 v) s = .next (s.err E.PULSE_BAD_CFG 0 [k, 0x040 + 32 * k.val + 8]).done) ∧
  (∀ (s : State) (v : Word), s.reaches 0x23 0x180 = true →
    exec (.capArm v) s = .next (s.capCfgWrite 0xFFFFFFFF (setBitOf v.toNat 0 true)).done ∧
    exec (.capFire v) s = .next (s.capCfgWrite 0xFFFFFFFF (setBitOf v.toNat 1 true)).done) ∧
  (∀ (s : State) (v : Word),
    let t := s.setWord 0x23 0x180 0xFFFFFFFF (setBitOf v.toNat 0 true) fun a => a == .rw
    s.reaches 0x23 0x180 = true → v.toNat.testBit 1 = false → exec (.capArm v) s = .next t.capArm.done) ∧
  (∀ (s : State) (v : Word),
    let t := s.setWord 0x23 0x180 0xFFFFFFFF (setBitOf v.toNat 1 true) fun a => a == .rw
    s.reaches 0x23 0x180 = true → v.toNat.testBit 0 = false → t.get F.LENS_CAP_CFG_TRIG = 0 →
    exec (.capFire v) s = .next t.capTrigger.done) ∧
  (∀ s : State, s.capDue = true → exec .capTrigger s = .next s.capTrigger.done) ∧
  (∀ (s : State) (t : Nat),
    let start := s.lens.cap.total % 78125 * (if isControl (laneSel s 0) then 4 else 1)
    s.lens.cap.trig = some t → s.on F.LENS_CAP_STAT_FILLING = true → t + s.capPost ≤ s.lens.cap.total →
    exec .capDone s = .next
      ((((s.setB F.LENS_CAP_STAT_FILLING false).setB F.LENS_CAP_STAT_DONE true).set F.LENS_CAP_STAT_START start).ev E.LENS_CAP_DONE 0
        [s.get F.LENS_CAP_CFG_TRIG]).done)

/-- Billing: the metrology cycle is closed and delivered, or held while a boundary waits; the boundary is committed; a tariff bank
and the end of a period are asked for behind the seal and the demand interval is checked (R272, R297, R298, R302, R303, R306,
R307, R312, R313). -/
def Obligations.Billing : Prop :=
  (∀ s : State,
    let r := s.closeCycle s.legalSec s.legalNsPart s.epoch none false
    s.lensRuns = true → r.1.bill.pend = none → r.1.bill.intent = none → r.1.bill.held = [] →
    exec .metrologyCycleEnd s = .next ((r.1.bookCycle r.2).refreshDt).done) ∧
  (∀ (s : State),
    let r := s.closeCycle s.legalSec s.legalNsPart s.epoch none false
    s.lensRuns = true → r.1.bill.pend.isSome = true →
    exec .metrologyCycleEnd s = .next ((r.1.modBill fun b => { b with held := b.held ++ [r.2] }).refreshDt).done) ∧
  (∀ (s : State) (pd : Pending), s.bill.pend = some pd → s.bill.intent.isSome = false →
    exec .boundaryCommit s = .next (((s.applyPending pd).drain (s.applyPending pd).bill.held.length).refreshDt).done) ∧
  (∀ (s : State) (v : Word),
    let t := s.setB F.TARIFF_BANK_SWITCH_PENDING true
    s.reaches 0x26 0x008 = true → v.toNat.testBit 0 = true → s.sealOpen = true → s.clogFull = false → s.bankBad (1 - s.bank) = none →
    exec (.tariffActivate v) s = .next (t.rwsLogged 0x26 0x008 0 1).done) ∧
  (∀ (s : State) (v : Word) (e : Nat × Nat),
    let t := (s.set F.TARIFF_CAL_STAT_FIRST_BAD e.1).err E.TARIFF_CAL_INVALID 0 [e.1, e.2]
    s.reaches 0x26 0x008 = true → v.toNat.testBit 0 = true → s.sealOpen = true → s.clogFull = false → s.bankBad (1 - s.bank) = some e →
    exec (.tariffActivate v) s = .next (t.rwsLogged 0x26 0x008 0 1).done) ∧
  (∀ (s : State) (v : Word),
    let t := s.modBill fun b => { b with closeDue := true }
    s.reaches 0x25 0x008 = true → v.toNat.testBit 0 = true → s.sealOpen = true → s.clogFull = false →
    exec (.closePeriod v) s = .next (t.rwsLogged 0x25 0x008 0 1).done) ∧
  (∀ (s : State) (v : Word),
    let t := (s.setWord 0x25 0x040 0xFFFFFFFF v.toNat fun a => a == .rws).modBill fun b => { b with cfgDue := true }
    s.reaches 0x25 0x040 = true → s.sealOpen = true → s.clogFull = false → demandCfgOk v.toNat = true →
    exec (.demandCfgWrite v) s = .next (t.rwsLogged 0x25 0x040 (s.regWord 0x25 0x040) (t.regWord 0x25 0x040)).done) ∧
  (∀ (s : State) (v : Word), s.reaches 0x25 0x040 = true → s.sealOpen = true → s.clogFull = false → demandCfgOk v.toNat = false →
    exec (.demandCfgWrite v) s = .next (s.err E.BILL_BAD_CFG 0 [v.toNat]).done) ∧
  (∀ (s : State) (v : Word), s.reaches 0x25 0x040 = true → s.sealOpen = false →
    exec (.demandCfgWrite v) s = .next (s.errC .writeSealed 0x25 [0x040]).done)

/-- The session records and the tamper inputs: a request to open, close or read waits for the cycle's end, an absent point is
recorded, the oldest waiting record is signed, tamper begins and ends with its cause (R315, R316, R317, R318, R319, R321, R322,
R325). -/
def Obligations.SessionsAndTamper : Prop :=
  (∀ (s : State) (p sid : Nat), s.sys.metLost = false → s.hasOutlet p = true →
    exec (.sessionOpenReq p sid) s = .next (s.modBill fun b => { b with reqs := b.reqs ++ [.opn p (sid % 2 ^ 64)] }).done) ∧
  (∀ (s : State) (p sid : Nat), s.sys.metLost = false → s.hasOutlet p = false →
    exec (.sessionOpenReq p sid) s = .next (s.err E.SESS_NO_POINT 0 [p]).done) ∧
  (∀ (s : State) (p : Nat), s.sys.metLost = false → s.hasOutlet p = true →
    exec (.sessionCloseReq p) s = .next (s.modBill fun b => { b with reqs := b.reqs ++ [.cls p] }).done) ∧
  (∀ (s : State) (i : Nat) (t : List Nat),
    let a := tbl 2 (128 * i)
    let u := (s.modBill fun b => { b with signs := t }).set F.SESS_SIGN_PENDING_COUNT t.length
    let w := u.wrBytes (a + 64) (slice (Config.metrologySign (u.rdBytes a 64)) 0 64)
    s.bill.signs = i :: t → exec .sessionSigned s = .next (w.ev E.SESS_SIGNED 0 [w.rdByte (a + 2), w.rdLe (a + 4) 4]).done) ∧
  (∀ (s : State) (v : Word), s.reaches 0x46 0x054 = true → v.toNat.testBit 31 = true → s.points.contains (bits v.toNat 3 0) = true →
    exec (.sessRead v) s = .next (s.modBill fun b => { b with reqs := b.reqs ++ [.read (bits v.toNat 3 0)] }).done) ∧
  (∀ (s : State) (v : Word), s.reaches 0x46 0x054 = true → v.toNat.testBit 31 = true → s.points.contains (bits v.toNat 3 0) = false →
    exec (.sessRead v) s = .next (s.err E.SESS_NO_POINT 0 [bits v.toNat 3 0]).done) ∧
  (∀ s : State, s.sys.metLost = false → exec .metrologyRequestRefused s = .next (s.tamper 8).done) ∧
  (∀ (s : State) (i : Fin 2), s.bit F.TAMPER_ACTIVE_TYPE i = false →
    exec (.tamperInput i) s = .next ((s.setBit F.TAMPER_ACTIVE_TYPE i true).tamper i).done) ∧
  (∀ (s : State) (i : Fin 2), s.bit F.TAMPER_ACTIVE_TYPE i = true → exec (.tamperInput i) s = .next s.done) ∧
  (∀ (s : State) (i : Fin 2), exec (.tamperInputReleased i) s = .next (s.setBit F.TAMPER_ACTIVE_TYPE i false).done) ∧
  (∀ (s : State) (ppm : Nat), s.get F.TAMPER_PPM_LIM_PPM < ppm → s.bit F.TAMPER_ACTIVE_TYPE 15 = false →
    exec (.tamperPpm ppm) s = .next ((s.setBit F.TAMPER_ACTIVE_TYPE 15 true).tamper 15).done) ∧
  (∀ (s : State) (ppm : Nat), ppm ≤ s.get F.TAMPER_PPM_LIM_PPM →
    exec (.tamperPpm ppm) s = .next (s.setBit F.TAMPER_ACTIVE_TYPE 15 false).done)

/-- The host port: the link comes up and goes down, a function-level reset clears the host's pages only, a vector is acknowledged or
unmasked, the mailbox slots pass between the two sides. The links between the dies, and the key pairs: a link is lost and
restored with its records and what hung on it, a key pair is made behind the password while no connection is open (R243, R406,
R424). -/
def Obligations.HostPort : Prop :=
  (∀ (s : State) (speed width : Nat) (en : Bool),
    let t := ((s.set F.HOST_PCIE_STAT_SPEED speed).set F.HOST_PCIE_STAT_WIDTH width).setB F.HOST_PCIE_STAT_MSIX_EN en
    s.sys.held = false → s.on F.CLK_PLL_STAT_LOCKED = true → s.mode ≠ .dormant → s.on F.HOST_PCIE_STAT_LINK_UP = false →
    exec (.pcieLinkUp speed width en) s = .next ((t.setB F.HOST_PCIE_STAT_LINK_UP true).ev E.HOST_LINK_UP 0 [speed, width]).done) ∧
  (∀ s : State, s.hostUp = true →
    exec .pcieLinkDown s = .next (((s.linkGone).ev E.HOST_LINK_DOWN 0 []).each (List.range 16) fun c s =>
      if s.dst c = 1 then s.fetchFail c 0x2F37
      else s.when (s.dst c == 2 && (s.dch c).usesHost) fun s => s.dmaBad c 0x2F37 7).done) ∧
  (∀ s : State, s.hostUp = false → exec .pcieLinkDown s = .next s.done) ∧
  (∀ s : State,
    let t : State := { s with
      regs := s.regs.filter fun (e : Nat × Nat) => let p := e.1 / 32 / 0x1000; !(decide (0x2D ≤ p) && decide (p ≤ 0x3E))
      host := { spiQ := s.host.spiQ, spiHeld := s.host.spiHeld }
      dma := {} }
    s.on F.HOST_PCIE_STAT_LINK_UP = true →
    exec .functionLevelReset s = .next (((t.set F.HOST_PCIE_STAT_SPEED (s.get F.HOST_PCIE_STAT_SPEED)).set F.HOST_PCIE_STAT_WIDTH
      (s.get F.HOST_PCIE_STAT_WIDTH)).setB F.HOST_PCIE_STAT_LINK_UP true).done) ∧
  (∀ (s : State) (v : Word), s.reaches 0x2D 0x054 = true → exec (.vecEoi v) s = .next (s.resend (v.toNat % 64)).done) ∧
  (∀ (s : State) (v : Fin 64), s.reaches 0x2D (0x80C + 16 * v) = true → s.host.pba.testBit v = false →
    exec (.msixUnmask v) s = .next ({ s with host := { s.host with
      msix := mput {} s.host.msix v { mget ({} : MsixEntry) s.host.msix v with masked := false } } } : State).done) ∧
  (∀ (s : State) (m : MbxMsg) (rest : List MbxMsg) (k : Nat),
    let seq := (s.vde.mbxSeq + 1) % 2 ^ 32
    let t := s.modVde fun v => { v with mbxWait := rest, mbxSeq := seq }
    s.vde.mbxWait = m :: rest → ((List.range 8).find? fun k => s.mbx k == 0) = some k → s.mode ≠ .mirror →
    exec .mbxDeviceMessage s = .next (((t.wrBytes (mbxBase k) (mbxImage seq m.body)).setMbx k 1).ev E.HOST_MBX_RX 0 [k]).done) ∧
  (∀ (s : State) (m : MbxMsg) (rest : List MbxMsg),
    s.vde.mbxWait = m :: rest → ((List.range 8).find? fun k => s.mbx k == 0) = none → s.mode ≠ .mirror →
    exec .mbxFullTimeout s = .next ((s.modVde fun v => { v with mbxWait := rest }).ev E.HOST_MBX_FULL 0 [m.kind]).done) ∧
  (∀ (s : State) (v : Word), s.reaches 0x2D 0x088 = true → v.toNat % 16 < 8 → s.mbx (v.toNat % 16) = 1 →
    exec (.mbxDone v) s = .next (s.setMbx (v.toNat % 16) 0).done) ∧
  (∀ (s : State) (v : Word), s.reaches 0x2D 0x084 = true → 8 ≤ v.toNat % 16 → s.mbx (v.toNat % 16) = 0 →
    exec (.mbxPost v) s = .next (s.setMbx (v.toNat % 16) 2).done) ∧
  (∀ (s : State) (v : Word), s.reaches 0x2D 0x084 = true → v.toNat % 16 < 8 →
    exec (.mbxPost v) s = .next (s.mbxBad (v.toNat % 16) 1).done) ∧
  (∀ (s : State) (k : Fin 16), 8 ≤ k.val → s.mbx k = 2 → s.mbxFault k = none →
    exec (.mbxConsumed k) s = .next (((s.mbxTake k).setMbx k 0).ev E.HOST_MBX_TX_DONE 0 [k]).done) ∧
  (∀ (s : State) (k : Fin 16) (c : Nat), 8 ≤ k.val → s.mbx k = 2 → s.mbxFault k = some c →
    exec (.mbxConsumed k) s = .next ((s.setMbx k 0).ev E.HOST_MBX_BAD 0 [k, c]).done) ∧
  (∀ s : State,
    let t := (s.modSys fun y => { y with metLost := true }).tamperBegin 14
    (!s.sys.held || s.lens.started) = true → s.sys.metLost = false → s.mode ≠ .dormant →
    exec .ctlMetrologyLinkLost s = .next
      ((t.each (t.outlets.filter fun _ => t.stagesRun && !t.sys.held) fun n s => s.fbLost n 3).ownOutputs s).done) ∧
  (∀ s : State,
    let t := s.each s.outlets fun n s => s.modOut n fun o => { o with fbLive := 0 }
    s.sys.metLost = true →
    exec .ctlMetrologyLinkRestored s = .next ((((t.modSys fun y => { y with metLost := false }).tamperEnd 14).sendPend).ownOutputs t).done) ∧
  (∀ s : State,
    let u := s.cutPower
    let t : State := { u with pdie := { u.pdie with
      lostTick := u.ticks, stale := u.regs.filter fun (e : Nat × Nat) => let p := e.1 / 32 / 0x1000; p == 0x2B || p == 0x2C } }
    s.sys.held = false → s.on F.LSW_STATUS_LINK_LOST = false → s.mode ≠ .dormant →
    exec .ctlPowerLinkLost s = .next
      ((((t.setB F.LSW_STATUS_LINK_LOST true).setB F.LSW_SUPPLY_LINK_LOST true).ev E.LSW_LINK_LOST 0 []).refreshChans.ownOutputs s).done) ∧
  (∀ s : State,
    let t : State := { s with pdie := { s.pdie with stale := [], cut := s.mode.early || s.mode == Mode.configure } }
    s.on F.LSW_STATUS_LINK_LOST = true →
    exec .ctlPowerLinkRestored s = .next
      ((((t.setB F.LSW_STATUS_LINK_LOST false).setB F.LSW_SUPPLY_LINK_LOST false).ev E.LSW_LINK_RESTORED 0 [s.since s.pdie.lostTick / ticksUs]).refreshChans.ownOutputs s).done) ∧
  (∀ (s : State) (v : Word),
    let c := v.toNat % 4
    let a := (s.freeNext).modVde fun w => { w with keys := mins c s.free w.keys }
    let t := (((a.set F.CRYPT_KEYGEN_CURVE c).setBit F.CRYPT_KEY_STAT_PRESENT c true).ev E.CRYPT_KEY_GENERATED 0 [c]).refreshTrust
    s.reaches 0x22 0x040 = true → s.pwdOpen = true → s.clogFull = false → s.get F.CRYPT_STATUS_TLS_OPEN = 0 → c ≠ 3 →
    exec (.keygen v) s = .next (t.rwpLogged 0x22 0x040 (s.regWord 0x22 0x040) (t.regWord 0x22 0x040)).done) ∧
  (∀ (s : State) (v : Word), s.reaches 0x22 0x040 = true → s.pwdOpen = true → s.clogFull = false → s.get F.CRYPT_STATUS_TLS_OPEN ≠ 0 →
    exec (.keygen v) s = .next (s.err E.CRYPT_KEYGEN_BUSY 0 [s.get F.CRYPT_STATUS_TLS_OPEN]).done) ∧
  (∀ (s : State) (v : Word), s.reaches 0x22 0x040 = true → s.pwdOpen = false →
    exec (.keygen v) s = .next (s.errC .writeNeedsPassword 0x22 [0x040]).done)

/-- The lifetime counters and the store: a second is counted where it belongs, the host counts only in its own counters, a baseline
is asked for with its key, a scrub step reads one block and moves on (R447, R448, R449, R450, R451, R452, R455, R457). -/
def Obligations.LifetimeAndStore : Prop :=
  (∀ (s : State) (means : List (Nat × Int)),
    let a := s.lifeAdd s.mode.code 1
    let b := (a.each a.timeCounters fun i s => s.lifeAdd i 1).each (means.filter fun h => a.histOn h.1 && !metHist h.1) fun h s =>
      s.binAdd h.1 (histBin h.1 h.2)
    let c := (b.lifeStore 21 1).each (means.filter fun h => s.histOn h.1 && metHist h.1) fun h s => s.binStore h.1 (histBin h.1 h.2) 1
    s.sys.held = false → s.mode ≠ .dormant → s.mode ≠ .vault →
    exec (.lifeSecondUpdate means) s = .next ((c.when c.life.baseDue State.takeBaseline).inc F.LIFE_UPDATE_SEQ_SEQ).done) ∧
  (∀ (s : State) (v : Word), s.reaches 0x3F 0x054 = true → v.toNat % 512 < 448 →
    exec (.lifeHostInc v) s = .next (s.err E.LIFE_BAD_INDEX 0 [v.toNat]).done) ∧
  (∀ (s : State) (v : Word), s.reaches 0x3F 0x054 = true → 448 ≤ v.toNat % 512 →
    exec (.lifeHostInc v) s = .next (s.lifeStore (v.toNat % 512) (v.toNat / 65536)).done) ∧
  (∀ (s : State) (v : Word), s.reaches 0x3F 0x058 = true → bits v.toNat 14 8 < 80 →
    exec (.lifeHostHist v) s = .next (s.err E.LIFE_BAD_INDEX 0 [v.toNat]).done) ∧
  (∀ (s : State) (v : Word), s.reaches 0x3F 0x058 = true → 80 ≤ bits v.toNat 14 8 →
    exec (.lifeHostHist v) s = .next (s.binStore (bits v.toNat 14 8) (v.toNat % 32) 1).done) ∧
  (∀ (s : State), s.reaches 0x3F 0x044 = true → s.pwdOpen = true → s.clogFull = false →
    exec (.lifeBaseline 0xB45E#32) s = .next ((s.modLife fun l => { l with baseDue := true }).rwpLogged 0x3F 0x044 0 0xB45E).done) ∧
  (∀ (s : State), s.reaches 0x3F 0x044 = true → s.pwdOpen = false →
    exec (.lifeBaseline 0xB45E#32) s = .next (s.errC .writeNeedsPassword 0x3F [0x044]).done) ∧
  (∀ (s : State) (flips : List (Nat × Nat)) (check : Nat) (bad : Bool),
    let blk := s.get F.MEM_SCRUB_POS_BLOCK
    s.on F.MEM_SCRUB_CFG_EN = true → s.sys.held = false → s.mode ≠ .vault → s.mode ≠ .dormant → blk ≠ 16383 →
    exec (.scrubRead flips check bad) s = .next ((s.codedRead blk (flips ++ [(32, check)]) bad).set F.MEM_SCRUB_POS_BLOCK (blk + 1)).done) ∧
  (∀ (s : State) (blk : Nat) (bad : Bool), s.codedRead blk [(32, 0)] bad = s.blockRead blk 0 0 bad) ∧
  (∀ (s : State) (blk : Nat) (w : Fin 33) (b : Fin 72) (bad : Bool), s.codedRead blk [(w.val, 2 ^ b.val)] bad = s.blockRead blk 1 0 bad) ∧
  (∀ (s : State) (blk : Nat) (bad : Bool),
    s.codedRead blk [(0, 3)] bad = s.blockRead blk 2 0 bad ∧ s.codedRead blk [(0, 3), (1, 3)] bad = s.blockRead blk 3 0 bad) ∧
  (∀ (s : State) (blk w : Nat) (bad : Bool),
    let t := (s.incSat F.MEM_INNER_CORR_COUNT).modLife fun l => { l with corr := l.corr + 1 }
    s.blockRead blk 1 w bad = (t.setLastAddr blk false).ev E.MEM_CORRECTED_INNER 0 [256 * blk])

/-- Commands to a DMA channel: GO loads the shadow set or arms it, START fetches the head, RESUME and RETRY go on, SKIP leaves a
failed descriptor behind, an append is counted; a command in another state is refused (R434, R436, R437, R438). What a channel
does by itself: a descriptor that has not been done starts, one with LAST that is done already leaves the channel at its tail, a
failed fetch stops it; the mover goes to the ready channel that comes first; a paced transfer goes on at its upper mark (R433,
R435, R436, R438, R440). -/
def Obligations.DmaChannels : Prop :=
  (∀ (s : State) (c : Fin 16), s.reaches (0x2F + c) 0x048 = true → s.get (F.DMACH_MODE_MODE.inst c) = 1 → s.dst c = 0 →
    exec (.dmaGo c) s = .next (s.dmaLoadShadow c).done) ∧
  (∀ (s : State) (c : Fin 16), s.reaches (0x2F + c) 0x048 = true → s.get (F.DMACH_MODE_MODE.inst c) = 1 →
    s.on (F.DMACH_SH_STAT_ARMED.inst c) = false → s.dst c = 2 →
    exec (.dmaGo c) s = .next (s.setB (F.DMACH_SH_STAT_ARMED.inst c) true).done) ∧
  (∀ (s : State) (c : Fin 16), s.reaches (0x2F + c) 0x048 = true → s.get (F.DMACH_MODE_MODE.inst c) = 1 →
    s.on (F.DMACH_SH_STAT_ARMED.inst c) = true → s.dst c ≠ 0 →
    exec (.dmaGo c) s = .next (s.err E.DMACH_SHADOW_BUSY c []).done) ∧
  (∀ (s : State) (c : Fin 16), s.reaches (0x2F + c) 0x048 = true → s.get (F.DMACH_MODE_MODE.inst c) ≠ 1 →
    exec (.dmaGo c) s = .next (s.err E.DMACH_BAD_CMD c [1, s.dst c]).done) ∧
  (∀ (s : State) (c : Fin 16), s.reaches (0x2F + c) 0x048 = true → s.get (F.DMACH_MODE_MODE.inst c) = 2 → s.dst c = 0 →
    exec (.dmaStart c) s =
      .next (s.dmaFetch c (s.get2 (F.DMACH_HEAD_HI_ADDR.inst c) (F.DMACH_HEAD_LO_ADDR.inst c)) false).done) ∧
  (∀ (s : State) (c : Fin 16), s.reaches (0x2F + c) 0x048 = true → s.dst c ≠ 0 →
    exec (.dmaStart c) s = .next (s.err E.DMACH_BAD_CMD c [2, s.dst c]).done) ∧
  (∀ (s : State) (c : Fin 16), s.reaches (0x2F + c) 0x048 = true → s.dst c = 5 → (s.dch c).resume ≠ 1 →
    exec (.dmaResume c) s = .next (s.setDst c (s.dch c).resume).done) ∧
  (∀ (s : State) (c : Fin 16), s.reaches (0x2F + c) 0x048 = true → s.dst c = 5 → (s.dch c).resume = 1 →
    exec (.dmaResume c) s = .next (s.dmaFetch c (s.curDesc c) (s.dch c).again).done) ∧
  (∀ (s : State) (c : Fin 16), s.reaches (0x2F + c) 0x048 = true → s.dst c = 7 → (s.dch c).direct = false →
    (s.dch c).fetched = true → (s.dch c).last = false →
    exec (.dmaSkip c) s = .next (s.dmaFetch c (s.dch c).next false).done) ∧
  (∀ (s : State) (c : Fin 16), s.reaches (0x2F + c) 0x048 = true → s.dst c = 7 → (s.dch c).fetched = true →
    exec (.dmaRetry c) s = .next (s.dmaBegin c).done) ∧
  (∀ (s : State) (c : Fin 16), s.reaches (0x2F + c) 0x048 = true → s.dst c = 7 → (s.dch c).fetched = false →
    exec (.dmaRetry c) s = .next (s.dmaFetch c (s.curDesc c) false).done) ∧
  (∀ (s : State) (c : Fin 16) (v : Word),
    let t := s.inc (F.DMACH_APPEND_CNT_COUNT.inst c)
    s.reaches (0x2F + c) 0x054 = true →
    exec (.dmaAppend c v) s = .next (if t.dst c = 6 then t.dmaFetch c (t.curDesc c) true else t).done) ∧
  (∀ (s : State) (c : Fin 16) (desc : List Nat),
    let le := fun i n => ofLe (slice desc i n)
    let t := (s.modDch c fun d => { d with
        fetched := true, src := le 0 8, dst := le 8 8, next := le 16 8, len := le 24 3 % 2 ^ 21, ctrl := le 27 1 }).set
      (F.DMACH_SAMPLED_COUNT.inst c) (s.get (F.DMACH_APPEND_CNT_COUNT.inst c))
    s.dst c = 1 → (le 28 4).testBit 31 = false → le 24 3 < 2 ^ 21 →
    exec (.dmaDescFetched c desc 0) s = .next (t.dmaBegin c).done) ∧
  (∀ (s : State) (c : Fin 16) (desc : List Nat),
    let le := fun i n => ofLe (slice desc i n)
    let t := (s.modDch c fun d => { d with
        fetched := true, src := le 0 8, dst := le 8 8, next := le 16 8, len := le 24 3 % 2 ^ 21, ctrl := le 27 1 }).set
      (F.DMACH_SAMPLED_COUNT.inst c) (s.get (F.DMACH_APPEND_CNT_COUNT.inst c))
    s.dst c = 1 → (le 28 4).testBit 31 = true → (le 27 1).testBit 0 = true →
    exec (.dmaDescFetched c desc 0) s = .next (t.setDst c 6).done) ∧
  (∀ (s : State) (c : Fin 16) (desc : List Nat) (code : Nat), s.dst c = 1 → code ≠ 0 →
    exec (.dmaDescFetched c desc code) s =
      .next (((s.setLast c 0 code).setDst c 7).ev E.DMACH_FETCH_ERROR c [code, s.curDesc c % 2 ^ 32, s.curDesc c / 2 ^ 32]).done) ∧
  (∀ (s : State) (c : Nat),
    let t := State.setDst { s with dma := { s.dma with last := c } } c 2
    s.dmaNext = some c → s.on F.DMA_ACTIVE_BUSY = false → s.on F.DMA_CFG_ENABLE = true →
    ((t.dch c).usesHost = true → t.hostUp = true) →
    exec .dmaMoverGrant s = .next t.done) ∧
  (∀ s : State, s.on F.DMA_CFG_ENABLE = false → exec .dmaMoverGrant s = .next s.done) ∧
  (∀ (s : State) (c : Nat), s.dmaNext = some c →
    c < 16 ∧ s.bit F.DMA_READY_CH c = true ∧ ∀ b < 16, s.bit F.DMA_READY_CH b = true → s.dmaRank c ≤ s.dmaRank b) ∧
  (∀ (s : State) (c : Fin 16), s.dst c = 4 → s.get (F.DMACH_PACE_HI.inst c) ≤ s.ringFill (s.paceSrc c) →
    exec (.dmaPaceResume c) s = .next ((s.modDch c fun d => { d with flowing := true }).setDst c 3).done) ∧
  (∀ (s : State) (c : Fin 16), s.dst c = 4 → s.ringFill (s.paceSrc c) < s.get (F.DMACH_PACE_HI.inst c) →
    exec (.dmaPaceResume c) s = .next s.done)

/-- The data mover: a transfer between two host ranges moves its bytes and is done, a pause and an abort take hold at the end of the
burst in flight, a bus error or a completion timeout ends the descriptor BAD with the bytes moved (R436, R437, R443). -/
def Obligations.Mover : Prop :=
  (∀ (s : State) (c : Fin 16) (host : List Nat),
    let d := s.dch c
    let t := (s.emit (.hostMem d.dst ((List.range d.len).map fun i => host.getD i 0 % 256))).dmaMoved c d.len
    s.dst c = 2 → d.paced = false → d.down = false → d.overlap = false → d.srcSpace = 0 → d.dstSpace = 0 →
    d.moved = 0 → 0 < d.len → d.len ≤ 256 →
    exec (.dmaTransferDone c host 0) s = .next (t.dmaDone c 0 false).done) ∧
  (∀ (s : State) (c : Fin 16) (moved : Nat) (host : List Nat),
    let d := s.dch c
    let t := (s.emit (.hostMem d.dst ((List.range 256).map fun i => host.getD i 0 % 256))).dmaMoved c 256
    s.reaches (0x2F + c) 0x048 = true → s.dst c = 2 → d.paced = false → d.down = false → d.overlap = false → d.srcSpace = 0 → d.dstSpace = 0 →
    d.moved = 0 → 256 < d.len → 0 < moved → moved ≤ 256 →
    exec (.dmaPause c moved host) s = .next (t.dmaPauseAt c 3).done) ∧
  (∀ (s : State) (c : Fin 16) (moved : Nat) (host : List Nat), s.reaches (0x2F + c) 0x048 = true → s.dst c = 1 ∨ s.dst c = 3 ∨ s.dst c = 4 →
    exec (.dmaPause c moved host) s = .next (s.dmaPauseAt c (s.dst c)).done) ∧
  (∀ (s : State) (c : Fin 16) (moved : Nat) (host : List Nat), s.reaches (0x2F + c) 0x048 = true → s.dst c = 3 ∨ s.dst c = 4 →
    exec (.dmaAbort c moved host) s = .next ((s.dmaBad c 0x2F38 0).dmaIdle c).done) ∧
  (∀ (s : State) (c : Fin 16) (moved : Nat) (host : List Nat), s.reaches (0x2F + c) 0x048 = true → s.dst c = 0 →
    exec (.dmaAbort c moved host) s = .next (s.err E.DMACH_BAD_CMD c [7, 0]).done) ∧
  (∀ (s : State) (c : Fin 16) (code moved : Nat) (host : List Nat), s.dst c = 1 →
    exec (.dmaBusError c code moved host) s = .next (s.fetchFail c code).done) ∧
  (∀ (s : State) (c : Fin 16) (code moved : Nat) (host : List Nat), s.dst c = 2 → (s.dch c).usesHost = true → s.dmaWaits c = false →
    moved < s.moveUnit c →
    exec (.dmaBusError c code moved host) s = .next (s.dmaBad c code 7).done) ∧
  (∀ (s : State) (c : Fin 16) (moved : Nat) (host : List Nat), s.dst c = 2 → (s.dch c).usesHost = true → s.dmaWaits c = false →
    moved < s.moveUnit c →
    exec (.dmaCplTimeout c moved host) s = .next (s.dmaBad c 0x2F33 7).done)
end

