-- ==== Sys2Proof/Laws/Maps.lean ====
section
/-! SUPPORT. Laws of the sparse collections and of the table memory: reading after writing, and the canonical form. -/
namespace Sys2Proof.Machine

section maps
variable {α : Type}

theorem mget_mins_same (d : α) (m : FMap α) (k : Nat) (v : α) : mget d (mins k v m) k = v := by
  induction m with
  | nil => simp [mins, mget]
  | cons e t ih =>
    obtain ⟨a, b⟩ := e
    simp only [mins]
    split
    · simp [mget]
    · split
      · simp [mget]
      · rename_i h
        simp [mget, h, ih]

theorem mget_mins_other (d : α) (m : FMap α) (k k' : Nat) (v : α) (h : k' ≠ k) : mget d (mins k' v m) k = mget d m k := by
  induction m with
  | nil => simp [mins, mget, h]
  | cons e t ih =>
    obtain ⟨a, b⟩ := e
    simp only [mins]
    split
    · simp [mget, h]
    · split
      · rename_i h2
        subst h2
        simp [mget, h]
      · simp [mget, ih]

theorem mget_mdel_same (d : α) (m : FMap α) (k : Nat) : mget d (mdel k m) k = d := by
  induction m with
  | nil => rfl
  | cons e t ih =>
    obtain ⟨a, b⟩ := e
    simp only [mdel]
    split
    · exact ih
    · rename_i h
      simp [mget, h, ih]

theorem mget_mdel_other (d : α) (m : FMap α) (k k' : Nat) (h : k' ≠ k) : mget d (mdel k' m) k = mget d m k := by
  induction m with
  | nil => rfl
  | cons e t ih =>
    obtain ⟨a, b⟩ := e
    simp only [mdel]
    split
    · rename_i h2
      subst h2
      simp [mget, h, ih]
    · simp [mget, ih]

variable [DecidableEq α]

@[simp] theorem mget_mput_same (d : α) (m : FMap α) (k : Nat) (v : α) : mget d (mput d m k v) k = v := by
  unfold mput
  split
  · rename_i h
    rw [h, mget_mdel_same]
  · exact mget_mins_same d m k v

theorem mget_mput_other (d d' : α) (m : FMap α) (k k' : Nat) (v : α) (h : k' ≠ k) : mget d (mput d' m k' v) k = mget d m k := by
  unfold mput
  split
  · exact mget_mdel_other d m k k' h
  · exact mget_mins_other d m k k' v h

end maps

/-! ### The table memory -/

theorem memGet_memIns_same (m : List Host.Cell) (k : Nat) (v : Byte) : memGet (memIns k v m) k = v := by
  induction m with
  | nil => simp [memIns, memGet]
  | cons e t ih =>
    obtain ⟨a, b⟩ := e
    simp only [memIns]
    split
    · simp [memGet]
    · split
      · simp [memGet]
      · rename_i h
        simp [memGet, h, ih]

theorem memGet_memIns_other (m : List Host.Cell) (k k' : Nat) (v : Byte) (h : k' ≠ k) : memGet (memIns k' v m) k = memGet m k := by
  induction m with
  | nil => simp [memIns, memGet, h]
  | cons e t ih =>
    obtain ⟨a, b⟩ := e
    simp only [memIns]
    split
    · simp [memGet, h]
    · split
      · rename_i h2
        subst h2
        simp [memGet, h]
      · simp [memGet, ih]

theorem memGet_memDel_same (m : List Host.Cell) (k : Nat) : memGet (memDel k m) k = 0 := by
  induction m with
  | nil => rfl
  | cons e t ih =>
    obtain ⟨a, b⟩ := e
    simp only [memDel]
    split
    · exact ih
    · rename_i h
      simp [memGet, h, ih]

theorem memGet_memDel_other (m : List Host.Cell) (k k' : Nat) (h : k' ≠ k) : memGet (memDel k' m) k = memGet m k := by
  induction m with
  | nil => rfl
  | cons e t ih =>
    obtain ⟨a, b⟩ := e
    simp only [memDel]
    split
    · rename_i h2
      subst h2
      simp [memGet, h, ih]
    · simp [memGet, ih]

/-- A byte read where it was written is the byte written. -/
theorem memGet_memPut_same (m : List Host.Cell) (k : Nat) (v : Byte) : memGet (memPut m k v) k = v := by
  unfold memPut
  split
  · rename_i h
    rw [h, memGet_memDel_same]
  · exact memGet_memIns_same m k v

/-- A write leaves every other byte alone. -/
theorem memGet_memPut_other (m : List Host.Cell) (k k' : Nat) (v : Byte) (h : k' ≠ k) : memGet (memPut m k' v) k = memGet m k := by
  unfold memPut
  split
  · exact memGet_memDel_other m k k' h
  · exact memGet_memIns_other m k k' v h

/-! ### The canonical form -/

/-- The canonical form in the library's terms: keys strictly rising, no byte 0. -/
theorem wf_iff (m : List Host.Cell) :
    Memory.wf m = true ↔ (m.Pairwise fun a b => a.1 < b.1) ∧ ∀ e ∈ m, e.2 ≠ 0 := by
  induction m with
  | nil => simp [Memory.wf]
  | cons e t ih =>
    obtain ⟨k, v⟩ := e
    cases t with
    | nil => simp [Memory.wf]
    | cons e' t' =>
      obtain ⟨k', v'⟩ := e'
      simp only [Memory.wf, Bool.and_eq_true, decide_eq_true_eq, ih, List.pairwise_cons, List.mem_cons, forall_eq_or_imp]
      constructor
      · rintro ⟨⟨h1, h2⟩, ⟨h3, h4⟩, h5, h6⟩
        exact ⟨⟨⟨h2, fun a ha => Nat.lt_trans h2 (h3 a ha)⟩, h3, h4⟩, h1, h5, h6⟩
      · rintro ⟨⟨⟨h2, _⟩, h3, h4⟩, h1, h5, h6⟩
        exact ⟨⟨h1, h2⟩, ⟨h3, h4⟩, h5, h6⟩

/-- Taking entries away keeps the canonical form. -/
theorem wf_of_sublist {m n : List Host.Cell} (h : m.Sublist n) (hn : Memory.wf n = true) : Memory.wf m = true := by
  rw [wf_iff] at *
  exact ⟨hn.1.sublist h, fun e he => hn.2 e (h.subset he)⟩

theorem wf_filter (m : List Host.Cell) (p : Host.Cell → Bool) (h : Memory.wf m = true) : Memory.wf (m.filter p) = true :=
  wf_of_sublist List.filter_sublist h

theorem memDel_sublist (k : Nat) (m : List Host.Cell) : (memDel k m).Sublist m := by
  induction m with
  | nil => simp [memDel]
  | cons e t ih =>
    obtain ⟨a, b⟩ := e
    simp only [memDel]
    split
    · exact ih.cons _
    · exact ih.cons_cons _

theorem mem_memIns {k : Nat} {v : Byte} {m : List Host.Cell} {e : Host.Cell} (h : e ∈ memIns k v m) : e = (k, v) ∨ e ∈ m := by
  induction m with
  | nil => simpa [memIns] using h
  | cons x t ih =>
    obtain ⟨a, b⟩ := x
    simp only [memIns] at h
    split at h
    · simpa using h
    · split at h
      · rcases List.mem_cons.1 h with h | h
        · exact .inl h
        · exact .inr (List.mem_cons_of_mem _ h)
      · rcases List.mem_cons.1 h with h | h
        · exact .inr (h ▸ List.mem_cons_self)
        · exact (ih h).imp id (List.mem_cons_of_mem _)

theorem wf_memIns (m : List Host.Cell) (k : Nat) (v : Byte) (hv : v ≠ 0) (h : Memory.wf m = true) : Memory.wf (memIns k v m) = true := by
  rw [wf_iff] at *
  refine ⟨?_, fun e he => ?_⟩
  · obtain ⟨hp, -⟩ := h
    induction m with
    | nil => simp [memIns]
    | cons x t ih =>
      obtain ⟨a, b⟩ := x
      simp only [List.pairwise_cons] at hp
      simp only [memIns]
      split
      · rename_i hk
        simp only [List.pairwise_cons, List.mem_cons, forall_eq_or_imp]
        exact ⟨⟨hk, fun e he => Nat.lt_trans hk (hp.1 e he)⟩, hp.1, hp.2⟩
      · split
        · rename_i hk
          subst hk
          simp only [List.pairwise_cons]
          exact ⟨hp.1, hp.2⟩
        · simp only [List.pairwise_cons]
          refine ⟨fun e he => ?_, ih hp.2⟩
          rcases mem_memIns he with rfl | he
          · show a < k
            omega
          · exact hp.1 e he
  · rcases mem_memIns he with rfl | he
    · exact hv
    · exact h.2 e he

/-- Writing a byte keeps the canonical form. -/
theorem wf_memPut (m : List Host.Cell) (k : Nat) (v : Byte) (h : Memory.wf m = true) : Memory.wf (memPut m k v) = true := by
  unfold memPut
  split
  · exact wf_of_sublist (memDel_sublist k m) h
  · exact wf_memIns m k v ‹_› h

end Sys2Proof.Machine
end

