-- ==== Sys2Proof/Laws/State.lean ====
section
/-! SUPPORT. One lemma per field of the state and update: what each named update leaves alone, and what it writes. -/
namespace Sys2Proof.Machine


/-! ### set -/

@[simp] theorem State.set_mem (s : State) (f : Field) (v : Nat) : (s.set f v).mem = s.mem := rfl
@[simp] theorem State.set_pending (s : State) (f : Field) (v : Nat) : (s.set f v).pending = s.pending := rfl
@[simp] theorem State.set_out (s : State) (f : Field) (v : Nat) : (s.set f v).out = s.out := rfl
@[simp] theorem State.set_evWait (s : State) (f : Field) (v : Nat) : (s.set f v).evWait = s.evWait := rfl
@[simp] theorem State.set_freeCtr (s : State) (f : Field) (v : Nat) : (s.set f v).freeCtr = s.freeCtr := rfl
@[simp] theorem State.set_ticks (s : State) (f : Field) (v : Nat) : (s.set f v).ticks = s.ticks := rfl
@[simp] theorem State.set_sys (s : State) (f : Field) (v : Nat) : (s.set f v).sys = s.sys := rfl
@[simp] theorem State.set_evt (s : State) (f : Field) (v : Nat) : (s.set f v).evt = s.evt := rfl
@[simp] theorem State.set_tim (s : State) (f : Field) (v : Nat) : (s.set f v).tim = s.tim := rfl
@[simp] theorem State.set_tpo (s : State) (f : Field) (v : Nat) : (s.set f v).tpo = s.tpo := rfl
@[simp] theorem State.set_phases (s : State) (f : Field) (v : Nat) : (s.set f v).phases = s.phases := rfl
@[simp] theorem State.set_grps (s : State) (f : Field) (v : Nat) : (s.set f v).grps = s.grps := rfl
@[simp] theorem State.set_outs (s : State) (f : Field) (v : Nat) : (s.set f v).outs = s.outs := rfl
@[simp] theorem State.set_loop (s : State) (f : Field) (v : Nat) : (s.set f v).loop = s.loop := rfl
@[simp] theorem State.set_sens (s : State) (f : Field) (v : Nat) : (s.set f v).sens = s.sens := rfl
@[simp] theorem State.set_sensFrame (s : State) (f : Field) (v : Nat) : (s.set f v).sensFrame = s.sensFrame := rfl
@[simp] theorem State.set_cool (s : State) (f : Field) (v : Nat) : (s.set f v).cool = s.cool := rfl
@[simp] theorem State.set_chans (s : State) (f : Field) (v : Nat) : (s.set f v).chans = s.chans := rfl
@[simp] theorem State.set_pdie (s : State) (f : Field) (v : Nat) : (s.set f v).pdie = s.pdie := rfl
@[simp] theorem State.set_safe (s : State) (f : Field) (v : Nat) : (s.set f v).safe = s.safe := rfl
@[simp] theorem State.set_host (s : State) (f : Field) (v : Nat) : (s.set f v).host = s.host := rfl
@[simp] theorem State.set_dma (s : State) (f : Field) (v : Nat) : (s.set f v).dma = s.dma := rfl
@[simp] theorem State.set_life (s : State) (f : Field) (v : Nat) : (s.set f v).life = s.life := rfl
@[simp] theorem State.set_tabBuf (s : State) (f : Field) (v : Nat) : (s.set f v).tabBuf = s.tabBuf := rfl
@[simp] theorem State.set_slots (s : State) (f : Field) (v : Nat) : (s.set f v).slots = s.slots := rfl
@[simp] theorem State.set_sent (s : State) (f : Field) (v : Nat) : (s.set f v).sent = s.sent := rfl
@[simp] theorem State.set_tree (s : State) (f : Field) (v : Nat) : (s.set f v).tree = s.tree := rfl
@[simp] theorem State.set_links (s : State) (f : Field) (v : Nat) : (s.set f v).links = s.links := rfl
@[simp] theorem State.set_ctxs (s : State) (f : Field) (v : Nat) : (s.set f v).ctxs = s.ctxs := rfl
@[simp] theorem State.set_vde (s : State) (f : Field) (v : Nat) : (s.set f v).vde = s.vde := rfl
@[simp] theorem State.set_lens (s : State) (f : Field) (v : Nat) : (s.set f v).lens = s.lens := rfl
@[simp] theorem State.set_bill (s : State) (f : Field) (v : Nat) : (s.set f v).bill = s.bill := rfl
@[simp] theorem State.set_prot (s : State) (f : Field) (v : Nat) : (s.set f v).prot = s.prot := rfl
@[simp] theorem State.set_gsc (s : State) (f : Field) (v : Nat) : (s.set f v).gsc = s.gsc := rfl
@[simp] theorem State.set_mir (s : State) (f : Field) (v : Nat) : (s.set f v).mir = s.mir := rfl
@[simp] theorem State.set_arb (s : State) (f : Field) (v : Nat) : (s.set f v).arb = s.arb := rfl

/-! ### setI -/

@[simp] theorem State.setI_mem (s : State) (f : Field) (z : Int) : (s.setI f z).mem = s.mem := rfl
@[simp] theorem State.setI_pending (s : State) (f : Field) (z : Int) : (s.setI f z).pending = s.pending := rfl
@[simp] theorem State.setI_out (s : State) (f : Field) (z : Int) : (s.setI f z).out = s.out := rfl
@[simp] theorem State.setI_evWait (s : State) (f : Field) (z : Int) : (s.setI f z).evWait = s.evWait := rfl
@[simp] theorem State.setI_freeCtr (s : State) (f : Field) (z : Int) : (s.setI f z).freeCtr = s.freeCtr := rfl
@[simp] theorem State.setI_ticks (s : State) (f : Field) (z : Int) : (s.setI f z).ticks = s.ticks := rfl
@[simp] theorem State.setI_sys (s : State) (f : Field) (z : Int) : (s.setI f z).sys = s.sys := rfl
@[simp] theorem State.setI_evt (s : State) (f : Field) (z : Int) : (s.setI f z).evt = s.evt := rfl
@[simp] theorem State.setI_tim (s : State) (f : Field) (z : Int) : (s.setI f z).tim = s.tim := rfl
@[simp] theorem State.setI_tpo (s : State) (f : Field) (z : Int) : (s.setI f z).tpo = s.tpo := rfl
@[simp] theorem State.setI_phases (s : State) (f : Field) (z : Int) : (s.setI f z).phases = s.phases := rfl
@[simp] theorem State.setI_grps (s : State) (f : Field) (z : Int) : (s.setI f z).grps = s.grps := rfl
@[simp] theorem State.setI_outs (s : State) (f : Field) (z : Int) : (s.setI f z).outs = s.outs := rfl
@[simp] theorem State.setI_loop (s : State) (f : Field) (z : Int) : (s.setI f z).loop = s.loop := rfl
@[simp] theorem State.setI_sens (s : State) (f : Field) (z : Int) : (s.setI f z).sens = s.sens := rfl
@[simp] theorem State.setI_sensFrame (s : State) (f : Field) (z : Int) : (s.setI f z).sensFrame = s.sensFrame := rfl
@[simp] theorem State.setI_cool (s : State) (f : Field) (z : Int) : (s.setI f z).cool = s.cool := rfl
@[simp] theorem State.setI_chans (s : State) (f : Field) (z : Int) : (s.setI f z).chans = s.chans := rfl
@[simp] theorem State.setI_pdie (s : State) (f : Field) (z : Int) : (s.setI f z).pdie = s.pdie := rfl
@[simp] theorem State.setI_safe (s : State) (f : Field) (z : Int) : (s.setI f z).safe = s.safe := rfl
@[simp] theorem State.setI_host (s : State) (f : Field) (z : Int) : (s.setI f z).host = s.host := rfl
@[simp] theorem State.setI_dma (s : State) (f : Field) (z : Int) : (s.setI f z).dma = s.dma := rfl
@[simp] theorem State.setI_life (s : State) (f : Field) (z : Int) : (s.setI f z).life = s.life := rfl
@[simp] theorem State.setI_tabBuf (s : State) (f : Field) (z : Int) : (s.setI f z).tabBuf = s.tabBuf := rfl
@[simp] theorem State.setI_slots (s : State) (f : Field) (z : Int) : (s.setI f z).slots = s.slots := rfl
@[simp] theorem State.setI_sent (s : State) (f : Field) (z : Int) : (s.setI f z).sent = s.sent := rfl
@[simp] theorem State.setI_tree (s : State) (f : Field) (z : Int) : (s.setI f z).tree = s.tree := rfl
@[simp] theorem State.setI_links (s : State) (f : Field) (z : Int) : (s.setI f z).links = s.links := rfl
@[simp] theorem State.setI_ctxs (s : State) (f : Field) (z : Int) : (s.setI f z).ctxs = s.ctxs := rfl
@[simp] theorem State.setI_vde (s : State) (f : Field) (z : Int) : (s.setI f z).vde = s.vde := rfl
@[simp] theorem State.setI_lens (s : State) (f : Field) (z : Int) : (s.setI f z).lens = s.lens := rfl
@[simp] theorem State.setI_bill (s : State) (f : Field) (z : Int) : (s.setI f z).bill = s.bill := rfl
@[simp] theorem State.setI_prot (s : State) (f : Field) (z : Int) : (s.setI f z).prot = s.prot := rfl
@[simp] theorem State.setI_gsc (s : State) (f : Field) (z : Int) : (s.setI f z).gsc = s.gsc := rfl
@[simp] theorem State.setI_mir (s : State) (f : Field) (z : Int) : (s.setI f z).mir = s.mir := rfl
@[simp] theorem State.setI_arb (s : State) (f : Field) (z : Int) : (s.setI f z).arb = s.arb := rfl

/-! ### setB -/

@[simp] theorem State.setB_mem (s : State) (f : Field) (b : Bool) : (s.setB f b).mem = s.mem := rfl
@[simp] theorem State.setB_pending (s : State) (f : Field) (b : Bool) : (s.setB f b).pending = s.pending := rfl
@[simp] theorem State.setB_out (s : State) (f : Field) (b : Bool) : (s.setB f b).out = s.out := rfl
@[simp] theorem State.setB_evWait (s : State) (f : Field) (b : Bool) : (s.setB f b).evWait = s.evWait := rfl
@[simp] theorem State.setB_freeCtr (s : State) (f : Field) (b : Bool) : (s.setB f b).freeCtr = s.freeCtr := rfl
@[simp] theorem State.setB_ticks (s : State) (f : Field) (b : Bool) : (s.setB f b).ticks = s.ticks := rfl
@[simp] theorem State.setB_sys (s : State) (f : Field) (b : Bool) : (s.setB f b).sys = s.sys := rfl
@[simp] theorem State.setB_evt (s : State) (f : Field) (b : Bool) : (s.setB f b).evt = s.evt := rfl
@[simp] theorem State.setB_tim (s : State) (f : Field) (b : Bool) : (s.setB f b).tim = s.tim := rfl
@[simp] theorem State.setB_tpo (s : State) (f : Field) (b : Bool) : (s.setB f b).tpo = s.tpo := rfl
@[simp] theorem State.setB_phases (s : State) (f : Field) (b : Bool) : (s.setB f b).phases = s.phases := rfl
@[simp] theorem State.setB_grps (s : State) (f : Field) (b : Bool) : (s.setB f b).grps = s.grps := rfl
@[simp] theorem State.setB_outs (s : State) (f : Field) (b : Bool) : (s.setB f b).outs = s.outs := rfl
@[simp] theorem State.setB_loop (s : State) (f : Field) (b : Bool) : (s.setB f b).loop = s.loop := rfl
@[simp] theorem State.setB_sens (s : State) (f : Field) (b : Bool) : (s.setB f b).sens = s.sens := rfl
@[simp] theorem State.setB_sensFrame (s : State) (f : Field) (b : Bool) : (s.setB f b).sensFrame = s.sensFrame := rfl
@[simp] theorem State.setB_cool (s : State) (f : Field) (b : Bool) : (s.setB f b).cool = s.cool := rfl
@[simp] theorem State.setB_chans (s : State) (f : Field) (b : Bool) : (s.setB f b).chans = s.chans := rfl
@[simp] theorem State.setB_pdie (s : State) (f : Field) (b : Bool) : (s.setB f b).pdie = s.pdie := rfl
@[simp] theorem State.setB_safe (s : State) (f : Field) (b : Bool) : (s.setB f b).safe = s.safe := rfl
@[simp] theorem State.setB_host (s : State) (f : Field) (b : Bool) : (s.setB f b).host = s.host := rfl
@[simp] theorem State.setB_dma (s : State) (f : Field) (b : Bool) : (s.setB f b).dma = s.dma := rfl
@[simp] theorem State.setB_life (s : State) (f : Field) (b : Bool) : (s.setB f b).life = s.life := rfl
@[simp] theorem State.setB_tabBuf (s : State) (f : Field) (b : Bool) : (s.setB f b).tabBuf = s.tabBuf := rfl
@[simp] theorem State.setB_slots (s : State) (f : Field) (b : Bool) : (s.setB f b).slots = s.slots := rfl
@[simp] theorem State.setB_sent (s : State) (f : Field) (b : Bool) : (s.setB f b).sent = s.sent := rfl
@[simp] theorem State.setB_tree (s : State) (f : Field) (b : Bool) : (s.setB f b).tree = s.tree := rfl
@[simp] theorem State.setB_links (s : State) (f : Field) (b : Bool) : (s.setB f b).links = s.links := rfl
@[simp] theorem State.setB_ctxs (s : State) (f : Field) (b : Bool) : (s.setB f b).ctxs = s.ctxs := rfl
@[simp] theorem State.setB_vde (s : State) (f : Field) (b : Bool) : (s.setB f b).vde = s.vde := rfl
@[simp] theorem State.setB_lens (s : State) (f : Field) (b : Bool) : (s.setB f b).lens = s.lens := rfl
@[simp] theorem State.setB_bill (s : State) (f : Field) (b : Bool) : (s.setB f b).bill = s.bill := rfl
@[simp] theorem State.setB_prot (s : State) (f : Field) (b : Bool) : (s.setB f b).prot = s.prot := rfl
@[simp] theorem State.setB_gsc (s : State) (f : Field) (b : Bool) : (s.setB f b).gsc = s.gsc := rfl
@[simp] theorem State.setB_mir (s : State) (f : Field) (b : Bool) : (s.setB f b).mir = s.mir := rfl
@[simp] theorem State.setB_arb (s : State) (f : Field) (b : Bool) : (s.setB f b).arb = s.arb := rfl

/-! ### setBit -/

@[simp] theorem State.setBit_mem (s : State) (f : Field) (i : Nat) (b : Bool) : (s.setBit f i b).mem = s.mem := rfl
@[simp] theorem State.setBit_pending (s : State) (f : Field) (i : Nat) (b : Bool) : (s.setBit f i b).pending = s.pending := rfl
@[simp] theorem State.setBit_out (s : State) (f : Field) (i : Nat) (b : Bool) : (s.setBit f i b).out = s.out := rfl
@[simp] theorem State.setBit_evWait (s : State) (f : Field) (i : Nat) (b : Bool) : (s.setBit f i b).evWait = s.evWait := rfl
@[simp] theorem State.setBit_freeCtr (s : State) (f : Field) (i : Nat) (b : Bool) : (s.setBit f i b).freeCtr = s.freeCtr := rfl
@[simp] theorem State.setBit_ticks (s : State) (f : Field) (i : Nat) (b : Bool) : (s.setBit f i b).ticks = s.ticks := rfl
@[simp] theorem State.setBit_sys (s : State) (f : Field) (i : Nat) (b : Bool) : (s.setBit f i b).sys = s.sys := rfl
@[simp] theorem State.setBit_evt (s : State) (f : Field) (i : Nat) (b : Bool) : (s.setBit f i b).evt = s.evt := rfl
@[simp] theorem State.setBit_tim (s : State) (f : Field) (i : Nat) (b : Bool) : (s.setBit f i b).tim = s.tim := rfl
@[simp] theorem State.setBit_tpo (s : State) (f : Field) (i : Nat) (b : Bool) : (s.setBit f i b).tpo = s.tpo := rfl
@[simp] theorem State.setBit_phases (s : State) (f : Field) (i : Nat) (b : Bool) : (s.setBit f i b).phases = s.phases := rfl
@[simp] theorem State.setBit_grps (s : State) (f : Field) (i : Nat) (b : Bool) : (s.setBit f i b).grps = s.grps := rfl
@[simp] theorem State.setBit_outs (s : State) (f : Field) (i : Nat) (b : Bool) : (s.setBit f i b).outs = s.outs := rfl
@[simp] theorem State.setBit_loop (s : State) (f : Field) (i : Nat) (b : Bool) : (s.setBit f i b).loop = s.loop := rfl
@[simp] theorem State.setBit_sens (s : State) (f : Field) (i : Nat) (b : Bool) : (s.setBit f i b).sens = s.sens := rfl
@[simp] theorem State.setBit_sensFrame (s : State) (f : Field) (i : Nat) (b : Bool) : (s.setBit f i b).sensFrame = s.sensFrame := rfl
@[simp] theorem State.setBit_cool (s : State) (f : Field) (i : Nat) (b : Bool) : (s.setBit f i b).cool = s.cool := rfl
@[simp] theorem State.setBit_chans (s : State) (f : Field) (i : Nat) (b : Bool) : (s.setBit f i b).chans = s.chans := rfl
@[simp] theorem State.setBit_pdie (s : State) (f : Field) (i : Nat) (b : Bool) : (s.setBit f i b).pdie = s.pdie := rfl
@[simp] theorem State.setBit_safe (s : State) (f : Field) (i : Nat) (b : Bool) : (s.setBit f i b).safe = s.safe := rfl
@[simp] theorem State.setBit_host (s : State) (f : Field) (i : Nat) (b : Bool) : (s.setBit f i b).host = s.host := rfl
@[simp] theorem State.setBit_dma (s : State) (f : Field) (i : Nat) (b : Bool) : (s.setBit f i b).dma = s.dma := rfl
@[simp] theorem State.setBit_life (s : State) (f : Field) (i : Nat) (b : Bool) : (s.setBit f i b).life = s.life := rfl
@[simp] theorem State.setBit_tabBuf (s : State) (f : Field) (i : Nat) (b : Bool) : (s.setBit f i b).tabBuf = s.tabBuf := rfl
@[simp] theorem State.setBit_slots (s : State) (f : Field) (i : Nat) (b : Bool) : (s.setBit f i b).slots = s.slots := rfl
@[simp] theorem State.setBit_sent (s : State) (f : Field) (i : Nat) (b : Bool) : (s.setBit f i b).sent = s.sent := rfl
@[simp] theorem State.setBit_tree (s : State) (f : Field) (i : Nat) (b : Bool) : (s.setBit f i b).tree = s.tree := rfl
@[simp] theorem State.setBit_links (s : State) (f : Field) (i : Nat) (b : Bool) : (s.setBit f i b).links = s.links := rfl
@[simp] theorem State.setBit_ctxs (s : State) (f : Field) (i : Nat) (b : Bool) : (s.setBit f i b).ctxs = s.ctxs := rfl
@[simp] theorem State.setBit_vde (s : State) (f : Field) (i : Nat) (b : Bool) : (s.setBit f i b).vde = s.vde := rfl
@[simp] theorem State.setBit_lens (s : State) (f : Field) (i : Nat) (b : Bool) : (s.setBit f i b).lens = s.lens := rfl
@[simp] theorem State.setBit_bill (s : State) (f : Field) (i : Nat) (b : Bool) : (s.setBit f i b).bill = s.bill := rfl
@[simp] theorem State.setBit_prot (s : State) (f : Field) (i : Nat) (b : Bool) : (s.setBit f i b).prot = s.prot := rfl
@[simp] theorem State.setBit_gsc (s : State) (f : Field) (i : Nat) (b : Bool) : (s.setBit f i b).gsc = s.gsc := rfl
@[simp] theorem State.setBit_mir (s : State) (f : Field) (i : Nat) (b : Bool) : (s.setBit f i b).mir = s.mir := rfl
@[simp] theorem State.setBit_arb (s : State) (f : Field) (i : Nat) (b : Bool) : (s.setBit f i b).arb = s.arb := rfl

/-! ### inc -/

@[simp] theorem State.inc_mem (s : State) (f : Field) : (s.inc f).mem = s.mem := rfl
@[simp] theorem State.inc_pending (s : State) (f : Field) : (s.inc f).pending = s.pending := rfl
@[simp] theorem State.inc_out (s : State) (f : Field) : (s.inc f).out = s.out := rfl
@[simp] theorem State.inc_evWait (s : State) (f : Field) : (s.inc f).evWait = s.evWait := rfl
@[simp] theorem State.inc_freeCtr (s : State) (f : Field) : (s.inc f).freeCtr = s.freeCtr := rfl
@[simp] theorem State.inc_ticks (s : State) (f : Field) : (s.inc f).ticks = s.ticks := rfl
@[simp] theorem State.inc_sys (s : State) (f : Field) : (s.inc f).sys = s.sys := rfl
@[simp] theorem State.inc_evt (s : State) (f : Field) : (s.inc f).evt = s.evt := rfl
@[simp] theorem State.inc_tim (s : State) (f : Field) : (s.inc f).tim = s.tim := rfl
@[simp] theorem State.inc_tpo (s : State) (f : Field) : (s.inc f).tpo = s.tpo := rfl
@[simp] theorem State.inc_phases (s : State) (f : Field) : (s.inc f).phases = s.phases := rfl
@[simp] theorem State.inc_grps (s : State) (f : Field) : (s.inc f).grps = s.grps := rfl
@[simp] theorem State.inc_outs (s : State) (f : Field) : (s.inc f).outs = s.outs := rfl
@[simp] theorem State.inc_loop (s : State) (f : Field) : (s.inc f).loop = s.loop := rfl
@[simp] theorem State.inc_sens (s : State) (f : Field) : (s.inc f).sens = s.sens := rfl
@[simp] theorem State.inc_sensFrame (s : State) (f : Field) : (s.inc f).sensFrame = s.sensFrame := rfl
@[simp] theorem State.inc_cool (s : State) (f : Field) : (s.inc f).cool = s.cool := rfl
@[simp] theorem State.inc_chans (s : State) (f : Field) : (s.inc f).chans = s.chans := rfl
@[simp] theorem State.inc_pdie (s : State) (f : Field) : (s.inc f).pdie = s.pdie := rfl
@[simp] theorem State.inc_safe (s : State) (f : Field) : (s.inc f).safe = s.safe := rfl
@[simp] theorem State.inc_host (s : State) (f : Field) : (s.inc f).host = s.host := rfl
@[simp] theorem State.inc_dma (s : State) (f : Field) : (s.inc f).dma = s.dma := rfl
@[simp] theorem State.inc_life (s : State) (f : Field) : (s.inc f).life = s.life := rfl
@[simp] theorem State.inc_tabBuf (s : State) (f : Field) : (s.inc f).tabBuf = s.tabBuf := rfl
@[simp] theorem State.inc_slots (s : State) (f : Field) : (s.inc f).slots = s.slots := rfl
@[simp] theorem State.inc_sent (s : State) (f : Field) : (s.inc f).sent = s.sent := rfl
@[simp] theorem State.inc_tree (s : State) (f : Field) : (s.inc f).tree = s.tree := rfl
@[simp] theorem State.inc_links (s : State) (f : Field) : (s.inc f).links = s.links := rfl
@[simp] theorem State.inc_ctxs (s : State) (f : Field) : (s.inc f).ctxs = s.ctxs := rfl
@[simp] theorem State.inc_vde (s : State) (f : Field) : (s.inc f).vde = s.vde := rfl
@[simp] theorem State.inc_lens (s : State) (f : Field) : (s.inc f).lens = s.lens := rfl
@[simp] theorem State.inc_bill (s : State) (f : Field) : (s.inc f).bill = s.bill := rfl
@[simp] theorem State.inc_prot (s : State) (f : Field) : (s.inc f).prot = s.prot := rfl
@[simp] theorem State.inc_gsc (s : State) (f : Field) : (s.inc f).gsc = s.gsc := rfl
@[simp] theorem State.inc_mir (s : State) (f : Field) : (s.inc f).mir = s.mir := rfl
@[simp] theorem State.inc_arb (s : State) (f : Field) : (s.inc f).arb = s.arb := rfl

/-! ### incSat -/

@[simp] theorem State.incSat_mem (s : State) (f : Field) : (s.incSat f).mem = s.mem := rfl
@[simp] theorem State.incSat_pending (s : State) (f : Field) : (s.incSat f).pending = s.pending := rfl
@[simp] theorem State.incSat_out (s : State) (f : Field) : (s.incSat f).out = s.out := rfl
@[simp] theorem State.incSat_evWait (s : State) (f : Field) : (s.incSat f).evWait = s.evWait := rfl
@[simp] theorem State.incSat_freeCtr (s : State) (f : Field) : (s.incSat f).freeCtr = s.freeCtr := rfl
@[simp] theorem State.incSat_ticks (s : State) (f : Field) : (s.incSat f).ticks = s.ticks := rfl
@[simp] theorem State.incSat_sys (s : State) (f : Field) : (s.incSat f).sys = s.sys := rfl
@[simp] theorem State.incSat_evt (s : State) (f : Field) : (s.incSat f).evt = s.evt := rfl
@[simp] theorem State.incSat_tim (s : State) (f : Field) : (s.incSat f).tim = s.tim := rfl
@[simp] theorem State.incSat_tpo (s : State) (f : Field) : (s.incSat f).tpo = s.tpo := rfl
@[simp] theorem State.incSat_phases (s : State) (f : Field) : (s.incSat f).phases = s.phases := rfl
@[simp] theorem State.incSat_grps (s : State) (f : Field) : (s.incSat f).grps = s.grps := rfl
@[simp] theorem State.incSat_outs (s : State) (f : Field) : (s.incSat f).outs = s.outs := rfl
@[simp] theorem State.incSat_loop (s : State) (f : Field) : (s.incSat f).loop = s.loop := rfl
@[simp] theorem State.incSat_sens (s : State) (f : Field) : (s.incSat f).sens = s.sens := rfl
@[simp] theorem State.incSat_sensFrame (s : State) (f : Field) : (s.incSat f).sensFrame = s.sensFrame := rfl
@[simp] theorem State.incSat_cool (s : State) (f : Field) : (s.incSat f).cool = s.cool := rfl
@[simp] theorem State.incSat_chans (s : State) (f : Field) : (s.incSat f).chans = s.chans := rfl
@[simp] theorem State.incSat_pdie (s : State) (f : Field) : (s.incSat f).pdie = s.pdie := rfl
@[simp] theorem State.incSat_safe (s : State) (f : Field) : (s.incSat f).safe = s.safe := rfl
@[simp] theorem State.incSat_host (s : State) (f : Field) : (s.incSat f).host = s.host := rfl
@[simp] theorem State.incSat_dma (s : State) (f : Field) : (s.incSat f).dma = s.dma := rfl
@[simp] theorem State.incSat_life (s : State) (f : Field) : (s.incSat f).life = s.life := rfl
@[simp] theorem State.incSat_tabBuf (s : State) (f : Field) : (s.incSat f).tabBuf = s.tabBuf := rfl
@[simp] theorem State.incSat_slots (s : State) (f : Field) : (s.incSat f).slots = s.slots := rfl
@[simp] theorem State.incSat_sent (s : State) (f : Field) : (s.incSat f).sent = s.sent := rfl
@[simp] theorem State.incSat_tree (s : State) (f : Field) : (s.incSat f).tree = s.tree := rfl
@[simp] theorem State.incSat_links (s : State) (f : Field) : (s.incSat f).links = s.links := rfl
@[simp] theorem State.incSat_ctxs (s : State) (f : Field) : (s.incSat f).ctxs = s.ctxs := rfl
@[simp] theorem State.incSat_vde (s : State) (f : Field) : (s.incSat f).vde = s.vde := rfl
@[simp] theorem State.incSat_lens (s : State) (f : Field) : (s.incSat f).lens = s.lens := rfl
@[simp] theorem State.incSat_bill (s : State) (f : Field) : (s.incSat f).bill = s.bill := rfl
@[simp] theorem State.incSat_prot (s : State) (f : Field) : (s.incSat f).prot = s.prot := rfl
@[simp] theorem State.incSat_gsc (s : State) (f : Field) : (s.incSat f).gsc = s.gsc := rfl
@[simp] theorem State.incSat_mir (s : State) (f : Field) : (s.incSat f).mir = s.mir := rfl
@[simp] theorem State.incSat_arb (s : State) (f : Field) : (s.incSat f).arb = s.arb := rfl

/-! ### set2 -/

@[simp] theorem State.set2_mem (s : State) (hi lo : Field) (v : Nat) : (s.set2 hi lo v).mem = s.mem := rfl
@[simp] theorem State.set2_pending (s : State) (hi lo : Field) (v : Nat) : (s.set2 hi lo v).pending = s.pending := rfl
@[simp] theorem State.set2_out (s : State) (hi lo : Field) (v : Nat) : (s.set2 hi lo v).out = s.out := rfl
@[simp] theorem State.set2_evWait (s : State) (hi lo : Field) (v : Nat) : (s.set2 hi lo v).evWait = s.evWait := rfl
@[simp] theorem State.set2_freeCtr (s : State) (hi lo : Field) (v : Nat) : (s.set2 hi lo v).freeCtr = s.freeCtr := rfl
@[simp] theorem State.set2_ticks (s : State) (hi lo : Field) (v : Nat) : (s.set2 hi lo v).ticks = s.ticks := rfl
@[simp] theorem State.set2_sys (s : State) (hi lo : Field) (v : Nat) : (s.set2 hi lo v).sys = s.sys := rfl
@[simp] theorem State.set2_evt (s : State) (hi lo : Field) (v : Nat) : (s.set2 hi lo v).evt = s.evt := rfl
@[simp] theorem State.set2_tim (s : State) (hi lo : Field) (v : Nat) : (s.set2 hi lo v).tim = s.tim := rfl
@[simp] theorem State.set2_tpo (s : State) (hi lo : Field) (v : Nat) : (s.set2 hi lo v).tpo = s.tpo := rfl
@[simp] theorem State.set2_phases (s : State) (hi lo : Field) (v : Nat) : (s.set2 hi lo v).phases = s.phases := rfl
@[simp] theorem State.set2_grps (s : State) (hi lo : Field) (v : Nat) : (s.set2 hi lo v).grps = s.grps := rfl
@[simp] theorem State.set2_outs (s : State) (hi lo : Field) (v : Nat) : (s.set2 hi lo v).outs = s.outs := rfl
@[simp] theorem State.set2_loop (s : State) (hi lo : Field) (v : Nat) : (s.set2 hi lo v).loop = s.loop := rfl
@[simp] theorem State.set2_sens (s : State) (hi lo : Field) (v : Nat) : (s.set2 hi lo v).sens = s.sens := rfl
@[simp] theorem State.set2_sensFrame (s : State) (hi lo : Field) (v : Nat) : (s.set2 hi lo v).sensFrame = s.sensFrame := rfl
@[simp] theorem State.set2_cool (s : State) (hi lo : Field) (v : Nat) : (s.set2 hi lo v).cool = s.cool := rfl
@[simp] theorem State.set2_chans (s : State) (hi lo : Field) (v : Nat) : (s.set2 hi lo v).chans = s.chans := rfl
@[simp] theorem State.set2_pdie (s : State) (hi lo : Field) (v : Nat) : (s.set2 hi lo v).pdie = s.pdie := rfl
@[simp] theorem State.set2_safe (s : State) (hi lo : Field) (v : Nat) : (s.set2 hi lo v).safe = s.safe := rfl
@[simp] theorem State.set2_host (s : State) (hi lo : Field) (v : Nat) : (s.set2 hi lo v).host = s.host := rfl
@[simp] theorem State.set2_dma (s : State) (hi lo : Field) (v : Nat) : (s.set2 hi lo v).dma = s.dma := rfl
@[simp] theorem State.set2_life (s : State) (hi lo : Field) (v : Nat) : (s.set2 hi lo v).life = s.life := rfl
@[simp] theorem State.set2_tabBuf (s : State) (hi lo : Field) (v : Nat) : (s.set2 hi lo v).tabBuf = s.tabBuf := rfl
@[simp] theorem State.set2_slots (s : State) (hi lo : Field) (v : Nat) : (s.set2 hi lo v).slots = s.slots := rfl
@[simp] theorem State.set2_sent (s : State) (hi lo : Field) (v : Nat) : (s.set2 hi lo v).sent = s.sent := rfl
@[simp] theorem State.set2_tree (s : State) (hi lo : Field) (v : Nat) : (s.set2 hi lo v).tree = s.tree := rfl
@[simp] theorem State.set2_links (s : State) (hi lo : Field) (v : Nat) : (s.set2 hi lo v).links = s.links := rfl
@[simp] theorem State.set2_ctxs (s : State) (hi lo : Field) (v : Nat) : (s.set2 hi lo v).ctxs = s.ctxs := rfl
@[simp] theorem State.set2_vde (s : State) (hi lo : Field) (v : Nat) : (s.set2 hi lo v).vde = s.vde := rfl
@[simp] theorem State.set2_lens (s : State) (hi lo : Field) (v : Nat) : (s.set2 hi lo v).lens = s.lens := rfl
@[simp] theorem State.set2_bill (s : State) (hi lo : Field) (v : Nat) : (s.set2 hi lo v).bill = s.bill := rfl
@[simp] theorem State.set2_prot (s : State) (hi lo : Field) (v : Nat) : (s.set2 hi lo v).prot = s.prot := rfl
@[simp] theorem State.set2_gsc (s : State) (hi lo : Field) (v : Nat) : (s.set2 hi lo v).gsc = s.gsc := rfl
@[simp] theorem State.set2_mir (s : State) (hi lo : Field) (v : Nat) : (s.set2 hi lo v).mir = s.mir := rfl
@[simp] theorem State.set2_arb (s : State) (hi lo : Field) (v : Nat) : (s.set2 hi lo v).arb = s.arb := rfl

/-! ### wrByte -/

@[simp] theorem State.wrByte_regs (s : State) (a v : Nat) : (s.wrByte a v).regs = s.regs := rfl
@[simp] theorem State.wrByte_pending (s : State) (a v : Nat) : (s.wrByte a v).pending = s.pending := rfl
@[simp] theorem State.wrByte_out (s : State) (a v : Nat) : (s.wrByte a v).out = s.out := rfl
@[simp] theorem State.wrByte_evWait (s : State) (a v : Nat) : (s.wrByte a v).evWait = s.evWait := rfl
@[simp] theorem State.wrByte_freeCtr (s : State) (a v : Nat) : (s.wrByte a v).freeCtr = s.freeCtr := rfl
@[simp] theorem State.wrByte_ticks (s : State) (a v : Nat) : (s.wrByte a v).ticks = s.ticks := rfl
@[simp] theorem State.wrByte_sys (s : State) (a v : Nat) : (s.wrByte a v).sys = s.sys := rfl
@[simp] theorem State.wrByte_evt (s : State) (a v : Nat) : (s.wrByte a v).evt = s.evt := rfl
@[simp] theorem State.wrByte_tim (s : State) (a v : Nat) : (s.wrByte a v).tim = s.tim := rfl
@[simp] theorem State.wrByte_tpo (s : State) (a v : Nat) : (s.wrByte a v).tpo = s.tpo := rfl
@[simp] theorem State.wrByte_phases (s : State) (a v : Nat) : (s.wrByte a v).phases = s.phases := rfl
@[simp] theorem State.wrByte_grps (s : State) (a v : Nat) : (s.wrByte a v).grps = s.grps := rfl
@[simp] theorem State.wrByte_outs (s : State) (a v : Nat) : (s.wrByte a v).outs = s.outs := rfl
@[simp] theorem State.wrByte_loop (s : State) (a v : Nat) : (s.wrByte a v).loop = s.loop := rfl
@[simp] theorem State.wrByte_sens (s : State) (a v : Nat) : (s.wrByte a v).sens = s.sens := rfl
@[simp] theorem State.wrByte_sensFrame (s : State) (a v : Nat) : (s.wrByte a v).sensFrame = s.sensFrame := rfl
@[simp] theorem State.wrByte_cool (s : State) (a v : Nat) : (s.wrByte a v).cool = s.cool := rfl
@[simp] theorem State.wrByte_chans (s : State) (a v : Nat) : (s.wrByte a v).chans = s.chans := rfl
@[simp] theorem State.wrByte_pdie (s : State) (a v : Nat) : (s.wrByte a v).pdie = s.pdie := rfl
@[simp] theorem State.wrByte_safe (s : State) (a v : Nat) : (s.wrByte a v).safe = s.safe := rfl
@[simp] theorem State.wrByte_host (s : State) (a v : Nat) : (s.wrByte a v).host = s.host := rfl
@[simp] theorem State.wrByte_dma (s : State) (a v : Nat) : (s.wrByte a v).dma = s.dma := rfl
@[simp] theorem State.wrByte_life (s : State) (a v : Nat) : (s.wrByte a v).life = s.life := rfl
@[simp] theorem State.wrByte_tabBuf (s : State) (a v : Nat) : (s.wrByte a v).tabBuf = s.tabBuf := rfl
@[simp] theorem State.wrByte_slots (s : State) (a v : Nat) : (s.wrByte a v).slots = s.slots := rfl
@[simp] theorem State.wrByte_sent (s : State) (a v : Nat) : (s.wrByte a v).sent = s.sent := rfl
@[simp] theorem State.wrByte_tree (s : State) (a v : Nat) : (s.wrByte a v).tree = s.tree := rfl
@[simp] theorem State.wrByte_links (s : State) (a v : Nat) : (s.wrByte a v).links = s.links := rfl
@[simp] theorem State.wrByte_ctxs (s : State) (a v : Nat) : (s.wrByte a v).ctxs = s.ctxs := rfl
@[simp] theorem State.wrByte_vde (s : State) (a v : Nat) : (s.wrByte a v).vde = s.vde := rfl
@[simp] theorem State.wrByte_lens (s : State) (a v : Nat) : (s.wrByte a v).lens = s.lens := rfl
@[simp] theorem State.wrByte_bill (s : State) (a v : Nat) : (s.wrByte a v).bill = s.bill := rfl
@[simp] theorem State.wrByte_prot (s : State) (a v : Nat) : (s.wrByte a v).prot = s.prot := rfl
@[simp] theorem State.wrByte_gsc (s : State) (a v : Nat) : (s.wrByte a v).gsc = s.gsc := rfl
@[simp] theorem State.wrByte_mir (s : State) (a v : Nat) : (s.wrByte a v).mir = s.mir := rfl
@[simp] theorem State.wrByte_arb (s : State) (a v : Nat) : (s.wrByte a v).arb = s.arb := rfl

/-! ### emit -/

@[simp] theorem State.emit_regs (s : State) (o : Out) : (s.emit o).regs = s.regs := rfl
@[simp] theorem State.emit_mem (s : State) (o : Out) : (s.emit o).mem = s.mem := rfl
@[simp] theorem State.emit_pending (s : State) (o : Out) : (s.emit o).pending = s.pending := rfl
@[simp] theorem State.emit_evWait (s : State) (o : Out) : (s.emit o).evWait = s.evWait := rfl
@[simp] theorem State.emit_freeCtr (s : State) (o : Out) : (s.emit o).freeCtr = s.freeCtr := rfl
@[simp] theorem State.emit_ticks (s : State) (o : Out) : (s.emit o).ticks = s.ticks := rfl
@[simp] theorem State.emit_sys (s : State) (o : Out) : (s.emit o).sys = s.sys := rfl
@[simp] theorem State.emit_evt (s : State) (o : Out) : (s.emit o).evt = s.evt := rfl
@[simp] theorem State.emit_tim (s : State) (o : Out) : (s.emit o).tim = s.tim := rfl
@[simp] theorem State.emit_tpo (s : State) (o : Out) : (s.emit o).tpo = s.tpo := rfl
@[simp] theorem State.emit_phases (s : State) (o : Out) : (s.emit o).phases = s.phases := rfl
@[simp] theorem State.emit_grps (s : State) (o : Out) : (s.emit o).grps = s.grps := rfl
@[simp] theorem State.emit_outs (s : State) (o : Out) : (s.emit o).outs = s.outs := rfl
@[simp] theorem State.emit_loop (s : State) (o : Out) : (s.emit o).loop = s.loop := rfl
@[simp] theorem State.emit_sens (s : State) (o : Out) : (s.emit o).sens = s.sens := rfl
@[simp] theorem State.emit_sensFrame (s : State) (o : Out) : (s.emit o).sensFrame = s.sensFrame := rfl
@[simp] theorem State.emit_cool (s : State) (o : Out) : (s.emit o).cool = s.cool := rfl
@[simp] theorem State.emit_chans (s : State) (o : Out) : (s.emit o).chans = s.chans := rfl
@[simp] theorem State.emit_pdie (s : State) (o : Out) : (s.emit o).pdie = s.pdie := rfl
@[simp] theorem State.emit_safe (s : State) (o : Out) : (s.emit o).safe = s.safe := rfl
@[simp] theorem State.emit_host (s : State) (o : Out) : (s.emit o).host = s.host := rfl
@[simp] theorem State.emit_dma (s : State) (o : Out) : (s.emit o).dma = s.dma := rfl
@[simp] theorem State.emit_life (s : State) (o : Out) : (s.emit o).life = s.life := rfl
@[simp] theorem State.emit_tabBuf (s : State) (o : Out) : (s.emit o).tabBuf = s.tabBuf := rfl
@[simp] theorem State.emit_slots (s : State) (o : Out) : (s.emit o).slots = s.slots := rfl
@[simp] theorem State.emit_sent (s : State) (o : Out) : (s.emit o).sent = s.sent := rfl
@[simp] theorem State.emit_tree (s : State) (o : Out) : (s.emit o).tree = s.tree := rfl
@[simp] theorem State.emit_links (s : State) (o : Out) : (s.emit o).links = s.links := rfl
@[simp] theorem State.emit_ctxs (s : State) (o : Out) : (s.emit o).ctxs = s.ctxs := rfl
@[simp] theorem State.emit_vde (s : State) (o : Out) : (s.emit o).vde = s.vde := rfl
@[simp] theorem State.emit_lens (s : State) (o : Out) : (s.emit o).lens = s.lens := rfl
@[simp] theorem State.emit_bill (s : State) (o : Out) : (s.emit o).bill = s.bill := rfl
@[simp] theorem State.emit_prot (s : State) (o : Out) : (s.emit o).prot = s.prot := rfl
@[simp] theorem State.emit_gsc (s : State) (o : Out) : (s.emit o).gsc = s.gsc := rfl
@[simp] theorem State.emit_mir (s : State) (o : Out) : (s.emit o).mir = s.mir := rfl
@[simp] theorem State.emit_arb (s : State) (o : Out) : (s.emit o).arb = s.arb := rfl

/-! ### ev -/

@[simp] theorem State.ev_regs (s : State) (c : EvCode) (n : Nat) (d : List Nat) : (s.ev c n d).regs = s.regs := rfl
@[simp] theorem State.ev_mem (s : State) (c : EvCode) (n : Nat) (d : List Nat) : (s.ev c n d).mem = s.mem := rfl
@[simp] theorem State.ev_pending (s : State) (c : EvCode) (n : Nat) (d : List Nat) : (s.ev c n d).pending = s.pending := rfl
@[simp] theorem State.ev_out (s : State) (c : EvCode) (n : Nat) (d : List Nat) : (s.ev c n d).out = s.out := rfl
@[simp] theorem State.ev_freeCtr (s : State) (c : EvCode) (n : Nat) (d : List Nat) : (s.ev c n d).freeCtr = s.freeCtr := rfl
@[simp] theorem State.ev_ticks (s : State) (c : EvCode) (n : Nat) (d : List Nat) : (s.ev c n d).ticks = s.ticks := rfl
@[simp] theorem State.ev_sys (s : State) (c : EvCode) (n : Nat) (d : List Nat) : (s.ev c n d).sys = s.sys := rfl
@[simp] theorem State.ev_evt (s : State) (c : EvCode) (n : Nat) (d : List Nat) : (s.ev c n d).evt = s.evt := rfl
@[simp] theorem State.ev_tim (s : State) (c : EvCode) (n : Nat) (d : List Nat) : (s.ev c n d).tim = s.tim := rfl
@[simp] theorem State.ev_tpo (s : State) (c : EvCode) (n : Nat) (d : List Nat) : (s.ev c n d).tpo = s.tpo := rfl
@[simp] theorem State.ev_phases (s : State) (c : EvCode) (n : Nat) (d : List Nat) : (s.ev c n d).phases = s.phases := rfl
@[simp] theorem State.ev_grps (s : State) (c : EvCode) (n : Nat) (d : List Nat) : (s.ev c n d).grps = s.grps := rfl
@[simp] theorem State.ev_outs (s : State) (c : EvCode) (n : Nat) (d : List Nat) : (s.ev c n d).outs = s.outs := rfl
@[simp] theorem State.ev_loop (s : State) (c : EvCode) (n : Nat) (d : List Nat) : (s.ev c n d).loop = s.loop := rfl
@[simp] theorem State.ev_sens (s : State) (c : EvCode) (n : Nat) (d : List Nat) : (s.ev c n d).sens = s.sens := rfl
@[simp] theorem State.ev_sensFrame (s : State) (c : EvCode) (n : Nat) (d : List Nat) : (s.ev c n d).sensFrame = s.sensFrame := rfl
@[simp] theorem State.ev_cool (s : State) (c : EvCode) (n : Nat) (d : List Nat) : (s.ev c n d).cool = s.cool := rfl
@[simp] theorem State.ev_chans (s : State) (c : EvCode) (n : Nat) (d : List Nat) : (s.ev c n d).chans = s.chans := rfl
@[simp] theorem State.ev_pdie (s : State) (c : EvCode) (n : Nat) (d : List Nat) : (s.ev c n d).pdie = s.pdie := rfl
@[simp] theorem State.ev_safe (s : State) (c : EvCode) (n : Nat) (d : List Nat) : (s.ev c n d).safe = s.safe := rfl
@[simp] theorem State.ev_host (s : State) (c : EvCode) (n : Nat) (d : List Nat) : (s.ev c n d).host = s.host := rfl
@[simp] theorem State.ev_dma (s : State) (c : EvCode) (n : Nat) (d : List Nat) : (s.ev c n d).dma = s.dma := rfl
@[simp] theorem State.ev_life (s : State) (c : EvCode) (n : Nat) (d : List Nat) : (s.ev c n d).life = s.life := rfl
@[simp] theorem State.ev_tabBuf (s : State) (c : EvCode) (n : Nat) (d : List Nat) : (s.ev c n d).tabBuf = s.tabBuf := rfl
@[simp] theorem State.ev_slots (s : State) (c : EvCode) (n : Nat) (d : List Nat) : (s.ev c n d).slots = s.slots := rfl
@[simp] theorem State.ev_sent (s : State) (c : EvCode) (n : Nat) (d : List Nat) : (s.ev c n d).sent = s.sent := rfl
@[simp] theorem State.ev_tree (s : State) (c : EvCode) (n : Nat) (d : List Nat) : (s.ev c n d).tree = s.tree := rfl
@[simp] theorem State.ev_links (s : State) (c : EvCode) (n : Nat) (d : List Nat) : (s.ev c n d).links = s.links := rfl
@[simp] theorem State.ev_ctxs (s : State) (c : EvCode) (n : Nat) (d : List Nat) : (s.ev c n d).ctxs = s.ctxs := rfl
@[simp] theorem State.ev_vde (s : State) (c : EvCode) (n : Nat) (d : List Nat) : (s.ev c n d).vde = s.vde := rfl
@[simp] theorem State.ev_lens (s : State) (c : EvCode) (n : Nat) (d : List Nat) : (s.ev c n d).lens = s.lens := rfl
@[simp] theorem State.ev_bill (s : State) (c : EvCode) (n : Nat) (d : List Nat) : (s.ev c n d).bill = s.bill := rfl
@[simp] theorem State.ev_prot (s : State) (c : EvCode) (n : Nat) (d : List Nat) : (s.ev c n d).prot = s.prot := rfl
@[simp] theorem State.ev_gsc (s : State) (c : EvCode) (n : Nat) (d : List Nat) : (s.ev c n d).gsc = s.gsc := rfl
@[simp] theorem State.ev_mir (s : State) (c : EvCode) (n : Nat) (d : List Nat) : (s.ev c n d).mir = s.mir := rfl
@[simp] theorem State.ev_arb (s : State) (c : EvCode) (n : Nat) (d : List Nat) : (s.ev c n d).arb = s.arb := rfl

/-! ### err -/

@[simp] theorem State.err_regs (s : State) (c : EvCode) (n : Nat) (d : List Nat) : (s.err c n d).regs = s.regs := rfl
@[simp] theorem State.err_mem (s : State) (c : EvCode) (n : Nat) (d : List Nat) : (s.err c n d).mem = s.mem := rfl
@[simp] theorem State.err_pending (s : State) (c : EvCode) (n : Nat) (d : List Nat) : (s.err c n d).pending = s.pending := rfl
@[simp] theorem State.err_out (s : State) (c : EvCode) (n : Nat) (d : List Nat) : (s.err c n d).out = s.out := rfl
@[simp] theorem State.err_freeCtr (s : State) (c : EvCode) (n : Nat) (d : List Nat) : (s.err c n d).freeCtr = s.freeCtr := rfl
@[simp] theorem State.err_ticks (s : State) (c : EvCode) (n : Nat) (d : List Nat) : (s.err c n d).ticks = s.ticks := rfl
@[simp] theorem State.err_sys (s : State) (c : EvCode) (n : Nat) (d : List Nat) : (s.err c n d).sys = s.sys := rfl
@[simp] theorem State.err_evt (s : State) (c : EvCode) (n : Nat) (d : List Nat) : (s.err c n d).evt = s.evt := rfl
@[simp] theorem State.err_tim (s : State) (c : EvCode) (n : Nat) (d : List Nat) : (s.err c n d).tim = s.tim := rfl
@[simp] theorem State.err_tpo (s : State) (c : EvCode) (n : Nat) (d : List Nat) : (s.err c n d).tpo = s.tpo := rfl
@[simp] theorem State.err_phases (s : State) (c : EvCode) (n : Nat) (d : List Nat) : (s.err c n d).phases = s.phases := rfl
@[simp] theorem State.err_grps (s : State) (c : EvCode) (n : Nat) (d : List Nat) : (s.err c n d).grps = s.grps := rfl
@[simp] theorem State.err_outs (s : State) (c : EvCode) (n : Nat) (d : List Nat) : (s.err c n d).outs = s.outs := rfl
@[simp] theorem State.err_loop (s : State) (c : EvCode) (n : Nat) (d : List Nat) : (s.err c n d).loop = s.loop := rfl
@[simp] theorem State.err_sens (s : State) (c : EvCode) (n : Nat) (d : List Nat) : (s.err c n d).sens = s.sens := rfl
@[simp] theorem State.err_sensFrame (s : State) (c : EvCode) (n : Nat) (d : List Nat) : (s.err c n d).sensFrame = s.sensFrame := rfl
@[simp] theorem State.err_cool (s : State) (c : EvCode) (n : Nat) (d : List Nat) : (s.err c n d).cool = s.cool := rfl
@[simp] theorem State.err_chans (s : State) (c : EvCode) (n : Nat) (d : List Nat) : (s.err c n d).chans = s.chans := rfl
@[simp] theorem State.err_pdie (s : State) (c : EvCode) (n : Nat) (d : List Nat) : (s.err c n d).pdie = s.pdie := rfl
@[simp] theorem State.err_safe (s : State) (c : EvCode) (n : Nat) (d : List Nat) : (s.err c n d).safe = s.safe := rfl
@[simp] theorem State.err_host (s : State) (c : EvCode) (n : Nat) (d : List Nat) : (s.err c n d).host = s.host := rfl
@[simp] theorem State.err_dma (s : State) (c : EvCode) (n : Nat) (d : List Nat) : (s.err c n d).dma = s.dma := rfl
@[simp] theorem State.err_life (s : State) (c : EvCode) (n : Nat) (d : List Nat) : (s.err c n d).life = s.life := rfl
@[simp] theorem State.err_tabBuf (s : State) (c : EvCode) (n : Nat) (d : List Nat) : (s.err c n d).tabBuf = s.tabBuf := rfl
@[simp] theorem State.err_slots (s : State) (c : EvCode) (n : Nat) (d : List Nat) : (s.err c n d).slots = s.slots := rfl
@[simp] theorem State.err_sent (s : State) (c : EvCode) (n : Nat) (d : List Nat) : (s.err c n d).sent = s.sent := rfl
@[simp] theorem State.err_tree (s : State) (c : EvCode) (n : Nat) (d : List Nat) : (s.err c n d).tree = s.tree := rfl
@[simp] theorem State.err_links (s : State) (c : EvCode) (n : Nat) (d : List Nat) : (s.err c n d).links = s.links := rfl
@[simp] theorem State.err_ctxs (s : State) (c : EvCode) (n : Nat) (d : List Nat) : (s.err c n d).ctxs = s.ctxs := rfl
@[simp] theorem State.err_vde (s : State) (c : EvCode) (n : Nat) (d : List Nat) : (s.err c n d).vde = s.vde := rfl
@[simp] theorem State.err_lens (s : State) (c : EvCode) (n : Nat) (d : List Nat) : (s.err c n d).lens = s.lens := rfl
@[simp] theorem State.err_bill (s : State) (c : EvCode) (n : Nat) (d : List Nat) : (s.err c n d).bill = s.bill := rfl
@[simp] theorem State.err_prot (s : State) (c : EvCode) (n : Nat) (d : List Nat) : (s.err c n d).prot = s.prot := rfl
@[simp] theorem State.err_gsc (s : State) (c : EvCode) (n : Nat) (d : List Nat) : (s.err c n d).gsc = s.gsc := rfl
@[simp] theorem State.err_mir (s : State) (c : EvCode) (n : Nat) (d : List Nat) : (s.err c n d).mir = s.mir := rfl
@[simp] theorem State.err_arb (s : State) (c : EvCode) (n : Nat) (d : List Nat) : (s.err c n d).arb = s.arb := rfl

/-! ### errC -/

@[simp] theorem State.errC_regs (s : State) (c : Common) (p : Nat) (d : List Nat) : (s.errC c p d).regs = s.regs := rfl
@[simp] theorem State.errC_mem (s : State) (c : Common) (p : Nat) (d : List Nat) : (s.errC c p d).mem = s.mem := rfl
@[simp] theorem State.errC_pending (s : State) (c : Common) (p : Nat) (d : List Nat) : (s.errC c p d).pending = s.pending := rfl
@[simp] theorem State.errC_out (s : State) (c : Common) (p : Nat) (d : List Nat) : (s.errC c p d).out = s.out := rfl
@[simp] theorem State.errC_freeCtr (s : State) (c : Common) (p : Nat) (d : List Nat) : (s.errC c p d).freeCtr = s.freeCtr := rfl
@[simp] theorem State.errC_ticks (s : State) (c : Common) (p : Nat) (d : List Nat) : (s.errC c p d).ticks = s.ticks := rfl
@[simp] theorem State.errC_sys (s : State) (c : Common) (p : Nat) (d : List Nat) : (s.errC c p d).sys = s.sys := rfl
@[simp] theorem State.errC_evt (s : State) (c : Common) (p : Nat) (d : List Nat) : (s.errC c p d).evt = s.evt := rfl
@[simp] theorem State.errC_tim (s : State) (c : Common) (p : Nat) (d : List Nat) : (s.errC c p d).tim = s.tim := rfl
@[simp] theorem State.errC_tpo (s : State) (c : Common) (p : Nat) (d : List Nat) : (s.errC c p d).tpo = s.tpo := rfl
@[simp] theorem State.errC_phases (s : State) (c : Common) (p : Nat) (d : List Nat) : (s.errC c p d).phases = s.phases := rfl
@[simp] theorem State.errC_grps (s : State) (c : Common) (p : Nat) (d : List Nat) : (s.errC c p d).grps = s.grps := rfl
@[simp] theorem State.errC_outs (s : State) (c : Common) (p : Nat) (d : List Nat) : (s.errC c p d).outs = s.outs := rfl
@[simp] theorem State.errC_loop (s : State) (c : Common) (p : Nat) (d : List Nat) : (s.errC c p d).loop = s.loop := rfl
@[simp] theorem State.errC_sens (s : State) (c : Common) (p : Nat) (d : List Nat) : (s.errC c p d).sens = s.sens := rfl
@[simp] theorem State.errC_sensFrame (s : State) (c : Common) (p : Nat) (d : List Nat) : (s.errC c p d).sensFrame = s.sensFrame := rfl
@[simp] theorem State.errC_cool (s : State) (c : Common) (p : Nat) (d : List Nat) : (s.errC c p d).cool = s.cool := rfl
@[simp] theorem State.errC_chans (s : State) (c : Common) (p : Nat) (d : List Nat) : (s.errC c p d).chans = s.chans := rfl
@[simp] theorem State.errC_pdie (s : State) (c : Common) (p : Nat) (d : List Nat) : (s.errC c p d).pdie = s.pdie := rfl
@[simp] theorem State.errC_safe (s : State) (c : Common) (p : Nat) (d : List Nat) : (s.errC c p d).safe = s.safe := rfl
@[simp] theorem State.errC_host (s : State) (c : Common) (p : Nat) (d : List Nat) : (s.errC c p d).host = s.host := rfl
@[simp] theorem State.errC_dma (s : State) (c : Common) (p : Nat) (d : List Nat) : (s.errC c p d).dma = s.dma := rfl
@[simp] theorem State.errC_life (s : State) (c : Common) (p : Nat) (d : List Nat) : (s.errC c p d).life = s.life := rfl
@[simp] theorem State.errC_tabBuf (s : State) (c : Common) (p : Nat) (d : List Nat) : (s.errC c p d).tabBuf = s.tabBuf := rfl
@[simp] theorem State.errC_slots (s : State) (c : Common) (p : Nat) (d : List Nat) : (s.errC c p d).slots = s.slots := rfl
@[simp] theorem State.errC_sent (s : State) (c : Common) (p : Nat) (d : List Nat) : (s.errC c p d).sent = s.sent := rfl
@[simp] theorem State.errC_tree (s : State) (c : Common) (p : Nat) (d : List Nat) : (s.errC c p d).tree = s.tree := rfl
@[simp] theorem State.errC_links (s : State) (c : Common) (p : Nat) (d : List Nat) : (s.errC c p d).links = s.links := rfl
@[simp] theorem State.errC_ctxs (s : State) (c : Common) (p : Nat) (d : List Nat) : (s.errC c p d).ctxs = s.ctxs := rfl
@[simp] theorem State.errC_vde (s : State) (c : Common) (p : Nat) (d : List Nat) : (s.errC c p d).vde = s.vde := rfl
@[simp] theorem State.errC_lens (s : State) (c : Common) (p : Nat) (d : List Nat) : (s.errC c p d).lens = s.lens := rfl
@[simp] theorem State.errC_bill (s : State) (c : Common) (p : Nat) (d : List Nat) : (s.errC c p d).bill = s.bill := rfl
@[simp] theorem State.errC_prot (s : State) (c : Common) (p : Nat) (d : List Nat) : (s.errC c p d).prot = s.prot := rfl
@[simp] theorem State.errC_gsc (s : State) (c : Common) (p : Nat) (d : List Nat) : (s.errC c p d).gsc = s.gsc := rfl
@[simp] theorem State.errC_mir (s : State) (c : Common) (p : Nat) (d : List Nat) : (s.errC c p d).mir = s.mir := rfl
@[simp] theorem State.errC_arb (s : State) (c : Common) (p : Nat) (d : List Nat) : (s.errC c p d).arb = s.arb := rfl

/-! ### freeNext -/

@[simp] theorem State.freeNext_regs (s : State) : (s.freeNext).regs = s.regs := rfl
@[simp] theorem State.freeNext_mem (s : State) : (s.freeNext).mem = s.mem := rfl
@[simp] theorem State.freeNext_pending (s : State) : (s.freeNext).pending = s.pending := rfl
@[simp] theorem State.freeNext_out (s : State) : (s.freeNext).out = s.out := rfl
@[simp] theorem State.freeNext_evWait (s : State) : (s.freeNext).evWait = s.evWait := rfl
@[simp] theorem State.freeNext_ticks (s : State) : (s.freeNext).ticks = s.ticks := rfl
@[simp] theorem State.freeNext_sys (s : State) : (s.freeNext).sys = s.sys := rfl
@[simp] theorem State.freeNext_evt (s : State) : (s.freeNext).evt = s.evt := rfl
@[simp] theorem State.freeNext_tim (s : State) : (s.freeNext).tim = s.tim := rfl
@[simp] theorem State.freeNext_tpo (s : State) : (s.freeNext).tpo = s.tpo := rfl
@[simp] theorem State.freeNext_phases (s : State) : (s.freeNext).phases = s.phases := rfl
@[simp] theorem State.freeNext_grps (s : State) : (s.freeNext).grps = s.grps := rfl
@[simp] theorem State.freeNext_outs (s : State) : (s.freeNext).outs = s.outs := rfl
@[simp] theorem State.freeNext_loop (s : State) : (s.freeNext).loop = s.loop := rfl
@[simp] theorem State.freeNext_sens (s : State) : (s.freeNext).sens = s.sens := rfl
@[simp] theorem State.freeNext_sensFrame (s : State) : (s.freeNext).sensFrame = s.sensFrame := rfl
@[simp] theorem State.freeNext_cool (s : State) : (s.freeNext).cool = s.cool := rfl
@[simp] theorem State.freeNext_chans (s : State) : (s.freeNext).chans = s.chans := rfl
@[simp] theorem State.freeNext_pdie (s : State) : (s.freeNext).pdie = s.pdie := rfl
@[simp] theorem State.freeNext_safe (s : State) : (s.freeNext).safe = s.safe := rfl
@[simp] theorem State.freeNext_host (s : State) : (s.freeNext).host = s.host := rfl
@[simp] theorem State.freeNext_dma (s : State) : (s.freeNext).dma = s.dma := rfl
@[simp] theorem State.freeNext_life (s : State) : (s.freeNext).life = s.life := rfl
@[simp] theorem State.freeNext_tabBuf (s : State) : (s.freeNext).tabBuf = s.tabBuf := rfl
@[simp] theorem State.freeNext_slots (s : State) : (s.freeNext).slots = s.slots := rfl
@[simp] theorem State.freeNext_sent (s : State) : (s.freeNext).sent = s.sent := rfl
@[simp] theorem State.freeNext_tree (s : State) : (s.freeNext).tree = s.tree := rfl
@[simp] theorem State.freeNext_links (s : State) : (s.freeNext).links = s.links := rfl
@[simp] theorem State.freeNext_ctxs (s : State) : (s.freeNext).ctxs = s.ctxs := rfl
@[simp] theorem State.freeNext_vde (s : State) : (s.freeNext).vde = s.vde := rfl
@[simp] theorem State.freeNext_lens (s : State) : (s.freeNext).lens = s.lens := rfl
@[simp] theorem State.freeNext_bill (s : State) : (s.freeNext).bill = s.bill := rfl
@[simp] theorem State.freeNext_prot (s : State) : (s.freeNext).prot = s.prot := rfl
@[simp] theorem State.freeNext_gsc (s : State) : (s.freeNext).gsc = s.gsc := rfl
@[simp] theorem State.freeNext_mir (s : State) : (s.freeNext).mir = s.mir := rfl
@[simp] theorem State.freeNext_arb (s : State) : (s.freeNext).arb = s.arb := rfl

@[simp] theorem State.emit_out (s : State) (o : Out) : (s.emit o).out = o :: s.out := rfl
@[simp] theorem State.ev_evWait (s : State) (c : EvCode) (n : Nat) (d : List Nat) : (s.ev c n d).evWait = s.evWait ++ [⟨c, n, d, false⟩] := rfl
@[simp] theorem State.err_evWait (s : State) (c : EvCode) (n : Nat) (d : List Nat) : (s.err c n d).evWait = s.evWait ++ [⟨c, n, d, true⟩] := rfl
@[simp] theorem State.freeNext_freeCtr (s : State) : s.freeNext.freeCtr = s.freeCtr + 1 := rfl
@[simp] theorem State.wrByte_mem (s : State) (a v : Nat) : (s.wrByte a v).mem = memPut s.mem a (BitVec.ofNat 8 v) := rfl


/-! ### wrBytes, over a list of bytes -/

@[simp] theorem State.wrBytes_regs (s : State) (a : Nat) (l : List Nat) : (s.wrBytes a l).regs = s.regs := by
  induction l generalizing s a with
  | nil => rfl
  | cons b t ih => exact ih _ _
@[simp] theorem State.wrBytes_pending (s : State) (a : Nat) (l : List Nat) : (s.wrBytes a l).pending = s.pending := by
  induction l generalizing s a with
  | nil => rfl
  | cons b t ih => exact ih _ _
@[simp] theorem State.wrBytes_out (s : State) (a : Nat) (l : List Nat) : (s.wrBytes a l).out = s.out := by
  induction l generalizing s a with
  | nil => rfl
  | cons b t ih => exact ih _ _
@[simp] theorem State.wrBytes_evWait (s : State) (a : Nat) (l : List Nat) : (s.wrBytes a l).evWait = s.evWait := by
  induction l generalizing s a with
  | nil => rfl
  | cons b t ih => exact ih _ _
@[simp] theorem State.wrBytes_freeCtr (s : State) (a : Nat) (l : List Nat) : (s.wrBytes a l).freeCtr = s.freeCtr := by
  induction l generalizing s a with
  | nil => rfl
  | cons b t ih => exact ih _ _
@[simp] theorem State.wrBytes_ticks (s : State) (a : Nat) (l : List Nat) : (s.wrBytes a l).ticks = s.ticks := by
  induction l generalizing s a with
  | nil => rfl
  | cons b t ih => exact ih _ _
@[simp] theorem State.wrBytes_sys (s : State) (a : Nat) (l : List Nat) : (s.wrBytes a l).sys = s.sys := by
  induction l generalizing s a with
  | nil => rfl
  | cons b t ih => exact ih _ _
@[simp] theorem State.wrBytes_evt (s : State) (a : Nat) (l : List Nat) : (s.wrBytes a l).evt = s.evt := by
  induction l generalizing s a with
  | nil => rfl
  | cons b t ih => exact ih _ _
@[simp] theorem State.wrBytes_tim (s : State) (a : Nat) (l : List Nat) : (s.wrBytes a l).tim = s.tim := by
  induction l generalizing s a with
  | nil => rfl
  | cons b t ih => exact ih _ _
@[simp] theorem State.wrBytes_tpo (s : State) (a : Nat) (l : List Nat) : (s.wrBytes a l).tpo = s.tpo := by
  induction l generalizing s a with
  | nil => rfl
  | cons b t ih => exact ih _ _
@[simp] theorem State.wrBytes_phases (s : State) (a : Nat) (l : List Nat) : (s.wrBytes a l).phases = s.phases := by
  induction l generalizing s a with
  | nil => rfl
  | cons b t ih => exact ih _ _
@[simp] theorem State.wrBytes_grps (s : State) (a : Nat) (l : List Nat) : (s.wrBytes a l).grps = s.grps := by
  induction l generalizing s a with
  | nil => rfl
  | cons b t ih => exact ih _ _
@[simp] theorem State.wrBytes_outs (s : State) (a : Nat) (l : List Nat) : (s.wrBytes a l).outs = s.outs := by
  induction l generalizing s a with
  | nil => rfl
  | cons b t ih => exact ih _ _
@[simp] theorem State.wrBytes_loop (s : State) (a : Nat) (l : List Nat) : (s.wrBytes a l).loop = s.loop := by
  induction l generalizing s a with
  | nil => rfl
  | cons b t ih => exact ih _ _
@[simp] theorem State.wrBytes_sens (s : State) (a : Nat) (l : List Nat) : (s.wrBytes a l).sens = s.sens := by
  induction l generalizing s a with
  | nil => rfl
  | cons b t ih => exact ih _ _
@[simp] theorem State.wrBytes_sensFrame (s : State) (a : Nat) (l : List Nat) : (s.wrBytes a l).sensFrame = s.sensFrame := by
  induction l generalizing s a with
  | nil => rfl
  | cons b t ih => exact ih _ _
@[simp] theorem State.wrBytes_cool (s : State) (a : Nat) (l : List Nat) : (s.wrBytes a l).cool = s.cool := by
  induction l generalizing s a with
  | nil => rfl
  | cons b t ih => exact ih _ _
@[simp] theorem State.wrBytes_chans (s : State) (a : Nat) (l : List Nat) : (s.wrBytes a l).chans = s.chans := by
  induction l generalizing s a with
  | nil => rfl
  | cons b t ih => exact ih _ _
@[simp] theorem State.wrBytes_pdie (s : State) (a : Nat) (l : List Nat) : (s.wrBytes a l).pdie = s.pdie := by
  induction l generalizing s a with
  | nil => rfl
  | cons b t ih => exact ih _ _
@[simp] theorem State.wrBytes_safe (s : State) (a : Nat) (l : List Nat) : (s.wrBytes a l).safe = s.safe := by
  induction l generalizing s a with
  | nil => rfl
  | cons b t ih => exact ih _ _
@[simp] theorem State.wrBytes_host (s : State) (a : Nat) (l : List Nat) : (s.wrBytes a l).host = s.host := by
  induction l generalizing s a with
  | nil => rfl
  | cons b t ih => exact ih _ _
@[simp] theorem State.wrBytes_dma (s : State) (a : Nat) (l : List Nat) : (s.wrBytes a l).dma = s.dma := by
  induction l generalizing s a with
  | nil => rfl
  | cons b t ih => exact ih _ _
@[simp] theorem State.wrBytes_life (s : State) (a : Nat) (l : List Nat) : (s.wrBytes a l).life = s.life := by
  induction l generalizing s a with
  | nil => rfl
  | cons b t ih => exact ih _ _
@[simp] theorem State.wrBytes_tabBuf (s : State) (a : Nat) (l : List Nat) : (s.wrBytes a l).tabBuf = s.tabBuf := by
  induction l generalizing s a with
  | nil => rfl
  | cons b t ih => exact ih _ _
@[simp] theorem State.wrBytes_slots (s : State) (a : Nat) (l : List Nat) : (s.wrBytes a l).slots = s.slots := by
  induction l generalizing s a with
  | nil => rfl
  | cons b t ih => exact ih _ _
@[simp] theorem State.wrBytes_sent (s : State) (a : Nat) (l : List Nat) : (s.wrBytes a l).sent = s.sent := by
  induction l generalizing s a with
  | nil => rfl
  | cons b t ih => exact ih _ _
@[simp] theorem State.wrBytes_tree (s : State) (a : Nat) (l : List Nat) : (s.wrBytes a l).tree = s.tree := by
  induction l generalizing s a with
  | nil => rfl
  | cons b t ih => exact ih _ _
@[simp] theorem State.wrBytes_links (s : State) (a : Nat) (l : List Nat) : (s.wrBytes a l).links = s.links := by
  induction l generalizing s a with
  | nil => rfl
  | cons b t ih => exact ih _ _
@[simp] theorem State.wrBytes_ctxs (s : State) (a : Nat) (l : List Nat) : (s.wrBytes a l).ctxs = s.ctxs := by
  induction l generalizing s a with
  | nil => rfl
  | cons b t ih => exact ih _ _
@[simp] theorem State.wrBytes_vde (s : State) (a : Nat) (l : List Nat) : (s.wrBytes a l).vde = s.vde := by
  induction l generalizing s a with
  | nil => rfl
  | cons b t ih => exact ih _ _
@[simp] theorem State.wrBytes_lens (s : State) (a : Nat) (l : List Nat) : (s.wrBytes a l).lens = s.lens := by
  induction l generalizing s a with
  | nil => rfl
  | cons b t ih => exact ih _ _
@[simp] theorem State.wrBytes_bill (s : State) (a : Nat) (l : List Nat) : (s.wrBytes a l).bill = s.bill := by
  induction l generalizing s a with
  | nil => rfl
  | cons b t ih => exact ih _ _
@[simp] theorem State.wrBytes_prot (s : State) (a : Nat) (l : List Nat) : (s.wrBytes a l).prot = s.prot := by
  induction l generalizing s a with
  | nil => rfl
  | cons b t ih => exact ih _ _
@[simp] theorem State.wrBytes_gsc (s : State) (a : Nat) (l : List Nat) : (s.wrBytes a l).gsc = s.gsc := by
  induction l generalizing s a with
  | nil => rfl
  | cons b t ih => exact ih _ _
@[simp] theorem State.wrBytes_mir (s : State) (a : Nat) (l : List Nat) : (s.wrBytes a l).mir = s.mir := by
  induction l generalizing s a with
  | nil => rfl
  | cons b t ih => exact ih _ _
@[simp] theorem State.wrBytes_arb (s : State) (a : Nat) (l : List Nat) : (s.wrBytes a l).arb = s.arb := by
  induction l generalizing s a with
  | nil => rfl
  | cons b t ih => exact ih _ _

/-! ### when -/

@[simp] theorem State.when_true (s : State) (f : State → State) : s.when true f = f s := rfl
@[simp] theorem State.when_false (s : State) (f : State → State) : s.when false f = s := rfl

end Sys2Proof.Machine
end

