-- ==== Sys2Proof/Laws/Ops.lean ====
section
/-! SUPPORT. Laws of the register and table operations: what a write reads back as, what it leaves alone, and that every
operation on the table memory keeps its canonical form. -/
namespace Sys2Proof.Machine

/-! ### Register fields -/

@[simp] theorem State.get_set_same (s : State) (f : Field) (v : Nat) : (s.set f v).get f = v % 2 ^ f.width := by
  simp [State.get, State.set]

theorem State.get_set_other (s : State) (f g : Field) (v : Nat) (h : f.key ≠ g.key) : (s.set f v).get g = s.get g := by
  simp [State.get, State.set, mget_mput_other _ _ _ _ _ _ h]

/-- A field's value, from a map of registers alone. -/
theorem State.get_congr {s t : State} (h : t.regs = s.regs) (f : Field) : t.get f = s.get f := by simp [State.get, h]

@[simp] theorem State.get_emit (s : State) (o : Out) (f : Field) : (s.emit o).get f = s.get f := rfl
@[simp] theorem State.get_ev (s : State) (c : EvCode) (n : Nat) (d : List Nat) (f : Field) : (s.ev c n d).get f = s.get f := rfl
@[simp] theorem State.get_err (s : State) (c : EvCode) (n : Nat) (d : List Nat) (f : Field) : (s.err c n d).get f = s.get f := rfl
@[simp] theorem State.get_errC (s : State) (c : Common) (p : Nat) (d : List Nat) (f : Field) : (s.errC c p d).get f = s.get f := rfl
@[simp] theorem State.get_wrByte (s : State) (a v : Nat) (f : Field) : (s.wrByte a v).get f = s.get f := rfl
@[simp] theorem State.get_freeNext (s : State) (f : Field) : s.freeNext.get f = s.get f := rfl
@[simp] theorem State.get_wrBytes (s : State) (a : Nat) (l : List Nat) (f : Field) : (s.wrBytes a l).get f = s.get f :=
  State.get_congr (State.wrBytes_regs s a l) f
@[simp] theorem State.get_wrLe (s : State) (a n v : Nat) (f : Field) : (s.wrLe a n v).get f = s.get f := State.get_wrBytes ..

@[simp] theorem State.get_setB_same (s : State) (f : Field) (b : Bool) : (s.setB f b).get f = (if b then 1 else 0) % 2 ^ f.width := by
  simp [State.setB]

theorem State.get_setB_other (s : State) (f g : Field) (b : Bool) (h : f.key ≠ g.key) : (s.setB f b).get g = s.get g :=
  State.get_set_other _ _ _ _ h

theorem State.get_setBit_same (s : State) (f : Field) (i : Nat) (b : Bool) : (s.setBit f i b).get f = setBitOf (s.get f) i b % 2 ^ f.width := by
  simp [State.setBit]

theorem State.get_setBit_other (s : State) (f g : Field) (i : Nat) (b : Bool) (h : f.key ≠ g.key) : (s.setBit f i b).get g = s.get g :=
  State.get_set_other _ _ _ _ h

theorem State.get_inc_same (s : State) (f : Field) : (s.inc f).get f = (s.get f + 1) % 2 ^ f.width := by simp [State.inc]
theorem State.get_inc_other (s : State) (f g : Field) (h : f.key ≠ g.key) : (s.inc f).get g = s.get g := State.get_set_other _ _ _ _ h
theorem State.get_incSat_other (s : State) (f g : Field) (h : f.key ≠ g.key) : (s.incSat f).get g = s.get g := State.get_set_other _ _ _ _ h

/-! ### Table bytes -/

@[simp] theorem State.rdByte_wrByte_same (s : State) (a v : Nat) : (s.wrByte a v).rdByte a = v % 256 := by
  simp [State.rdByte, State.wrByte, memGet_memPut_same]

theorem State.rdByte_wrByte_other (s : State) (a b v : Nat) (h : b ≠ a) : (s.wrByte b v).rdByte a = s.rdByte a := by
  simp [State.rdByte, State.wrByte, memGet_memPut_other _ _ _ _ h]

theorem State.rdByte_congr {s t : State} (h : t.mem = s.mem) (a : Nat) : t.rdByte a = s.rdByte a := by simp [State.rdByte, h]

/-- Bytes outside the range written are left alone. -/
theorem State.rdByte_wrBytes_other (s : State) (a : Nat) (l : List Nat) (k : Nat) (h : k < a ∨ a + l.length ≤ k) :
    (s.wrBytes a l).rdByte k = s.rdByte k := by
  induction l generalizing s a with
  | nil => rfl
  | cons b t ih =>
    simp only [List.length_cons] at h
    rw [State.wrBytes, ih _ _ (by omega), State.rdByte_wrByte_other _ _ _ _ (by omega)]

/-- A byte of the range written reads as written. -/
theorem State.rdByte_wrBytes_same (s : State) (a : Nat) (l : List Nat) (i : Nat) (h : i < l.length) :
    (s.wrBytes a l).rdByte (a + i) = l[i] % 256 := by
  induction l generalizing s a i with
  | nil => simp at h
  | cons b t ih =>
    rw [State.wrBytes]
    cases i with
    | zero =>
      rw [State.rdByte_wrBytes_other _ _ _ _ (by omega)]
      simp
    | succ n =>
      have hn : n < t.length := by simpa using h
      have e : a + (n + 1) = a + 1 + n := by omega
      rw [e, ih _ _ _ hn]
      rfl

/-! ### The canonical form is kept -/

theorem State.wf_wrByte (s : State) (a v : Nat) (h : Memory.wf s.mem = true) : Memory.wf (s.wrByte a v).mem = true :=
  wf_memPut _ _ _ h

theorem State.wf_wrBytes (s : State) (a : Nat) (l : List Nat) (h : Memory.wf s.mem = true) : Memory.wf (s.wrBytes a l).mem = true := by
  induction l generalizing s a with
  | nil => exact h
  | cons b t ih => exact ih _ _ (State.wf_wrByte s a b h)

theorem State.wf_wrLe (s : State) (a n v : Nat) (h : Memory.wf s.mem = true) : Memory.wf (s.wrLe a n v).mem = true :=
  State.wf_wrBytes _ _ _ h

end Sys2Proof.Machine
end

