-- ==== Sys2Proof/Laws/Done.lean ====
section
/-! SUPPORT. What the end of a command does (`done`: log the events, judge the interrupts and FAIL_N) and what it leaves
alone: one lemma for each, so that a command's effect is read through it. -/
namespace Sys2Proof.Machine

theorem SameParts.refl (s : State) : SameParts s s := by constructor <;> rfl

theorem SameParts.trans {s t u : State} (h : SameParts s t) (k : SameParts t u) : SameParts s u where
  pending := k.pending.trans h.pending
  freeCtr := k.freeCtr.trans h.freeCtr
  ticks := k.ticks.trans h.ticks
  sys := k.sys.trans h.sys
  tim := k.tim.trans h.tim
  tpo := k.tpo.trans h.tpo
  phases := k.phases.trans h.phases
  grps := k.grps.trans h.grps
  outs := k.outs.trans h.outs
  loop := k.loop.trans h.loop
  sens := k.sens.trans h.sens
  sensFrame := k.sensFrame.trans h.sensFrame
  cool := k.cool.trans h.cool
  chans := k.chans.trans h.chans
  pdie := k.pdie.trans h.pdie
  safe := k.safe.trans h.safe
  dma := k.dma.trans h.dma
  tabBuf := k.tabBuf.trans h.tabBuf
  slots := k.slots.trans h.slots
  sent := k.sent.trans h.sent
  tree := k.tree.trans h.tree
  links := k.links.trans h.links
  ctxs := k.ctxs.trans h.ctxs
  vde := k.vde.trans h.vde
  lens := k.lens.trans h.lens
  bill := k.bill.trans h.bill
  prot := k.prot.trans h.prot
  gsc := k.gsc.trans h.gsc
  arb := k.arb.trans h.arb

/-- What logging an event may change: header registers, the log's own registers, the event log and lifetime counters in
the tables, and the hidden state of the log and of the lifetime records. -/
structure Logs (s t : State) : Prop where
  parts : SameParts s t
  get : ∀ f, quiet f = true → t.get f = s.get f
  byte : ∀ a, quietByte a = true → t.rdByte a = s.rdByte a
  wf : Memory.wf s.mem = true → Memory.wf t.mem = true
  evWait : t.evWait = s.evWait
  host : t.host = s.host
  mir : t.mir = s.mir
  out : t.out = s.out

theorem Logs.refl (s : State) : Logs s s :=
  ⟨SameParts.refl s, fun _ _ => rfl, fun _ _ => rfl, id, rfl, rfl, rfl, rfl⟩

theorem Logs.trans {s t u : State} (h : Logs s t) (k : Logs t u) : Logs s u where
  parts := h.parts.trans k.parts
  get f hf := (k.get f hf).trans (h.get f hf)
  byte a ha := (k.byte a ha).trans (h.byte a ha)
  wf x := k.wf (h.wf x)
  evWait := k.evWait.trans h.evWait
  host := k.host.trans h.host
  mir := k.mir.trans h.mir
  out := k.out.trans h.out

/-- A field that logging may write. -/
def loud (f : Field) : Bool := decide (f.lo < 32) && decide (f.off < 0x1000) && (decide (f.off < 0x040) || f.page == 0x43)

theorem key_ne_of_loud {f g : Field} (hf : loud f = true) (hg : quiet g = true) : f.key ≠ g.key := by
  simp only [loud, quiet, Field.key, Bool.and_eq_true, Bool.or_eq_true, decide_eq_true_eq, beq_iff_eq, Bool.not_eq_true',
    beq_eq_false_iff_ne, ne_eq] at *
  omega

theorem logs_set (s : State) (f : Field) (v : Nat) (h : loud f = true) : Logs s (s.set f v) where
  parts := by constructor <;> rfl
  get g hg := State.get_set_other s f g v (key_ne_of_loud h hg)
  byte _ _ := rfl
  wf := id
  evWait := rfl
  host := rfl
  mir := rfl
  out := rfl

/-- A state that differs in the log's and the lifetime records' hidden state only. -/
theorem logs_hidden (s : State) (e : EvtState) (l : LifeState) : Logs s { s with evt := e, life := l } :=
  ⟨by constructor <;> rfl, fun _ _ => rfl, fun _ _ => rfl, id, rfl, rfl, rfl, rfl⟩

theorem logs_evt (s : State) (e : EvtState) : Logs s { s with evt := e } := logs_hidden s e s.life

theorem sameParts_wrBytes (s : State) (a : Nat) (l : List Nat) : SameParts s (s.wrBytes a l) := by constructor <;> simp

/-- Bytes written in the event log or among the lifetime counters. -/
theorem logs_wrBytes (s : State) (a : Nat) (l : List Nat)
    (h : ∀ k, quietByte k = true → k < a ∨ a + l.length ≤ k) : Logs s (s.wrBytes a l) where
  parts := sameParts_wrBytes s a l
  get f _ := State.get_wrBytes s a l f
  byte k hk := State.rdByte_wrBytes_other s a l k (h k hk)
  wf := State.wf_wrBytes s a l
  evWait := by simp
  host := by simp
  mir := by simp
  out := by simp

@[simp] theorem loud_hEvtRaw (p : Nat) : loud (hEvtRaw p) = true := rfl
@[simp] theorem loud_hErrNew (p : Nat) : loud (hErrNew p) = true := rfl
@[simp] theorem loud_hErrCount (p : Nat) : loud (hErrCount p) = true := rfl
@[simp] theorem loud_hErrCode (p : Nat) : loud (hErrCode p) = true := rfl
@[simp] theorem loud_hErrNs (p : Nat) : loud (hErrNs p) = true := rfl
@[simp] theorem loud_hErrSec (p : Nat) : loud (hErrSec p) = true := rfl

theorem logs_refreshFill (s : State) : Logs s s.refreshFill := by
  unfold State.refreshFill
  dsimp only
  split
  · exact (logs_set s F.EVT_FILL_COUNT _ rfl).trans (logs_evt _ _)
  · exact logs_set s F.EVT_FILL_COUNT _ rfl

theorem logs_inc (s : State) (f : Field) (h : loud f = true) : Logs s (s.inc f) := logs_set s f _ h

theorem logs_logMakeRoom (s : State) : Logs s s.logMakeRoom := by
  unfold State.logMakeRoom
  split
  · exact (logs_set s F.EVT_TAIL_INDEX _ rfl).trans (logs_inc _ F.EVT_LOST_COUNT rfl)
  · exact Logs.refl s

@[simp] theorem leBytes_length (n v : Nat) : (leBytes n v).length = n := by
  induction n generalizing v with
  | zero => rfl
  | succ n ih => simp [leBytes, ih]

@[simp] theorem slice_length (l : List Nat) (i n : Nat) : (slice l i n).length = n := by simp [slice]

@[simp] theorem stamp_length (s : State) : s.stamp.length = 12 := by simp [State.stamp]

/-- An event record is 32 bytes long (Table 3.5). -/
@[simp] theorem evRecord_length (s : State) (e : Ev) : (s.evRecord e).length = 32 := by simp [State.evRecord]

theorem get_lt (s : State) (f : Field) : s.get f < 2 ^ f.width := Nat.mod_lt _ (Nat.two_pow_pos _)

theorem logs_logWrite (s : State) (e : Ev) : Logs s (s.logWrite e) := by
  unfold State.logWrite
  have hh : s.get F.EVT_HEAD_INDEX < 8192 := get_lt s F.EVT_HEAD_INDEX
  refine (logs_wrBytes s _ _ fun k hk => ?_).trans
    ((logs_set _ F.EVT_HEAD_INDEX _ rfl).trans ((logs_inc _ F.EVT_APPENDED_COUNT rfl).trans (logs_refreshFill _)))
  simp only [quietByte, tbl, evRecord_length, Bool.and_eq_true, Bool.not_eq_true', beq_eq_false_iff_ne, ne_eq] at *
  omega

theorem logs_setRaw (s : State) (e : Ev) : Logs s (s.setRaw e) := (logs_evt s _).trans (logs_set _ _ _ rfl)

@[simp] theorem rdBytes_length (s : State) (a n : Nat) : (s.rdBytes a n).length = n := by simp [State.rdBytes]

theorem logPrev_lt (i : Nat) : logPrev i < logSize := Nat.mod_lt _ (by decide)

theorem logs_logSwap (s : State) (i : Nat) (h : i < logSize) : Logs s (s.logSwap i) := by
  have hp := logPrev_lt i
  unfold State.logSwap
  refine (logs_wrBytes s _ _ fun k hk => ?_).trans (logs_wrBytes _ _ _ fun k hk => ?_) <;>
  · simp only [quietByte, tbl, rdBytes_length, logSize, Bool.and_eq_true, Bool.not_eq_true', beq_eq_false_iff_ne, ne_eq] at *
    omega

theorem logs_logSinkFrom (s : State) (n i : Nat) (h : i < logSize) : Logs s (s.logSinkFrom n i) := by
  induction n generalizing s i with
  | zero => exact Logs.refl s
  | succ n ih =>
    unfold State.logSinkFrom
    split
    · exact (logs_logSwap s i h).trans (ih _ _ (logPrev_lt i))
    · exact Logs.refl s

/-- Bringing the last record to its place changes bytes of the event log alone. -/
theorem logs_logSink (s : State) : Logs s s.logSink := logs_logSinkFrom s _ _ (logPrev_lt _)

theorem logs_logAppend (s : State) (e : Ev) : Logs s (s.logAppend e) := by
  unfold State.logAppend
  have h1 := (logs_logMakeRoom s).trans (logs_logWrite _ e)
  dsimp only
  split
  · exact h1.trans ((logs_logMakeRoom _).trans ((logs_logWrite _ _).trans (logs_setRaw _ _)))
  · exact h1

theorem logs_logOne (s : State) (e : Ev) : Logs s (s.logOne e) := by
  unfold State.logOne
  split
  · exact Logs.refl s
  · split
    · exact logs_inc s F.EVT_SUPPRESSED_COUNT rfl
    · exact (logs_logAppend s e).trans (logs_evt _ _)

theorem logs_judgeFill (s : State) : Logs s s.judgeFill := by
  unfold State.judgeFill
  split
  · exact (logs_evt s _).trans ((logs_setRaw _ _).trans (logs_logOne _ _))
  · exact Logs.refl s

theorem logs_setError (s : State) (e : Ev) (first : Bool) : Logs s (s.setError e first) := by
  unfold State.setError
  have h : Logs s (s.incSat (hErrCount e.page)) := logs_set s _ _ rfl
  dsimp only
  split
  · exact h.trans ((logs_set _ _ _ rfl).trans ((logs_set _ _ _ rfl).trans ((logs_set _ _ _ rfl).trans (logs_set _ _ _ rfl))))
  · exact h

/-- The counter named, if any, is one of the 512. -/
def counterOk (o : Option (Bool × Nat)) : Prop := ∀ b i, o = some (b, i) → i < 512

theorem counterOk_some (b : Bool) (i : Nat) (h : i < 512) : counterOk (some (b, i)) := by
  intro b' i' he
  cases he
  exact h

theorem counterOk_ite (c : Prop) [Decidable c] (x y : Option (Bool × Nat)) (hx : c → counterOk x) (hy : counterOk y) :
    counterOk (if c then x else y) := by
  split
  · exact hx ‹_›
  · exact hy

theorem lifeOf_ok (e : Ev) : counterOk (lifeOf e) := by
  unfold lifeOf
  iterate 18 refine counterOk_ite _ _ _ (fun h => counterOk_some _ _ (by omega)) ?_
  intro b i h
  cases h

theorem logs_lifeStore (s : State) (i n : Nat) (h : i < 512) : Logs s (s.lifeStore i n) := by
  refine logs_wrBytes s _ _ fun k hk => ?_
  simp only [quietByte, tbl, leBytes_length, Bool.and_eq_true, Bool.not_eq_true', beq_eq_false_iff_ne, ne_eq] at *
  omega

theorem logs_countLife (s : State) (e : Ev) : Logs s (s.countLife e) := by
  unfold State.countLife
  split
  · exact logs_lifeStore s _ _ (lifeOf_ok e _ _ ‹_›)
  · unfold State.lifeAdd
    split
    · exact logs_hidden s s.evt _
    · exact logs_lifeStore s _ _ (lifeOf_ok e _ _ ‹_›)
  · exact Logs.refl s

theorem logs_takeEvent (s : State) (l : List Nat) (e : Ev) : Logs s (s.takeEvent l e) := by
  unfold State.takeEvent
  have h := (logs_setRaw s e).trans (logs_countLife _ e)
  dsimp only
  split
  · exact h.trans ((logs_setError _ _ _).trans
      ((logs_logOne _ _).trans ((logs_logSink _).trans ((logs_judgeFill _).trans (logs_logSink _)))))
  · exact h.trans ((logs_logOne _ _).trans ((logs_logSink _).trans ((logs_judgeFill _).trans (logs_logSink _))))

theorem logs_takeEvents (s : State) (l : List Nat) (es : List Ev) : Logs s (s.takeEvents l es) := by
  induction es generalizing s l with
  | nil => exact Logs.refl s
  | cons e t ih => exact (logs_takeEvent s l e).trans (ih _ _)

/-- Logging the waiting events: what `Logs` allows, and no event waits any more. -/
theorem logs_flushEvents (s : State) : Logs { s with evWait := [] } s.flushEvents := logs_takeEvents _ _ _

theorem flushEvents_evWait (s : State) : s.flushEvents.evWait = [] := (logs_flushEvents s).evWait

/-! ### The interrupts and FAIL_N -/

/-- What judging the interrupts may change: the vectors' conditions, pending bits and outputs, and messages sent. -/
structure Judges (s t : State) : Prop where
  parts : SameParts s t
  regs : t.regs = s.regs
  mem : t.mem = s.mem
  evWait : t.evWait = s.evWait
  evt : t.evt = s.evt
  life : t.life = s.life
  msix : t.host.msix = s.host.msix
  spiQ : t.host.spiQ = s.host.spiQ
  spiHeld : t.host.spiHeld = s.host.spiHeld
  mir : { t.mir with failN := false } = { s.mir with failN := false }
  out : ∃ l, t.out = l ++ s.out

theorem Judges.refl (s : State) : Judges s s :=
  ⟨SameParts.refl s, rfl, rfl, rfl, rfl, rfl, rfl, rfl, rfl, rfl, [], rfl⟩

theorem Judges.trans {s t u : State} (h : Judges s t) (k : Judges t u) : Judges s u where
  parts := h.parts.trans k.parts
  regs := k.regs.trans h.regs
  mem := k.mem.trans h.mem
  evWait := k.evWait.trans h.evWait
  evt := k.evt.trans h.evt
  life := k.life.trans h.life
  msix := k.msix.trans h.msix
  spiQ := k.spiQ.trans h.spiQ
  spiHeld := k.spiHeld.trans h.spiHeld
  mir := k.mir.trans h.mir
  out := by
    obtain ⟨a, ha⟩ := h.out
    obtain ⟨b, hb⟩ := k.out
    exact ⟨b ++ a, by rw [hb, ha, List.append_assoc]⟩

/-- Only the pending bits and the messages sent differ. -/
structure Sends (s t : State) : Prop where
  judges : Judges s t
  cond : t.host.vecCond = s.host.vecCond
  intN : t.host.intN = s.host.intN
  intA : t.host.intA = s.host.intA
  failN : t.mir.failN = s.mir.failN

theorem Sends.refl (s : State) : Sends s s := ⟨Judges.refl s, rfl, rfl, rfl, rfl⟩

theorem Sends.trans {s t u : State} (h : Sends s t) (k : Sends t u) : Sends s u :=
  ⟨h.judges.trans k.judges, k.cond.trans h.cond, k.intN.trans h.intN, k.intA.trans h.intA, k.failN.trans h.failN⟩

theorem sends_sendVector (s : State) (v : Nat) : Sends s (s.sendVector v) := by
  unfold State.sendVector
  dsimp only
  split
  · exact ⟨⟨by constructor <;> rfl, rfl, rfl, rfl, rfl, rfl, rfl, rfl, rfl, rfl, [], rfl⟩, rfl, rfl, rfl, rfl⟩
  · exact ⟨⟨by constructor <;> rfl, rfl, rfl, rfl, rfl, rfl, rfl, rfl, rfl, rfl, [_], rfl⟩, rfl, rfl, rfl, rfl⟩

theorem sends_each (l : List Nat) (s : State) (f : Nat → State → State) (h : ∀ v t, Sends t (f v t)) : Sends s (s.each l f) := by
  induction l generalizing s with
  | nil => exact Sends.refl s
  | cons v t ih => exact (h v s).trans (ih _)

/-- The state in which the vectors' conditions have been judged and nothing has been sent. -/
def State.judged (s : State) : State :=
  { s with host := { s.host with vecCond := s.vecConditions, intN := s.intNow s.vecConditions, intA := s.intaNow s.vecConditions } }

theorem judges_judged (s : State) : Judges s s.judged :=
  ⟨by constructor <;> rfl, rfl, rfl, rfl, rfl, rfl, rfl, rfl, rfl, rfl, [], rfl⟩

theorem sends_settle (s : State) : Sends s.judged s.settle := by
  unfold State.settle State.judged
  dsimp only
  split
  · rename_i h
    refine ⟨⟨by constructor <;> rfl, rfl, rfl, rfl, rfl, rfl, rfl, rfl, rfl, rfl, [], rfl⟩, h.symm, rfl, rfl, rfl⟩
  · refine sends_each _ _ _ fun v t => ?_
    unfold State.when
    split
    · exact sends_sendVector t v
    · exact Sends.refl t

theorem judges_settle (s : State) : Judges s s.settle := (judges_judged s).trans (sends_settle s).judges

theorem judges_settleFail (s : State) : Judges s s.settleFail := by
  unfold State.settleFail
  split
  · exact Judges.refl s
  · exact ⟨by constructor <;> rfl, rfl, rfl, rfl, rfl, rfl, rfl, rfl, rfl, rfl, [_], rfl⟩

/-- The conditions depend on the registers alone. -/
theorem vecConditions_congr {s t : State} (h : t.regs = s.regs) : t.vecConditions = s.vecConditions := by
  have hg : ∀ f, t.get f = s.get f := State.get_congr h
  have h1 : ∀ p, t.vecMap p = s.vecMap p := fun p => by simp only [State.vecMap, hg]
  have h2 : ∀ p, t.evtPend p = s.evtPend p := fun p => by simp only [State.evtPend, hg]
  unfold State.vecConditions
  simp only [h1, h2]

theorem intNow_congr {s t : State} (h : t.regs = s.regs) (c : Nat) : t.intNow c = s.intNow c := by
  have hg : ∀ f, t.get f = s.get f := State.get_congr h
  simp only [State.intNow, State.on, hg]

theorem intaNow_congr {s t : State} (h : t.regs = s.regs) (hm : t.host.msix = s.host.msix) (c : Nat) : t.intaNow c = s.intaNow c := by
  have hg : ∀ f, t.get f = s.get f := State.get_congr h
  simp only [State.intaNow, State.on, hg, hm]

theorem failNow_congr {s t : State} (h : t.regs = s.regs) (hs : t.safe = s.safe) (hy : t.sys = s.sys)
    (hm : t.mir.failAsked = s.mir.failAsked) : t.failNow = s.failNow := by
  have hg : ∀ f, t.get f = s.get f := State.get_congr h
  simp only [State.failNow, State.ownFail, State.mode, State.on, hg, hs, hy, hm]

/-- What settling the interrupts and FAIL_N leaves is settled. -/
theorem settled_of (s : State) (h : s.evWait = []) : Settled s.settle.settleFail := by
  have h1 := judges_settle s
  have h2 := sends_settle s
  have h3 := judges_settleFail s.settle
  have hr : s.settle.settleFail.regs = s.regs := h3.regs.trans h1.regs
  have hj : s.judged.host.vecCond = s.vecConditions := rfl
  have host : s.settle.settleFail.host = s.settle.host := by
    unfold State.settleFail
    split <;> rfl
  have fail : s.settle.settleFail.mir.failN = s.settle.failNow := by
    unfold State.settleFail
    split
    · assumption
    · rfl
  constructor
  · exact (h3.evWait.trans h1.evWait).trans h
  · rw [host, h2.cond, vecConditions_congr hr, hj]
  · rw [host, h2.intN, vecConditions_congr hr, intNow_congr hr]
    rfl
  · rw [host, h2.intA, vecConditions_congr hr, intaNow_congr hr (h3.msix.trans h1.msix)]
    rfl
  · have := congrArg MirState.failAsked h3.mir
    rw [fail, ← failNow_congr h3.regs h3.parts.safe h3.parts.sys this]

/-! ### `done` -/

/-- Every command leaves the block settled (R377, R428 to R430). -/
theorem done_settled (s : State) : Settled s.done := settled_of _ (flushEvents_evWait s)

theorem judges_done (s : State) : Judges s.flushEvents s.done := (judges_settle _).trans (judges_settleFail _)

/-- The end of a command leaves the clocks, the engines and the queue alone. -/
theorem done_parts (s : State) : SameParts s s.done := by
  have h : SameParts s { s with evWait := [] } := by constructor <;> rfl
  exact (h.trans (logs_flushEvents s).parts).trans (judges_done s).parts

/-- The end of a command leaves a quiet field alone. -/
theorem done_get (s : State) (f : Field) (h : quiet f = true) : s.done.get f = s.get f :=
  (State.get_congr (judges_done s).regs f).trans ((logs_flushEvents s).get f h)

/-- The end of a command leaves a quiet byte alone. -/
theorem done_rdByte (s : State) (a : Nat) (h : quietByte a = true) : s.done.rdByte a = s.rdByte a :=
  (State.rdByte_congr (judges_done s).mem a).trans ((logs_flushEvents s).byte a h)

/-- The end of a command keeps the canonical form of the tables. -/
theorem done_wf (s : State) (h : Memory.wf s.mem = true) : Memory.wf s.done.mem = true := by
  rw [(judges_done s).mem]
  exact (logs_flushEvents s).wf h

/-- What has been sent stays sent. -/
theorem done_out (s : State) : ∃ l, s.done.out = l ++ s.out := by
  obtain ⟨l, hl⟩ := (judges_done s).out
  exact ⟨l, by rw [hl, (logs_flushEvents s).out]⟩

theorem done_mir (s : State) : { s.done.mir with failN := false } = { s.mir with failN := false } := by
  rw [(judges_done s).mir, (logs_flushEvents s).mir]

theorem done_msix (s : State) : s.done.host.msix = s.host.msix := (judges_done s).msix.trans (congrArg _ (logs_flushEvents s).host)
theorem done_spiQ (s : State) : s.done.host.spiQ = s.host.spiQ := (judges_done s).spiQ.trans (congrArg _ (logs_flushEvents s).host)
theorem done_spiHeld (s : State) : s.done.host.spiHeld = s.host.spiHeld :=
  (judges_done s).spiHeld.trans (congrArg _ (logs_flushEvents s).host)

/-- A request that is due runs. -/
theorem v2gReq_of_due (s : State) (n k : Nat) (f : State → State) (h : s.v2gDue n k = true) :
    s.v2gReq n k f = f (s.noteReq n k) := by
  simp only [State.v2gDue, Bool.and_eq_true, bne_iff_ne] at h
  obtain ⟨⟨⟨h1, h2⟩, h3⟩, h4⟩ := h
  simp only [State.v2gReq, h1, h3, h4, Bool.not_true, Bool.and_self, Bool.false_eq_true, if_false, if_true]
  rw [if_neg (by simpa using h2)]

/-- An access that reaches its page runs. -/
theorem hostReach_of_reach (s : State) (page off : Nat) (f : State → State) (h : s.readReach page = true) :
    s.hostReach page off f = f s := by
  unfold State.hostReach
  simp only [State.readReach, Bool.and_eq_true, Bool.not_eq_true'] at h
  obtain ⟨⟨h1, h2⟩, h3⟩ := h
  rw [h1, h2, h3]
  rfl

/-- A write that reaches its register runs. -/
theorem hostWrites_of_reaches (s : State) (page off : Nat) (f : State → State) (h : s.reaches page off = true) :
    s.hostWrites page off f = f s := by
  simp only [State.reaches, Bool.and_eq_true, Bool.not_eq_true'] at h
  obtain ⟨⟨⟨⟨h1, h2⟩, h3⟩, h4⟩, h5⟩ := h
  unfold State.hostWrites
  rw [hostReach_of_reach s page off _ (by simp only [State.readReach, h1, h2, h4]; rfl)]
  have h6 : (page == 0x2B && s.on F.LSW_STATUS_LINK_LOST) = false := by
    revert h5
    cases page == 0x2B <;> simp
  have h7 : (page == 0x2C && s.on F.LSW_STATUS_LINK_LOST) = false := by
    revert h5
    cases page == 0x2C <;> simp
  rw [h3, h6, h7]
  rfl

/-- A write that reaches its table runs. -/
theorem tableWrites_of_reach (s : State) (t off : Nat) (f : State → State) (h : s.tableReach t off = true) :
    s.tableWrites t off f = f s := by
  unfold State.tableWrites
  simp only [State.tableReach, Bool.and_eq_true, Bool.not_eq_true', decide_eq_true_eq] at h
  obtain ⟨⟨⟨h1, h2⟩, h3⟩, h4⟩ := h
  rw [h1, h3, h4, if_neg (by simp), if_neg (by omega)]
  rfl

end Sys2Proof.Machine
end

