-- ==== Sys2Proof/Laws/Exec.lean ====
section
/-! SUPPORT. `exec` of each command is that command's meaning: cite these instead of unfolding `exec`. -/
namespace Sys2Proof.Machine

theorem exec_railsGood : ∀ cfgHost unitB selHigh buttonHeld s, exec (.railsGood cfgHost unitB selHigh buttonHeld) s = execRailsGood cfgHost unitB selHigh buttonHeld s := by intros; rfl
theorem exec_vaonPowerOnReset : ∀ s, exec (.vaonPowerOnReset) s = execVaonPowerOnReset s := by intros; rfl
theorem exec_wakeEvent : ∀ cause s, exec (.wakeEvent cause) s = execWakeEvent cause s := by intros; rfl
theorem exec_pllLocked : ∀ lockUs s, exec (.pllLocked lockUs) s = execPllLocked lockUs s := by intros; rfl
theorem exec_selftestDone : ∀ durationUs firstFail s, exec (.selftestDone durationUs firstFail) s = execSelftestDone durationUs firstFail s := by intros; rfl
theorem exec_configLoadDone : ∀ s, exec (.configLoadDone) s = execConfigLoadDone s := by intros; rfl
theorem exec_configDone : ∀ s, exec (.configDone) s = execConfigDone s := by intros; rfl
theorem exec_modeReqDormant : ∀ s, exec (.modeReqDormant) s = execModeReqDormant s := by intros; rfl
theorem exec_modeReqReady : ∀ s, exec (.modeReqReady) s = execModeReqReady s := by intros; rfl
theorem exec_dormantIdleExpiry : ∀ s, exec (.dormantIdleExpiry) s = execDormantIdleExpiry s := by intros; rfl
theorem exec_vaultEnter : ∀ rail vlsMv s, exec (.vaultEnter rail vlsMv) s = execVaultEnter rail vlsMv s := by intros; rfl
theorem exec_vaultFlushDone : ∀ flushUs s, exec (.vaultFlushDone flushUs) s = execVaultFlushDone flushUs s := by intros; rfl
theorem exec_vaultRecovery : ∀ lowestMv vaultUs s, exec (.vaultRecovery lowestMv vaultUs) s = execVaultRecovery lowestMv vaultUs s := by intros; rfl
theorem exec_vaultVreset : ∀ s, exec (.vaultVreset) s = execVaultVreset s := by intros; rfl
theorem exec_holdupShort : ∀ vholdMv s, exec (.holdupShort vholdMv) s = execHoldupShort vholdMv s := by intros; rfl
theorem exec_vholdLow : ∀ vholdMv s, exec (.vholdLow vholdMv) s = execVholdLow vholdMv s := by intros; rfl
theorem exec_ctlRailFlush : ∀ rail s, exec (.ctlRailFlush rail) s = execCtlRailFlush rail s := by intros; rfl
theorem exec_resetButtonRelease : ∀ s, exec (.resetButtonRelease) s = execResetButtonRelease s := by intros; rfl
theorem exec_resetStuck : ∀ s, exec (.resetStuck) s = execResetStuck s := by intros; rfl
theorem exec_resetButtonReleased1s : ∀ s, exec (.resetButtonReleased1s) s = execResetButtonReleased1s s := by intros; rfl
theorem exec_resetStuckClear : ∀ s, exec (.resetStuckClear) s = execResetStuckClear s := by intros; rfl
theorem exec_swReset : ∀ key s, exec (.swReset key) s = execSwReset key s := by intros; rfl
theorem exec_deferredResetDone : ∀ s, exec (.deferredResetDone) s = execDeferredResetDone s := by intros; rfl
theorem exec_pllUnlock : ∀ xtal s, exec (.pllUnlock xtal) s = execPllUnlock xtal s := by intros; rfl
theorem exec_pcieReset : ∀ s, exec (.pcieReset) s = execPcieReset s := by intros; rfl
theorem exec_functionLevelReset : ∀ s, exec (.functionLevelReset) s = execFunctionLevelReset s := by intros; rfl
theorem exec_pcieLinkUp : ∀ speed width msixEn s, exec (.pcieLinkUp speed width msixEn) s = execPcieLinkUp speed width msixEn s := by intros; rfl
theorem exec_pcieLinkDown : ∀ s, exec (.pcieLinkDown) s = execPcieLinkDown s := by intros; rfl
theorem exec_imageCheck : ∀ key s, exec (.imageCheck key) s = execImageCheck key s := by intros; rfl
theorem exec_imageCheckDone : ∀ s, exec (.imageCheckDone) s = execImageCheckDone s := by intros; rfl
theorem exec_imageActivate : ∀ key s, exec (.imageActivate key) s = execImageActivate key s := by intros; rfl
theorem exec_imageWrite : ∀ byteOff value s, exec (.imageWrite byteOff value) s = execImageWrite byteOff value s := by intros; rfl
theorem exec_registerWrite : ∀ addr be value s, exec (.registerWrite addr be value) s = execRegisterWrite addr be value s := by intros; rfl
theorem exec_readClear : ∀ page word s, exec (.readClear page word) s = execReadClear page word s := by intros; rfl
theorem exec_errCodeRead : ∀ page s, exec (.errCodeRead page) s = execErrCodeRead page s := by intros; rfl
theorem exec_unmappedAccess : ∀ addr write s, exec (.unmappedAccess addr write) s = execUnmappedAccess addr write s := by intros; rfl
theorem exec_evtPendClear : ∀ page mask s, exec (.evtPendClear page mask) s = execEvtPendClear page mask s := by intros; rfl
theorem exec_evtSet : ∀ page mask s, exec (.evtSet page mask) s = execEvtSet page mask s := by intros; rfl
theorem exec_diagInjWrite : ∀ page value s, exec (.diagInjWrite page value) s = execDiagInjWrite page value s := by intros; rfl
theorem exec_tableEntryWrite : ∀ table byteOff value s, exec (.tableEntryWrite table byteOff value) s = execTableEntryWrite table byteOff value s := by intros; rfl
theorem exec_eventAppend : ∀ page code sev inst data s, exec (.eventAppend page code sev inst data) s = execEventAppend page code sev inst data s := by intros; rfl
theorem exec_logCfgWrite : ∀ value s, exec (.logCfgWrite value) s = execLogCfgWrite value s := by intros; rfl
theorem exec_tailWrite : ∀ ring value s, exec (.tailWrite ring value) s = execTailWrite ring value s := by intros; rfl
theorem exec_timeIncrWrite : ∀ isFrac value s, exec (.timeIncrWrite isFrac value) s = execTimeIncrWrite isFrac value s := by intros; rfl
theorem exec_timeNowRead : ∀ s, exec (.timeNowRead) s = execTimeNowRead s := by intros; rfl
theorem exec_timeCfgWrite : ∀ value s, exec (.timeCfgWrite value) s = execTimeCfgWrite value s := by intros; rfl
theorem exec_ptpSyncRx : ∀ port f s, exec (.ptpSyncRx port f) s = execPtpSyncRx port f s := by intros; rfl
theorem exec_ptpFollowUpRx : ∀ port f s, exec (.ptpFollowUpRx port f) s = execPtpFollowUpRx port f s := by intros; rfl
theorem exec_ptpDelayReqRx : ∀ port f s, exec (.ptpDelayReqRx port f) s = execPtpDelayReqRx port f s := by intros; rfl
theorem exec_ptpDelayRespRx : ∀ port f s, exec (.ptpDelayRespRx port f) s = execPtpDelayRespRx port f s := by intros; rfl
theorem exec_ptpPdelayReqRx : ∀ port f s, exec (.ptpPdelayReqRx port f) s = execPtpPdelayReqRx port f s := by intros; rfl
theorem exec_ptpPdelayRespRx : ∀ port f s, exec (.ptpPdelayRespRx port f) s = execPtpPdelayRespRx port f s := by intros; rfl
theorem exec_ptpPdelayRespFollowUpRx : ∀ port f s, exec (.ptpPdelayRespFollowUpRx port f) s = execPtpPdelayRespFollowUpRx port f s := by intros; rfl
theorem exec_ptpAnnounceRx : ∀ port f s, exec (.ptpAnnounceRx port f) s = execPtpAnnounceRx port f s := by intros; rfl
theorem exec_ptpSyncTx : ∀ port s, exec (.ptpSyncTx port) s = execPtpSyncTx port s := by intros; rfl
theorem exec_tcFollowUpTimeout : ∀ port seqId s, exec (.tcFollowUpTimeout port seqId) s = execTcFollowUpTimeout port seqId s := by intros; rfl
theorem exec_holdoverEnter : ∀ s, exec (.holdoverEnter) s = execHoldoverEnter s := by intros; rfl
theorem exec_syncAgeExpiry : ∀ s, exec (.syncAgeExpiry) s = execSyncAgeExpiry s := by intros; rfl
theorem exec_timeStep : ∀ s, exec (.timeStep) s = execTimeStep s := by intros; rfl
theorem exec_timeAdjWrite : ∀ value s, exec (.timeAdjWrite value) s = execTimeAdjWrite value s := by intros; rfl
theorem exec_adjCfgWrite : ∀ value s, exec (.adjCfgWrite value) s = execAdjCfgWrite value s := by intros; rfl
theorem exec_legalSteer : ∀ s, exec (.legalSteer) s = execLegalSteer s := by intros; rfl
theorem exec_tpoArm : ∀ n s, exec (.tpoArm n) s = execTpoArm n s := by intros; rfl
theorem exec_tpoDisarm : ∀ n s, exec (.tpoDisarm n) s = execTpoDisarm n s := by intros; rfl
theorem exec_tpoStart : ∀ n s, exec (.tpoStart n) s = execTpoStart n s := by intros; rfl
theorem exec_tpoPulseEnd : ∀ n s, exec (.tpoPulseEnd n) s = execTpoPulseEnd n s := by intros; rfl
theorem exec_sentOpen : ∀ s, exec (.sentOpen) s = execSentOpen s := by intros; rfl
theorem exec_sentStage : ∀ slot s, exec (.sentStage slot) s = execSentStage slot s := by intros; rfl
theorem exec_sentPrepare : ∀ slot s, exec (.sentPrepare slot) s = execSentPrepare slot s := by intros; rfl
theorem exec_sentAbort : ∀ slot s, exec (.sentAbort slot) s = execSentAbort slot s := by intros; rfl
theorem exec_sentRelease : ∀ slot s, exec (.sentRelease slot) s = execSentRelease slot s := by intros; rfl
theorem exec_sentClear : ∀ slot s, exec (.sentClear slot) s = execSentClear slot s := by intros; rfl
theorem exec_sentBadOp : ∀ op slot s, exec (.sentBadOp op slot) s = execSentBadOp op slot s := by intros; rfl
theorem exec_validationDone : ∀ slot s, exec (.validationDone slot) s = execValidationDone slot s := by intros; rfl
theorem exec_fullStop : ∀ slot s, exec (.fullStop slot) s = execFullStop slot s := by intros; rfl
theorem exec_takeInstant : ∀ slot s, exec (.takeInstant slot) s = execTakeInstant slot s := by intros; rfl
theorem exec_prepareRx : ∀ payload s, exec (.prepareRx payload) s = execPrepareRx payload s := by intros; rfl
theorem exec_voteRx : ∀ payload s, exec (.voteRx payload) s = execVoteRx payload s := by intros; rfl
theorem exec_voteDeadline : ∀ slot s, exec (.voteDeadline slot) s = execVoteDeadline slot s := by intros; rfl
theorem exec_decideRepeat : ∀ sid s, exec (.decideRepeat sid) s = execDecideRepeat sid s := by intros; rfl
theorem exec_decideRx : ∀ payload s, exec (.decideRx payload) s = execDecideRx payload s := by intros; rfl
theorem exec_queryRx : ∀ payload s, exec (.queryRx payload) s = execQueryRx payload s := by intros; rfl
theorem exec_querySend : ∀ slot s, exec (.querySend slot) s = execQuerySend slot s := by intros; rfl
theorem exec_guardInstant : ∀ slot s, exec (.guardInstant slot) s = execGuardInstant slot s := by intros; rfl
theorem exec_outcomeRx : ∀ payload s, exec (.outcomeRx payload) s = execOutcomeRx payload s := by intros; rfl
theorem exec_outcomeMissing : ∀ sid child s, exec (.outcomeMissing sid child) s = execOutcomeMissing sid child s := by intros; rfl
theorem exec_galeshFrameRx : ∀ port frame s, exec (.galeshFrameRx port frame) s = execGaleshFrameRx port frame s := by intros; rfl
theorem exec_nonGaleshFrameRx : ∀ port bytes s, exec (.nonGaleshFrameRx port bytes) s = execNonGaleshFrameRx port bytes s := by intros; rfl
theorem exec_routeEntryWrite : ∀ entry high value s, exec (.routeEntryWrite entry high value) s = execRouteEntryWrite entry high value s := by intros; rfl
theorem exec_fabLinkUp : ∀ port speed anDone s, exec (.fabLinkUp port speed anDone) s = execFabLinkUp port speed anDone s := by intros; rfl
theorem exec_fabLinkDown : ∀ port s, exec (.fabLinkDown port) s = execFabLinkDown port s := by intros; rfl
theorem exec_leaseRx : ∀ port msg s, exec (.leaseRx port msg) s = execLeaseRx port msg s := by intros; rfl
theorem exec_demandRx : ∀ msg s, exec (.demandRx msg) s = execDemandRx msg s := by intros; rfl
theorem exec_epochBoundary : ∀ s, exec (.epochBoundary) s = execEpochBoundary s := by intros; rfl
theorem exec_epochCfgWrite : ∀ value s, exec (.epochCfgWrite value) s = execEpochCfgWrite value s := by intros; rfl
theorem exec_leaseExpiry : ∀ s, exec (.leaseExpiry) s = execLeaseExpiry s := by intros; rfl
theorem exec_leaseRampStep : ∀ s, exec (.leaseRampStep) s = execLeaseRampStep s := by intros; rfl
theorem exec_childExpiry : ∀ e s, exec (.childExpiry e) s = execChildExpiry e s := by intros; rfl
theorem exec_childReclaim : ∀ e s, exec (.childReclaim e) s = execChildReclaim e s := by intros; rfl
theorem exec_capacityYield : ∀ n s, exec (.capacityYield n) s = execCapacityYield n s := by intros; rfl
theorem exec_periodStart : ∀ p s, exec (.periodStart p) s = execPeriodStart p s := by intros; rfl
theorem exec_comparatorTrip : ∀ p onTicks s, exec (.comparatorTrip p onTicks) s = execComparatorTrip p onTicks s := by intros; rfl
theorem exec_maxOnExpiry : ∀ p s, exec (.maxOnExpiry p) s = execMaxOnExpiry p s := by intros; rfl
theorem exec_phaseOpenDetected : ∀ p s, exec (.phaseOpenDetected p) s = execPhaseOpenDetected p s := by intros; rfl
theorem exec_senseBlock : ∀ n icMean s, exec (.senseBlock n icMean) s = execSenseBlock n icMean s := by intros; rfl
theorem exec_phasePeriodWrite : ∀ value s, exec (.phasePeriodWrite value) s = execPhasePeriodWrite value s := by intros; rfl
theorem exec_phaseTimingWrite : ∀ isBlank value s, exec (.phaseTimingWrite isBlank value) s = execPhaseTimingWrite isBlank value s := by intros; rfl
theorem exec_ovTruncate : ∀ n s, exec (.ovTruncate n) s = execOvTruncate n s := by intros; rfl
theorem exec_ovRelease : ∀ n s, exec (.ovRelease n) s = execOvRelease n s := by intros; rfl
theorem exec_groupFaultInput : ∀ g s, exec (.groupFaultInput g) s = execGroupFaultInput g s := by intros; rfl
theorem exec_faultClr : ∀ g gfltHigh s, exec (.faultClr g gfltHigh) s = execFaultClr g gfltHigh s := by intros; rfl
theorem exec_matchTimeout : ∀ g s, exec (.matchTimeout g) s = execMatchTimeout g s := by intros; rfl
theorem exec_matrixClosed : ∀ g travelMs s, exec (.matrixClosed g travelMs) s = execMatrixClosed g travelMs s := by intros; rfl
theorem exec_contactorCloseTimeout : ∀ g s, exec (.contactorCloseTimeout g) s = execContactorCloseTimeout g s := by intros; rfl
theorem exec_leavingDone : ∀ g s, exec (.leavingDone g) s = execLeavingDone g s := by intros; rfl
theorem exec_leaveTimeout : ∀ g s, exec (.leaveTimeout g) s = execLeaveTimeout g s := by intros; rfl
theorem exec_zeroConfirmed : ∀ g s, exec (.zeroConfirmed g) s = execZeroConfirmed g s := by intros; rfl
theorem exec_zeroTimeout : ∀ g s, exec (.zeroTimeout g) s = execZeroTimeout g s := by intros; rfl
theorem exec_matrixOpened : ∀ g travelMs s, exec (.matrixOpened g travelMs) s = execMatrixOpened g travelMs s := by intros; rfl
theorem exec_matrixOpenTimeout : ∀ g s, exec (.matrixOpenTimeout g) s = execMatrixOpenTimeout g s := by intros; rfl
theorem exec_fastSample : ∀ n vc ic s, exec (.fastSample n vc ic) s = execFastSample n vc ic s := by intros; rfl
theorem exec_slowSample : ∀ slot s, exec (.slowSample slot) s = execSlowSample slot s := by intros; rfl
theorem exec_sampleDeadlineMiss : ∀ slot s, exec (.sampleDeadlineMiss slot) s = execSampleDeadlineMiss slot s := by intros; rfl
theorem exec_loopSlotWrite : ∀ slot word value s, exec (.loopSlotWrite slot word value) s = execLoopSlotWrite slot word value s := by intros; rfl
theorem exec_loopSwapReq : ∀ value s, exec (.loopSwapReq value) s = execLoopSwapReq value s := by intros; rfl
theorem exec_directionZeroReached : ∀ n s, exec (.directionZeroReached n) s = execDirectionZeroReached n s := by intros; rfl
theorem exec_mainSeqStepDone : ∀ n s, exec (.mainSeqStepDone n) s = execMainSeqStepDone n s := by intros; rfl
theorem exec_mainTimeout : ∀ n s, exec (.mainTimeout n) s = execMainTimeout n s := by intros; rfl
theorem exec_prechargeDone : ∀ n s, exec (.prechargeDone n) s = execPrechargeDone n s := by intros; rfl
theorem exec_prechargeTimeout : ∀ n s, exec (.prechargeTimeout n) s = execPrechargeTimeout n s := by intros; rfl
theorem exec_stopZeroReached : ∀ n s, exec (.stopZeroReached n) s = execStopZeroReached n s := by intros; rfl
theorem exec_stopContactorsOpen : ∀ n s, exec (.stopContactorsOpen n) s = execStopContactorsOpen n s := by intros; rfl
theorem exec_stopOpenTimeout : ∀ n posClosed negClosed s, exec (.stopOpenTimeout n posClosed negClosed) s = execStopOpenTimeout n posClosed negClosed s := by intros; rfl
theorem exec_fbLost : ∀ n cause s, exec (.fbLost n cause) s = execFbLost n cause s := by intros; rfl
theorem exec_fbFrozen : ∀ n isI s, exec (.fbFrozen n isI) s = execFbFrozen n isI s := by intros; rfl
theorem exec_fbMismatchBlock : ∀ n vc vm ic im s, exec (.fbMismatchBlock n vc vm ic im) s = execFbMismatchBlock n vc vm ic im s := by intros; rfl
theorem exec_fbHoldEnd : ∀ n s, exec (.fbHoldEnd n) s = execFbHoldEnd n s := by intros; rfl
theorem exec_faultRampDone : ∀ n s, exec (.faultRampDone n) s = execFaultRampDone n s := by intros; rfl
theorem exec_fbStatClear : ∀ n value live s, exec (.fbStatClear n value live) s = execFbStatClear n value live s := by intros; rfl
theorem exec_sensFrame : ∀ codes s, exec (.sensFrame codes) s = execSensFrame codes s := by intros; rfl
theorem exec_sensChStuck : ∀ c s, exec (.sensChStuck c) s = execSensChStuck c s := by intros; rfl
theorem exec_sensChValid : ∀ c s, exec (.sensChValid c) s = execSensChValid c s := by intros; rfl
theorem exec_sensCfgWrite : ∀ c value s, exec (.sensCfgWrite c value) s = execSensCfgWrite c value s := by intros; rfl
theorem exec_observerUpdate : ∀ i0 i1 i2 i3 s, exec (.observerUpdate i0 i1 i2 i3) s = execObserverUpdate i0 i1 i2 i3 s := by intros; rfl
theorem exec_operatorRecompute : ∀ s, exec (.operatorRecompute) s = execOperatorRecompute s := by intros; rfl
theorem exec_coolObserverEnable : ∀ n value s, exec (.coolObserverEnable n value) s = execCoolObserverEnable n value s := by intros; rfl
theorem exec_pinImplausible : ∀ n neg s, exec (.pinImplausible n neg) s = execPinImplausible n neg s := by intros; rfl
theorem exec_orderImplausible : ∀ n s, exec (.orderImplausible n) s = execOrderImplausible n s := by intros; rfl
theorem exec_pressLow : ∀ n s, exec (.pressLow n) s = execPressLow n s := by intros; rfl
theorem exec_flowLow : ∀ n s, exec (.flowLow n) s = execFlowLow n s := by intros; rfl
theorem exec_coolFlagClear : ∀ n value s, exec (.coolFlagClear n value) s = execCoolFlagClear n value s := by intros; rfl
theorem exec_linkCfgWrite : ∀ n value s, exec (.linkCfgWrite n value) s = execLinkCfgWrite n value s := by intros; rfl
theorem exec_levelAccepted : ∀ n isB mv s, exec (.levelAccepted n isB mv) s = execLevelAccepted n isB mv s := by intros; rfl
theorem exec_gapFault : ∀ n isB mv s, exec (.gapFault n isB mv) s = execGapFault n isB mv s := by intros; rfl
theorem exec_cpDiodeFault : ∀ n lowMv s, exec (.cpDiodeFault n lowMv) s = execCpDiodeFault n lowMv s := by intros; rfl
theorem exec_latchEnergise : ∀ n s, exec (.latchEnergise n) s = execLatchEnergise n s := by intros; rfl
theorem exec_latchRelease : ∀ n s, exec (.latchRelease n) s = execLatchRelease n s := by intros; rfl
theorem exec_linkUnlatch : ∀ n s, exec (.linkUnlatch n) s = execLinkUnlatch n s := by intros; rfl
theorem exec_latchAutoTimeout : ∀ n s, exec (.latchAutoTimeout n) s = execLatchAutoTimeout n s := by intros; rfl
theorem exec_latchFault : ∀ n feedback s, exec (.latchFault n feedback) s = execLatchFault n feedback s := by intros; rfl
theorem exec_cpPwmWrite : ∀ n value s, exec (.cpPwmWrite n value) s = execCpPwmWrite n value s := by intros; rfl
theorem exec_phyStart : ∀ n s, exec (.phyStart n) s = execPhyStart n s := by intros; rfl
theorem exec_plcaStatusOk : ∀ status s, exec (.plcaStatusOk status) s = execPlcaStatusOk status s := by intros; rfl
theorem exec_transportLost : ∀ n s, exec (.transportLost n) s = execTransportLost n s := by intros; rfl
theorem exec_plcaConflict : ∀ n source s, exec (.plcaConflict n source) s = execPlcaConflict n source s := by intros; rfl
theorem exec_rmiiRefclkLost : ∀ n s, exec (.rmiiRefclkLost n) s = execRmiiRefclkLost n s := by intros; rfl
theorem exec_cmSetKeyCnf : ∀ n result s, exec (.cmSetKeyCnf n result) s = execCmSetKeyCnf n result s := by intros; rfl
theorem exec_modemNoKey : ∀ n s, exec (.modemNoKey n) s = execModemNoKey n s := by intros; rfl
theorem exec_cmSlacParmReq : ∀ n runId s, exec (.cmSlacParmReq n runId) s = execCmSlacParmReq n runId s := by intros; rfl
theorem exec_cmStartAttenCharInd : ∀ n runId s, exec (.cmStartAttenCharInd n runId) s = execCmStartAttenCharInd n runId s := by intros; rfl
theorem exec_cmMnbcSoundInd : ∀ n runId s, exec (.cmMnbcSoundInd n runId) s = execCmMnbcSoundInd n runId s := by intros; rfl
theorem exec_cmAttenProfileInd : ∀ n groups s, exec (.cmAttenProfileInd n groups) s = execCmAttenProfileInd n groups s := by intros; rfl
theorem exec_cmAttenCharRsp : ∀ n runId success s, exec (.cmAttenCharRsp n runId success) s = execCmAttenCharRsp n runId success s := by intros; rfl
theorem exec_cmSlacMatchReq : ∀ n runId vehicleMac s, exec (.cmSlacMatchReq n runId vehicleMac) s = execCmSlacMatchReq n runId vehicleMac s := by intros; rfl
theorem exec_cmValidateReq : ∀ n runId s, exec (.cmValidateReq n runId) s = execCmValidateReq n runId s := by intros; rfl
theorem exec_slacStepTimeout : ∀ n s, exec (.slacStepTimeout n) s = execSlacStepTimeout n s := by intros; rfl
theorem exec_linkRestart : ∀ n s, exec (.linkRestart n) s = execLinkRestart n s := by intros; rfl
theorem exec_dadDone : ∀ n conflict s, exec (.dadDone n conflict) s = execDadDone n conflict s := by intros; rfl
theorem exec_icmpv6NsRx : ∀ n src target s, exec (.icmpv6NsRx n src target) s = execIcmpv6NsRx n src target s := by intros; rfl
theorem exec_icmpv6EchoRx : ∀ n src dst data s, exec (.icmpv6EchoRx n src dst data) s = execIcmpv6EchoRx n src dst data s := by intros; rfl
theorem exec_sdpRequestRx : ∀ n src dst udpPort version inverse security transport s, exec (.sdpRequestRx n src dst udpPort version inverse security transport) s = execSdpRequestRx n src dst udpPort version inverse security transport s := by intros; rfl
theorem exec_tcpSynRx : ∀ n src dstPort s, exec (.tcpSynRx n src dstPort) s = execTcpSynRx n src dstPort s := by intros; rfl
theorem exec_tcpSegmentRx : ∀ n src len v2gLen ack fin s, exec (.tcpSegmentRx n src len v2gLen ack fin) s = execTcpSegmentRx n src len v2gLen ack fin s := by intros; rfl
theorem exec_tcpRto : ∀ n s, exec (.tcpRto n) s = execTcpRto n s := by intros; rfl
theorem exec_tlsRecordRx : ∀ n record s, exec (.tlsRecordRx n record) s = execTlsRecordRx n record s := by intros; rfl
theorem exec_pkeDone : ∀ n s, exec (.pkeDone n) s = execPkeDone n s := by intros; rfl
theorem exec_tlsHandshakeTimeout : ∀ n s, exec (.tlsHandshakeTimeout n) s = execTlsHandshakeTimeout n s := by intros; rfl
theorem exec_supportedAppProtocol : ∀ n offers s, exec (.supportedAppProtocol n offers) s = execSupportedAppProtocol n offers s := by intros; rfl
theorem exec_sessionSetup : ∀ n evccid s, exec (.sessionSetup n evccid) s = execSessionSetup n evccid s := by intros; rfl
theorem exec_authorizationSetup : ∀ n s, exec (.authorizationSetup n) s = execAuthorizationSetup n s := by intros; rfl
theorem exec_serviceDiscovery : ∀ n kind bpt contract s, exec (.serviceDiscovery n kind bpt contract) s = execServiceDiscovery n kind bpt contract s := by intros; rfl
theorem exec_certificateInstallation : ∀ n update body s, exec (.certificateInstallation n update body) s = execCertificateInstallation n update body s := by intros; rfl
theorem exec_paymentDetails : ∀ n emaid chain s, exec (.paymentDetails n emaid chain) s = execPaymentDetails n emaid chain s := by intros; rfl
theorem exec_authorization : ∀ n emaid chain s, exec (.authorization n emaid chain) s = execAuthorization n emaid chain s := by intros; rfl
theorem exec_chargeParameterDiscovery : ∀ n req s, exec (.chargeParameterDiscovery n req) s = execChargeParameterDiscovery n req s := by intros; rfl
theorem exec_cableCheckReq : ∀ n s, exec (.cableCheckReq n) s = execCableCheckReq n s := by intros; rfl
theorem exec_cableCheckStart : ∀ n s, exec (.cableCheckStart n) s = execCableCheckStart n s := by intros; rfl
theorem exec_cableCheckHoldDone : ∀ n s, exec (.cableCheckHoldDone n) s = execCableCheckHoldDone n s := by intros; rfl
theorem exec_cableCheckDischarged : ∀ n s, exec (.cableCheckDischarged n) s = execCableCheckDischarged n s := by intros; rfl
theorem exec_cableCheckTimeout : ∀ n s, exec (.cableCheckTimeout n) s = execCableCheckTimeout n s := by intros; rfl
theorem exec_prechargeReq : ∀ n present target s, exec (.prechargeReq n present target) s = execPrechargeReq n present target s := by intros; rfl
theorem exec_powerDeliveryStart : ∀ n req s, exec (.powerDeliveryStart n req) s = execPowerDeliveryStart n req s := by intros; rfl
theorem exec_chargeLoopReq : ∀ n req s, exec (.chargeLoopReq n req) s = execChargeLoopReq n req s := by intros; rfl
theorem exec_targetSetIssue : ∀ n s, exec (.targetSetIssue n) s = execTargetSetIssue n s := by intros; rfl
theorem exec_v2gResponseSend : ∀ n s, exec (.v2gResponseSend n) s = execV2gResponseSend n s := by intros; rfl
theorem exec_meteringConfirmation : ∀ n body s, exec (.meteringConfirmation n body) s = execMeteringConfirmation n body s := by intros; rfl
theorem exec_powerDeliveryStop : ∀ n s, exec (.powerDeliveryStop n) s = execPowerDeliveryStop n s := by intros; rfl
theorem exec_weldingDetection : ∀ n s, exec (.weldingDetection n) s = execWeldingDetection n s := by intros; rfl
theorem exec_sessionStop : ∀ n s, exec (.sessionStop n) s = execSessionStop n s := by intros; rfl
theorem exec_v2gUnexpectedReq : ∀ n message length undecodable s, exec (.v2gUnexpectedReq n message length undecodable) s = execV2gUnexpectedReq n message length undecodable s := by intros; rfl
theorem exec_seqTimeout : ∀ n s, exec (.seqTimeout n) s = execSeqTimeout n s := by intros; rfl
theorem exec_loopTimeout : ∀ n s, exec (.loopTimeout n) s = execLoopTimeout n s := by intros; rfl
theorem exec_ctxStop : ∀ n s, exec (.ctxStop n) s = execCtxStop n s := by intros; rfl
theorem exec_hostStopTimeout : ∀ n s, exec (.hostStopTimeout n) s = execHostStopTimeout n s := by intros; rfl
theorem exec_authRes : ∀ n reqId grant s, exec (.authRes n reqId grant) s = execAuthRes n reqId grant s := by intros; rfl
theorem exec_authTimeout : ∀ n s, exec (.authTimeout n) s = execAuthTimeout n s := by intros; rfl
theorem exec_certRes : ∀ n reqId part parts body s, exec (.certRes n reqId part parts body) s = execCertRes n reqId part parts body s := by intros; rfl
theorem exec_certTimeout : ∀ n s, exec (.certTimeout n) s = execCertTimeout n s := by intros; rfl
theorem exec_ocspSet : ∀ entry der s, exec (.ocspSet entry der) s = execOcspSet entry der s := by intros; rfl
theorem exec_exiLoadSet : ∀ s, exec (.exiLoadSet) s = execExiLoadSet s := by intros; rfl
theorem exec_exiLoadClear : ∀ s, exec (.exiLoadClear) s = execExiLoadClear s := by intros; rfl
theorem exec_keygen : ∀ value s, exec (.keygen value) s = execKeygen value s := by intros; rfl
theorem exec_trustEntryApply : ∀ entry s, exec (.trustEntryApply entry) s = execTrustEntryApply entry s := by intros; rfl
theorem exec_rngFail : ∀ test s, exec (.rngFail test) s = execRngFail test s := by intros; rfl
theorem exec_metrologyStart : ∀ okA okB s, exec (.metrologyStart okA okB) s = execMetrologyStart okA okB s := by intros; rfl
theorem exec_lensSample : ∀ raw ctl s, exec (.lensSample raw ctl) s = execLensSample raw ctl s := by intros; rfl
theorem exec_lensBlockSend : ∀ s, exec (.lensBlockSend) s = execLensBlockSend s := by intros; rfl
theorem exec_metrologyCycleEnd : ∀ s, exec (.metrologyCycleEnd) s = execMetrologyCycleEnd s := by intros; rfl
theorem exec_boundaryCommit : ∀ s, exec (.boundaryCommit) s = execBoundaryCommit s := by intros; rfl
theorem exec_lensChLost : ∀ c data s, exec (.lensChLost c data) s = execLensChLost c data s := by intros; rfl
theorem exec_lensChFrozen : ∀ c s, exec (.lensChFrozen c) s = execLensChFrozen c s := by intros; rfl
theorem exec_lensLossJudged : ∀ c kind s, exec (.lensLossJudged c kind) s = execLensLossJudged c kind s := by intros; rfl
theorem exec_lensChRestored : ∀ c kind s, exec (.lensChRestored c kind) s = execLensChRestored c kind s := by intros; rfl
theorem exec_gridWindowEnd : ∀ s, exec (.gridWindowEnd) s = execGridWindowEnd s := by intros; rfl
theorem exec_gridFreqLost : ∀ s, exec (.gridFreqLost) s = execGridFreqLost s := by intros; rfl
theorem exec_lensCalWrite : ∀ c reg value s, exec (.lensCalWrite c reg value) s = execLensCalWrite c reg value s := by intros; rfl
theorem exec_pulseStart : ∀ k s, exec (.pulseStart k) s = execPulseStart k s := by intros; rfl
theorem exec_pulseEnd : ∀ k s, exec (.pulseEnd k) s = execPulseEnd k s := by intros; rfl
theorem exec_pulseCfgWrite : ∀ k reg value s, exec (.pulseCfgWrite k reg value) s = execPulseCfgWrite k reg value s := by intros; rfl
theorem exec_capArm : ∀ value s, exec (.capArm value) s = execCapArm value s := by intros; rfl
theorem exec_capFire : ∀ value s, exec (.capFire value) s = execCapFire value s := by intros; rfl
theorem exec_capTrigger : ∀ s, exec (.capTrigger) s = execCapTrigger s := by intros; rfl
theorem exec_capDone : ∀ s, exec (.capDone) s = execCapDone s := by intros; rfl
theorem exec_tariffActivate : ∀ value s, exec (.tariffActivate value) s = execTariffActivate value s := by intros; rfl
theorem exec_closePeriod : ∀ value s, exec (.closePeriod value) s = execClosePeriod value s := by intros; rfl
theorem exec_demandCfgWrite : ∀ value s, exec (.demandCfgWrite value) s = execDemandCfgWrite value s := by intros; rfl
theorem exec_sessionOpenReq : ∀ point sid s, exec (.sessionOpenReq point sid) s = execSessionOpenReq point sid s := by intros; rfl
theorem exec_sessionCloseReq : ∀ point s, exec (.sessionCloseReq point) s = execSessionCloseReq point s := by intros; rfl
theorem exec_sessionSigned : ∀ s, exec (.sessionSigned) s = execSessionSigned s := by intros; rfl
theorem exec_sessRead : ∀ value s, exec (.sessRead value) s = execSessRead value s := by intros; rfl
theorem exec_recordAppendReq : ∀ kind content s, exec (.recordAppendReq kind content) s = execRecordAppendReq kind content s := by intros; rfl
theorem exec_metrologyRequestRefused : ∀ s, exec (.metrologyRequestRefused) s = execMetrologyRequestRefused s := by intros; rfl
theorem exec_tamperInput : ∀ inp s, exec (.tamperInput inp) s = execTamperInput inp s := by intros; rfl
theorem exec_tamperPpm : ∀ ppm s, exec (.tamperPpm ppm) s = execTamperPpm ppm s := by intros; rfl
theorem exec_ctlMetrologyLinkLost : ∀ s, exec (.ctlMetrologyLinkLost) s = execCtlMetrologyLinkLost s := by intros; rfl
theorem exec_ctlMetrologyLinkRestored : ∀ s, exec (.ctlMetrologyLinkRestored) s = execCtlMetrologyLinkRestored s := by intros; rfl
theorem exec_ctlPowerLinkLost : ∀ s, exec (.ctlPowerLinkLost) s = execCtlPowerLinkLost s := by intros; rfl
theorem exec_ctlPowerLinkRestored : ∀ s, exec (.ctlPowerLinkRestored) s = execCtlPowerLinkRestored s := by intros; rfl
theorem exec_sinDemand : ∀ k s, exec (.sinDemand k) s = execSinDemand k s := by intros; rfl
theorem exec_sinFault : ∀ k stray s, exec (.sinFault k stray) s = execSinFault k stray s := by intros; rfl
theorem exec_sinPairFault : ∀ p s, exec (.sinPairFault p) s = execSinPairFault p s := by intros; rfl
theorem exec_stpPulse : ∀ inp s, exec (.stpPulse inp) s = execStpPulse inp s := by intros; rfl
theorem exec_sf2GateCut : ∀ n s, exec (.sf2GateCut n) s = execSf2GateCut n s := by intros; rfl
theorem exec_sf3Trip : ∀ n s, exec (.sf3Trip n) s = execSf3Trip n s := by intros; rfl
theorem exec_sf5Weld : ∀ fb s, exec (.sf5Weld fb) s = execSf5Weld fb s := by intros; rfl
theorem exec_fbDropout : ∀ fb s, exec (.fbDropout fb) s = execFbDropout fb s := by intros; rfl
theorem exec_sf6Trip : ∀ n s, exec (.sf6Trip n) s = execSf6Trip n s := by intros; rfl
theorem exec_sf10Trip : ∀ n s, exec (.sf10Trip n) s = execSf10Trip n s := by intros; rfl
theorem exec_sf11Trip : ∀ n s, exec (.sf11Trip n) s = execSf11Trip n s := by intros; rfl
theorem exec_coilOffDeadline : ∀ scope s, exec (.coilOffDeadline scope) s = execCoilOffDeadline scope s := by intros; rfl
theorem exec_imdFault : ∀ n s, exec (.imdFault n) s = execImdFault n s := by intros; rfl
theorem exec_imdPwmLost : ∀ n s, exec (.imdPwmLost n) s = execImdPwmLost n s := by intros; rfl
theorem exec_weldcheckJudged : ∀ n s, exec (.weldcheckJudged n) s = execWeldcheckJudged n s := by intros; rfl
theorem exec_dischargeDone : ∀ n s, exec (.dischargeDone n) s = execDischargeDone n s := by intros; rfl
theorem exec_diagInterval : ∀ us fail corrected badMet badPower s, exec (.diagInterval us fail corrected badMet badPower) s = execDiagInterval us fail corrected badMet badPower s := by intros; rfl
theorem exec_cycleOverrun : ∀ us s, exec (.cycleOverrun us) s = execCycleOverrun us s := by intros; rfl
theorem exec_safeClr : ∀ value s, exec (.safeClr value) s = execSafeClr value s := by intros; rfl
theorem exec_unplugClear : ∀ n s, exec (.unplugClear n) s = execUnplugClear n s := by intros; rfl
theorem exec_safeRestart : ∀ value s, exec (.safeRestart value) s = execSafeRestart value s := by intros; rfl
theorem exec_safeRestartDone : ∀ fail s, exec (.safeRestartDone fail) s = execSafeRestartDone fail s := by intros; rfl
theorem exec_weldClear : ∀ high value s, exec (.weldClear high value) s = execWeldClear high value s := by intros; rfl
theorem exec_degradedExpired : ∀ n s, exec (.degradedExpired n) s = execDegradedExpired n s := by intros; rfl
theorem exec_degradedTimerReset : ∀ n s, exec (.degradedTimerReset n) s = execDegradedTimerReset n s := by intros; rfl
theorem exec_gscTx : ∀ c s, exec (.gscTx c) s = execGscTx c s := by intros; rfl
theorem exec_gscRx : ∀ src pdu s, exec (.gscRx src pdu) s = execGscRx src pdu s := by intros; rfl
theorem exec_gscWatchdog : ∀ c s, exec (.gscWatchdog c) s = execGscWatchdog c s := by intros; rfl
theorem exec_gscAck : ∀ c value s, exec (.gscAck c value) s = execGscAck c value s := by intros; rfl
theorem exec_gscHostRxGo : ∀ value s, exec (.gscHostRxGo value) s = execGscHostRxGo value s := by intros; rfl
theorem exec_gscCtimeWrite : ∀ c value s, exec (.gscCtimeWrite c value) s = execGscCtimeWrite c value s := by intros; rfl
theorem exec_pwdEnterSafety : ∀ len s, exec (.pwdEnterSafety len) s = execPwdEnterSafety len s := by intros; rfl
theorem exec_pwdEnterSeal : ∀ len sealN s, exec (.pwdEnterSeal len sealN) s = execPwdEnterSeal len sealN s := by intros; rfl
theorem exec_pwdCloseSafety : ∀ s, exec (.pwdCloseSafety) s = execPwdCloseSafety s := by intros; rfl
theorem exec_pwdCloseSeal : ∀ s, exec (.pwdCloseSeal) s = execPwdCloseSeal s := by intros; rfl
theorem exec_pwdChangeSafety : ∀ len s, exec (.pwdChangeSafety len) s = execPwdChangeSafety len s := by intros; rfl
theorem exec_pwdChangeSeal : ∀ len sealN s, exec (.pwdChangeSeal len sealN) s = execPwdChangeSeal len sealN s := by intros; rfl
theorem exec_pwdLockoutEnd : ∀ isSeal s, exec (.pwdLockoutEnd isSeal) s = execPwdLockoutEnd isSeal s := by intros; rfl
theorem exec_pwdIdleTimeout : ∀ s, exec (.pwdIdleTimeout) s = execPwdIdleTimeout s := by intros; rfl
theorem exec_sealNRelease : ∀ s, exec (.sealNRelease) s = execSealNRelease s := by intros; rfl
theorem exec_partnerHbLost : ∀ s, exec (.partnerHbLost) s = execPartnerHbLost s := by intros; rfl
theorem exec_partnerHbOk : ∀ s, exec (.partnerHbOk) s = execPartnerHbOk s := by intros; rfl
theorem exec_mirFail : ∀ s, exec (.mirFail) s = execMirFail s := by intros; rfl
theorem exec_mirUnfail : ∀ s, exec (.mirUnfail) s = execMirUnfail s := by intros; rfl
theorem exec_arbSwitch : ∀ k s, exec (.arbSwitch k) s = execArbSwitch k s := by intros; rfl
theorem exec_arbUnitStateChange : ∀ k isB hbOk failLow s, exec (.arbUnitStateChange k isB hbOk failLow) s = execArbUnitStateChange k isB hbOk failLow s := by intros; rfl
theorem exec_pairarbEnable : ∀ value levels s, exec (.pairarbEnable value levels) s = execPairarbEnable value levels s := by intros; rfl
theorem exec_pairarbForce : ∀ k value s, exec (.pairarbForce k value) s = execPairarbForce k value s := by intros; rfl
theorem exec_mirrorAligned : ∀ variant ctlStep metStep pwrStep cfgCrc configSame s, exec (.mirrorAligned variant ctlStep metStep pwrStep cfgCrc configSame) s = execMirrorAligned variant ctlStep metStep pwrStep cfgCrc configSame s := by intros; rfl
theorem exec_mirrorLaneLost : ∀ s, exec (.mirrorLaneLost) s = execMirrorLaneLost s := by intros; rfl
theorem exec_mirrorFrameTx : ∀ s, exec (.mirrorFrameTx) s = execMirrorFrameTx s := by intros; rfl
theorem exec_mirrorFrameRx : ∀ frame s, exec (.mirrorFrameRx frame) s = execMirrorFrameRx frame s := by intros; rfl
theorem exec_mirrorStatusFrame : ∀ received s, exec (.mirrorStatusFrame received) s = execMirrorStatusFrame received s := by intros; rfl
theorem exec_handoverStart : ∀ s, exec (.handoverStart) s = execHandoverStart s := by intros; rfl
theorem exec_handoverDone : ∀ gapUs handUs s, exec (.handoverDone gapUs handUs) s = execHandoverDone gapUs handUs s := by intros; rfl
theorem exec_deselected : ∀ s, exec (.deselected) s = execDeselected s := by intros; rfl
theorem exec_selGlitch : ∀ widthNs s, exec (.selGlitch widthNs) s = execSelGlitch widthNs s := by intros; rfl
theorem exec_lswCmdWrite : ∀ c value s, exec (.lswCmdWrite c value) s = execLswCmdWrite c value s := by intros; rfl
theorem exec_safeOff : ∀ s, exec (.safeOff) s = execSafeOff s := by intros; rfl
theorem exec_safeOffRelease : ∀ s, exec (.safeOffRelease) s = execSafeOffRelease s := by intros; rfl
theorem exec_lswLimiting : ∀ c curMa s, exec (.lswLimiting c curMa) s = execLswLimiting c curMa s := by intros; rfl
theorem exec_lswThermalShutdown : ∀ c temp s, exec (.lswThermalShutdown c temp) s = execLswThermalShutdown c temp s := by intros; rfl
theorem exec_lswThermalClear : ∀ c temp s, exec (.lswThermalClear c temp) s = execLswThermalClear c temp s := by intros; rfl
theorem exec_lswBlankEnd : ∀ c s, exec (.lswBlankEnd c) s = execLswBlankEnd c s := by intros; rfl
theorem exec_lswOverload : ∀ c curMa s, exec (.lswOverload c curMa) s = execLswOverload c curMa s := by intros; rfl
theorem exec_lswClusterWarn : ∀ k temp s, exec (.lswClusterWarn k temp) s = execLswClusterWarn k temp s := by intros; rfl
theorem exec_lswClusterClear : ∀ k temp s, exec (.lswClusterClear k temp) s = execLswClusterClear k temp s := by intros; rfl
theorem exec_lswRetry : ∀ c s, exec (.lswRetry c) s = execLswRetry c s := by intros; rfl
theorem exec_lswRetryReload : ∀ c s, exec (.lswRetryReload c) s = execLswRetryReload c s := by intros; rfl
theorem exec_lswRearm : ∀ value s, exec (.lswRearm value) s = execLswRearm value s := by intros; rfl
theorem exec_lswOpenLoad : ∀ c s, exec (.lswOpenLoad c) s = execLswOpenLoad c s := by intros; rfl
theorem exec_lswDissCheck : ∀ curMa out s, exec (.lswDissCheck curMa out) s = execLswDissCheck curMa out s := by intros; rfl
theorem exec_lswDissHigh : ∀ s, exec (.lswDissHigh) s = execLswDissHigh s := by intros; rfl
theorem exec_lswSupplyFault : ∀ cond vlsMv s, exec (.lswSupplyFault cond vlsMv) s = execLswSupplyFault cond vlsMv s := by intros; rfl
theorem exec_lswSupplyRecover : ∀ cond s, exec (.lswSupplyRecover cond) s = execLswSupplyRecover cond s := by intros; rfl
theorem exec_lswLinkDownWrite : ∀ isLsx off s, exec (.lswLinkDownWrite isLsx off) s = execLswLinkDownWrite isLsx off s := by intros; rfl
theorem exec_lsxChainShift : ∀ s, exec (.lsxChainShift) s = execLsxChainShift s := by intros; rfl
theorem exec_lsxScanConversion : ∀ x senseMv s, exec (.lsxScanConversion x senseMv) s = execLsxScanConversion x senseMv s := by intros; rfl
theorem exec_lsxOverload : ∀ x s, exec (.lsxOverload x) s = execLsxOverload x s := by intros; rfl
theorem exec_lsxRearm : ∀ value s, exec (.lsxRearm value) s = execLsxRearm value s := by intros; rfl
theorem exec_spiRead : ∀ addr crc ready s, exec (.spiRead addr crc ready) s = execSpiRead addr crc ready s := by intros; rfl
theorem exec_spiQuadRead : ∀ addr crc ready s, exec (.spiQuadRead addr crc ready) s = execSpiQuadRead addr crc ready s := by intros; rfl
theorem exec_spiWrite : ∀ addr data crc s, exec (.spiWrite addr data crc) s = execSpiWrite addr data crc s := by intros; rfl
theorem exec_spiQuadWrite : ∀ addr data crc s, exec (.spiQuadWrite addr data crc) s = execSpiQuadWrite addr data crc s := by intros; rfl
theorem exec_spiStatus : ∀ crc s, exec (.spiStatus crc) s = execSpiStatus crc s := by intros; rfl
theorem exec_spiQuadStatus : ∀ crc s, exec (.spiQuadStatus crc) s = execSpiQuadStatus crc s := by intros; rfl
theorem exec_spiFrameAbort : ∀ s, exec (.spiFrameAbort) s = execSpiFrameAbort s := by intros; rfl
theorem exec_spiQueuedWrite : ∀ s, exec (.spiQueuedWrite) s = execSpiQueuedWrite s := by intros; rfl
theorem exec_spiHeldReadExpiry : ∀ s, exec (.spiHeldReadExpiry) s = execSpiHeldReadExpiry s := by intros; rfl
theorem exec_vecEoi : ∀ value s, exec (.vecEoi value) s = execVecEoi value s := by intros; rfl
theorem exec_msixUnmask : ∀ v s, exec (.msixUnmask v) s = execMsixUnmask v s := by intros; rfl
theorem exec_mbxDeviceMessage : ∀ s, exec (.mbxDeviceMessage) s = execMbxDeviceMessage s := by intros; rfl
theorem exec_mbxDone : ∀ value s, exec (.mbxDone value) s = execMbxDone value s := by intros; rfl
theorem exec_mbxPost : ∀ value s, exec (.mbxPost value) s = execMbxPost value s := by intros; rfl
theorem exec_mbxConsumed : ∀ slot s, exec (.mbxConsumed slot) s = execMbxConsumed slot s := by intros; rfl
theorem exec_mbxFullTimeout : ∀ s, exec (.mbxFullTimeout) s = execMbxFullTimeout s := by intros; rfl
theorem exec_dmaGo : ∀ c s, exec (.dmaGo c) s = execDmaGo c s := by intros; rfl
theorem exec_dmaStart : ∀ c s, exec (.dmaStart c) s = execDmaStart c s := by intros; rfl
theorem exec_dmaPause : ∀ c moved hostData s, exec (.dmaPause c moved hostData) s = execDmaPause c moved hostData s := by intros; rfl
theorem exec_dmaResume : ∀ c s, exec (.dmaResume c) s = execDmaResume c s := by intros; rfl
theorem exec_dmaSkip : ∀ c s, exec (.dmaSkip c) s = execDmaSkip c s := by intros; rfl
theorem exec_dmaRetry : ∀ c s, exec (.dmaRetry c) s = execDmaRetry c s := by intros; rfl
theorem exec_dmaAbort : ∀ c moved hostData s, exec (.dmaAbort c moved hostData) s = execDmaAbort c moved hostData s := by intros; rfl
theorem exec_dmaAppend : ∀ c value s, exec (.dmaAppend c value) s = execDmaAppend c value s := by intros; rfl
theorem exec_dmaMoverGrant : ∀ s, exec (.dmaMoverGrant) s = execDmaMoverGrant s := by intros; rfl
theorem exec_dmaDescFetched : ∀ c desc code s, exec (.dmaDescFetched c desc code) s = execDmaDescFetched c desc code s := by intros; rfl
theorem exec_dmaTransferDone : ∀ c hostData wbCode s, exec (.dmaTransferDone c hostData wbCode) s = execDmaTransferDone c hostData wbCode s := by intros; rfl
theorem exec_dmaBusError : ∀ c code moved hostData s, exec (.dmaBusError c code moved hostData) s = execDmaBusError c code moved hostData s := by intros; rfl
theorem exec_dmaCplTimeout : ∀ c moved hostData s, exec (.dmaCplTimeout c moved hostData) s = execDmaCplTimeout c moved hostData s := by intros; rfl
theorem exec_dmaPaceResume : ∀ c s, exec (.dmaPaceResume c) s = execDmaPaceResume c s := by intros; rfl
theorem exec_lifeSecondUpdate : ∀ means s, exec (.lifeSecondUpdate means) s = execLifeSecondUpdate means s := by intros; rfl
theorem exec_lifeHostInc : ∀ value s, exec (.lifeHostInc value) s = execLifeHostInc value s := by intros; rfl
theorem exec_lifeHostHist : ∀ value s, exec (.lifeHostHist value) s = execLifeHostHist value s := by intros; rfl
theorem exec_lifeBaseline : ∀ value s, exec (.lifeBaseline value) s = execLifeBaseline value s := by intros; rfl
theorem exec_scrubRead : ∀ flips check otherBad s, exec (.scrubRead flips check otherBad) s = execScrubRead flips check otherBad s := by intros; rfl
theorem exec_leaveOutFault : ∀ n s, exec (.leaveOutFault n) s = execLeaveOutFault n s := by intros; rfl
theorem exec_sinDemandEnd : ∀ k s, exec (.sinDemandEnd k) s = execSinDemandEnd k s := by intros; rfl
theorem exec_imdVerdictGood : ∀ n pwm freq duty s, exec (.imdVerdictGood n pwm freq duty) s = execImdVerdictGood n pwm freq duty s := by intros; rfl
theorem exec_tamperInputReleased : ∀ inp s, exec (.tamperInputReleased inp) s = execTamperInputReleased inp s := by intros; rfl
theorem exec_delayReqTx : ∀ port s, exec (.delayReqTx port) s = execDelayReqTx port s := by intros; rfl
theorem exec_announceTx : ∀ port s, exec (.announceTx port) s = execAnnounceTx port s := by intros; rfl

end Sys2Proof.Machine
end

