-- ==== Sys2Proof/WellFormed.lean ====
section
/-! DEFINITION. Which commands can arrive: the ranges of the operands that the wires, frames and addresses carry. The
meanings do not ask for it; statements about what is sent may. -/
namespace Sys2Proof

/-- A number of `w` bits. -/
def fits (w n : Nat) : Bool := decide (n < 2 ^ w)

/-- The bytes of a frame or message. -/
def bytes (l : List Nat) : Bool := l.all (fits 8)

/-- Event data words. -/
def words (l : List Nat) : Bool := l.all (fits 32)

/-- A page of Table 3.1. -/
def isPage (page : Nat) : Bool := decide (page < 0x47)

/-- The offset of a word in a page. -/
def isOff (off : Nat) : Bool := decide (off < 0x1000) && off % 4 == 0

/-- The address of a word in BAR0 (R43). -/
def regAddr (addr : Nat) : Bool := decide (addr < 2 ^ 28) && addr % 4 == 0

/-- A table of Table 3.3, and the offset of a word in a table's window (R54). -/
def isTable (t : Nat) : Bool := decide (t < 16)
def tableOff (off : Nat) : Bool := decide (off < 0x1000000) && off % 4 == 0

/-- A code of Table 17.7 that the host's side of a transfer can give. -/
def dmaCode (c : Nat) : Bool := decide (0x2F30 ≤ c) && decide (c ≤ 0x2F33) || c == 0x2F37

/-- The fields of a PTP message that have a width (R66). -/
def ptpMsg (f : PtpMsg) : Bool := fits 8 f.domain && fits 16 f.seqId

/-- A packet's origin: a 48-bit address, a 16-bit EtherType and a 128-bit address. -/
def ipFrom (f : IpFrom) : Bool := fits 48 f.frame.src && fits 16 f.frame.etherType && fits 128 f.addr

/-- A Galesh message: a 16-bit SRC, and bytes. -/
def galeshMsg (m : GaleshMsg) : Bool := fits 16 m.src && bytes m.payload

/-- The operands of a command lie within their ranges. -/
def Instr.wf : Instr → Bool
  | .railsGood _ _ _ _ => true
  | .vaonPowerOnReset => true
  | .wakeEvent _ => true
  | .pllLocked _ => true
  | .selftestDone _ _ => true
  | .configLoadDone => true
  | .configDone => true
  | .modeReqDormant => true
  | .modeReqReady => true
  | .dormantIdleExpiry => true
  | .vaultEnter _ _ => true
  | .vaultFlushDone _ => true
  | .vaultRecovery _ _ => true
  | .vaultVreset => true
  | .holdupShort _ => true
  | .vholdLow _ => true
  | .ctlRailFlush _ => true
  | .resetButtonRelease => true
  | .resetStuck => true
  | .resetButtonReleased1s => true
  | .resetStuckClear => true
  | .swReset _ => true
  | .deferredResetDone => true
  | .pllUnlock _ => true
  | .pcieReset => true
  | .functionLevelReset => true
  | .pcieLinkUp speed width _ => decide (1 ≤ speed) && decide (speed ≤ 4) && (width == 1 || width == 2 || width == 4)
  | .pcieLinkDown => true
  | .imageCheck key => fits 16 key
  | .imageCheckDone => true
  | .imageActivate key => fits 16 key
  | .imageWrite byteOff _ => tableOff byteOff
  | .registerWrite addr _ _ => regAddr addr
  | .readClear page word => isPage page && isOff word.off
  | .errCodeRead page => isPage page
  | .unmappedAccess addr _ => fits 32 addr
  | .evtPendClear page _ => isPage page
  | .evtSet page _ => isPage page
  | .diagInjWrite page _ => isPage page
  | .tableEntryWrite table byteOff _ => isTable table && tableOff byteOff
  | .eventAppend page code sev inst data => isPage page && fits 8 code && decide (sev < 8) && fits 8 inst && words data
  | .logCfgWrite _ => true
  | .tailWrite _ _ => true
  | .timeIncrWrite _ _ => true
  | .timeNowRead => true
  | .timeCfgWrite _ => true
  | .ptpSyncRx _ f => ptpMsg f
  | .ptpFollowUpRx _ f => ptpMsg f
  | .ptpDelayReqRx _ f => ptpMsg f
  | .ptpDelayRespRx _ f => ptpMsg f
  | .ptpPdelayReqRx _ f => ptpMsg f
  | .ptpPdelayRespRx _ f => ptpMsg f
  | .ptpPdelayRespFollowUpRx _ f => ptpMsg f
  | .ptpAnnounceRx _ f => ptpMsg f
  | .ptpSyncTx _ => true
  | .tcFollowUpTimeout _ _ => true
  | .holdoverEnter => true
  | .syncAgeExpiry => true
  | .timeStep => true
  | .timeAdjWrite _ => true
  | .adjCfgWrite _ => true
  | .legalSteer => true
  | .tpoArm _ => true
  | .tpoDisarm _ => true
  | .tpoStart _ => true
  | .tpoPulseEnd _ => true
  | .sentOpen => true
  | .sentStage _ => true
  | .sentPrepare _ => true
  | .sentAbort _ => true
  | .sentRelease _ => true
  | .sentClear _ => true
  | .sentBadOp _ _ => true
  | .validationDone _ => true
  | .fullStop _ => true
  | .takeInstant _ => true
  | .prepareRx payload => bytes payload
  | .voteRx payload => bytes payload
  | .voteDeadline _ => true
  | .decideRepeat _ => true
  | .decideRx payload => bytes payload
  | .queryRx payload => bytes payload
  | .querySend _ => true
  | .guardInstant _ => true
  | .outcomeRx payload => bytes payload
  | .outcomeMissing _ _ => true
  | .galeshFrameRx _ frame => bytes frame
  | .nonGaleshFrameRx _ bytes => Sys2Proof.bytes bytes
  | .routeEntryWrite entry _ _ => decide (entry < 4096)
  | .fabLinkUp _ _ _ => true
  | .fabLinkDown _ => true
  | .leaseRx _ msg => galeshMsg msg
  | .demandRx msg => galeshMsg msg
  | .epochBoundary => true
  | .epochCfgWrite _ => true
  | .leaseExpiry => true
  | .leaseRampStep => true
  | .childExpiry _ => true
  | .childReclaim _ => true
  | .capacityYield _ => true
  | .periodStart _ => true
  | .comparatorTrip _ _ => true
  | .maxOnExpiry _ => true
  | .phaseOpenDetected _ => true
  | .senseBlock _ _ => true
  | .phasePeriodWrite _ => true
  | .phaseTimingWrite _ _ => true
  | .ovTruncate _ => true
  | .ovRelease _ => true
  | .groupFaultInput _ => true
  | .faultClr _ _ => true
  | .matchTimeout _ => true
  | .matrixClosed _ _ => true
  | .contactorCloseTimeout _ => true
  | .leavingDone _ => true
  | .leaveTimeout _ => true
  | .zeroConfirmed _ => true
  | .zeroTimeout _ => true
  | .matrixOpened _ _ => true
  | .matrixOpenTimeout _ => true
  | .fastSample _ _ _ => true
  | .slowSample _ => true
  | .sampleDeadlineMiss _ => true
  | .loopSlotWrite _ _ _ => true
  | .loopSwapReq _ => true
  | .directionZeroReached _ => true
  | .mainSeqStepDone _ => true
  | .mainTimeout _ => true
  | .prechargeDone _ => true
  | .prechargeTimeout _ => true
  | .stopZeroReached _ => true
  | .stopContactorsOpen _ => true
  | .stopOpenTimeout _ _ _ => true
  | .fbLost _ _ => true
  | .fbFrozen _ _ => true
  | .fbMismatchBlock _ _ _ _ _ => true
  | .fbHoldEnd _ => true
  | .faultRampDone _ => true
  | .fbStatClear _ _ _ => true
  | .sensFrame codes => decide (48 ≤ codes.length) && decide (codes.length ≤ 52) && codes.all (fits 16)
  | .sensChStuck _ => true
  | .sensChValid _ => true
  | .sensCfgWrite _ _ => true
  | .observerUpdate _ _ _ _ => true
  | .operatorRecompute => true
  | .coolObserverEnable _ _ => true
  | .pinImplausible _ _ => true
  | .orderImplausible _ => true
  | .pressLow _ => true
  | .flowLow _ => true
  | .coolFlagClear _ _ => true
  | .linkCfgWrite _ _ => true
  | .levelAccepted _ _ _ => true
  | .gapFault _ _ _ => true
  | .cpDiodeFault _ _ => true
  | .latchEnergise _ => true
  | .latchRelease _ => true
  | .linkUnlatch _ => true
  | .latchAutoTimeout _ => true
  | .latchFault _ _ => true
  | .cpPwmWrite _ _ => true
  | .phyStart _ => true
  | .plcaStatusOk _ => true
  | .transportLost _ => true
  | .plcaConflict _ _ => true
  | .rmiiRefclkLost _ => true
  | .cmSetKeyCnf _ _ => true
  | .modemNoKey _ => true
  | .cmSlacParmReq _ runId => fits 64 runId
  | .cmStartAttenCharInd _ runId => fits 64 runId
  | .cmMnbcSoundInd _ runId => fits 64 runId
  | .cmAttenProfileInd _ groups => groups.all (fits 8)
  | .cmAttenCharRsp _ runId _ => fits 64 runId
  | .cmSlacMatchReq _ runId vehicleMac => fits 64 runId && fits 48 vehicleMac
  | .cmValidateReq _ runId => fits 64 runId
  | .slacStepTimeout _ => true
  | .linkRestart _ => true
  | .dadDone _ _ => true
  | .icmpv6NsRx _ src target => ipFrom src && fits 128 target
  | .icmpv6EchoRx _ src dst data => ipFrom src && fits 128 dst && bytes data
  | .sdpRequestRx _ src dst udpPort version inverse security transport => ipFrom src && fits 128 dst && fits 16 udpPort && fits 8 version && fits 8 inverse && fits 8 security && fits 8 transport
  | .tcpSynRx _ src dstPort => ipFrom src && fits 16 dstPort
  | .tcpSegmentRx _ src _ _ _ _ => ipFrom src
  | .tcpRto _ => true
  | .tlsRecordRx _ _ => true
  | .pkeDone _ => true
  | .tlsHandshakeTimeout _ => true
  | .supportedAppProtocol _ offers => offers.all fun o => fits 8 o.1 && fits 8 o.2
  | .sessionSetup _ evccid => bytes evccid
  | .authorizationSetup _ => true
  | .serviceDiscovery _ _ _ _ => true
  | .certificateInstallation _ _ body => bytes body
  | .paymentDetails _ emaid chain => bytes emaid && chain.all bytes
  | .authorization _ emaid chain => bytes emaid && chain.all bytes
  | .chargeParameterDiscovery _ _ => true
  | .cableCheckReq _ => true
  | .cableCheckStart _ => true
  | .cableCheckHoldDone _ => true
  | .cableCheckDischarged _ => true
  | .cableCheckTimeout _ => true
  | .prechargeReq _ _ _ => true
  | .powerDeliveryStart _ _ => true
  | .chargeLoopReq _ _ => true
  | .targetSetIssue _ => true
  | .v2gResponseSend _ => true
  | .meteringConfirmation _ body => bytes body
  | .powerDeliveryStop _ => true
  | .weldingDetection _ => true
  | .sessionStop _ => true
  | .v2gUnexpectedReq _ _ _ _ => true
  | .seqTimeout _ => true
  | .loopTimeout _ => true
  | .ctxStop _ => true
  | .hostStopTimeout _ => true
  | .authRes _ _ _ => true
  | .authTimeout _ => true
  | .certRes _ _ _ _ body => bytes body
  | .certTimeout _ => true
  | .ocspSet _ der => bytes der
  | .exiLoadSet => true
  | .exiLoadClear => true
  | .keygen _ => true
  | .trustEntryApply _ => true
  | .rngFail _ => true
  | .metrologyStart _ _ => true
  | .lensSample raw _ => decide (raw.length = 23)
  | .lensBlockSend => true
  | .metrologyCycleEnd => true
  | .boundaryCommit => true
  | .lensChLost _ _ => true
  | .lensChFrozen _ => true
  | .lensLossJudged _ _ => true
  | .lensChRestored _ _ => true
  | .gridWindowEnd => true
  | .gridFreqLost => true
  | .lensCalWrite _ _ _ => true
  | .pulseStart _ => true
  | .pulseEnd _ => true
  | .pulseCfgWrite _ _ _ => true
  | .capArm _ => true
  | .capFire _ => true
  | .capTrigger => true
  | .capDone => true
  | .tariffActivate _ => true
  | .closePeriod _ => true
  | .demandCfgWrite _ => true
  | .sessionOpenReq _ _ => true
  | .sessionCloseReq _ => true
  | .sessionSigned => true
  | .sessRead _ => true
  | .recordAppendReq _ content => bytes content
  | .metrologyRequestRefused => true
  | .tamperInput _ => true
  | .tamperPpm _ => true
  | .ctlMetrologyLinkLost => true
  | .ctlMetrologyLinkRestored => true
  | .ctlPowerLinkLost => true
  | .ctlPowerLinkRestored => true
  | .sinDemand _ => true
  | .sinFault _ _ => true
  | .sinPairFault _ => true
  | .stpPulse _ => true
  | .sf2GateCut _ => true
  | .sf3Trip _ => true
  | .sf5Weld _ => true
  | .fbDropout _ => true
  | .sf6Trip _ => true
  | .sf10Trip _ => true
  | .sf11Trip _ => true
  | .coilOffDeadline _ => true
  | .imdFault _ => true
  | .imdPwmLost _ => true
  | .weldcheckJudged _ => true
  | .dischargeDone _ => true
  | .diagInterval _ _ _ _ _ => true
  | .cycleOverrun _ => true
  | .safeClr _ => true
  | .unplugClear _ => true
  | .safeRestart _ => true
  | .safeRestartDone _ => true
  | .weldClear _ _ => true
  | .degradedExpired _ => true
  | .degradedTimerReset _ => true
  | .gscTx _ => true
  | .gscRx src pdu => fits 16 src && bytes pdu
  | .gscWatchdog _ => true
  | .gscAck _ _ => true
  | .gscHostRxGo _ => true
  | .gscCtimeWrite _ _ => true
  | .pwdEnterSafety _ => true
  | .pwdEnterSeal _ _ => true
  | .pwdCloseSafety => true
  | .pwdCloseSeal => true
  | .pwdChangeSafety _ => true
  | .pwdChangeSeal _ _ => true
  | .pwdLockoutEnd _ => true
  | .pwdIdleTimeout => true
  | .sealNRelease => true
  | .partnerHbLost => true
  | .partnerHbOk => true
  | .mirFail => true
  | .mirUnfail => true
  | .arbSwitch _ => true
  | .arbUnitStateChange _ _ _ _ => true
  | .pairarbEnable _ _ => true
  | .pairarbForce _ _ => true
  | .mirrorAligned _ _ _ _ _ _ => true
  | .mirrorLaneLost => true
  | .mirrorFrameTx => true
  | .mirrorFrameRx _ => true
  | .mirrorStatusFrame _ => true
  | .handoverStart => true
  | .handoverDone _ _ => true
  | .deselected => true
  | .selGlitch _ => true
  | .lswCmdWrite _ _ => true
  | .safeOff => true
  | .safeOffRelease => true
  | .lswLimiting _ _ => true
  | .lswThermalShutdown _ _ => true
  | .lswThermalClear _ _ => true
  | .lswBlankEnd _ => true
  | .lswOverload _ _ => true
  | .lswClusterWarn _ _ => true
  | .lswClusterClear _ _ => true
  | .lswRetry _ => true
  | .lswRetryReload _ => true
  | .lswRearm _ => true
  | .lswOpenLoad _ => true
  | .lswDissCheck curMa out => decide (curMa.length = 32) && decide (out.length = 32)
  | .lswDissHigh => true
  | .lswSupplyFault _ _ => true
  | .lswSupplyRecover _ => true
  | .lswLinkDownWrite _ off => isOff off
  | .lsxChainShift => true
  | .lsxScanConversion _ _ => true
  | .lsxOverload _ => true
  | .lsxRearm _ => true
  | .spiRead _ _ _ => true
  | .spiQuadRead _ _ _ => true
  | .spiWrite _ _ _ => true
  | .spiQuadWrite _ _ _ => true
  | .spiStatus _ => true
  | .spiQuadStatus _ => true
  | .spiFrameAbort => true
  | .spiQueuedWrite => true
  | .spiHeldReadExpiry => true
  | .vecEoi _ => true
  | .msixUnmask _ => true
  | .mbxDeviceMessage => true
  | .mbxDone _ => true
  | .mbxPost _ => true
  | .mbxConsumed _ => true
  | .mbxFullTimeout => true
  | .dmaGo _ => true
  | .dmaStart _ => true
  | .dmaPause _ _ hostData => bytes hostData
  | .dmaResume _ => true
  | .dmaSkip _ => true
  | .dmaRetry _ => true
  | .dmaAbort _ _ hostData => bytes hostData
  | .dmaAppend _ _ => true
  | .dmaMoverGrant => true
  | .dmaDescFetched _ desc code => bytes desc && (decide (desc.length = 32) || dmaCode code)
  | .dmaTransferDone _ hostData wbCode => bytes hostData && (wbCode == 0 || dmaCode wbCode)
  | .dmaBusError _ code _ hostData => (code == 0x2F30 || code == 0x2F31 || code == 0x2F32) && bytes hostData
  | .dmaCplTimeout _ _ hostData => bytes hostData
  | .dmaPaceResume _ => true
  | .lifeSecondUpdate _ => true
  | .lifeHostInc _ => true
  | .lifeHostHist _ => true
  | .lifeBaseline _ => true
  | .scrubRead flips check _ => (flips.all fun f => decide (f.1 < 32) && fits 72 f.2) && fits 72 check
  | .leaveOutFault _ => true
  | .sinDemandEnd _ => true
  | .imdVerdictGood _ _ _ _ => true
  | .tamperInputReleased _ => true
  | .delayReqTx _ => true
  | .announceTx _ => true

end Sys2Proof
end

