-- ==== Sys2Proof/Tests/Slice0.lean ====
section
/-! SUPPORT. Witnesses of the hypotheses of the statements, worked examples of the manual, and ill-formed commands. -/
open Sys2Proof Sys2Proof.Machine

namespace Sys2Proof.Machine
def State.modConn (s : State) (c : Nat) (f : GscConn → GscConn) : State := s.setConn c (f (s.conn c))
def State.modTpo (s : State) (c : Nat) (f : TpoState → TpoState) : State := s.setTpo c (f (s.tpoOf c))
def State.modPulse (s : State) (c : Nat) (f : PulseState → PulseState) : State := s.setPulse c (f (s.pulseOf c))
def State.modArb (s : State) (c : Nat) (b : Bool) (f : ArbUnit → ArbUnit) : State := s.setArbUnit c b (f (s.arbUnit c b))
def State.modLoss (s : State) (k c : Nat) (f : ChanLoss → ChanLoss) : State := s.setLoss k c (f (s.lossOf k c))
def State.modCoord (s : State) (c : Nat) (f : CoordState → CoordState) : State := s.setCoord c (f (s.coord c))
def State.modChild (s : State) (c : Nat) (f : ChildState → ChildState) : State := s.setChild c (f (s.child c))
def State.modPdie (s : State) (f : PowerDie → PowerDie) : State := { s with pdie := f s.pdie }
def State.modDma (s : State) (f : DmaState → DmaState) : State := { s with dma := f s.dma }
def State.modEvt (s : State) (f : EvtState → EvtState) : State := { s with evt := f s.evt }
def State.ticksTo (s : State) (t : Nat) : State := { s with ticks := t }
def State.v2gAt (s : State) (n k p st : Nat) : State :=
  let s := (s.set (F.LINK_CFG_KIND.inst n) 2).set (F.LINK_STATUS_LSTATE.inst n) 4
  let s := s.modCtx n fun c => { c with active := true, dad := 2, tcp := true, connSec := 0x10 }
  ((s.set (F.VDE_CTX_STATE_PROTO.nth n) p).set (F.VDE_CTX_STATE_STEP.nth n) k).set (F.OUTLET_STATUS_STATE.inst n) st
def State.force (s : State) (f : Field) (v : Nat) : State := s.modLens fun l => { l with force := mput f.reset l.force f.key v }
def State.gram (s : State) : State := ((s.wrByte (tbl 7 6) 2).wrByte (tbl 7 64) 1).wrByte (tbl 7 96) 3
def State.galeshUp (s : State) : State := (s.set F.FAB_ETYPE_ETYPE 0x88B5).setB F.FAB_PORT_STAT_P0_LINK true
end Sys2Proof.Machine

namespace Sys2Proof.Tests
set_option Elab.async false
def wit (m : Mode) : State :=
  let s := State.reset.modSys fun y => { y with held := false }
  (s.set F.SYS_MODE_CURRENT m.code).setB F.CLK_PLL_STAT_LOCKED true
def imgHead : List Nat := [0x47, 0x43, 0x49, 0x31, 1, 0, State.reset.get F.SYS_DEVICE_VARIANT, 0] ++ leBytes 4 64 ++ List.replicate 8 0 ++ leBytes 4 (crc32 [])
def pw8 : List Nat := List.replicate 16 0 ++ sha256 (List.replicate 16 0 ++ List.replicate 8 0x21)

/-! ### Witnesses of the statements' hypotheses -/

/-- QueueStep: an empty queue, at a tick within a millisecond. -/
theorem witness_QueueStep :
    (∃ s : State, s.pending = [] ∧ (s.idleTick.ticks % ticksMs ≠ 0 ∨ s.idleTick.mode = .dormant)) ∧ (∃ s : State, s.mode ≠ .dormant) :=
  ⟨⟨State.reset, by decide +kernel⟩, ⟨State.reset, by decide +kernel⟩⟩

/-- EveryStepSettles: a state and the state after it. -/
theorem witness_EveryStepSettles : ∃ s t : State, step s = .next t :=
  ⟨{ wit .ready with pending := [.errCodeRead 0x11] }, _, rfl⟩

/-- EndFrame: a field that is no header's, a byte that is not the log's, a canonical memory. -/
theorem witness_EndFrame :
    (∃ f : Field, quiet f = true) ∧ (∃ a : Nat, quietByte a = true) ∧ (∃ s : State, s.mem ≠ [] ∧ Memory.wf s.mem = true) :=
  ⟨⟨F.SYS_BUTTON_PRESSED, by decide +kernel⟩, ⟨tbl 7 0, by decide +kernel⟩, ⟨(wit .ready).wrByte (tbl 7 6) 2, by decide +kernel⟩⟩

/-- ReadAfterWrite: two fields, the bytes on both sides of a run, canonical memories, and two that read alike. -/
theorem witness_ReadAfterWrite :
    (∃ f g : Field, f.key ≠ g.key) ∧ (∃ (a : Nat) (l : List Nat) (k : Nat), l ≠ [] ∧ k < a) ∧
    (∃ (a : Nat) (l : List Nat) (k : Nat), l ≠ [] ∧ a + l.length ≤ k) ∧ (∃ s : State, s.mem ≠ [] ∧ Memory.wf s.mem = true) ∧
    (∃ m n : List Host.Cell, m ≠ [] ∧ Memory.wf m = true ∧ Memory.wf n = true ∧ ∀ a, memGet m a = memGet n a) :=
  ⟨⟨F.SYS_BUTTON_PRESSED, F.SYS_BUTTON_RESET_STUCK, by decide +kernel⟩, ⟨1, [0], 0, by decide⟩, ⟨0, [0], 1, by decide⟩,
    ⟨(wit .ready).wrByte (tbl 7 6) 2, by decide +kernel⟩,
    ⟨((wit .ready).wrByte (tbl 7 6) 2).mem, ((wit .ready).wrByte (tbl 7 6) 2).mem, by decide +kernel, by decide +kernel, by decide +kernel,
      fun _ => rfl⟩⟩

/-- NumberFormats: a byte of a number, and the ends of the range of 8 bits. -/
theorem witness_NumberFormats :
    (∃ n i : Nat, i < n) ∧ (∃ (w : Nat) (z : Int), 0 < w ∧ z = -(2 : Int) ^ (w - 1) ∧ z < 2 ^ (w - 1)) ∧
    (∃ (w : Nat) (z : Int), 0 < w ∧ -(2 : Int) ^ (w - 1) ≤ z ∧ z = 2 ^ (w - 1) - 1 ∧ z < 2 ^ (w - 1)) ∧
    (∃ w n : Nat, 0 < w ∧ n = 2 ^ w - 1 ∧ n < 2 ^ w) :=
  ⟨⟨2, 1, by decide⟩, ⟨8, -128, by decide⟩, ⟨8, 127, by decide⟩, ⟨8, 255, by decide⟩⟩

/-- EventOrder: an event below MIN_SEV, a repeat within a millisecond, an event of severity 4 or more. -/
theorem witness_EventOrder :
    (∃ (s : State) (e : Ev), e.code.sev ≤ 2 ∧ e.code.sev < s.get F.EVT_LOG_CFG_MIN_SEV) ∧
    (∃ (s : State) (e : Ev), e.code.sev ≤ 3 ∧ (e.code.sev ≤ 2 → s.get F.EVT_LOG_CFG_MIN_SEV ≤ e.code.sev) ∧
      mget 0 s.evt.lastLogged e.key ≠ 0 ∧ s.ticks + 1 - mget 0 s.evt.lastLogged e.key ≤ ticksMs) ∧
    (∃ e : Ev, 4 ≤ e.code.sev) ∧ (∃ f : Field, quiet f = true) :=
  ⟨⟨(wit .ready).set F.EVT_LOG_CFG_MIN_SEV 2, ⟨⟨0, 0, 1⟩, 0, [], false⟩, by decide +kernel⟩,
    ⟨(wit .ready).modEvt fun y => { y with lastLogged := mput 0 y.lastLogged (Ev.key ⟨⟨0, 0, 3⟩, 0, [], false⟩) 1 }, ⟨⟨0, 0, 3⟩, 0, [], false⟩,
      by decide +kernel⟩,
    ⟨⟨⟨0, 0, 4⟩, 0, [], false⟩, by decide +kernel⟩, ⟨F.SYS_BUTTON_PRESSED, by decide +kernel⟩⟩

/-- LogOverrun: a byte of a record, a log with room, a full log in and outside an episode of losses. -/
theorem witness_LogOverrun :
    (∃ i : Nat, i < 32) ∧ (∃ s : State, s.logFill < 8191) ∧ (∃ s : State, s.logFill = 8191 ∧ s.get F.EVT_LOST_COUNT ≠ 0) ∧
    (∃ s : State, s.logFill = 8191 ∧ s.get F.EVT_LOST_COUNT = 0) :=
  ⟨⟨31, by decide⟩, ⟨(wit .ready).set F.EVT_HEAD_INDEX 8190, by decide +kernel⟩,
    ⟨((wit .ready).set F.EVT_HEAD_INDEX 8191).set F.EVT_LOST_COUNT 1, by decide +kernel⟩,
    ⟨(wit .ready).set F.EVT_HEAD_INDEX 8191, by decide +kernel⟩⟩

/-- InterruptLines: a settled state and the last vector. -/
theorem witness_InterruptLines : ∃ (s : State) (v : Nat), Settled s ∧ v = 63 ∧ v < 64 :=
  ⟨State.reset, 63, by constructor <;> decide +kernel, rfl, by decide⟩

/-- ResetStuckClear: the button released and pressed. -/
theorem witness_ResetStuckClear :
    (∃ s : State, s.reaches 0x00 0x060 = true ∧ s.on F.SYS_BUTTON_PRESSED = false) ∧
    (∃ s : State, s.reaches 0x00 0x060 = true ∧ s.on F.SYS_BUTTON_PRESSED = true) :=
  ⟨⟨wit .ready, by decide +kernel⟩, ⟨(wit .ready).setB F.SYS_BUTTON_PRESSED true, by decide +kernel⟩⟩

/-- ForcedSelection: pair 0 forced to unit A, and to unit B; not failed, and failed. -/
theorem witness_ForcedSelection :
    (∃ (s : State) (k : Fin 4) (v : Word) (isB : Bool), s.reaches 0x45 (0x084 + 16 * k.val) = true ∧ s.pwdOpen = true ∧ s.clogFull = false ∧
      s.arbOn k = true ∧ v.toNat % 4 = (if isB then 2 else 1) ∧ (s.arbUnit k isB).failed = false) ∧
    (∃ (s : State) (k : Fin 4) (v : Word) (isB : Bool), s.reaches 0x45 (0x084 + 16 * k.val) = true ∧ s.pwdOpen = true ∧ s.clogFull = false ∧
      s.arbOn k = true ∧ v.toNat % 4 = (if isB then 2 else 1) ∧ (s.arbUnit k isB).failed = true) :=
  ⟨⟨(((wit .ready).set F.PAIRARB_CFG_EN 15).setB F.SEAL_PWD_STAT_PWD_OPEN true).modArb 0 false fun u => { u with hb := true }, 0, 1, false, by decide +kernel⟩,
    ⟨(((wit .ready).set F.PAIRARB_CFG_EN 15).setB F.SEAL_PWD_STAT_PWD_OPEN true).modArb 3 true fun u => { u with hb := false, low := true }, 3, 2, true, by decide +kernel⟩⟩

/-- States and operands that meet the hypotheses of each clause of Resets that has any. -/
theorem witness_Resets :
  (∃ (s : State), s.reaches 0x00 0x064 = true ∧ s.sys.held = false ∧ s.mode ≠ .vault ∧ s.sys.deferred = 0 ∧ ((s.mode == .deliver || s.mode == .degraded) && s.anyEnergy) = false) ∧
  (∃ (s : State), s.reaches 0x00 0x064 = true ∧ s.sys.held = false ∧ s.mode ≠ .vault ∧ s.sys.deferred ≠ 0) ∧
  (∃ (s : State),
    let u := s.setB F.SYS_BUTTON_PRESSED false
    s.sys.btnIgnored = false ∧ s.sys.held = false ∧ u.mode ≠ .vault ∧ s.sys.deferred = 0 ∧ ((u.mode == .deliver || u.mode == .degraded) && u.anyEnergy) = false) ∧
  (∃ (s : State),
    let u := s.pcieDown
    u.sys.held = false ∧ u.mode ≠ .vault ∧ u.sys.deferred = 0 ∧ ((u.mode == .deliver || u.mode == .degraded) && u.anyEnergy) = false) ∧
  (∃ (s : State), s.sys.deferred ≠ 0 ∧ s.mode ≠ .vault ∧ s.anyEnergy = false ∧ ((∀ n ∈ s.outlets, s.ostate n = .stopping → s.icZero n = true))) ∧
  (∃ (s : State), s.reaches 0x00 0x064 = true ∧ s.sys.held = false ∧ s.mode = .vault) ∧
  (∃ (s : State), s.reaches 0x00 0x064 = true ∧ s.sys.held = false ∧ s.mode = .deliver ∧ s.sys.deferred = 0 ∧ s.anyEnergy = true) ∧
  (∃ (s : State) (key : Word), s.reaches 0x00 0x064 = true ∧ key ≠ 0xA5C30F5A) ∧
  (∃ (s : State), s.sys.btnIgnored = false) ∧
  (∃ (s : State), s.sys.btnIgnored = true) ∧
  (∃ (s : State), s.reaches 0x00 0x060 = true) :=
  ⟨⟨(((wit .ready).modSys fun x => { x with held := false }).modSys fun x => { x with deferred := 0 }), by decide +kernel⟩,
    ⟨(((wit .ready).modSys fun x => { x with held := false }).modSys fun x => { x with deferred := 1 }), by decide +kernel⟩,
    ⟨((((wit .ready).modSys fun x => { x with btnIgnored := false }).modSys fun x => { x with held := false }).modSys fun x => { x with deferred := 0 }), by dsimp only; decide +kernel⟩,
    ⟨(((wit .ready).modSys fun x => { x with held := false }).modSys fun x => { x with deferred := 0 }), by dsimp only; decide +kernel⟩,
    ⟨((wit .ready).modSys fun x => { x with deferred := 1 }), by decide +kernel⟩,
    ⟨((wit .vault).modSys fun x => { x with held := false }), by decide +kernel⟩,
    ⟨((((wit .deliver).modSys fun x => { x with held := false }).modSys fun x => { x with deferred := 0 }).set (F.OUTLET_STATUS_STATE.inst 0) 5), by decide +kernel⟩,
    ⟨(wit .ready), 0, by decide +kernel⟩,
    ⟨((wit .ready).modSys fun x => { x with btnIgnored := false }), by decide +kernel⟩,
    ⟨((wit .ready).modSys fun x => { x with btnIgnored := true }), by decide +kernel⟩,
    ⟨(wit .ready), by decide +kernel⟩⟩

/-- States and operands that meet the hypotheses of each clause of StartUp that has any. -/
theorem witness_StartUp :
  (∃ (s : State), s.sys.held = true ∧ s.sys.resetCauses = 1) ∧
  (∃ (s : State) (src : Fin 8) (n : Fin 4) (isB : Bool) (mv : Int), s.mode = .dormant ∧ s.bit F.SYS_WAKE_EN_EN src = true ∧ s.wakes src n isB mv = true) ∧
  (∃ (s : State) (src : Fin 8) (n : Fin 4) (isB : Bool) (mv : Int), s.wakes src n isB mv = false) ∧
  (∃ (s : State) (src : Fin 8) (n : Fin 4) (w : WakeWindow), src.val < 3 ∧ s.sys.wakeWindows[n.val]? = some w) ∧
  (∃ (s : State), s.mode = .waking ∧ s.sys.held = false) ∧
  (∃ (s : State), s.mode = .selftest) ∧
  (∃ (s : State) (k : Nat), s.mode = .selftest ∧ k ≠ 0) ∧
  (∃ (s : State), s.mode = .configure ∧ s.sys.waitHost = false ∧ s.mir.waitAlign = false ∧ (s.imageCheck s.activeImg).1 = 2) ∧
  (∃ (s : State), s.mode = .configure ∧ s.sys.waitHost = false ∧ s.mir.waitAlign = false ∧ (s.imageCheck s.activeImg).1 ≠ 2 ∧ (s.imageCheck (1 - s.activeImg)).1 ≠ 2) ∧
  (∃ (s : State), s.reaches 0x00 0x008 = true ∧ s.mode = .configure ∧ s.sys.waitHost = true) ∧
  (∃ (s : State), s.reaches 0x00 0x048 = true ∧ s.dormantBar = none) ∧
  (∃ (s : State) (c : Nat), s.reaches 0x00 0x048 = true ∧ s.dormantBar = some c) ∧
  (∃ (s : State), s.mode = .ready ∧ s.get F.SYS_DORMANT_IDLE_SECONDS ≠ 0 ∧ s.get F.SYS_DORMANT_IDLE_SECONDS * 400000000 ≤ s.since s.sys.idleSince ∧ s.dormantBar = none) ∧
  (∃ (s : State), s.reaches 0x00 0x048 = true ∧ s.mode = .sealedService) :=
  ⟨⟨(((wit .ready).modSys fun x => { x with held := true }).modSys fun x => { x with resetCauses := 1 }), by decide +kernel⟩,
    ⟨((wit .dormant).setBit F.SYS_WAKE_EN_EN 3 true), 3, 0, false, 0, by decide +kernel⟩,
    ⟨(wit .ready), 0, 0, false, 0, by decide +kernel⟩,
    ⟨((wit .ready).modSys fun y => { y with wakeWindows := [⟨1, 0, 5, 0, 5⟩] }), 0, 0, ⟨1, 0, 5, 0, 5⟩, by decide +kernel⟩,
    ⟨((wit .waking).modSys fun x => { x with held := false }), by decide +kernel⟩,
    ⟨(wit .selftest), by decide +kernel⟩,
    ⟨(wit .selftest), 1, by decide +kernel⟩,
    ⟨((((wit .configure).modSys fun x => { x with waitHost := false }).modMir fun x => { x with waitAlign := false }).wrBytes (imgBase 0) (imgHead ++ leBytes 4 (crc32 imgHead))), by decide +kernel⟩,
    ⟨(((wit .configure).modSys fun x => { x with waitHost := false }).modMir fun x => { x with waitAlign := false }), by decide +kernel⟩,
    ⟨((wit .configure).modSys fun x => { x with waitHost := true }), by decide +kernel⟩,
    ⟨(wit .ready), by decide +kernel⟩,
    ⟨(wit .deliver), 5, by decide +kernel⟩,
    ⟨(((((wit .ready).set F.SYS_DORMANT_IDLE_SECONDS 1).set F.SYS_DORMANT_IDLE_SECONDS 1).modSys fun y => { y with idleSince := 0 }).ticksTo 400000000), by decide +kernel⟩,
    ⟨(wit .sealedService), by decide +kernel⟩⟩

set_option maxRecDepth 20000 in
/-- States and operands that meet the hypotheses of each clause of Vault that has any. -/
theorem witness_Vault :
  (∃ (s : State) (rail : Fin 9), s.sys.held = false ∧ s.mode ≠ .dormant ∧ s.mode ≠ .vault ∧ ((rail.val = 4 ∨ rail.val = 5 ∨ rail.val = 7 ∨ rail.val = 8))) ∧
  (∃ (s : State), s.mode = .vault ∧ s.sys.flushing = true) ∧
  (∃ (s : State), s.mode = .vault ∧ s.sys.flushing = false ∧ s.sys.vresetSeen = false) ∧
  (∃ (s : State), s.mode = .vault ∧ s.sys.flushing = true ∧ s.sys.vresetSeen = false) ∧
  (∃ (s : State) (rail : Fin 9), s.sys.held = false ∧ s.mode = .vault ∧ ((rail.val = 4 ∨ rail.val = 5 ∨ rail.val = 7 ∨ rail.val = 8))) ∧
  (∃ (s : State),
    let u := s.modSys fun y => { y with flushing := false }
    s.sys.vresetSeen = false ∧ u.vaultComplete.sys.recoverDue = none) ∧
  (∃ (s : State) (low : Int) (us : Nat),
    let u := s.modSys fun y => { y with flushing := false }
    s.sys.vresetSeen = false ∧ u.vaultComplete.sys.recoverDue = some (low, us)) ∧
  (∃ (s : State), s.sys.vresetSeen = true) ∧
  (∃ (s : State),
    let u := ((s.setBit F.PWR_RAIL_STAT_UV 7 true).ev E.PWR_RAIL_UV 0 [7]).modSys fun y => { y with vresetSeen := true, vaultCauses := setBitOf y.vaultCauses 1 true }
    s.mode = .vault ∧ u.sys.flushing = false) ∧
  (∃ (s : State),
    let u := ((s.setBit F.PWR_RAIL_STAT_UV 7 true).ev E.PWR_RAIL_UV 0 [7]).modSys fun y => { y with vresetSeen := true, vaultCauses := setBitOf y.vaultCauses 1 true }
    s.mode = .vault ∧ u.sys.flushing = true) ∧
  (∃ (s : State) (mv : Int), s.mode = .vault ∧ s.sys.flushing = true ∧ mv < 6000) ∧
  (∃ (s : State) (rail : Fin 4),
    let u := (s.setBit F.PWR_RAIL_STAT_UV rail true).ev E.PWR_RAIL_UV 0 [rail]
    s.sys.held = false ∧ s.mode ≠ .dormant ∧ u.mode ≠ .vault) ∧
  (∃ (s : State) (rail : Fin 4),
    let u := (s.setBit F.PWR_RAIL_STAT_UV rail true).ev E.PWR_RAIL_UV 0 [rail]
    s.sys.held = false ∧ s.mode ≠ .dormant ∧ u.mode = .vault) ∧
  (∃ (s : State), s.sys.held = false ∧ s.mode ≠ .dormant ∧ s.mode ≠ .waking) ∧
  (∃ (s : State), s.sys.held = false ∧ s.mode ≠ .dormant ∧ s.mode ≠ .waking) ∧
  (∃ (s : State) (okA : Bool) (okB : Bool), s.lens.started = false ∧ s.sys.held = false ∧ s.mode ≠ .dormant ∧ (s.metrologyStart okA okB).logHoldup.sys.vaultReset = false) :=
  ⟨⟨((wit .ready).modSys fun x => { x with held := false }), 4, by decide +kernel⟩,
    ⟨((wit .vault).modSys fun x => { x with flushing := true }), by decide +kernel⟩,
    ⟨(((wit .vault).modSys fun x => { x with flushing := false }).modSys fun x => { x with vresetSeen := false }), by decide +kernel⟩,
    ⟨(((wit .vault).modSys fun x => { x with flushing := true }).modSys fun x => { x with vresetSeen := false }), by decide +kernel⟩,
    ⟨((wit .vault).modSys fun x => { x with held := false }), 4, by decide +kernel⟩,
    ⟨((wit .ready).modSys fun x => { x with vresetSeen := false }), by dsimp only; decide +kernel⟩,
    ⟨(((wit .ready).modSys fun x => { x with vresetSeen := false }).modSys fun y => { y with recoverDue := some (0, 0) }), 0, 0, by dsimp only; decide +kernel⟩,
    ⟨((wit .ready).modSys fun x => { x with vresetSeen := true }), by decide +kernel⟩,
    ⟨((wit .vault).modSys fun x => { x with flushing := false }), by dsimp only; decide +kernel⟩,
    ⟨((wit .vault).modSys fun x => { x with flushing := true }), by dsimp only; decide +kernel⟩,
    ⟨((wit .vault).modSys fun x => { x with flushing := true }), 0, by decide +kernel⟩,
    ⟨((wit .ready).modSys fun x => { x with held := false }), 0, by dsimp only; decide +kernel⟩,
    ⟨((wit .vault).modSys fun x => { x with held := false }), 0, by dsimp only; decide +kernel⟩,
    ⟨((wit .ready).modSys fun x => { x with held := false }), by decide +kernel⟩,
    ⟨((wit .ready).modSys fun x => { x with held := false }), by decide +kernel⟩,
    ⟨(((wit .ready).modLens fun x => { x with started := false }).modSys fun x => { x with held := false }), false, false, by decide +kernel⟩⟩

/-- States and operands that meet the hypotheses of each clause of Images that has any. -/
theorem witness_Images :
  (∃ (s : State), s.reaches 0x00 0x06C = true) ∧
  (∃ (s : State) (key : Nat), s.reaches 0x00 0x06C = true ∧ key ≠ 0x1A6E) ∧
  (∃ (s : State), s.get F.SYS_IMAGE_STAT_RESULT = 1) ∧
  (∃ (s : State), s.reaches 0x00 0x06C = true ∧ s.sys.imgGood = true ∧ s.imgFlag (1 - s.activeImg) 0 = false ∧ s.imgFlag (1 - s.activeImg) 1 = false ∧ s.clogFull = false) ∧
  (∃ (s : State), s.reaches 0x00 0x06C = true ∧ s.sys.imgGood = false) ∧
  (∃ (s : State) (off : Nat), s.tableReach 15 off = true ∧ off / 4 * 4 / 0x80000 ≠ s.activeImg) ∧
  (∃ (s : State) (off : Nat), s.tableReach 15 off = true ∧ off / 4 * 4 / 0x80000 = s.activeImg) :=
  ⟨⟨(wit .ready), by decide +kernel⟩,
    ⟨(wit .ready), 0, by decide +kernel⟩,
    ⟨((wit .ready).set F.SYS_IMAGE_STAT_RESULT 1), by decide +kernel⟩,
    ⟨((wit .ready).modSys fun x => { x with imgGood := true }), by decide +kernel⟩,
    ⟨((wit .ready).modSys fun x => { x with imgGood := false }), by decide +kernel⟩,
    ⟨(wit .ready), 0x80000, by decide +kernel⟩,
    ⟨(wit .ready), 0, by decide +kernel⟩⟩

/-- States and operands that meet the hypotheses of each clause of HostReads that has any. -/
theorem witness_HostReads :
  (∃ (s : State) (page : Nat) (off : Nat) (v : Nat) (be : Fin 16),
    let o := off / 4 * 4
    s.readReach page = true ∧ (¬(page = 0x04 ∧ o = 0x048)) ∧ page < 0x47 ∧ (s.viewOf page o).regValue page o = some v ∧ be.val ≠ 0) ∧
  (∃ (s : State) (page : Nat) (off : Nat) (be : Fin 16),
    let o := off / 4 * 4
    s.readReach page = true ∧ (¬(page = 0x04 ∧ o = 0x048)) ∧ page < 0x47 ∧ (s.viewOf page o).regValue page o = none ∧ be.val ≠ 0) ∧
  (∃ (s : State) (page : Nat), s.readReach page = true ∧ page < 0x47) ∧
  (∃ (s : State) (addr : Nat), s.hostOpen = true ∧ unmapped addr = true) ∧
  (∃ (s : State) (addr : Nat), s.hostOpen = true ∧ unmapped addr = true) ∧
  (∃ (s : State), s.readReach 0x04 = true) ∧
  (∃ (s : State) (page : Nat) (be : Fin 16), s.hostOpen = true ∧ s.hasPage page = true ∧ dieOf page = .metrology ∧ s.sys.metLost = true ∧ page < 0x47 ∧ be.val ≠ 0) ∧
  (∃ (s : State) (page : Nat), s.reaches page 0x018 = true) ∧
  (∃ (s : State) (page : Nat), s.reaches page 0x01C = true ∧ s.mode = .sealedService) ∧
  (∃ (s : State) (page : Nat), s.hasPage page = true ∧ s.mode = .selftest) ∧
  (∃ (s : State) (page : Nat), s.reaches page 0x01C = true ∧ s.mode ≠ .selftest ∧ s.mode ≠ .sealedService) ∧
  (∃ (s : State) (page : Nat), s.reaches page 0x030 = true ∧ s.mode = .sealedService) ∧
  (∃ (s : State) (page : Nat), s.hasPage page = true ∧ s.mode = .selftest) ∧
  (∃ (s : State) (page : Nat), s.reaches page 0x030 = true ∧ s.mode ≠ .selftest ∧ s.mode ≠ .sealedService) ∧
  (∃ (s : State) (page : Nat), page < 0x47 ∧ s.sys.held = false) :=
  ⟨⟨(wit .ready), 0x04, 0x040, (((wit .ready).viewOf 4 0x40).regValue 4 0x40).getD 0, 15, by dsimp only; decide +kernel⟩,
    ⟨(wit .ready), 0x04, 0xFFC, 15, by dsimp only; decide +kernel⟩,
    ⟨(wit .ready), 0, by decide +kernel⟩,
    ⟨(wit .ready), 0x47000, by decide +kernel⟩,
    ⟨(wit .ready), 0x47000, by decide +kernel⟩,
    ⟨(wit .ready), by decide +kernel⟩,
    ⟨((wit .ready).modSys fun x => { x with metLost := true }), 0x23, 15, by decide +kernel⟩,
    ⟨(wit .ready), 0, by decide +kernel⟩,
    ⟨(wit .sealedService), 0, by decide +kernel⟩,
    ⟨(wit .selftest), 0, by decide +kernel⟩,
    ⟨(wit .ready), 0, by decide +kernel⟩,
    ⟨(wit .sealedService), 0, by decide +kernel⟩,
    ⟨(wit .selftest), 0, by decide +kernel⟩,
    ⟨(wit .ready), 0, by decide +kernel⟩,
    ⟨((wit .ready).modSys fun x => { x with held := false }), 0, by decide +kernel⟩⟩

/-- States and operands that meet the hypotheses of each clause of HostWrites that has any. -/
theorem witness_HostWrites :
  (∃ (s : State) (r : Ring) (v : Word),
    let n := (paceRing (ringNo r)).2.2
    s.reaches (ringPage r) (ringOff r) = true ∧ (v.toNat % n + n - s.ringTail (ringNo r)) % n ≤ s.ringFill (ringNo r)) ∧
  (∃ (s : State) (r : Ring) (v : Word),
    let n := (paceRing (ringNo r)).2.2
    s.reaches (ringPage r) (ringOff r) = true ∧ s.ringFill (ringNo r) < (v.toNat % n + n - s.ringTail (ringNo r)) % n) ∧
  (∃ (s : State), s.reaches 0x43 0x054 = true) ∧
  (∃ (s : State), s.sys.metLost = false ∧ s.sys.held = false) ∧
  (∃ (s : State), s.sys.metLost = false ∧ s.sys.held = false ∧ s.clogFull = false) ∧
  (∃ (s : State), s.sys.metLost = false ∧ s.sys.held = false) ∧
  (∃ (s : State) (page : Nat) (off : Nat) (v : Word), page < 0x47 ∧ off < 0x1000 ∧ off % 4 = 0 ∧ 0x040 ≤ off ∧ defined page off = true ∧ s.ownCommand page off v.toNat = none ∧ s.reaches page off = true) ∧
  (∃ (s : State) (page : Nat) (off : Nat) (be : Fin 16), page < 0x47 ∧ off < 0x1000 ∧ off % 4 = 0 ∧ be ≠ 15 ∧ s.readReach page = true) ∧
  (∃ (s : State) (page : Nat) (off : Nat), page < 0x47 ∧ off < 0x1000 ∧ off % 4 = 0 ∧ defined page off = false ∧ s.readReach page = true) ∧
  (∃ (s : State) (off : Nat), s.tableReach 7 off = true) ∧
  (∃ (s : State) (off : Nat), s.tableReach 5 off = true ∧ off / 4 * 4 % 32 ≠ 28) ∧
  (∃ (s : State) (off : Nat), s.tableReach 3 off = true ∧ s.sealOpen = false) ∧
  (∃ (s : State) (off : Nat), s.tableReach 10 off = true) ∧
  (∃ (s : State) (t : Nat) (off : Nat), t ∈ [0, 1, 2, 4, 12, 13] ∧ s.tableReach t off = true) ∧
  (∃ (s : State) (off : Nat), s.tableReach 6 off = true ∧ s.pwdOpen = false) ∧
  (∃ (s : State) (off : Nat), s.tableReach 9 off = true ∧ s.is7680 = true) ∧
  (∃ (s : State) (off : Nat), s.hostOpen = true ∧ tableSize 7 ≤ off) :=
  ⟨⟨(wit .ready), .evt, 0, by dsimp only; decide +kernel⟩,
    ⟨(wit .ready), .evt, 1, by dsimp only; decide +kernel⟩,
    ⟨(wit .ready), by decide +kernel⟩,
    ⟨(((wit .ready).modSys fun x => { x with metLost := false }).modSys fun x => { x with held := false }), by decide +kernel⟩,
    ⟨(((wit .ready).modSys fun x => { x with metLost := false }).modSys fun x => { x with held := false }), by decide +kernel⟩,
    ⟨(((wit .ready).modSys fun x => { x with metLost := false }).modSys fun x => { x with held := false }), by decide +kernel⟩,
    ⟨(wit .ready), 0, 0x040, 0, by decide +kernel⟩,
    ⟨(wit .ready), 0, 0, 0, by decide +kernel⟩,
    ⟨(wit .ready), 0, 0xFFC, by decide +kernel⟩,
    ⟨(wit .ready), 0, by decide +kernel⟩,
    ⟨(wit .ready), 0, by decide +kernel⟩,
    ⟨(wit .ready), 0, by decide +kernel⟩,
    ⟨(wit .ready), 0, by decide +kernel⟩,
    ⟨(wit .ready), 0, 0, by decide +kernel⟩,
    ⟨(wit .ready), 0, by decide +kernel⟩,
    ⟨(wit .ready), 0, by decide +kernel⟩,
    ⟨(wit .ready), 0x1000000, by decide +kernel⟩⟩

/-- States and operands that meet the hypotheses of each clause of SpiTarget that has any. -/
theorem witness_SpiTarget :
  (∃ (s : State) (addr : Word) (crc : Byte), s.spiOn = true ∧ crc8 (0x0B :: beBytes 4 addr.toNat) = crc.toNat ∧ s.spiBusy = false ∧ s.host.spiHeld = none) ∧
  (∃ (s : State) (addr : Word) (crc : Byte), s.spiOn = true ∧ crc8 (0x6B :: beBytes 4 addr.toNat) = crc.toNat ∧ s.spiBusy = false ∧ s.host.spiHeld = none) ∧
  (∃ (s : State) (addr : Word) (data : Word) (crc : Byte), s.spiOn = true ∧ crc8 (0x02 :: beBytes 4 addr.toNat ++ beBytes 4 data.toNat) = crc.toNat ∧ s.spiBusy = false ∧ s.host.spiHeld = none ∧ s.host.spiQ.length < 4) ∧
  (∃ (s : State) (addr : Word) (data : Word) (crc : Byte), s.spiOn = true ∧ crc8 (0x32 :: beBytes 4 addr.toNat ++ beBytes 4 data.toNat) = crc.toNat ∧ s.spiBusy = false ∧ s.host.spiHeld = none ∧ s.host.spiQ.length < 4) ∧
  (∃ (s : State) (crc : Byte), s.spiOn = true ∧ crc8 [0x05] = crc.toNat) ∧
  (∃ (s : State) (crc : Byte), s.spiOn = true ∧ crc8 [0x35] = crc.toNat) ∧
  (∃ (s : State) (addr : Word) (data : Word) (crc : Byte), s.spiOn = true ∧ crc8 (0x02 :: beBytes 4 addr.toNat ++ beBytes 4 data.toNat) ≠ crc.toNat) ∧
  (∃ (s : State), s.spiOn = true) ∧
  (∃ (s : State) (addr : Word) (crc : Byte), s.spiOn = true ∧ crc8 (0x0B :: beBytes 4 addr.toNat) ≠ crc.toNat) ∧
  (∃ (s : State) (addr : Word) (crc : Byte), s.spiOn = true ∧ crc8 (0x6B :: beBytes 4 addr.toNat) ≠ crc.toNat) ∧
  (∃ (s : State) (addr : Word) (data : Word) (crc : Byte), s.spiOn = true ∧ crc8 (0x32 :: beBytes 4 addr.toNat ++ beBytes 4 data.toNat) ≠ crc.toNat) ∧
  (∃ (s : State) (crc : Byte), s.spiOn = true ∧ crc8 [0x05] ≠ crc.toNat) ∧
  (∃ (s : State) (crc : Byte), s.spiOn = true ∧ crc8 [0x35] ≠ crc.toNat) ∧
  (∃ (s : State) (addr : Nat) (v : Nat) (rest : List (Nat × Nat)),
    let t := s.modHost fun h => { h with spiQ := rest }
    let page := addr / 0x1000
    let off := addr % 0x1000 / 4 * 4
    s.host.spiQ = (addr, v) :: rest ∧ page < 0x47 ∧ 0x040 ≤ off ∧ defined page off = true ∧ t.ownCommand page off v = none ∧ t.reaches page off = true) ∧
  (∃ (s : State) (addr : Nat) (v : Nat) (rest : List (Nat × Nat)), s.host.spiQ = (addr, v) :: rest ∧ addr / 2 ^ 28 = 1) :=
  ⟨⟨((wit .ready).modHost fun x => { x with spiHeld := none }), 0, BitVec.ofNat 8 (crc8 [0x0B, 0, 0, 0, 0]), by decide +kernel⟩,
    ⟨((wit .ready).modHost fun x => { x with spiHeld := none }), 0, BitVec.ofNat 8 (crc8 [0x6B, 0, 0, 0, 0]), by decide +kernel⟩,
    ⟨((wit .ready).modHost fun x => { x with spiHeld := none }), 0, 0, BitVec.ofNat 8 (crc8 [0x02, 0, 0, 0, 0, 0, 0, 0, 0]), by decide +kernel⟩,
    ⟨((wit .ready).modHost fun x => { x with spiHeld := none }), 0, 0, BitVec.ofNat 8 (crc8 [0x32, 0, 0, 0, 0, 0, 0, 0, 0]), by decide +kernel⟩,
    ⟨(wit .ready), BitVec.ofNat 8 (crc8 [0x05]), by decide +kernel⟩,
    ⟨(wit .ready), BitVec.ofNat 8 (crc8 [0x35]), by decide +kernel⟩,
    ⟨(wit .ready), 0, 0, 0, by decide +kernel⟩,
    ⟨(wit .ready), by decide +kernel⟩,
    ⟨(wit .ready), 0, 0, by decide +kernel⟩,
    ⟨(wit .ready), 0, 0, by decide +kernel⟩,
    ⟨(wit .ready), 0, 0, 0, by decide +kernel⟩,
    ⟨(wit .ready), 0, by decide +kernel⟩,
    ⟨(wit .ready), 0, by decide +kernel⟩,
    ⟨((wit .ready).modHost fun h => { h with spiQ := [(0x04058, 0)] }), 0x04058, 0, [], by dsimp only; decide +kernel⟩,
    ⟨((wit .ready).modHost fun h => { h with spiQ := [(0x10000000, 0)] }), 0x10000000, 0, [], by decide +kernel⟩⟩

/-- States and operands that meet the hypotheses of each clause of TimeHostWrites that has any. -/
theorem witness_TimeHostWrites :
  (∃ (s : State) (v : Word), s.reaches 0x04 0x040 = true ∧ (¬(bits v.toNat 11 10 = 2 ∧ bits v.toNat 9 8 = 2))) ∧
  (∃ (s : State) (v : Word), s.reaches 0x04 0x040 = true ∧ (bits v.toNat 11 10 = 2 ∧ bits v.toNat 9 8 = 2)) ∧
  (∃ (s : State), s.reaches 0x04 0x058 = true ∧ s.hostServo = true) ∧
  (∃ (s : State), s.reaches 0x04 0x05C = true ∧ s.hostServo = true) ∧
  (∃ (s : State), s.reaches 0x04 0x058 = true ∧ s.hostServo = false) ∧
  (∃ (s : State), s.reaches 0x04 0x05C = true ∧ s.hostServo = false) ∧
  (∃ (v : Nat), incrMin ≤ v ∧ v ≤ incrMax) ∧
  (∃ (v : Nat), (v < incrMin ∨ incrMax < v)) ∧
  (∃ (s : State), s.reaches 0x04 0x008 = true ∧ s.hostServo = true) ∧
  (∃ (s : State), s.reaches 0x04 0x008 = true ∧ s.hostServo = false) ∧
  (∃ (s : State), s.reaches 0x04 0x06C = true ∧ s.hostServo = true) ∧
  (∃ (s : State), s.reaches 0x04 0x06C = true ∧ s.hostServo = false) ∧
  (∃ (s : State) (v : Word), s.reaches 0x04 0x070 = true ∧ 1 ≤ v.toNat % 2 ^ 16 ∧ v.toNat % 2 ^ 16 ≤ 1000) ∧
  (∃ (s : State) (v : Word), s.reaches 0x04 0x070 = true ∧ (v.toNat % 2 ^ 16 = 0 ∨ 1000 < v.toNat % 2 ^ 16)) ∧
  (∃ (s : State), s.get F.TIME_SYNC_STATE_STATE = 2 ∧ s.get F.TIME_HOLDOVER_LOSS_MS * ticksMs ≤ s.since (s.tim.lastSync.getD 0) ∧ (s.tim.incrs.isEmpty = true ∨ s.hostServo = true)) ∧
  (∃ (s : State), s.get F.TIME_SYNC_STATE_STATE = 2 ∧ s.get F.TIME_HOLDOVER_LOSS_MS * ticksMs ≤ s.since (s.tim.lastSync.getD 0) ∧ s.tim.incrs.isEmpty = false ∧ s.hostServo = false) ∧
  (∃ (s : State) (t : Nat), s.tim.lastSync = some t ∧ (s.get F.TIME_SYNC_STATE_STATE = 2 ∨ s.get F.TIME_SYNC_STATE_STATE = 3) ∧ s.on F.TIME_SYNC_STATE_SYNC_OK = true ∧ s.get F.TIME_HOLDOVER_SENT_MS * ticksMs < s.since t) ∧
  (∃ (s : State),
    let want : Int := (s.tim.fab : Int) - s.getI F.TIME_UTC_OFFSET_SECONDS * secUnit
    let d : Int := (s.tim.legal : Int) - want
    s.on F.TIME_SYNC_STATE_SYNC_OK = true ∧ s.on F.TIME_LEGAL_STAT_STEER_EN = true ∧ s.sys.metLost = false ∧ s.sys.held = false ∧ 10000 * 2 ^ 32 < d.natAbs ∧ d.natAbs ≤ 2 * secUnit) ∧
  (∃ (s : State),
    let want : Int := (s.tim.fab : Int) - s.getI F.TIME_UTC_OFFSET_SECONDS * secUnit
    let d : Int := (s.tim.legal : Int) - want
    s.on F.TIME_SYNC_STATE_SYNC_OK = true ∧ s.on F.TIME_LEGAL_STAT_STEER_EN = true ∧ s.sys.metLost = false ∧ s.sys.held = false ∧ 2 * secUnit < d.natAbs ∧ 10000 * 2 ^ 32 < d.natAbs) ∧
  (∃ (s : State),
    let want : Int := (s.tim.fab : Int) - s.getI F.TIME_UTC_OFFSET_SECONDS * secUnit
    let d : Int := (s.tim.legal : Int) - want
    s.on F.TIME_SYNC_STATE_SYNC_OK = true ∧ s.on F.TIME_LEGAL_STAT_STEER_EN = true ∧ s.sys.metLost = false ∧ s.sys.held = false ∧ d.natAbs ≤ 10000 * 2 ^ 32) ∧
  (∃ (s : State), (s.on F.TIME_SYNC_STATE_SYNC_OK = false ∨ s.on F.TIME_LEGAL_STAT_STEER_EN = false)) :=
  ⟨⟨(wit .ready), 0, by decide +kernel⟩,
    ⟨(wit .ready), 0xA00, by decide +kernel⟩,
    ⟨((wit .ready).setB F.TIME_CFG_SERVO true), by decide +kernel⟩,
    ⟨((wit .ready).setB F.TIME_CFG_SERVO true), by decide +kernel⟩,
    ⟨(wit .ready), by decide +kernel⟩,
    ⟨(wit .ready), by decide +kernel⟩,
    ⟨incrMin, by decide +kernel⟩,
    ⟨0, by decide +kernel⟩,
    ⟨((wit .ready).setB F.TIME_CFG_SERVO true), by decide +kernel⟩,
    ⟨(wit .ready), by decide +kernel⟩,
    ⟨((wit .ready).setB F.TIME_CFG_SERVO true), by decide +kernel⟩,
    ⟨(wit .ready), by decide +kernel⟩,
    ⟨(wit .ready), 1, by decide +kernel⟩,
    ⟨(wit .ready), 0, by decide +kernel⟩,
    ⟨((((wit .ready).set F.TIME_SYNC_STATE_STATE 2).ticksTo 40000000000000).modTim fun y => { y with incrs := [] }), by decide +kernel⟩,
    ⟨((((wit .ready).set F.TIME_SYNC_STATE_STATE 2).ticksTo 40000000000000).modTim fun y => { y with incrs := [1] }), by decide +kernel⟩,
    ⟨(((((wit .ready).setB F.TIME_SYNC_STATE_SYNC_OK true).set F.TIME_SYNC_STATE_STATE 2).modTim fun y => { y with lastSync := some 0 }).ticksTo 40000000000000), 0, by decide +kernel⟩,
    ⟨(((((((wit .ready).setB F.TIME_SYNC_STATE_SYNC_OK true).setB F.TIME_LEGAL_STAT_STEER_EN true).modSys fun x => { x with metLost := false }).modSys fun x => { x with held := false }).setI F.TIME_UTC_OFFSET_SECONDS 0).modTim fun y => { y with legal := 20000 * 2 ^ 32 }), by dsimp only; decide +kernel⟩,
    ⟨(((((wit .ready).setB F.TIME_SYNC_STATE_SYNC_OK true).setB F.TIME_LEGAL_STAT_STEER_EN true).modSys fun x => { x with metLost := false }).modSys fun x => { x with held := false }), by dsimp only; decide +kernel⟩,
    ⟨(((((((wit .ready).setB F.TIME_SYNC_STATE_SYNC_OK true).setB F.TIME_LEGAL_STAT_STEER_EN true).modSys fun x => { x with metLost := false }).modSys fun x => { x with held := false }).setI F.TIME_UTC_OFFSET_SECONDS 0).modTim fun y => { y with legal := 0, fab := 0 }), by dsimp only; decide +kernel⟩,
    ⟨(wit .ready), by decide +kernel⟩⟩

/-- States and operands that meet the hypotheses of each clause of TimeTriggeredOutputs that has any. -/
theorem witness_TimeTriggeredOutputs :
  (∃ (s : State) (n : Fin 8), s.reaches 0x05 (0x040 + n * 0x20) = true ∧ tpoBadTiming s n = false ∧ tpoMode s n ≠ 0) ∧
  (∃ (s : State) (n : Fin 8), s.reaches 0x05 (0x040 + n * 0x20) = true ∧ tpoBadTiming s n = true) ∧
  (∃ (s : State) (n : Fin 8), s.reaches 0x05 (0x040 + n * 0x20) = true) ∧
  (∃ (s : State) (n : Nat), (tpoMode s n = 1 ∨ tpoMode s n = 2) ∧ (s.tpoOf n).acted = false ∧ s.tim.fab + nsUnits 50 ≤ tpoStart s n) ∧
  (∃ (s : State) (n : Nat), (tpoMode s n = 1 ∨ tpoMode s n = 2) ∧ (s.tpoOf n).acted = false ∧ tpoStart s n < s.tim.fab + nsUnits 50 ∧ s.on (F.TPO_CFG_LATE_POLICY.nth n) = false) ∧
  (∃ (s : State) (n : Nat), (tpoMode s n = 1 ∨ tpoMode s n = 2) ∧ (s.tpoOf n).acted = false ∧ tpoStart s n < s.tim.fab + nsUnits 50 ∧ s.on (F.TPO_CFG_LATE_POLICY.nth n) = true) ∧
  (∃ (s : State) (n : Nat),
    let k := tpoFirst (tpoStart s n) (tpoPeriod s n) (s.tim.fab + nsUnits 50)
    tpoMode s n = 3 ∧ (s.tpoOf n).next < k) ∧
  (∃ (p : Nat), 0 < p) ∧
  (∃ (s : State) (n : Fin 8), s.tpoRuns = true ∧ s.on (F.TPO_STATUS_ARMED.nth n) = true ∧ tpoMode s n = 1) ∧
  (∃ (s : State) (n : Fin 8), s.tpoRuns = true ∧ s.on (F.TPO_STATUS_ARMED.nth n) = true ∧ tpoMode s n = 2 ∧ (s.tpoOf n).acted = false) ∧
  (∃ (s : State) (n : Fin 8), s.tpoRuns = true ∧ s.on (F.TPO_STATUS_ARMED.nth n) = true ∧ tpoMode s n = 3) ∧
  (∃ (s : State) (n : Fin 8), s.on (F.TPO_STATUS_ACTIVE.nth n) = true ∧ (s.tpoOf n).stop.isSome = true) :=
  ⟨⟨((wit .ready).set (F.TPO_CFG_MODE.nth 0) 1), 0, by decide +kernel⟩,
    ⟨((wit .ready).set (F.TPO_CFG_MODE.nth 0) 2), 0, by decide +kernel⟩,
    ⟨(wit .ready), 0, by decide +kernel⟩,
    ⟨((((wit .ready).set (F.TPO_CFG_MODE.nth 0) 1).modTpo 0 fun x => { x with acted := false }).set (F.TPO_START_NS_NS.nth 0) 100), 0, by decide +kernel⟩,
    ⟨((((wit .ready).set (F.TPO_CFG_MODE.nth 0) 1).modTpo 0 fun x => { x with acted := false }).setB (F.TPO_CFG_LATE_POLICY.nth 0) false), 0, by decide +kernel⟩,
    ⟨((((wit .ready).set (F.TPO_CFG_MODE.nth 0) 1).modTpo 0 fun x => { x with acted := false }).setB (F.TPO_CFG_LATE_POLICY.nth 0) true), 0, by decide +kernel⟩,
    ⟨(((wit .ready).set (F.TPO_CFG_MODE.nth 0) 3).set (F.TPO_PERIOD_NS_NS.nth 0) 10), 0, by dsimp only; decide +kernel⟩,
    ⟨1, by decide +kernel⟩,
    ⟨((((wit .ready).setB (F.TPO_STATUS_ARMED.nth 0) true).set (F.TPO_CFG_MODE.nth 0) 1).set (F.TPO_CFG_MODE.nth 0) 1), 0, by decide +kernel⟩,
    ⟨(((((wit .ready).setB (F.TPO_STATUS_ARMED.nth 0) true).set (F.TPO_CFG_MODE.nth 0) 2).modTpo 0 fun x => { x with acted := false }).set (F.TPO_CFG_MODE.nth 0) 2), 0, by decide +kernel⟩,
    ⟨((((wit .ready).setB (F.TPO_STATUS_ARMED.nth 0) true).set (F.TPO_CFG_MODE.nth 0) 3).set (F.TPO_CFG_MODE.nth 0) 3), 0, by decide +kernel⟩,
    ⟨(((wit .ready).setB (F.TPO_STATUS_ACTIVE.nth 0) true).modTpo 0 fun t => { t with stop := some 0 }), 0, by decide +kernel⟩⟩

/-- States and operands that meet the hypotheses of each clause of PtpMessages that has any. -/
theorem witness_PtpMessages :
  (∃ (s : State) (port : Fin 2) (f : PtpMsg), s.ptpAccepts port f = true ∧ s.ptpRole port = 2 ∧ f.twoStep = false) ∧
  (∃ (s : State) (port : Fin 2) (f : PtpMsg), s.ptpAccepts port f = true ∧ s.ptpRole port = 2 ∧ f.twoStep = true) ∧
  (∃ (s : State) (port : Fin 2) (f : PtpMsg) (rx : Int) (c : Int), s.ptpAccepts port f = true ∧ s.ptpRole port = 2 ∧ s.tim.pendingSync = some (f.seqId, rx, c)) ∧
  (∃ (s : State) (port : Fin 2) (f : PtpMsg), s.ptpAccepts port f = true ∧ s.ptpRole port = 2 ∧ s.ptpP2p port = false ∧ (s.delayOf port).busy = true ∧ (s.delayOf port).seqId = f.seqId) ∧
  (∃ (s : State) (port : Fin 2) (f : PtpMsg), s.ptpAccepts port f = true ∧ s.ptpP2p port = true ∧ (s.delayOf port).busy = true ∧ (s.delayOf port).seqId = f.seqId ∧ f.twoStep = true) ∧
  (∃ (s : State) (port : Fin 2) (f : PtpMsg), s.ptpAccepts port f = true ∧ s.ptpP2p port = true ∧ (s.delayOf port).busy = true ∧ (s.delayOf port).seqId = f.seqId) ∧
  (∃ (s : State) (port : Fin 2) (f : PtpMsg), s.ptpAccepts port f = true ∧ s.ptpRole port = 2 ∧ s.on F.TIME_UTC_OFFSET_FROM_ANNOUNCE = true) ∧
  (∃ (s : State) (port : Fin 2) (f : PtpMsg), s.ptpAccepts port f = true ∧ s.ptpRole port = 1) ∧
  (∃ (s : State) (port : Fin 2) (f : PtpMsg), s.ptpAccepts port f = true ∧ s.ptpP2p port = true) ∧
  (∃ (s : State) (port : Fin 2), s.on F.TIME_CFG_ENABLE = true ∧ s.ptpRole port = 1 ∧ s.ptpOneStep port = true) ∧
  (∃ (s : State) (port : Fin 2), s.on F.TIME_CFG_ENABLE = true ∧ s.ptpRole port = 1 ∧ s.ptpOneStep port = false) ∧
  (∃ (s : State) (port : Fin 2), s.on F.TIME_CFG_ENABLE = true ∧ s.ptpRole port = 2 ∧ s.ptpP2p port = false) ∧
  (∃ (s : State) (port : Fin 2), s.on F.TIME_CFG_ENABLE = true ∧ s.ptpRole port ≠ 0 ∧ s.ptpP2p port = true) ∧
  (∃ (s : State) (port : Fin 2), s.on F.TIME_CFG_ENABLE = true ∧ s.ptpRole port = 1) ∧
  (∃ (s : State) (port : Fin 2) (f : PtpMsg), s.ptpAccepts port f = false) ∧
  (∃ (s : State) (port : Fin 2) (f : PtpMsg), s.ptpAccepts port f = false) ∧
  (∃ (s : State), s.on F.TIME_CFG_TC_EN = false) ∧
  (∃ (s : State) (m : PtpMsg), s.on F.TIME_CFG_TC_EN = true ∧ s.on F.TIME_CFG_TC_P2P = false ∧ m.twoStep = false) :=
  ⟨⟨(((wit .ready).setB F.TIME_CFG_ENABLE true).set F.TIME_CFG_PORT0_ROLE 2), 0, ⟨0, 0, false, 0, 0, 0⟩, by decide +kernel⟩,
    ⟨(((wit .ready).setB F.TIME_CFG_ENABLE true).set F.TIME_CFG_PORT0_ROLE 2), 0, ⟨0, 0, true, 0, 0, 0⟩, by decide +kernel⟩,
    ⟨((((wit .ready).setB F.TIME_CFG_ENABLE true).set F.TIME_CFG_PORT0_ROLE 2).modTim fun y => { y with pendingSync := some (0, 0, 0) }), 0, ⟨0, 0, false, 0, 0, 0⟩, 0, 0, by decide +kernel⟩,
    ⟨(((((wit .ready).setB F.TIME_CFG_ENABLE true).set F.TIME_CFG_PORT0_ROLE 2).setB F.TIME_CFG_PORT0_P2P false).setDelay 0 { busy := true }), 0, ⟨0, 0, false, 0, 0, 0⟩, by decide +kernel⟩,
    ⟨(((((wit .ready).setB F.TIME_CFG_ENABLE true).set F.TIME_CFG_PORT0_ROLE 2).setB F.TIME_CFG_PORT0_P2P true).setDelay 0 { busy := true }), 0, ⟨0, 0, true, 0, 0, 0⟩, by decide +kernel⟩,
    ⟨(((((wit .ready).setB F.TIME_CFG_ENABLE true).set F.TIME_CFG_PORT0_ROLE 2).setB F.TIME_CFG_PORT0_P2P true).setDelay 0 { busy := true }), 0, ⟨0, 0, false, 0, 0, 0⟩, by decide +kernel⟩,
    ⟨((((wit .ready).setB F.TIME_CFG_ENABLE true).set F.TIME_CFG_PORT0_ROLE 2).setB F.TIME_UTC_OFFSET_FROM_ANNOUNCE true), 0, ⟨0, 0, false, 0, 0, 0⟩, by decide +kernel⟩,
    ⟨(((wit .ready).setB F.TIME_CFG_ENABLE true).set F.TIME_CFG_PORT0_ROLE 1), 0, ⟨0, 0, false, 0, 0, 0⟩, by decide +kernel⟩,
    ⟨((((wit .ready).setB F.TIME_CFG_ENABLE true).set F.TIME_CFG_PORT0_ROLE 2).setB F.TIME_CFG_PORT0_P2P true), 0, ⟨0, 0, false, 0, 0, 0⟩, by decide +kernel⟩,
    ⟨(((wit .ready).setB F.TIME_CFG_ENABLE true).set F.TIME_CFG_PORT0_ROLE 1), 0, by decide +kernel⟩,
    ⟨((((wit .ready).setB F.TIME_CFG_ENABLE true).set F.TIME_CFG_PORT0_ROLE 1).setB F.TIME_CFG_PORT0_ONESTEP false), 0, by decide +kernel⟩,
    ⟨((((wit .ready).setB F.TIME_CFG_ENABLE true).set F.TIME_CFG_PORT0_ROLE 2).setB F.TIME_CFG_PORT0_P2P false), 0, by decide +kernel⟩,
    ⟨((((wit .ready).setB F.TIME_CFG_ENABLE true).setB F.TIME_CFG_PORT0_P2P true).set F.TIME_CFG_PORT0_ROLE 2), 0, by decide +kernel⟩,
    ⟨(((wit .ready).setB F.TIME_CFG_ENABLE true).set F.TIME_CFG_PORT0_ROLE 1), 0, by decide +kernel⟩,
    ⟨(wit .ready), 0, ⟨0, 0, false, 0, 0, 0⟩, by decide +kernel⟩,
    ⟨(wit .ready), 0, ⟨0, 0, false, 0, 0, 0⟩, by decide +kernel⟩,
    ⟨((wit .ready).setB F.TIME_CFG_TC_EN false), by decide +kernel⟩,
    ⟨(((wit .ready).setB F.TIME_CFG_TC_EN true).setB F.TIME_CFG_TC_P2P false), ⟨0, 0, false, 0, 0, 0⟩, by decide +kernel⟩⟩

/-- States and operands that meet the hypotheses of each clause of SentenceCommands that has any. -/
theorem witness_SentenceCommands :
  (∃ (s : State) (k : Nat), s.reaches 0x09 0x040 = true ∧ s.on F.SENT_CMD_RESULT_BUSY = false ∧ s.freeSlot 12 16 = some k) ∧
  (∃ (s : State) (k : Fin 16), s.reaches 0x09 0x040 = true ∧ s.on F.SENT_CMD_RESULT_BUSY = false ∧ 12 ≤ (k : Nat) ∧ (s.slot k).st = 1 ∧ s.clauseBad s.stagedClause false = none ∧ (s.slot k).clauses.length < 64) ∧
  (∃ (s : State) (k : Fin 16) (e : EvCode), s.reaches 0x09 0x040 = true ∧ s.on F.SENT_CMD_RESULT_BUSY = false ∧ 12 ≤ (k : Nat) ∧ (s.slot k).st = 1 ∧ s.clauseBad s.stagedClause false = some e ∧ (s.slot k).clauses.length < 64) ∧
  (∃ (s : State) (k : Fin 16), s.reaches 0x09 0x040 = true ∧ s.on F.SENT_CMD_RESULT_BUSY = false ∧ 12 ≤ (k : Nat) ∧ (s.slot k).st = 1) ∧
  (∃ (s : State) (k : Fin 16), s.reaches 0x09 0x040 = true ∧ s.on F.SENT_CMD_RESULT_BUSY = false ∧ 12 ≤ (k : Nat) ∧ (s.slot k).st = 1) ∧
  (∃ (s : State) (k : Fin 16), s.reaches 0x09 0x040 = true ∧ s.on F.SENT_CMD_RESULT_BUSY = false ∧ 12 ≤ (k : Nat) ∧ (s.slot k).st = 3 ∧ (s.slot k).dist = false ∧ (s.slot k).vaultDue = none) ∧
  (∃ (s : State) (k : Fin 16), s.reaches 0x09 0x040 = true ∧ s.on F.SENT_CMD_RESULT_BUSY = false ∧ 12 ≤ (k : Nat) ∧ (s.slot k).st = 3 ∧ (s.slot k).dist = true) ∧
  (∃ (s : State) (k : Fin 16), s.reaches 0x09 0x040 = true ∧ s.on F.SENT_CMD_RESULT_BUSY = false ∧ 12 ≤ (k : Nat) ∧ 6 ≤ (s.slot k).st) ∧
  (∃ (s : State) (k : Fin 16), s.reaches 0x09 0x040 = true ∧ s.on F.SENT_CMD_RESULT_BUSY = false ∧ 12 ≤ (k : Nat) ∧ (s.slot k).st = 1) ∧
  (∃ (s : State) (op : Fin 16), s.reaches 0x09 0x040 = true ∧ s.on F.SENT_CMD_RESULT_BUSY = false ∧ 7 ≤ (op : Nat)) ∧
  (∃ (s : State) (k : Fin 16), s.reaches 0x09 0x040 = true ∧ s.on F.SENT_CMD_RESULT_BUSY = false ∧ (k : Nat) < 12) ∧
  (∃ (s : State) (k : Fin 16), s.reaches 0x09 0x040 = true ∧ s.on F.SENT_CMD_RESULT_BUSY = false ∧ 12 ≤ (k : Nat) ∧ (s.slot k).st ≠ 1 ∧ (s.slot k).st < 6) ∧
  (∃ (s : State) (k : Fin 16), s.reaches 0x09 0x040 = true ∧ s.on F.SENT_CMD_RESULT_BUSY = false ∧ 12 ≤ (k : Nat) ∧ (s.slot k).st < 6) ∧
  (∃ (s : State) (k : Fin 16), s.reaches 0x09 0x040 = true ∧ s.on F.SENT_CMD_RESULT_BUSY = false ∧ 12 ≤ (k : Nat) ∧ (s.slot k).st ≠ 1 ∧ (s.slot k).st ≠ 3) ∧
  (∃ (s : State) (k : Fin 16), s.reaches 0x09 0x040 = true ∧ s.on F.SENT_CMD_RESULT_BUSY = false ∧ 12 ≤ (k : Nat) ∧ (s.slot k).st = 3 ∧ (s.slot k).dist = false ∧ (s.slot k).vaultDue.isSome = true) ∧
  (∃ (s : State), s.reaches 0x09 0x040 = true ∧ s.on F.SENT_CMD_RESULT_BUSY = false ∧ s.freeSlot 12 16 = none) :=
  ⟨⟨((wit .ready).setB F.SENT_CMD_RESULT_BUSY false), 12, by decide +kernel⟩,
    ⟨(((((wit .ready).setB F.SENT_CMD_RESULT_BUSY false).modSlot 12 fun x => { x with st := 1 }).set F.SENT_CLAUSE_W0_W0 0x03000000).set F.SENT_CLAUSE_W1_W1 0xFF), 12, by decide +kernel⟩,
    ⟨(((wit .ready).setB F.SENT_CMD_RESULT_BUSY false).modSlot 12 fun x => { x with st := 1 }), 12, E.SENT_BAD_TYPE, by decide +kernel⟩,
    ⟨(((wit .ready).setB F.SENT_CMD_RESULT_BUSY false).modSlot 12 fun x => { x with st := 1 }), 12, by decide +kernel⟩,
    ⟨(((wit .ready).setB F.SENT_CMD_RESULT_BUSY false).modSlot 12 fun x => { x with st := 1 }), 12, by decide +kernel⟩,
    ⟨(((((wit .ready).setB F.SENT_CMD_RESULT_BUSY false).modSlot 12 fun x => { x with st := 3 }).modSlot 12 fun x => { x with dist := false }).modSlot 12 fun x => { x with vaultDue := none }), 12, by decide +kernel⟩,
    ⟨((((wit .ready).setB F.SENT_CMD_RESULT_BUSY false).modSlot 12 fun x => { x with st := 3 }).modSlot 12 fun x => { x with dist := true }), 12, by decide +kernel⟩,
    ⟨(((wit .ready).setB F.SENT_CMD_RESULT_BUSY false).modSlot 12 fun x => { x with st := 6 }), 12, by decide +kernel⟩,
    ⟨(((wit .ready).setB F.SENT_CMD_RESULT_BUSY false).modSlot 12 fun x => { x with st := 1 }), 12, by decide +kernel⟩,
    ⟨((wit .ready).setB F.SENT_CMD_RESULT_BUSY false), 7, by decide +kernel⟩,
    ⟨((wit .ready).setB F.SENT_CMD_RESULT_BUSY false), 0, by decide +kernel⟩,
    ⟨(((wit .ready).setB F.SENT_CMD_RESULT_BUSY false).modSlot 12 fun x => { x with st := 2 }), 12, by decide +kernel⟩,
    ⟨((wit .ready).setB F.SENT_CMD_RESULT_BUSY false), 12, by decide +kernel⟩,
    ⟨(((((wit .ready).setB F.SENT_CMD_RESULT_BUSY false).modSlot 12 fun x => { x with st := 2 }).modSlot 12 fun x => { x with st := 2 }).modSlot 12 fun x => { x with st := 2 }), 12, by decide +kernel⟩,
    ⟨(((((wit .ready).setB F.SENT_CMD_RESULT_BUSY false).modSlot 12 fun x => { x with st := 3 }).modSlot 12 fun x => { x with dist := false }).modSlot 12 fun x => { x with st := 3, vaultDue := some 0 }), 12, by decide +kernel⟩,
    ⟨((((((wit .ready).setB F.SENT_CMD_RESULT_BUSY false).modSlot 12 fun x => { x with st := 1 }).modSlot 13 fun x => { x with st := 1 }).modSlot 14 fun x => { x with st := 1 }).modSlot 15 fun x => { x with st := 1 }), by decide +kernel⟩⟩

/-- States and operands that meet the hypotheses of each clause of SentenceExecution that has any. -/
theorem witness_SentenceExecution :
  (∃ (s : State) (k : Fin 16) (e : Nat × SentErr),
    let x := s.slot k
    let t := s.setSlot k { x with yields := (s.slotParts x).1, takes := (s.slotParts x).2, delay := s.takeDelay x, kids := [] }
    x.st = 2 ∧ x.dist = false ∧ t.validate k = some e) ∧
  (∃ (s : State) (k : Fin 16),
    let x := s.slot k
    let y := { x with yields := (s.slotParts x).1, takes := (s.slotParts x).2, delay := s.takeDelay x, kids := [] }
    let t := s.setSlot k y
    x.st = 2 ∧ x.dist = false ∧ t.validate k = none) ∧
  (∃ (s : State) (k : Fin 16), s.stopDue k = true ∧ s.stagesRun = true ∧ s.mode ≠ .mirror) ∧
  (∃ (s : State) (k : Fin 16), s.stopDue k = false) ∧
  (∃ (s : State) (k : Fin 16), s.stopDue k = true ∧ s.stagesRun = false ∧ s.mode ≠ .mirror) ∧
  (∃ (s : State) (k : Nat),
    let t := s.applyYields k
    (t.slot k).bound = false) ∧
  (∃ (s : State) (k : Nat),
    let t := s.applyYields k
    (t.slot k).bound = true ∧ (t.slot k).leaseOut = false) ∧
  (∃ (s : State) (k : Fin 16), (s.slot k).st = 5 ∧ s.stagesRun = true ∧ s.mode ≠ .mirror ∧ s.leaseBars (s.slot k) = false) ∧
  (∃ (s : State) (k : Fin 16), (s.slot k).st = 5 ∧ s.stagesRun = true ∧ s.mode ≠ .mirror ∧ s.leaseBars (s.slot k) = true) :=
  ⟨⟨((wit .ready).modSlot 0 fun x => { x with st := 2 }), 0, (0x7F, E.SENT_EMPTY, [0, 0x7F]), by dsimp only; decide +kernel⟩,
    ⟨((wit .ready).modSlot 0 fun x => { x with st := 2, clauses := [⟨0x03000000, 0xFF, 0, 0⟩] }), 0, by dsimp only; decide +kernel⟩,
    ⟨((wit .ready).modSlot 0 fun x => { x with st := 3 }), 0, by decide +kernel⟩,
    ⟨(wit .ready), 0, by decide +kernel⟩,
    ⟨((wit .vault).modSlot 0 fun x => { x with st := 4 }), 0, by decide +kernel⟩,
    ⟨((wit .ready).modSlot 0 fun x => { x with bound := false }), 0, by dsimp only; decide +kernel⟩,
    ⟨(((wit .ready).modSlot 0 fun x => { x with bound := true }).modSlot 0 fun x => { x with leaseOut := false }), 0, by dsimp only; decide +kernel⟩,
    ⟨((wit .ready).modSlot 0 fun x => { x with st := 5 }), 0, by decide +kernel⟩,
    ⟨(((wit .ready).modSlot 0 fun x => { x with st := 5 }).modSlot 0 fun x => { x with st := 5, takes := [.ceil 0xFFFF 0] }), 0, by decide +kernel⟩⟩

/-- States and operands that meet the hypotheses of each clause of SentenceParticipant that has any. -/
theorem witness_SentenceParticipant :
  (∃ (s : State) (p : List Nat) (k : Nat), s.galeshIn = true ∧ s.fromParent p = true ∧ s.partSlot (payloadSid p) = some k) ∧
  (∃ (s : State) (p : List Nat), s.galeshIn = true ∧ s.fromParent p = true ∧ s.partSlot (payloadSid p) = none ∧ s.on F.TIME_SYNC_STATE_SYNC_OK = false) ∧
  (∃ (s : State) (p : List Nat) (k : Nat), s.galeshIn = true ∧ s.fromParent p = true ∧ s.partSlot (payloadSid p) = some k ∧ (s.slot k).bound = false ∧ (s.slot k).st = 3 ∧ p.getD 8 0 = 1) ∧
  (∃ (s : State) (p : List Nat) (k : Nat), s.galeshIn = true ∧ s.fromParent p = true ∧ s.partSlot (payloadSid p) = some k ∧ (s.slot k).bound = false ∧ (s.slot k).st = 3 ∧ p.getD 8 0 = 2) ∧
  (∃ (s : State) (p : List Nat), s.fromParent p = false) ∧
  (∃ (s : State), s.galeshIn = false) ∧
  (∃ (s : State) (p : List Nat) (k : Nat), s.galeshIn = true ∧ s.fromParent p = true ∧ s.partSlot (payloadSid p) = some k ∧ (s.slot k).bound = true ∧ p.getD 8 0 = 1 ∧ s.sent.lateSeen.contains (payloadSid p) = false) ∧
  (∃ (s : State) (k : Fin 16), (s.slot k).undecided = true ∧ (s.slot k).queried = false) ∧
  (∃ (s : State) (k : Fin 16), (s.slot k).undecided = true) ∧
  (∃ (s : State) (p : List Nat) (k : Nat),
    let x : SentSlot := { st := 2, owner := 3, clauses := payloadClauses p, mode := 2, dist := true, autoRel := true, stop := ofBe (slice p 8 6) * 1000000000 + ofBe (slice p 14 4), delay := max 2 (ofBe (slice p 18 4)), prepNs := s.fabNs, sid := payloadSid p }
    let y := { x with yields := (s.slotParts x).1 ++ s.makeRoom k (s.slotParts x).1, takes := (s.slotParts x).2 }
    s.galeshIn = true ∧ s.fromParent p = true ∧ s.partSlot (payloadSid p) = none ∧ s.on F.TIME_SYNC_STATE_SYNC_OK = true ∧ s.on F.SENT_CTRL_DIST_EN = true ∧ s.freeSlot 4 12 = some k ∧ s.fabNs + (s.get F.SENT_TIMING_GUARD_US + 100) * 1000 ≤ x.stop ∧ clauseIdx (fun c => (s.clauseBad c true).isSome) 0 x.clauses = none ∧ (s.setSlot k y).validate k = none) :=
  ⟨⟨(((wit .ready).galeshUp).modSlot 0 fun x => { x with st := 3, owner := 3 }), [], 0, by decide +kernel⟩,
    ⟨(((wit .ready).galeshUp).setB F.TIME_SYNC_STATE_SYNC_OK false), [], by decide +kernel⟩,
    ⟨(((((wit .ready).galeshUp).modSlot 0 fun x => { x with bound := false }).modSlot 0 fun x => { x with st := 3 }).modSlot 0 fun x => { x with st := 3, owner := 3 }), [0, 0, 0, 0, 0, 0, 0, 0, 1], 0, by decide +kernel⟩,
    ⟨(((((wit .ready).galeshUp).modSlot 0 fun x => { x with bound := false }).modSlot 0 fun x => { x with st := 3 }).modSlot 0 fun x => { x with st := 3, owner := 3 }), [0, 0, 0, 0, 0, 0, 0, 0, 2], 0, by decide +kernel⟩,
    ⟨((wit .ready).setB F.TREE_SELF_ROOT true), [], by decide +kernel⟩,
    ⟨(wit .ready), by decide +kernel⟩,
    ⟨((((wit .ready).galeshUp).modSlot 0 fun x => { x with bound := true }).modSlot 0 fun x => { x with st := 3, owner := 3, bound := true }), [0, 0, 0, 0, 0, 0, 0, 0, 1], 0, by decide +kernel⟩,
    ⟨((wit .ready).modSlot 0 fun x => { x with st := 3, owner := 3 }), 0, by decide +kernel⟩,
    ⟨((wit .ready).modSlot 0 fun x => { x with st := 3, owner := 3 }), 0, by decide +kernel⟩,
    ⟨(((((wit .ready).galeshUp).setB F.TIME_SYNC_STATE_SYNC_OK true).setB F.SENT_CTRL_DIST_EN true).setB F.TIME_SYNC_STATE_SYNC_OK true), List.replicate 8 0 ++ [0, 0, 0, 0, 0, 9] ++ List.replicate 10 0 ++ [1, 0, 0, 0, 3, 0, 0, 0, 0, 0, 0, 0xFF], 4, by dsimp only; decide +kernel⟩⟩

/-- States and operands that meet the hypotheses of each clause of SentenceCoordinator that has any. -/
theorem witness_SentenceCoordinator :
  (∃ (s : State) (p : List Nat) (k : Nat),
    let x := s.slot k
    s.galeshIn = true ∧ s.coordSlot (payloadSid p) = some k ∧ x.st = 3 ∧ x.kids.contains (payloadSender p) = true ∧ x.yes.contains (payloadSender p) = false ∧ p.getD 8 0 = 0 ∧ x.yes.length + 1 = x.kids.length) ∧
  (∃ (s : State) (p : List Nat) (k : Nat),
    let x := s.slot k
    s.galeshIn = true ∧ s.coordSlot (payloadSid p) = some k ∧ x.st = 3 ∧ x.kids.contains (payloadSender p) = true ∧ x.yes.contains (payloadSender p) = false ∧ p.getD 8 0 = 0 ∧ x.yes.length + 1 ≠ x.kids.length) ∧
  (∃ (s : State) (p : List Nat) (k : Nat),
    let x := s.slot k
    s.galeshIn = true ∧ s.coordSlot (payloadSid p) = some k ∧ x.st = 3 ∧ x.kids.contains (payloadSender p) = true ∧ x.yes.contains (payloadSender p) = false ∧ p.getD 8 0 = 1) ∧
  (∃ (s : State) (k : Fin 16),
    let x := s.slot k
    x.owner ≠ 3 ∧ x.dist = true ∧ x.st = 3) ∧
  (∃ (s : State) (sid : Word),
    let c := s.coord sid.toNat
    c.decision ≠ 0 ∧ c.copies < 3) ∧
  (∃ (s : State) (p : List Nat), s.galeshIn = true ∧ (s.coord (payloadSid p)).decision ≠ 0) ∧
  (∃ (s : State) (p : List Nat) (k : Nat),
    let c := s.coord (payloadSid p)
    let t := s.setCoord (payloadSid p) { c with waiting := c.waiting.filter fun a => a != payloadSender p }
    s.galeshIn = true ∧ p.getD 8 0 = 1 ∧ c.waiting.contains (payloadSender p) = true ∧ t.coordSlot (payloadSid p) = some k) ∧
  (∃ (s : State) (p : List Nat) (k : Nat),
    let u := s.when (s.childOf (payloadSender p)).isSome fun s => s.ev E.SENT_HALF_REPORTED 0 [payloadSid p, payloadSender p, ofBe (slice p 10 2)]
    let c := s.coord (payloadSid p)
    let t := u.setCoord (payloadSid p) { c with waiting := c.waiting.filter fun a => a != payloadSender p }
    s.galeshIn = true ∧ p.getD 8 0 = 2 ∧ c.waiting.contains (payloadSender p) = true ∧ t.coordSlot (payloadSid p) = some k) ∧
  (∃ (s : State) (p : List Nat) (k : Nat),
    let c := s.coord (payloadSid p)
    let t := s.setCoord (payloadSid p) { c with waiting := c.waiting.filter fun a => a != payloadSender p }
    s.galeshIn = true ∧ p.getD 8 0 ≠ 1 ∧ p.getD 8 0 ≠ 2 ∧ c.waiting.contains (payloadSender p) = true ∧ t.coordSlot (payloadSid p) = some k) ∧
  (∃ (s : State) (sid : Word) (child : Nat) (k : Nat),
    let c := s.coord sid.toNat
    c.waiting.contains child = true ∧ c.decision ≠ 0 ∧ (s.ev E.SENT_OUTCOME_MISSING 0 [sid.toNat, child]).coordSlot sid.toNat = some k) :=
  ⟨⟨(((wit .ready).galeshUp).modSlot 0 fun x => { x with st := 3, dist := true, kids := [0] }), [], 0, by dsimp only; decide +kernel⟩,
    ⟨(((wit .ready).galeshUp).modSlot 0 fun x => { x with st := 3, dist := true, kids := [0, 1] }), [], 0, by dsimp only; decide +kernel⟩,
    ⟨(((wit .ready).galeshUp).modSlot 0 fun x => { x with st := 3, dist := true, kids := [0] }), [0, 0, 0, 0, 0, 0, 0, 0, 1], 0, by dsimp only; decide +kernel⟩,
    ⟨((wit .ready).modSlot 0 fun x => { x with st := 3, dist := true, kids := [0] }), 0, by dsimp only; decide +kernel⟩,
    ⟨((wit .ready).modCoord 0 fun x => { x with decision := 1 }), 0, by dsimp only; decide +kernel⟩,
    ⟨(((wit .ready).galeshUp).modCoord (payloadSid []) fun x => { x with decision := 1 }), [], by decide +kernel⟩,
    ⟨((((wit .ready).galeshUp).modCoord 0 fun x => { x with decision := 1, waiting := [0] }).modSlot 0 fun x => { x with st := 3, dist := true }), [0, 0, 0, 0, 0, 0, 0, 0, 1], 0, by dsimp only; decide +kernel⟩,
    ⟨((((wit .ready).galeshUp).modCoord 0 fun x => { x with decision := 1, waiting := [0] }).modSlot 0 fun x => { x with st := 3, dist := true }), [0, 0, 0, 0, 0, 0, 0, 0, 2], 0, by dsimp only; decide +kernel⟩,
    ⟨((((wit .ready).galeshUp).modCoord 0 fun x => { x with decision := 1, waiting := [0] }).modSlot 0 fun x => { x with st := 3, dist := true }), [], 0, by dsimp only; decide +kernel⟩,
    ⟨(((wit .ready).modCoord 0 fun x => { x with decision := 1, waiting := [0] }).modSlot 0 fun x => { x with st := 3, dist := true }), 0, 0, 0, by dsimp only; decide +kernel⟩⟩

/-- States and operands that meet the hypotheses of each clause of FabricFrames that has any. -/
theorem witness_FabricFrames :
  (∃ (s : State) (port : Fin 2) (frame : List Nat), s.get F.FAB_ETYPE_ETYPE ≠ 0 ∧ s.fabEnabled port = true ∧ s.fabLink port = true ∧ frame.length < 12) ∧
  (∃ (s : State) (port : Fin 2) (frame : List Nat),
    let conflict := s.internalPort && s.hostsAddr (ofBe (slice frame 6 2))
    s.get F.FAB_ETYPE_ETYPE ≠ 0 ∧ s.fabEnabled port = true ∧ s.fabLink port = true ∧ 12 + ofBe (slice frame 8 2) ≤ frame.length ∧ frame.getD 0 0 = 1 ∧ (frame.getD 2 0).testBit 0 = false ∧ conflict = false ∧ s.hostsAddr (ofBe (slice frame 4 2)) = false ∧ 1 < frame.getD 3 0) ∧
  (∃ (s : State) (port : Fin 2) (frame : List Nat),
    let conflict := s.internalPort && s.hostsAddr (ofBe (slice frame 6 2))
    s.get F.FAB_ETYPE_ETYPE ≠ 0 ∧ s.fabEnabled port = true ∧ s.fabLink port = true ∧ 12 + ofBe (slice frame 8 2) ≤ frame.length ∧ frame.getD 0 0 = 1 ∧ (frame.getD 2 0).testBit 0 = false ∧ conflict = false ∧ s.hostsAddr (ofBe (slice frame 4 2)) = false ∧ frame.getD 3 0 ≤ 1) ∧
  (∃ (s : State) (port : Fin 2) (frame : List Nat), s.get F.FAB_ETYPE_ETYPE ≠ 0 ∧ s.fabEnabled port = true ∧ s.fabLink port = true ∧ 12 + ofBe (slice frame 8 2) ≤ frame.length ∧ frame.getD 0 0 = 1 ∧ (frame.getD 2 0).testBit 0 = false ∧ s.internalPort = true ∧ s.hostsAddr (ofBe (slice frame 6 2)) = false ∧ s.hostsAddr (ofBe (slice frame 4 2)) = true) ∧
  (∃ (s : State) (port : Fin 2), s.on F.FAB_ROUTE_CFG_PASS_OTHER = true ∧ s.fabEnabled (1 - port) = true ∧ s.fabLink (1 - port) = true) ∧
  (∃ (s : State), s.on F.FAB_ROUTE_CFG_PASS_OTHER = false) ∧
  (∃ (s : State) (i : Nat), s.tableReach 11 (8 * i) = true) ∧
  (∃ (s : State) (i : Nat), s.tableReach 11 (8 * i + 4) = true) ∧
  (∃ (s : State) (speed : Nat) (an : Bool),
    let t := ((s.setB F.FAB_PORT_STAT_P0_LINK true).set F.FAB_PORT_STAT_P0_SPEED speed).setB F.FAB_PORT_STAT_P0_AN_DONE an
    let u := t.ev E.FAB_LINK_UP 0 [0, speed]
    s.hostOpen = true ∧ s.fabEnabled 0 = true ∧ s.fabLink 0 = false ∧ u.get F.TREE_PARENT_PORT = 1) ∧
  (∃ (s : State) (speed : Nat) (an : Bool),
    let t := ((s.setB F.FAB_PORT_STAT_P1_LINK true).set F.FAB_PORT_STAT_P1_SPEED speed).setB F.FAB_PORT_STAT_P1_AN_DONE an
    let u := t.ev E.FAB_LINK_UP 0 [1, speed]
    s.hostOpen = true ∧ s.fabEnabled 1 = true ∧ s.fabLink 1 = false ∧ u.get F.TREE_PARENT_PORT = 0) ∧
  (∃ (s : State) (speed : Nat) (an : Bool),
    let t := ((s.setB F.FAB_PORT_STAT_P0_LINK true).set F.FAB_PORT_STAT_P0_SPEED speed).setB F.FAB_PORT_STAT_P0_AN_DONE an
    let u := t.ev E.FAB_LINK_UP 0 [0, speed]
    s.hostOpen = true ∧ s.fabEnabled 0 = true ∧ s.fabLink 0 = false ∧ (u.get F.TREE_PARENT_PORT = 0 ∨ u.get F.TREE_PARENT_PORT = 3)) ∧
  (∃ (s : State), s.hostOpen = false) ∧
  (∃ (s : State), s.fabLink 1 = true) ∧
  (∃ (s : State), s.fabLink 0 = true) :=
  ⟨⟨((((((wit .ready).set F.FAB_ETYPE_ETYPE 1).setB F.FAB_PORT0_CFG_ENABLE true).setB F.FAB_PORT_STAT_P0_LINK true).setB F.FAB_PORT0_CFG_ENABLE true).setB F.FAB_PORT_STAT_P0_LINK true), 0, [], by decide +kernel⟩,
    ⟨((((((wit .ready).set F.FAB_ETYPE_ETYPE 1).setB F.FAB_PORT0_CFG_ENABLE true).setB F.FAB_PORT_STAT_P0_LINK true).setB F.FAB_PORT0_CFG_ENABLE true).setB F.FAB_PORT_STAT_P0_LINK true), 0, [1, 0, 0, 2, 0, 5, 0, 7, 0, 0, 0, 0], by dsimp only; decide +kernel⟩,
    ⟨((((((wit .ready).set F.FAB_ETYPE_ETYPE 1).setB F.FAB_PORT0_CFG_ENABLE true).setB F.FAB_PORT_STAT_P0_LINK true).setB F.FAB_PORT0_CFG_ENABLE true).setB F.FAB_PORT_STAT_P0_LINK true), 0, [1, 0, 0, 1, 0, 5, 0, 7, 0, 0, 0, 0], by dsimp only; decide +kernel⟩,
    ⟨(((((((wit .ready).set F.FAB_ETYPE_ETYPE 1).setB F.FAB_PORT0_CFG_ENABLE true).setB F.FAB_PORT_STAT_P0_LINK true).set F.FAB_ETYPE_ETYPE 0x88B5).setB F.FAB_PORT0_CFG_ENABLE true).setB F.FAB_PORT_STAT_P0_LINK true), 0, [1, 0, 0, 2, 0, 0, 0, 7, 0, 0, 0, 0], by decide +kernel⟩,
    ⟨((((wit .ready).setB F.FAB_ROUTE_CFG_PASS_OTHER true).setB F.FAB_PORT1_CFG_ENABLE true).setB F.FAB_PORT_STAT_P1_LINK true), 0, by decide +kernel⟩,
    ⟨((wit .ready).setB F.FAB_ROUTE_CFG_PASS_OTHER false), by decide +kernel⟩,
    ⟨(wit .ready), 0, by decide +kernel⟩,
    ⟨(wit .ready), 0, by decide +kernel⟩,
    ⟨((((wit .ready).setB F.FAB_PORT0_CFG_ENABLE true).set F.TREE_PARENT_PORT 1).setB F.FAB_PORT0_CFG_ENABLE true), 0, false, by dsimp only; decide +kernel⟩,
    ⟨(((wit .ready).setB F.FAB_PORT1_CFG_ENABLE true).set F.TREE_PARENT_PORT 0), 0, false, by dsimp only; decide +kernel⟩,
    ⟨((wit .ready).setB F.FAB_PORT0_CFG_ENABLE true), 0, false, by dsimp only; decide +kernel⟩,
    ⟨(wit .selftest), by decide +kernel⟩,
    ⟨(((wit .ready).setB F.FAB_PORT_STAT_P1_LINK true).setB F.FAB_PORT_STAT_P1_LINK true), by decide +kernel⟩,
    ⟨((wit .ready).setB F.FAB_PORT_STAT_P0_LINK true), by decide +kernel⟩⟩

/-- States and operands that meet the hypotheses of each clause of Leases that has any. -/
theorem witness_Leases :
  (∃ (s : State) (port : Fin 2) (src : Nat) (p : List Nat), s.internalPort = true ∧ s.fabLink port = true ∧ s.on F.TREE_SELF_ROOT = false ∧ src = s.get F.TREE_PARENT_ADDRESS ∧ payloadSender p = s.get F.TREE_PARENT_ADDRESS) ∧
  (∃ (s : State) (port : Fin 2) (src : Nat) (p : List Nat), s.internalPort = true ∧ s.fabLink port = true ∧ ((s.on F.TREE_SELF_ROOT = true ∨ src ≠ s.get F.TREE_PARENT_ADDRESS ∨ payloadSender p ≠ s.get F.TREE_PARENT_ADDRESS))) ∧
  (∃ (s : State) (port : Fin 2), s.fabLink port = false) ∧
  (∃ (s : State), s.get F.TREE_LEASE_STAT_STATE = 1 ∧ s.mode ≠ .mirror) ∧
  (∃ (s : State),
    let t := s.modTree fun t => { t with rampStep := s.tree.rampStep + 1 }
    s.get F.TREE_LEASE_STAT_STATE = 2 ∧ s.mode ≠ .mirror ∧ t.stagesRun = false) ∧
  (∃ (s : State),
    let t := s.modTree fun t => { t with rampStep := s.tree.rampStep + 1 }
    let want := t.tree.ramp.map fun x => (x.1, rampLine x.2.1 x.2.2 (s.tree.rampStep + 1) s.tree.rampMs)
    let cs := (want.filter fun x => decide (x.2 < t.aptCeil x.1) && !t.aptHeld 16 x.1).map fun x => aptClause x.1 (t.aptFloor x.1) x.2
    s.get F.TREE_LEASE_STAT_STATE = 2 ∧ s.mode ≠ .mirror ∧ t.stagesRun = true ∧ cs.isEmpty = false ∧ s.tree.rampStep + 1 < s.tree.rampMs) ∧
  (∃ (s : State) (src : Nat) (e : Nat), s.galeshIn = true ∧ s.childOf src = some e) ∧
  (∃ (s : State) (src : Nat), s.childOf src = none) ∧
  (∃ (s : State) (e : Fin 256), s.fKind e = 1 ∧ ((s.fState e = 1 ∨ s.fState e = 2)) ∧ s.mode ≠ .mirror) ∧
  (∃ (s : State) (e : Fin 256), s.fKind e = 1 ∧ ((s.fState e = 1 ∨ s.fState e = 2 ∨ s.fState e = 3)) ∧ s.childBack e = false ∧ s.mode ≠ .mirror ∧ s.aptRes e < s.fCeil e) ∧
  (∃ (s : State) (e : Fin 256), s.fKind e = 1 ∧ s.fState e = 1 ∧ s.childBack e = true ∧ s.mode ≠ .mirror ∧ s.aptRes e < s.fCeil e) :=
  ⟨⟨((((wit .ready).set F.FAB_ETYPE_ETYPE 0x88B5).setB F.FAB_PORT_STAT_P0_LINK true).setB F.TREE_SELF_ROOT false), 0, 0, [], by decide +kernel⟩,
    ⟨(((wit .ready).set F.FAB_ETYPE_ETYPE 0x88B5).setB F.FAB_PORT_STAT_P0_LINK true), 0, 0, [0, 0, 0, 9], by decide +kernel⟩,
    ⟨(wit .ready), 0, by decide +kernel⟩,
    ⟨((wit .ready).set F.TREE_LEASE_STAT_STATE 1), by decide +kernel⟩,
    ⟨((wit .vault).set F.TREE_LEASE_STAT_STATE 2), by dsimp only; decide +kernel⟩,
    ⟨((((wit .ready).set F.TREE_LEASE_STAT_STATE 2).modTree fun t => { t with rampMs := 5, ramp := [(0x1000, 100, 0)] }).set (F.ALLOC_OUT_CEIL_W.nth 0) 1000), by dsimp only; decide +kernel⟩,
    ⟨(((wit .ready).galeshUp).wrBytes (facetBase 0) [0, 0, 1]), 0, 0, by decide +kernel⟩,
    ⟨(wit .ready), 0, by decide +kernel⟩,
    ⟨(((wit .ready).wrBytes (facetBase 0) [0, 0, 1]).wrByte (facetBase 0 + 28) 2), 0, by decide +kernel⟩,
    ⟨((((wit .ready).wrBytes (facetBase 0) [0, 0, 1]).wrByte (facetBase 0 + 28) 3).wrByte (facetBase 0 + 12) 100), 0, by decide +kernel⟩,
    ⟨(((((wit .ready).wrBytes (facetBase 0) [0, 0, 1]).wrByte (facetBase 0 + 28) 1).wrByte (facetBase 0 + 12) 100).modChild 0 fun x => { x with backTick := some 0 }), 0, by decide +kernel⟩⟩

/-- States and operands that meet the hypotheses of each clause of Epochs that has any. -/
theorem witness_Epochs :
  (∃ (s : State) (v : Word),
    let e := bits v.toNat 31 16
    let o := bits v.toNat 15 0
    s.reaches 0x08 0x040 = true ∧ 10 ≤ e ∧ e ≤ 1000 ∧ 1000 % e = 0 ∧ o < e ∧ s.get F.SENT_DIST_LEAD_LEAD_US + 1000 ≤ o * 1000) ∧
  (∃ (s : State) (v : Word),
    let e := bits v.toNat 31 16
    let o := bits v.toNat 15 0
    s.reaches 0x08 0x040 = true ∧ ((e < 10 ∨ 1000 < e ∨ 1000 % e ≠ 0 ∨ e ≤ o ∨ o * 1000 < s.get F.SENT_DIST_LEAD_LEAD_US + 1000))) ∧
  (∃ (s : State),
    let t := (s.inc F.ALLOC_EPOCH_COUNT_COUNT).freezeInputs
    let u := t.keepUp.sendLeases
    s.treeRuns = true ∧ t.on F.TREE_SELF_ROOT = true ∧ u.on F.ALLOC_CFG_ENABLE = false) ∧
  (∃ (s : State),
    let t := (s.inc F.ALLOC_EPOCH_COUNT_COUNT).freezeInputs
    let u := t.sendDemand.keepUp.sendLeases
    s.treeRuns = true ∧ t.on F.TREE_SELF_ROOT = false ∧ u.on F.ALLOC_CFG_ENABLE = true) ∧
  (∃ (s : State) (n : Fin 4),
    let t := 0x1000 + n.val
    let c := max (s.outletCap n) (s.aptRes t)
    let u := s.modTree fun x => { x with capDue := x.capDue.filter fun k => k != n.val }
    s.treeRuns = true ∧ s.hasOutlet n = true ∧ u.on F.ALLOC_CFG_ENABLE = true ∧ c < u.aptCeil t ∧ s.aptHeld 16 t = false) ∧
  (∃ (s : State) (n : Fin 4), s.tree.capDue.contains n.val = true ∧ s.aptHeld 16 (0x1000 + n) = true) :=
  ⟨⟨(wit .ready), 6553690, by dsimp only; decide +kernel⟩,
    ⟨(wit .ready), 0, by dsimp only; decide +kernel⟩,
    ⟨(((wit .ready).setB F.TREE_SELF_ROOT true).setB F.ALLOC_CFG_ENABLE false), by dsimp only; decide +kernel⟩,
    ⟨(((wit .ready).setB F.TREE_SELF_ROOT false).setB F.ALLOC_CFG_ENABLE true), by dsimp only; decide +kernel⟩,
    ⟨(((wit .ready).setB F.ALLOC_CFG_ENABLE true).set (F.ALLOC_OUT_CEIL_W.nth 0) 1000), 0, by dsimp only; decide +kernel⟩,
    ⟨(((wit .ready).modTree fun x => { x with capDue := [0] }).modSlot 0 fun x => { x with st := 3, clauses := [aptClause 0x1000 0 0] }), 0, by decide +kernel⟩⟩

/-- States and operands that meet the hypotheses of each clause of PhasePulses that has any. -/
theorem witness_PhasePulses :
  (∃ (s : State) (v : Word), s.reaches 0x1A 0x040 = true ∧ s.anyGroupBusy = false ∧ timingOk (bits v.toNat 19 0) (s.get F.PHASE_DEADTIME_DT_HL) (s.get F.PHASE_DEADTIME_DT_LH) (s.get F.PHASE_BLANK_MAXON_BLANK) (s.get F.PHASE_BLANK_MAXON_MAX_ON) = true) ∧
  (∃ (s : State), s.reaches 0x1A 0x040 = true ∧ s.anyGroupBusy = true) ∧
  (∃ (s : State) (v : Word), s.reaches 0x1A 0x040 = true ∧ s.anyGroupBusy = false ∧ timingOk (bits v.toNat 19 0) (s.get F.PHASE_DEADTIME_DT_HL) (s.get F.PHASE_DEADTIME_DT_LH) (s.get F.PHASE_BLANK_MAXON_BLANK) (s.get F.PHASE_BLANK_MAXON_MAX_ON) = false) ∧
  (∃ (s : State) (v : Word), s.reaches 0x1A 0x048 = true ∧ timingOk (s.get F.PHASE_PERIOD_FT) (s.get F.PHASE_DEADTIME_DT_HL) (s.get F.PHASE_DEADTIME_DT_LH) (bits v.toNat 23 16) (bits v.toNat 15 0) = false) ∧
  (∃ (s : State) (v : Word), s.reaches 0x1A 0x048 = true ∧ timingOk (s.get F.PHASE_PERIOD_FT) (s.get F.PHASE_DEADTIME_DT_HL) (s.get F.PHASE_DEADTIME_DT_LH) (bits v.toNat 23 16) (bits v.toNat 15 0) = true) ∧
  (∃ (s : State) (v : Word), s.reaches 0x1A 0x044 = true ∧ timingOk (s.get F.PHASE_PERIOD_FT) (bits v.toNat 11 0) (bits v.toNat 27 16) (s.get F.PHASE_BLANK_MAXON_BLANK) (s.get F.PHASE_BLANK_MAXON_MAX_ON) = true) ∧
  (∃ (s : State) (v : Word), s.reaches 0x1A 0x044 = true ∧ timingOk (s.get F.PHASE_PERIOD_FT) (bits v.toNat 11 0) (bits v.toNat 27 16) (s.get F.PHASE_BLANK_MAXON_BLANK) (s.get F.PHASE_BLANK_MAXON_MAX_ON) = false) ∧
  (∃ (s : State) (p : Fin 72), s.hasGroup (p.val / 6) = true ∧ (s.startPeriod p).matchReached (p.val / 6) = true) ∧
  (∃ (s : State) (p : Fin 72),
    let g := p.val / 6
    let t := s.startPeriod p
    s.hasGroup g = true ∧ t.matchReached g = false ∧ ((t.phEnabled p = false ∨ t.grpSwitches g = false))) ∧
  (∃ (s : State) (p : Fin 72),
    let g := p.val / 6
    let t := s.startPeriod p
    let ua := t.groupShareUa g
    let o := (t.grp g).phys
    let u := (t.setI (F.GROUP_SHARE_MA_MA.inst g) (Int.tdiv ua 1000)).setB (F.GROUP_STATUS_DIRECTION.inst g) (decide (ua < 0))
    s.hasGroup g = true ∧ t.matchReached g = false ∧ t.phEnabled p = true ∧ t.grpSwitches g = true ∧ u.on (F.PHASE_OV_STAT_ACTIVE.nth o) = false ∧ ua.natAbs < u.get F.PHASE_CFG_SKIP_A * 1000000 * (t.enabledPhases g).length) ∧
  (∃ (s : State) (p : Fin 72),
    let g := p.val / 6
    let t := s.startPeriod p
    let ua := t.groupShareUa g
    let o := (t.grp g).phys
    let u := (t.setI (F.GROUP_SHARE_MA_MA.inst g) (Int.tdiv ua 1000)).setB (F.GROUP_STATUS_DIRECTION.inst g) (decide (ua < 0))
    s.hasGroup g = true ∧ t.matchReached g = false ∧ t.phEnabled p = true ∧ t.grpSwitches g = true ∧ u.on (F.PHASE_OV_STAT_ACTIVE.nth o) = true ∧ (u.stage g != .matching) = true) ∧
  (∃ (s : State) (p : Fin 72),
    let g := p.val / 6
    let t := s.startPeriod p
    let ua := t.groupShareUa g
    let o := (t.grp g).phys
    let u := (t.setI (F.GROUP_SHARE_MA_MA.inst g) (Int.tdiv ua 1000)).setB (F.GROUP_STATUS_DIRECTION.inst g) (decide (ua < 0))
    s.hasGroup g = true ∧ t.matchReached g = false ∧ t.phEnabled p = true ∧ t.grpSwitches g = true ∧ u.on (F.PHASE_OV_STAT_ACTIVE.nth o) = false ∧ u.get F.PHASE_CFG_SKIP_A * 1000000 * (t.enabledPhases g).length ≤ ua.natAbs) ∧
  (∃ (s : State) (p : Fin 72) (on : Nat), s.hasGroup (p.val / 6) = true ∧ (s.phs p).pulse = true ∧ s.get F.PHASE_BLANK_MAXON_BLANK ≤ on ∧ on < s.maxOnTicks) ∧
  (∃ (s : State) (p : Fin 72), s.hasGroup (p.val / 6) = true ∧ (s.phs p).pulse = true) ∧
  (∃ (s : State) (p : Fin 72), s.hasGroup (p.val / 6) = true ∧ s.phEnabled p = true ∧ 3 ≤ (s.phs p).openRun) ∧
  (∃ (s : State) (n : Fin 4), s.hasOutlet n = true ∧ s.on (F.PHASE_OV_STAT_ACTIVE.nth n) = false) ∧
  (∃ (s : State) (n : Fin 4), s.hasOutlet n = true ∧ s.on (F.PHASE_OV_STAT_ACTIVE.nth n) = true) ∧
  (∃ (s : State) (n : Fin 4), s.hasOutlet n = true ∧ s.slotsClosed n = true ∧ s.mode.gateDrive = true) ∧
  (∃ (s : State) (n : Nat), s.fbFlagged n = true) ∧
  (∃ (s : State) (n : Nat) (ic : Int),
    let l := s.carrying n
    let implied : Int := (l.map fun p => let v := s.phs p; if v.impliedCnt = 0 then 0 else Int.tdiv v.impliedSum v.impliedCnt).foldl (· + ·) 0
    s.fbFlagged n = false ∧ (l.any fun p => (s.phs p).spoiled) = false ∧ (implied - ic).natAbs * 100 ≤ s.get F.PHASE_SENSE_WIN_WIN_A * 100000 + s.get F.PHASE_SENSE_WIN_WIN_PCT * ic.natAbs) :=
  ⟨⟨(wit .ready), 64000, by decide +kernel⟩,
    ⟨((wit .ready).set (F.GROUP_STATUS_STAGE.inst 0) 3), by decide +kernel⟩,
    ⟨(wit .ready), 0, by decide +kernel⟩,
    ⟨(wit .ready), 0, by decide +kernel⟩,
    ⟨(wit .ready), 0x20E000, by decide +kernel⟩,
    ⟨(wit .ready), 0, by decide +kernel⟩,
    ⟨((wit .ready).set F.PHASE_PERIOD_FT 0), 0, by decide +kernel⟩,
    ⟨((wit .ready).set (F.GROUP_STATUS_STAGE.inst 0) 1), 0, by decide +kernel⟩,
    ⟨(wit .ready), 0, by dsimp only; decide +kernel⟩,
    ⟨(((((((wit .ready).setPhase 0 true false 0).set (F.GROUP_STATUS_STAGE.inst 0) 3).set F.PHASE_CFG_SKIP_A 5).modGrp 0 fun v => { v with phys := 0 }).set F.PHASE_CFG_MIN_PHASES 0).setBit F.LOOP_RUN_LO_CLOSED 0 true), 0, by dsimp only; decide +kernel⟩,
    ⟨(((((((wit .ready).setPhase 0 true false 0).set (F.GROUP_STATUS_STAGE.inst 0) 3).set F.PHASE_CFG_MIN_PHASES 0).modGrp 0 fun v => { v with phys := 0 }).setBit F.LOOP_RUN_LO_CLOSED 0 true).setB (F.PHASE_OV_STAT_ACTIVE.nth 0) true), 0, by dsimp only; decide +kernel⟩,
    ⟨(((((((wit .ready).setPhase 0 true false 0).set (F.GROUP_STATUS_STAGE.inst 0) 3).set F.PHASE_CFG_SKIP_A 0).modGrp 0 fun v => { v with phys := 0 }).set F.PHASE_CFG_MIN_PHASES 0).setBit F.LOOP_RUN_LO_CLOSED 0 true), 0, by dsimp only; decide +kernel⟩,
    ⟨((wit .ready).modPhs 0 fun x => { x with pulse := true }), 0, 100, by decide +kernel⟩,
    ⟨((wit .ready).modPhs 0 fun x => { x with pulse := true }), 0, by decide +kernel⟩,
    ⟨(((wit .ready).setPhase 0 true false 0).modPhs 0 fun v => { v with openRun := 3 }), 0, by decide +kernel⟩,
    ⟨((wit .ready).setB (F.PHASE_OV_STAT_ACTIVE.nth 0) false), 0, by decide +kernel⟩,
    ⟨((wit .ready).setB (F.PHASE_OV_STAT_ACTIVE.nth 0) true), 0, by decide +kernel⟩,
    ⟨((wit .ready).setBit F.LOOP_RUN_LO_CLOSED (4 * 0) true), 0, by decide +kernel⟩,
    ⟨((wit .ready).setB (F.OUTLET_FB_STAT_LOST_V.inst 0) true), 0, by decide +kernel⟩,
    ⟨(wit .ready), 0, 0, by dsimp only; decide +kernel⟩⟩

/-- States and operands that meet the hypotheses of each clause of GroupRouting that has any. -/
theorem witness_GroupRouting :
  (∃ (s : State) (g : Fin 12), s.hasGroup g = true ∧ s.stage g = .matching ∧ s.stagesRun = true ∧ s.matchReached g = true) ∧
  (∃ (s : State) (g : Fin 12), s.hasGroup g = true ∧ s.stage g = .matching ∧ s.stagesRun = true ∧ s.matchReached g = false) ∧
  (∃ (s : State) (g : Fin 12) (ms : Nat),
    let o := (s.grp g).phys
    let t := (s.setFb (matrixCoil g o) true).set (F.GROUP_TRAVEL_CLOSE_MS.inst g) (satTo 16 ms)
    let u : State := { t with safe := { t.safe with travelled := setBitOf t.safe.travelled (matrixCoil g o) true } }
    s.hasGroup g = true ∧ s.stage g = .closing ∧ s.stagesRun = true ∧ s.coilOn (matrixCoil g o) = true ∧ (u.grp g).faultAfter = false ∧ (u.grp g).leaveAfterClose = false) ∧
  (∃ (s : State) (g : Fin 12), s.hasGroup g = true ∧ s.stage g = .closing ∧ s.stagesRun = true) ∧
  (∃ (s : State) (g : Fin 12), s.hasGroup g = true ∧ s.stage g = .leaving ∧ s.stagesRun = true ∧ s.refWithinCap (s.grp g).phys = true) ∧
  (∃ (s : State) (g : Fin 12), s.hasGroup g = true ∧ s.stage g = .leaving ∧ s.stagesRun = true) ∧
  (∃ (s : State) (g : Fin 12), s.hasGroup g = true ∧ s.stage g = .unloading ∧ s.stagesRun = true) ∧
  (∃ (s : State) (g : Fin 12), s.hasGroup g = true ∧ s.stage g = .unloading ∧ s.stagesRun = true) ∧
  (∃ (s : State) (g : Fin 12) (ms : Nat),
    let i := matrixCoil g (s.grp g).phys
    let t := (s.setFb i false).set (F.GROUP_TRAVEL_OPEN_MS.inst g) (satTo 16 ms)
    let u : State := { t with safe := { t.safe with weldedSince := setBitOf t.safe.weldedSince i false } }
    s.hasGroup g = true ∧ s.stagesRun = true ∧ (s.grp g).phys < 4 ∧ s.coilOn i = false ∧ u.stage g = .opening) ∧
  (∃ (s : State) (g : Fin 12), s.hasGroup g = true ∧ s.stage g = .opening ∧ s.stagesRun = true) ∧
  (∃ (s : State) (g : Fin 12),
    let t := s.modGrp g fun v => { v with gflt := true, gfltDue := false }
    s.hasGroup g = true ∧ s.stagesRun = true ∧ t.stagesRun = true) ∧
  (∃ (s : State) (g : Fin 12),
    let t := s.modGrp g fun v => { v with gflt := true, gfltDue := true }
    s.hasGroup g = true ∧ s.stagesRun = false ∧ t.stagesRun = false) ∧
  (∃ (s : State) (g : Fin 12),
    let t := s.modGrp g fun v => { v with gflt := false }
    s.reaches (0x0E + g.val) 0x008 = true ∧ t.stagesRun = true ∧ t.stage g = .fault ∧ t.route g = 0xFF ∧ (t.grp g).phys = 0xFF ∧ ((List.range 4).all fun o => !t.fbClosed (matrixCoil g o)) = true) ∧
  (∃ (s : State) (g : Fin 12), s.reaches (0x0E + g.val) 0x008 = true) :=
  ⟨⟨((wit .ready).set (F.GROUP_STATUS_STAGE.inst 0) 1), 0, by decide +kernel⟩,
    ⟨(((wit .ready).set (F.GROUP_STATUS_STAGE.inst 0) 1).set (F.GROUP_VOUT_MV.inst 0) 100000), 0, by decide +kernel⟩,
    ⟨(((((((wit .ready).set (F.GROUP_STATUS_STAGE.inst 0) 2).modGrp 0 fun x => { x with faultAfter := false }).modGrp 0 fun x => { x with leaveAfterClose := false }).set (F.GROUP_STATUS_STAGE.inst 0) 2).modGrp 0 fun v => { v with phys := 0 }).setBit F.SAFE_COIL_CMD_LO_CMD 0 true), 0, 0, by dsimp only; decide +kernel⟩,
    ⟨((wit .ready).set (F.GROUP_STATUS_STAGE.inst 0) 2), 0, by decide +kernel⟩,
    ⟨((wit .ready).set (F.GROUP_STATUS_STAGE.inst 0) 4), 0, by decide +kernel⟩,
    ⟨((wit .ready).set (F.GROUP_STATUS_STAGE.inst 0) 4), 0, by decide +kernel⟩,
    ⟨((wit .ready).set (F.GROUP_STATUS_STAGE.inst 0) 5), 0, by decide +kernel⟩,
    ⟨((wit .ready).set (F.GROUP_STATUS_STAGE.inst 0) 5), 0, by decide +kernel⟩,
    ⟨(((wit .ready).set (F.GROUP_STATUS_STAGE.inst 0) 6).modGrp 0 fun v => { v with phys := 0 }), 0, 0, by dsimp only; decide +kernel⟩,
    ⟨((wit .ready).set (F.GROUP_STATUS_STAGE.inst 0) 6), 0, by decide +kernel⟩,
    ⟨(wit .ready), 0, by dsimp only; decide +kernel⟩,
    ⟨(wit .vault), 0, by dsimp only; decide +kernel⟩,
    ⟨(((wit .ready).set (F.GROUP_STATUS_STAGE.inst 0) 8).modGrp 0 fun x => { x with phys := 0xFF }), 0, by dsimp only; decide +kernel⟩,
    ⟨(wit .ready), 0, by decide +kernel⟩⟩

/-- States and operands that meet the hypotheses of each clause of FastLoops that has any. -/
theorem witness_FastLoops :
  (∃ (s : State), s.reaches 0x1B 0x040 = true) ∧
  (∃ (s : State) (n : Fin 4), s.hasOutlet n = true ∧ s.stagesRun = true ∧ s.mode ≠ .dormant) ∧
  (∃ (s : State) (k : Fin 64), s.stagesRun = true ∧ 16 ≤ k.val ∧ s.slotState k = 2) ∧
  (∃ (s : State) (k : Fin 64), s.stagesRun = true ∧ k.val < 16 ∧ k.val < s.fastSlots ∧ s.slotState k = 2) ∧
  (∃ (s : State) (n : Fin 4), s.hasOutlet n = true ∧ s.stagesRun = true ∧ s.dirDiffers n = true ∧ (s.outSt n).ihiUa = 0 ∧ s.icZero n = true) ∧
  (∃ (s : State) (n : Nat) (vc : Int) (ic : Int),
    let a := (s.measure n vc ic).when (!s.fbFlagged n) fun s => s.modOut n fun o => { o with lastIc := ic.natAbs }
    let b := (a.when (!a.prechargeOk n) fun s => s.setB (F.OUTLET_STATUS_PRECHARGE_OK.inst n) false).refreshSafeMa n
    let c := b.set (F.OUTLET_APT_MA_MA.inst n) (b.aptMa n)
    let d := ((c.setI (F.OUTLET_ITGT_MA_MA.inst n) (if c.exporting n then -(c.targetMa n : Int) else (c.targetMa n : Int))).modOut n fun o => { o with missRun := 0 }).judgeDirection n
    d.slotsClosed n = false) ∧
  (∃ (s : State) (n : Nat) (vc : Int) (ic : Int),
    let a := (s.measure n vc ic).when (!s.fbFlagged n) fun s => s.modOut n fun o => { o with lastIc := ic.natAbs }
    let b := (a.when (!a.prechargeOk n) fun s => s.setB (F.OUTLET_STATUS_PRECHARGE_OK.inst n) false).refreshSafeMa n
    let c := b.set (F.OUTLET_APT_MA_MA.inst n) (b.aptMa n)
    let d := ((c.setI (F.OUTLET_ITGT_MA_MA.inst n) (if c.exporting n then -(c.targetMa n : Int) else (c.targetMa n : Int))).modOut n fun o => { o with missRun := 0 }).judgeDirection n
    d.slotsClosed n = true ∧ (d.outSt n).reaction ≠ .none) ∧
  (∃ (s : State) (n : Nat) (vc : Int) (ic : Int),
    let a := (s.measure n vc ic).when (!s.fbFlagged n) fun s => s.modOut n fun o => { o with lastIc := ic.natAbs }
    let b := (a.when (!a.prechargeOk n) fun s => s.setB (F.OUTLET_STATUS_PRECHARGE_OK.inst n) false).refreshSafeMa n
    let c := b.set (F.OUTLET_APT_MA_MA.inst n) (b.aptMa n)
    let d := ((c.setI (F.OUTLET_ITGT_MA_MA.inst n) (if c.exporting n then -(c.targetMa n : Int) else (c.targetMa n : Int))).modOut n fun o => { o with missRun := 0 }).judgeDirection n
    d.slotsClosed n = true ∧ (d.outSt n).reaction = .none) :=
  ⟨⟨(wit .ready), by decide +kernel⟩,
    ⟨(wit .ready), 0, by decide +kernel⟩,
    ⟨((wit .ready).wrByte (slotBase 16) 2), 16, by decide +kernel⟩,
    ⟨((wit .ready).wrByte (slotBase 0) 2), 0, by decide +kernel⟩,
    ⟨(((wit .ready).modOut 0 fun x => { x with ihiUa := 0 }).setB (F.OUTLET_DIR_EXPORT.inst 0) true), 0, by decide +kernel⟩,
    ⟨(wit .ready), 0, 0, 0, by dsimp only; decide +kernel⟩,
    ⟨(((wit .ready).setBit F.LOOP_RUN_LO_CLOSED 0 true).modOut 0 fun o => { o with reaction := .hold }), 0, 0, 0, by dsimp only; decide +kernel⟩,
    ⟨(((wit .ready).setBit F.LOOP_RUN_LO_CLOSED (4 * 0) true).modOut 0 fun x => { x with reaction := .none }), 0, 0, 0, by dsimp only; decide +kernel⟩⟩

/-- States and operands that meet the hypotheses of each clause of OutletSequences that has any. -/
theorem witness_OutletSequences :
  (∃ (s : State) (n : Fin 4), s.hasOutlet n = true ∧ s.ostate n = .check ∧ s.stagesRun = true ∧ (s.outSt n).seq ≠ 0) ∧
  (∃ (s : State) (n : Fin 4), s.hasOutlet n = true ∧ s.ostate n = .precharge ∧ s.prechargeOk n = true ∧ s.on (F.OUTLET_STATUS_PRECHARGE_OK.inst n) = false) ∧
  (∃ (s : State) (n : Fin 4), s.hasOutlet n = true ∧ s.ostate n = .precharge ∧ s.on (F.OUTLET_STATUS_PRECHARGE_OK.inst n) = false) ∧
  (∃ (s : State) (n : Fin 4), s.hasOutlet n = true ∧ s.ostate n = .stopping ∧ (s.outSt n).refUa = 0 ∧ s.icZero n = true ∧ s.stagesRun = true) ∧
  (∃ (s : State) (n : Fin 4), s.hasOutlet n = true ∧ s.ostate n = .stopping ∧ (s.outSt n).seq = 6) ∧
  (∃ (s : State) (n : Fin 4), s.hasOutlet n = true ∧ s.ostate n = .stopping ∧ (s.outSt n).seq = 6) ∧
  (∃ (s : State) (n : Fin 4), s.hasOutlet n = true ∧ s.ostate n = .stopping ∧ (s.outSt n).seq = 6) :=
  ⟨⟨(((wit .ready).set (F.OUTLET_STATUS_STATE.inst 0) 3).modOut 0 fun x => { x with seq := 1 }), 0, by decide +kernel⟩,
    ⟨(((wit .ready).set (F.OUTLET_STATUS_STATE.inst 0) 4).setB (F.OUTLET_STATUS_PRECHARGE_OK.inst 0) false), 0, by decide +kernel⟩,
    ⟨(((wit .ready).set (F.OUTLET_STATUS_STATE.inst 0) 4).setB (F.OUTLET_STATUS_PRECHARGE_OK.inst 0) false), 0, by decide +kernel⟩,
    ⟨(((wit .ready).set (F.OUTLET_STATUS_STATE.inst 0) 6).modOut 0 fun x => { x with refUa := 0 }), 0, by decide +kernel⟩,
    ⟨(((wit .ready).set (F.OUTLET_STATUS_STATE.inst 0) 6).modOut 0 fun x => { x with seq := 6 }), 0, by decide +kernel⟩,
    ⟨(((wit .ready).set (F.OUTLET_STATUS_STATE.inst 0) 6).modOut 0 fun x => { x with seq := 6 }), 0, by decide +kernel⟩,
    ⟨(((wit .ready).set (F.OUTLET_STATUS_STATE.inst 0) 6).modOut 0 fun x => { x with seq := 6 }), 0, by decide +kernel⟩⟩

/-- States and operands that meet the hypotheses of each clause of FeedbackFaults that has any. -/
theorem witness_FeedbackFaults :
  (∃ (s : State) (n : Fin 4), s.hasOutlet n = true ∧ s.stagesRun = true) ∧
  (∃ (s : State) (n : Fin 4), s.hasOutlet n = true ∧ s.stagesRun = true) ∧
  (∃ (s : State) (n : Fin 4), s.hasOutlet n = true ∧ s.stagesRun = true) ∧
  (∃ (s : State) (n : Fin 4), s.hasOutlet n = true ∧ s.stagesRun = true ∧ s.slotsClosed n = true) ∧
  (∃ (s : State) (n : Fin 4), s.hasOutlet n = true ∧ s.stagesRun = true ∧ s.slotsClosed n = true) ∧
  (∃ (s : State) (n : Fin 4) (vc : Int) (vm : Int) (ic : Int) (im : Int),
    let pct := s.get (F.OUTLET_FB_WIN_PCT.inst n)
    let bv := fbDisagrees vc vm (s.get (F.OUTLET_FB_WIN_V.inst n)) pct
    let bi := fbDisagrees ic im (s.get (F.OUTLET_FB_WIN_A.inst n)) pct
    let t := s.modOut n fun o => { o with fbRunV := if bv then o.fbRunV + 1 else 0, fbRunI := if bi then o.fbRunI + 1 else 0 }
    s.hasOutlet n = true ∧ s.stagesRun = true ∧ s.slotsClosed n = true ∧ (t.outSt n).fbRunV ≠ 20 ∧ (t.outSt n).fbRunI ≠ 20) ∧
  (∃ (s : State) (n : Fin 4) (vc : Int) (vm : Int) (ic : Int) (im : Int),
    let pct := s.get (F.OUTLET_FB_WIN_PCT.inst n)
    let bv := fbDisagrees vc vm (s.get (F.OUTLET_FB_WIN_V.inst n)) pct
    let bi := fbDisagrees ic im (s.get (F.OUTLET_FB_WIN_A.inst n)) pct
    let t := s.modOut n fun o => { o with fbRunV := if bv then o.fbRunV + 1 else 0, fbRunI := if bi then o.fbRunI + 1 else 0 }
    s.hasOutlet n = true ∧ s.stagesRun = true ∧ s.slotsClosed n = true ∧ (t.outSt n).fbRunV = 20 ∧ (t.outSt n).fbRunI ≠ 20) ∧
  (∃ (s : State) (n : Fin 4) (vc : Int) (vm : Int) (ic : Int) (im : Int),
    let pct := s.get (F.OUTLET_FB_WIN_PCT.inst n)
    let bv := fbDisagrees vc vm (s.get (F.OUTLET_FB_WIN_V.inst n)) pct
    let bi := fbDisagrees ic im (s.get (F.OUTLET_FB_WIN_A.inst n)) pct
    let t := s.modOut n fun o => { o with fbRunV := if bv then o.fbRunV + 1 else 0, fbRunI := if bi then o.fbRunI + 1 else 0 }
    s.hasOutlet n = true ∧ s.stagesRun = true ∧ s.slotsClosed n = true ∧ (t.outSt n).fbRunV ≠ 20 ∧ (t.outSt n).fbRunI = 20) ∧
  (∃ (s : State) (n : Fin 4) (vc : Int) (vm : Int) (ic : Int) (im : Int),
    let pct := s.get (F.OUTLET_FB_WIN_PCT.inst n)
    let bv := fbDisagrees vc vm (s.get (F.OUTLET_FB_WIN_V.inst n)) pct
    let bi := fbDisagrees ic im (s.get (F.OUTLET_FB_WIN_A.inst n)) pct
    let t := s.modOut n fun o => { o with fbRunV := if bv then o.fbRunV + 1 else 0, fbRunI := if bi then o.fbRunI + 1 else 0 }
    s.hasOutlet n = true ∧ s.stagesRun = true ∧ s.slotsClosed n = true ∧ (t.outSt n).fbRunV = 20 ∧ (t.outSt n).fbRunI = 20) ∧
  (∃ (s : State) (n : Fin 4), s.hasOutlet n = true ∧ s.stagesRun = true ∧ (s.outSt n).reaction = .hold) ∧
  (∃ (s : State) (n : Fin 4), s.hasOutlet n = true ∧ s.stagesRun = true ∧ (s.outSt n).reaction = .ramp ∧ (s.outSt n).refUa = 0) :=
  ⟨⟨(wit .ready), 0, by decide +kernel⟩,
    ⟨(wit .ready), 0, by decide +kernel⟩,
    ⟨(wit .ready), 0, by decide +kernel⟩,
    ⟨((wit .ready).setBit F.LOOP_RUN_LO_CLOSED (4 * 0) true), 0, by decide +kernel⟩,
    ⟨((wit .ready).setBit F.LOOP_RUN_LO_CLOSED (4 * 0) true), 0, by decide +kernel⟩,
    ⟨((((wit .ready).setBit F.LOOP_RUN_LO_CLOSED (4 * 0) true).modOut 0 fun x => { x with fbRunV := 1 }).modOut 0 fun x => { x with fbRunI := 1 }), 0, 0, 0, 0, 0, by dsimp only; decide +kernel⟩,
    ⟨(((((wit .ready).setBit F.LOOP_RUN_LO_CLOSED (4 * 0) true).modOut 0 fun x => { x with fbRunV := 20 }).modOut 0 fun x => { x with fbRunI := 1 }).modOut 0 fun o => { o with fbRunV := 19 }), 0, 1000000000, 0, 0, 0, by dsimp only; decide +kernel⟩,
    ⟨(((((wit .ready).setBit F.LOOP_RUN_LO_CLOSED (4 * 0) true).modOut 0 fun x => { x with fbRunV := 1 }).modOut 0 fun x => { x with fbRunI := 20 }).modOut 0 fun o => { o with fbRunI := 19 }), 0, 0, 0, 1000000000, 0, by dsimp only; decide +kernel⟩,
    ⟨(((((wit .ready).setBit F.LOOP_RUN_LO_CLOSED (4 * 0) true).modOut 0 fun x => { x with fbRunV := 20 }).modOut 0 fun x => { x with fbRunI := 20 }).modOut 0 fun o => { o with fbRunV := 19, fbRunI := 19 }), 0, 1000000000, 0, 1000000000, 0, by dsimp only; decide +kernel⟩,
    ⟨((wit .ready).modOut 0 fun x => { x with reaction := .hold }), 0, by decide +kernel⟩,
    ⟨(((wit .ready).modOut 0 fun x => { x with reaction := .ramp }).modOut 0 fun x => { x with refUa := 0 }), 0, by decide +kernel⟩⟩

/-- States and operands that meet the hypotheses of each clause of SlowLoops that has any. -/
theorem witness_SlowLoops :
  (∃ (s : State) (k : Fin 48), s.stagesRun = true ∧ s.mode ≠ .dormant ∧ s.slotState (16 + k) = 2 ∧ s.pvInvalid (s.rdByte (slotBase (16 + k) + 1)) = false) ∧
  (∃ (s : State) (k : Fin 48), s.stagesRun = true ∧ s.mode ≠ .dormant ∧ s.slotState (16 + k) = 2 ∧ s.pvInvalid (s.rdByte (slotBase (16 + k) + 1)) = true) ∧
  (∃ (s : State) (k : Fin 48), s.stagesRun = true ∧ s.mode ≠ .dormant ∧ s.slotState (16 + k) = 1) ∧
  (∃ (s : State) (k : Fin 48), s.stagesRun = true ∧ s.mode ≠ .dormant ∧ s.slotState (16 + k) = 0) ∧
  (∃ (s : State) (k : Fin 64) (w : Fin 16), s.tableReach 8 (64 * k + 4 * w) = true ∧ 16 ≤ k.val ∧ 1 ≤ w.val ∧ w.val ≤ 8 ∧ s.slotState k ≠ 2) ∧
  (∃ (s : State) (k : Fin 64) (w : Fin 16), s.tableReach 8 (64 * k + 4 * w) = true ∧ 16 ≤ k.val ∧ 1 ≤ w.val ∧ w.val ≤ 8 ∧ s.slotState k = 2) ∧
  (∃ (s : State) (k : Fin 64) (v : Word), s.tableReach 8 (64 * k + 4) = true ∧ k.val < 16 ∧ k.val < s.fastSlots ∧ s.slotState k = 0 ∧ 400000 < v.toNat) ∧
  (∃ (s : State) (c : Fin 48), s.chEnabled c = true ∧ s.on (F.SENS_CH_CFG_STUCK_EN.nth c) = true ∧ s.chInvalid c = false) ∧
  (∃ (s : State) (c : Fin 48), s.chInvalid c = true) ∧
  (∃ (s : State) (c : Fin 48) (v : Word), s.reaches 0x42 (0x100 + c * 0x10) = true ∧ 5 < bits v.toNat 15 12) ∧
  (∃ (s : State) (c : Fin 48) (v : Word),
    let kind := bits v.toNat 15 12
    s.reaches 0x42 (0x100 + c * 0x10) = true ∧ kind ≤ 5 ∧ bits v.toNat 9 8 ≠ 2) :=
  ⟨⟨((wit .ready).wrByte (slotBase 16) 2), 0, by decide +kernel⟩,
    ⟨((((wit .ready).wrByte (slotBase 16) 2).wrByte (slotBase 16 + 1) 0).setBit F.SENS_INVALID_LO_CH 0 true), 0, by decide +kernel⟩,
    ⟨((wit .ready).wrByte (slotBase 16) 1), 0, by decide +kernel⟩,
    ⟨(wit .ready), 0, by decide +kernel⟩,
    ⟨(wit .ready), 16, 1, by decide +kernel⟩,
    ⟨((wit .ready).wrByte (slotBase 16) 2), 16, 1, by decide +kernel⟩,
    ⟨(wit .ready), 0, 400001, by decide +kernel⟩,
    ⟨(((wit .ready).setB (F.SENS_CH_CFG_STUCK_EN.nth 0) true).setB (F.SENS_CH_CFG_EN.nth 0) true), 0, by decide +kernel⟩,
    ⟨(((wit .ready).setB (F.SENS_CH_CFG_EN.nth 0) true).setBit F.SENS_INVALID_LO_CH 0 true), 0, by decide +kernel⟩,
    ⟨(wit .ready), 0, 0x6000, by decide +kernel⟩,
    ⟨(wit .ready), 0, 0, by dsimp only; decide +kernel⟩⟩

/-- States and operands that meet the hypotheses of each clause of Cooling that has any. -/
theorem witness_Cooling :
  (∃ (s : State) (n : Fin 4) (v : Word), s.reaches 0x1C (0x080 + n * 0x40) = true ∧ s.hasOutlet n = true ∧ v.toNat.testBit 31 = true ∧ bits v.toNat 29 24 ≠ 0x3F ∧ bits v.toNat 21 16 ≠ 0x3F ∧ s.unstableNode n = none) ∧
  (∃ (s : State) (n : Fin 4) (v : Word) (k : Nat), s.reaches 0x1C (0x080 + n * 0x40) = true ∧ s.hasOutlet n = true ∧ v.toNat.testBit 31 = true ∧ bits v.toNat 29 24 ≠ 0x3F ∧ bits v.toNat 21 16 ≠ 0x3F ∧ s.unstableNode n = some k) ∧
  (∃ (s : State), s.mode ≠ .dormant) ∧
  (∃ (s : State) (n : Fin 4), (s.coolOf n).running = true ∧ (s.coolOf n).pinBad0 = true) ∧
  (∃ (s : State) (n : Fin 4), (s.coolOf n).running = true ∧ (s.coolOf n).pinBad1 = true) ∧
  (∃ (s : State) (n : Fin 4), (s.coolOf n).running = true ∧ (s.coolOf n).orderBad = true) ∧
  (∃ (s : State) (n : Fin 4), (s.coolOf n).running = true ∧ (s.coolOf n).pressBad = true) ∧
  (∃ (s : State) (n : Fin 4), (s.coolOf n).running = true ∧ (s.coolOf n).flowBad = true) ∧
  (∃ (s : State) (n : Fin 4) (v : Word), s.reaches 0x1C (0x19C + n * 0x20) = true ∧ v.toNat.testBit 7 = true ∧ v.toNat.testBit 8 = false ∧ v.toNat.testBit 9 = false ∧ (s.coolOf n).pinBad0 = false) ∧
  (∃ (s : State) (n : Fin 4) (v : Word), s.reaches 0x1C (0x19C + n * 0x20) = true ∧ v.toNat.testBit 7 = true ∧ v.toNat.testBit 8 = false ∧ v.toNat.testBit 9 = false ∧ (s.coolOf n).pinBad0 = true) :=
  ⟨⟨((((wit .ready).set (F.COOL_C_PIN_J_PER_K.nth 0) 0x49742400).set (F.COOL_C_CORE_J_PER_K.nth 0) 0x49742400).set (F.COOL_C_COOL_J_PER_K.nth 0) 0x49742400), 0, 0x80000000, by decide +kernel⟩,
    ⟨(wit .ready), 0, 0x80000000, 0, by decide +kernel⟩,
    ⟨(wit .ready), by decide +kernel⟩,
    ⟨(((wit .ready).modCool 0 fun x => { x with running := true }).modCool 0 fun x => { x with pinBad0 := true }), 0, by decide +kernel⟩,
    ⟨(((wit .ready).modCool 0 fun x => { x with running := true }).modCool 0 fun x => { x with pinBad1 := true }), 0, by decide +kernel⟩,
    ⟨(((wit .ready).modCool 0 fun x => { x with running := true }).modCool 0 fun x => { x with orderBad := true }), 0, by decide +kernel⟩,
    ⟨(((wit .ready).modCool 0 fun x => { x with running := true }).modCool 0 fun x => { x with pressBad := true }), 0, by decide +kernel⟩,
    ⟨(((wit .ready).modCool 0 fun x => { x with running := true }).modCool 0 fun x => { x with flowBad := true }), 0, by decide +kernel⟩,
    ⟨((wit .ready).modCool 0 fun x => { x with pinBad0 := false }), 0, 0x80, by decide +kernel⟩,
    ⟨((wit .ready).modCool 0 fun x => { x with pinBad0 := true }), 0, 0x80, by decide +kernel⟩⟩

/-- States and operands that meet the hypotheses of each clause of LinkSignals that has any. -/
theorem witness_LinkSignals :
  (∃ (s : State) (n : Fin 4) (v : Word), s.reaches (0x1D + n) 0x040 = true ∧ bits v.toNat 1 0 ≠ s.linkKind n ∧ s.ostate n ≠ .idle) ∧
  (∃ (s : State) (n : Fin 4) (v : Word), s.reaches (0x1D + n) 0x040 = true ∧ bits v.toNat 1 0 = s.linkKind n ∧ bits v.toNat 9 8 ≠ 2 ∧ bits v.toNat 11 10 ≠ 1) ∧
  (∃ (s : State) (n : Fin 4) (v : Word), s.reaches (0x1D + n) 0x040 = true ∧ bits v.toNat 1 0 ≠ s.linkKind n ∧ s.ostate n = .idle ∧ bits v.toNat 9 8 ≠ 2 ∧ bits v.toNat 11 10 ≠ 1) ∧
  (∃ (s : State) (n : Fin 4) (v : Word), s.reaches (0x1D + n) 0x040 = true ∧ (¬(bits v.toNat 1 0 ≠ s.linkKind n ∧ s.ostate n ≠ .idle)) ∧ bits v.toNat 9 8 = 2 ∧ s.mode ≠ .sealedService) ∧
  (∃ (s : State) (n : Fin 4) (v : Word), s.reaches (0x1D + n) 0x058 = true ∧ [500, 625, 800, 1000, 1250, 1600, 2000].contains (bits v.toNat 31 16) = true) ∧
  (∃ (s : State) (n : Fin 4) (v : Word), s.reaches (0x1D + n) 0x058 = true ∧ [500, 625, 800, 1000, 1250, 1600, 2000].contains (bits v.toNat 31 16) = false) ∧
  (∃ (s : State) (n : Fin 4) (isB : Bool) (mv : Int),
    let l := s.levelOf n isB mv
    s.linkOn n = true ∧ l ≠ 0xF) ∧
  (∃ (s : State) (n : Fin 4) (isB : Bool) (mv : Int), s.linkOn n = true ∧ s.levelOf n isB mv = 0xF) ∧
  (∃ (s : State) (n : Fin 4) (isB : Bool) (mv : Int), s.linkOn n = true ∧ s.levelOf n isB mv = 0xF) ∧
  (∃ (s : State) (n : Fin 4) (mv : Int), s.linkOn n = true ∧ s.linkKind n = 2 ∧ s.on (F.LINK_STATUS_PWM_ON.inst n) = true ∧ s.getI (F.LINK_CP_SAMP_LOW_MAX.inst n) < mv) ∧
  (∃ (s : State) (n : Fin 4),
    let c := s.get (F.LINK_LATCH_CH.inst n)
    s.linkOn n = true ∧ s.linkActs = true ∧ c < 32 ∧ s.on (F.LINK_STATUS_LATCH_CMD.inst n) = false ∧ s.ostate n = .session) ∧
  (∃ (s : State) (n : Fin 4), s.hasOutlet n = true ∧ s.linkActs = true ∧ s.latchHeld n = false ∧ s.ostate n = .release ∧ (s.vc n).natAbs < 60000 ∧ s.unlatchCause n ≠ 0 ∧ s.on (F.LINK_STATUS_LATCH_CMD.inst n) = true) ∧
  (∃ (s : State) (n : Fin 4), s.latchHeld n = true) ∧
  (∃ (s : State) (n : Fin 4), s.reaches (0x1D + n) 0x008 = true) ∧
  (∃ (s : State) (n : Fin 4), s.hasOutlet n = true ∧ s.ostate n = .release ∧ s.get (F.LINK_LATCH_AUTO_S.inst n) ≠ 0) ∧
  (∃ (s : State) (n : Fin 4),
    let t := (s.setB (F.LINK_STATUS_LATCH_FB.inst n) false).ev E.LINK_LATCH_FAULT n [1, 0]
    s.hasOutlet n = true ∧ s.get (F.LINK_LATCH_FB_CH.inst n) ≠ 0x3F ∧ s.on (F.LINK_STATUS_LATCH_CMD.inst n) = true ∧ t.ostate n = .energy) :=
  ⟨⟨((wit .ready).set (F.OUTLET_STATUS_STATE.inst 0) 2), 0, 1, by decide +kernel⟩,
    ⟨(wit .ready), 0, 0, by decide +kernel⟩,
    ⟨((wit .ready).set (F.OUTLET_STATUS_STATE.inst 0) 0), 0, 1, by decide +kernel⟩,
    ⟨(wit .ready), 0, 0x200, by decide +kernel⟩,
    ⟨(wit .ready), 0, 32768000, by decide +kernel⟩,
    ⟨(wit .ready), 0, 0, by decide +kernel⟩,
    ⟨((((wit .ready).set (F.LINK_CFG_KIND.inst 0) 2).setI ((F.LINK_WIN_A_LO.inst 0).nth 0) (-100)).setI ((F.LINK_WIN_A_HI.inst 0).nth 0) 100), 0, false, 0, by dsimp only; decide +kernel⟩,
    ⟨((wit .ready).set (F.LINK_CFG_KIND.inst 0) 2), 0, false, 0, by decide +kernel⟩,
    ⟨((wit .ready).set (F.LINK_CFG_KIND.inst 0) 2), 0, false, 0, by decide +kernel⟩,
    ⟨(((wit .ready).set (F.LINK_CFG_KIND.inst 0) 2).setB (F.LINK_STATUS_PWM_ON.inst 0) true), 0, 0, by decide +kernel⟩,
    ⟨(((((wit .ready).set (F.LINK_CFG_KIND.inst 0) 2).setB (F.LINK_STATUS_LATCH_CMD.inst 0) false).set (F.OUTLET_STATUS_STATE.inst 0) 2).set (F.LINK_LATCH_CH.inst 0) 5), 0, by dsimp only; decide +kernel⟩,
    ⟨((((wit .ready).set (F.OUTLET_STATUS_STATE.inst 0) 8).setB (F.LINK_STATUS_LATCH_CMD.inst 0) true).set (F.LINK_STATUS_COMBINED.inst 0) 3), 0, by decide +kernel⟩,
    ⟨((wit .ready).setBit (F.SAFE_OUT_TRIP_LATCHED.nth 0) 4 true), 0, by decide +kernel⟩,
    ⟨(wit .ready), 0, by decide +kernel⟩,
    ⟨((((wit .ready).set (F.OUTLET_STATUS_STATE.inst 0) 8).set (F.LINK_LATCH_AUTO_S.inst 0) 1).set (F.LINK_LATCH_FB_CH.inst 0) 1), 0, by decide +kernel⟩,
    ⟨((((wit .ready).setB (F.LINK_STATUS_LATCH_CMD.inst 0) true).set (F.OUTLET_STATUS_STATE.inst 0) 5).set (F.LINK_LATCH_FB_CH.inst 0) 1), 0, by dsimp only; decide +kernel⟩⟩

/-- States and operands that meet the hypotheses of each clause of Transports that has any. -/
theorem witness_Transports :
  (∃ (s : State) (n : Fin 4), s.linkMine = true ∧ s.stagesRun = true ∧ s.linkOn n = true ∧ s.linkKind n = 1 ∧ s.lstate n = 1 ∧ (s.link n).phyOn = false ∧ (s.modLink n fun l => { l with phyOn := true }).t1sMode n < 2) ∧
  (∃ (s : State) (n : Fin 4) (quiet : Bool),
    let t := s.modLink n fun l => { l with conflict := l.conflict && !quiet }
    s.linkMine = true ∧ s.stagesRun = true ∧ s.linkOn n = true ∧ s.linkKind n = 1 ∧ (s.link n).phyOn = true ∧ s.t1sMode n < 2 ∧ (t.link n).conflict = false ∧ t.lstate n = 1) ∧
  (∃ (s : State) (n : Fin 4) (quiet : Bool),
    let t := s.modLink n fun l => { l with conflict := l.conflict && !quiet }
    s.linkMine = true ∧ s.stagesRun = true ∧ s.linkOn n = true ∧ s.linkKind n = 1 ∧ (s.link n).phyOn = true ∧ s.t1sMode n < 2 ∧ (t.link n).conflict = false ∧ t.lstate n = 5) ∧
  (∃ (s : State) (n : Fin 4) (quiet : Bool),
    let t := s.modLink n fun l => { l with conflict := l.conflict && !quiet }
    s.linkMine = true ∧ s.stagesRun = true ∧ s.linkOn n = true ∧ s.linkKind n = 1 ∧ (s.link n).phyOn = true ∧ s.t1sMode n < 2 ∧ (t.link n).conflict = true) ∧
  (∃ (s : State) (n : Fin 4), s.linkOn n = true ∧ s.linkMine = true ∧ s.linkKind n = 1 ∧ s.lstate n = 4 ∧ s.stagesRun = true) ∧
  (∃ (s : State) (n : Fin 4), s.linkMine = true ∧ s.stagesRun = true ∧ s.linkOn n = true ∧ s.linkKind n = 1 ∧ s.t1sMode n = 0 ∧ (s.link n).phyOn = true) ∧
  (∃ (s : State) (n : Fin 4), s.linkOn n = true ∧ s.linkMine = true ∧ s.linkKind n = 2) ∧
  (∃ (s : State) (n : Fin 4), s.linkMine = true ∧ s.stagesRun = true ∧ s.linkOn n = true ∧ s.linkKind n = 2 ∧ s.lstate n = 2) ∧
  (∃ (s : State) (n : Fin 4), s.linkOn n = true ∧ s.linkMine = true ∧ s.linkKind n = 2 ∧ s.lstate n = 2) ∧
  (∃ (s : State) (n : Fin 4), s.reaches (0x1D + n) 0x008 = true ∧ s.linkOn n = true ∧ s.ostate n ≠ .idle ∧ s.linkKind n = 1) ∧
  (∃ (s : State) (n : Fin 4), s.reaches (0x1D + n) 0x008 = true ∧ s.linkOn n = true ∧ s.ostate n ≠ .idle ∧ s.linkKind n = 2 ∧ s.lstate n = 6) :=
  ⟨⟨((((wit .ready).set (F.LINK_CFG_KIND.inst 0) 1).set (F.LINK_STATUS_LSTATE.inst 0) 1).modLink 0 fun x => { x with phyOn := false }), 0, by decide +kernel⟩,
    ⟨(((((wit .ready).set (F.LINK_CFG_KIND.inst 0) 1).modLink 0 fun x => { x with phyOn := true }).modLink 0 fun x => { x with conflict := false }).set (F.LINK_STATUS_LSTATE.inst 0) 1), 0, false, by dsimp only; decide +kernel⟩,
    ⟨(((((wit .ready).set (F.LINK_CFG_KIND.inst 0) 1).modLink 0 fun x => { x with phyOn := true }).modLink 0 fun x => { x with conflict := false }).set (F.LINK_STATUS_LSTATE.inst 0) 5), 0, false, by dsimp only; decide +kernel⟩,
    ⟨((((wit .ready).set (F.LINK_CFG_KIND.inst 0) 1).modLink 0 fun x => { x with phyOn := true }).modLink 0 fun x => { x with conflict := true }), 0, false, by dsimp only; decide +kernel⟩,
    ⟨(((wit .ready).set (F.LINK_CFG_KIND.inst 0) 1).set (F.LINK_STATUS_LSTATE.inst 0) 4), 0, by decide +kernel⟩,
    ⟨((((wit .ready).set (F.LINK_CFG_KIND.inst 0) 1).modLink 0 fun x => { x with phyOn := true }).set (F.LINK_STATUS_LSTATE.inst 0) 4), 0, by decide +kernel⟩,
    ⟨((wit .ready).set (F.LINK_CFG_KIND.inst 0) 2), 0, by decide +kernel⟩,
    ⟨(((wit .ready).set (F.LINK_CFG_KIND.inst 0) 2).set (F.LINK_STATUS_LSTATE.inst 0) 2), 0, by decide +kernel⟩,
    ⟨(((wit .ready).set (F.LINK_CFG_KIND.inst 0) 2).set (F.LINK_STATUS_LSTATE.inst 0) 2), 0, by decide +kernel⟩,
    ⟨(((wit .ready).set (F.OUTLET_STATUS_STATE.inst 0) 2).set (F.LINK_CFG_KIND.inst 0) 1), 0, by decide +kernel⟩,
    ⟨((((wit .ready).set (F.OUTLET_STATUS_STATE.inst 0) 2).set (F.LINK_CFG_KIND.inst 0) 2).set (F.LINK_STATUS_LSTATE.inst 0) 6), 0, by decide +kernel⟩⟩

/-- States and operands that meet the hypotheses of each clause of Slac that has any. -/
theorem witness_Slac :
  (∃ (s : State) (n : Fin 4), s.linkMine = true ∧ s.stagesRun = true ∧ s.linkOn n = true ∧ s.linkKind n = 2 ∧ s.lstate n = 3 ∧ s.combined n = 1 ∧ s.on (F.LINK_STATUS_PWM_ON.inst n) = true ∧ (s.link n).runId = none ∧ s.slacStep n ≤ 2) ∧
  (∃ (s : State) (n : Fin 4) (run : Nat), s.linkMine = true ∧ s.stagesRun = true ∧ s.slacRun n run = true ∧ s.slacStep n = 2) ∧
  (∃ (s : State), s.linkMine = true ∧ s.stagesRun = true) ∧
  (∃ (s : State) (n : Fin 4) (groups : List Nat),
    let t := (s.modLink n fun l => { l with attenSum := l.attenSum + groups.sum, attenCnt := l.attenCnt + groups.length }).incSat (F.LINK_SLAC_STAT_SOUNDS_RX.inst n)
    s.linkMine = true ∧ s.stagesRun = true ∧ s.linkOn n = true ∧ s.linkKind n = 2 ∧ s.lstate n = 3 ∧ s.slacStep n = 3 ∧ t.get (F.LINK_SLAC_CFG_SOUNDS.inst n) ≤ t.get (F.LINK_SLAC_STAT_SOUNDS_RX.inst n)) ∧
  (∃ (s : State) (n : Fin 4) (groups : List Nat),
    let t := (s.modLink n fun l => { l with attenSum := l.attenSum + groups.sum, attenCnt := l.attenCnt + groups.length }).incSat (F.LINK_SLAC_STAT_SOUNDS_RX.inst n)
    s.linkMine = true ∧ s.stagesRun = true ∧ s.linkOn n = true ∧ s.linkKind n = 2 ∧ s.lstate n = 3 ∧ s.slacStep n = 3 ∧ t.get (F.LINK_SLAC_STAT_SOUNDS_RX.inst n) < t.get (F.LINK_SLAC_CFG_SOUNDS.inst n)) ∧
  (∃ (s : State) (n : Fin 4) (run : Nat), s.linkMine = true ∧ s.stagesRun = true ∧ s.slacRun n run = true ∧ s.slacStep n = 5) ∧
  (∃ (s : State) (n : Fin 4) (run : Nat), s.linkMine = true ∧ s.stagesRun = true ∧ s.slacRun n run = true ∧ s.slacStep n = 5) ∧
  (∃ (s : State) (n : Fin 4) (run : Nat), s.linkMine = true ∧ s.stagesRun = true ∧ s.slacRun n run = true ∧ s.slacStep n = 6) ∧
  (∃ (s : State) (n : Fin 4) (run : Nat), s.linkMine = true ∧ s.stagesRun = true ∧ s.slacRun n run = true) ∧
  (∃ (s : State) (n : Fin 4), s.linkOn n = true ∧ s.linkMine = true ∧ s.linkKind n = 2 ∧ s.lstate n = 3 ∧ s.stagesRun = true ∧ s.slacStep n = 2) ∧
  (∃ (s : State) (n : Fin 4), s.linkOn n = true ∧ s.linkMine = true ∧ s.linkKind n = 2 ∧ s.lstate n = 3 ∧ s.stagesRun = true ∧ s.slacStep n = 3 ∧ (s.link n).attenCnt ≠ 0) :=
  ⟨⟨((((((wit .ready).set (F.LINK_CFG_KIND.inst 0) 2).set (F.LINK_STATUS_LSTATE.inst 0) 3).set (F.LINK_STATUS_COMBINED.inst 0) 1).setB (F.LINK_STATUS_PWM_ON.inst 0) true).modLink 0 fun x => { x with runId := none }), 0, by decide +kernel⟩,
    ⟨(((((wit .ready).set (F.LINK_CFG_KIND.inst 0) 2).set (F.LINK_STATUS_LSTATE.inst 0) 3).modLink 0 fun l => { l with runId := some 0 }).set (F.LINK_SLAC_STAT_STEP.inst 0) 2), 0, 0, by decide +kernel⟩,
    ⟨(wit .ready), by decide +kernel⟩,
    ⟨(((((wit .ready).set (F.LINK_CFG_KIND.inst 0) 2).set (F.LINK_STATUS_LSTATE.inst 0) 3).set (F.LINK_SLAC_STAT_STEP.inst 0) 3).set (F.LINK_SLAC_CFG_SOUNDS.inst 0) 1), 0, [], by dsimp only; decide +kernel⟩,
    ⟨((((wit .ready).set (F.LINK_CFG_KIND.inst 0) 2).set (F.LINK_STATUS_LSTATE.inst 0) 3).set (F.LINK_SLAC_STAT_STEP.inst 0) 3), 0, [], by dsimp only; decide +kernel⟩,
    ⟨(((((wit .ready).set (F.LINK_CFG_KIND.inst 0) 2).set (F.LINK_STATUS_LSTATE.inst 0) 3).modLink 0 fun l => { l with runId := some 0 }).set (F.LINK_SLAC_STAT_STEP.inst 0) 5), 0, 0, by decide +kernel⟩,
    ⟨(((((wit .ready).set (F.LINK_CFG_KIND.inst 0) 2).set (F.LINK_STATUS_LSTATE.inst 0) 3).modLink 0 fun l => { l with runId := some 0 }).set (F.LINK_SLAC_STAT_STEP.inst 0) 5), 0, 0, by decide +kernel⟩,
    ⟨(((((wit .ready).set (F.LINK_CFG_KIND.inst 0) 2).set (F.LINK_STATUS_LSTATE.inst 0) 3).modLink 0 fun l => { l with runId := some 0 }).set (F.LINK_SLAC_STAT_STEP.inst 0) 6), 0, 0, by decide +kernel⟩,
    ⟨((((wit .ready).set (F.LINK_CFG_KIND.inst 0) 2).set (F.LINK_STATUS_LSTATE.inst 0) 3).modLink 0 fun l => { l with runId := some 0 }), 0, 0, by decide +kernel⟩,
    ⟨((((wit .ready).set (F.LINK_CFG_KIND.inst 0) 2).set (F.LINK_STATUS_LSTATE.inst 0) 3).set (F.LINK_SLAC_STAT_STEP.inst 0) 2), 0, by decide +kernel⟩,
    ⟨(((((wit .ready).set (F.LINK_CFG_KIND.inst 0) 2).set (F.LINK_STATUS_LSTATE.inst 0) 3).set (F.LINK_SLAC_STAT_STEP.inst 0) 3).modLink 0 fun x => { x with attenCnt := 1 }), 0, by decide +kernel⟩⟩

/-- States and operands that meet the hypotheses of each clause of VehicleNetwork that has any. -/
theorem witness_VehicleNetwork :
  (∃ (s : State) (n : Fin 4), s.vdeOwn n = true ∧ (s.ctx n).dad = 1) ∧
  (∃ (s : State) (n : Fin 4), s.vdeOwn n = true ∧ (s.ctx n).dad = 1) ∧
  (∃ (s : State) (n : Fin 4) (h : LinkFrame) (src : Nat), s.linkMine = true ∧ s.stagesRun = true ∧ h.src ≠ s.macOf n ∧ h.etherType = 0x86DD ∧ s.ctxUp n = true ∧ localSrc src = true) ∧
  (∃ (s : State) (n : Fin 4) (h : LinkFrame) (src : Nat), s.linkMine = true ∧ s.stagesRun = true ∧ h.src ≠ s.macOf n ∧ h.etherType = 0x86DD ∧ s.ctxUp n = true ∧ localSrc src = true) ∧
  (∃ (s : State) (n : Fin 4) (h : LinkFrame) (src : Nat), s.linkMine = true ∧ s.stagesRun = true ∧ h.src ≠ s.macOf n ∧ h.etherType = 0x86DD ∧ s.ctxUp n = true ∧ s.ostate n = .link ∧ s.on F.VDE_CTRL_EXI_LOAD = false ∧ localSrc src = true) ∧
  (∃ (s : State) (n : Fin 4) (h : LinkFrame) (src : Nat), s.linkMine = true ∧ s.stagesRun = true ∧ h.src ≠ s.macOf n ∧ h.etherType = 0x86DD ∧ s.ctxUp n = true ∧ (s.ctx n).tcp = false ∧ (s.ctx n).sdpFrom = some src ∧ (s.ctx n).sdpSec = 0x10) ∧
  (∃ (s : State) (n : Fin 4) (h : LinkFrame), s.linkMine = true ∧ s.stagesRun = true ∧ h.src ≠ s.macOf n ∧ h.etherType = 0x86DD ∧ s.ctxUp n = true ∧ (s.ctx n).tcp = true) ∧
  (∃ (s : State) (n : Fin 4) (h : LinkFrame) (src : Nat) (len : Nat) (v2g : Nat), s.linkMine = true ∧ s.stagesRun = true ∧ h.src ≠ s.macOf n ∧ h.etherType = 0x86DD ∧ s.ctxUp n = true ∧ (s.ctx n).tcp = true ∧ (s.ctx n).peer = src ∧ v2g ≤ 8192 ∧ len ≠ 0) ∧
  (∃ (s : State) (n : Fin 4) (h : LinkFrame) (src : Nat) (v2g : Nat), s.linkMine = true ∧ s.stagesRun = true ∧ h.src ≠ s.macOf n ∧ h.etherType = 0x86DD ∧ s.ctxUp n = true ∧ (s.ctx n).tcp = true ∧ (s.ctx n).peer = src ∧ 8192 < v2g) ∧
  (∃ (s : State) (n : Fin 4), s.hasOutlet n = true ∧ s.exclusive = true ∧ (s.ctx n).tcp = true ∧ (s.ctx n).unacked = true ∧ (s.ctx n).retx < 6) ∧
  (∃ (s : State) (n : Fin 4), s.hasOutlet n = true ∧ s.exclusive = true ∧ (s.ctx n).tcp = true ∧ (s.ctx n).unacked = true ∧ (s.ctx n).retx = 6) :=
  ⟨⟨((wit .ready).modCtx 0 fun x => { x with dad := 1 }), 0, by decide +kernel⟩,
    ⟨((wit .ready).modCtx 0 fun x => { x with dad := 1 }), 0, by decide +kernel⟩,
    ⟨((((wit .ready).set (F.LINK_CFG_KIND.inst 0) 2).set (F.LINK_STATUS_LSTATE.inst 0) 4).modCtx 0 fun c => { c with active := true, dad := 2 }), 0, ⟨1, 0x86DD⟩, 0, by decide +kernel⟩,
    ⟨((((wit .ready).set (F.LINK_CFG_KIND.inst 0) 2).set (F.LINK_STATUS_LSTATE.inst 0) 4).modCtx 0 fun c => { c with active := true, dad := 2 }), 0, ⟨1, 0x86DD⟩, 0x3FA * 2 ^ 118, by decide +kernel⟩,
    ⟨((((((wit .ready).set (F.LINK_CFG_KIND.inst 0) 2).set (F.LINK_STATUS_LSTATE.inst 0) 4).modCtx 0 fun c => { c with active := true, dad := 2 }).set (F.OUTLET_STATUS_STATE.inst 0) 1).setB F.VDE_CTRL_EXI_LOAD false), 0, ⟨1, 0x86DD⟩, 0, by decide +kernel⟩,
    ⟨(((((((wit .ready).set (F.LINK_CFG_KIND.inst 0) 2).set (F.LINK_STATUS_LSTATE.inst 0) 4).modCtx 0 fun c => { c with active := true, dad := 2 }).modCtx 0 fun x => { x with tcp := false }).modCtx 0 fun x => { x with sdpFrom := some 0 }).modCtx 0 fun x => { x with sdpSec := 0x10 }), 0, ⟨1, 0x86DD⟩, 0, by decide +kernel⟩,
    ⟨(((((wit .ready).set (F.LINK_CFG_KIND.inst 0) 2).set (F.LINK_STATUS_LSTATE.inst 0) 4).modCtx 0 fun c => { c with active := true, dad := 2 }).modCtx 0 fun x => { x with tcp := true }), 0, ⟨1, 0x86DD⟩, by decide +kernel⟩,
    ⟨((((((wit .ready).set (F.LINK_CFG_KIND.inst 0) 2).set (F.LINK_STATUS_LSTATE.inst 0) 4).modCtx 0 fun c => { c with active := true, dad := 2 }).modCtx 0 fun x => { x with tcp := true }).modCtx 0 fun x => { x with peer := 0 }), 0, ⟨1, 0x86DD⟩, 0, 1, 0, by decide +kernel⟩,
    ⟨((((((wit .ready).set (F.LINK_CFG_KIND.inst 0) 2).set (F.LINK_STATUS_LSTATE.inst 0) 4).modCtx 0 fun c => { c with active := true, dad := 2 }).modCtx 0 fun x => { x with tcp := true }).modCtx 0 fun x => { x with peer := 0 }), 0, ⟨1, 0x86DD⟩, 0, 8193, by decide +kernel⟩,
    ⟨(((wit .ready).modCtx 0 fun x => { x with tcp := true }).modCtx 0 fun x => { x with unacked := true }), 0, by decide +kernel⟩,
    ⟨((((wit .ready).modCtx 0 fun x => { x with tcp := true }).modCtx 0 fun x => { x with unacked := true }).modCtx 0 fun x => { x with retx := 6 }), 0, by decide +kernel⟩⟩

/-- States and operands that meet the hypotheses of each clause of Credentials that has any. -/
theorem witness_Credentials :
  (∃ (s : State) (n : Fin 4), s.linkMine = true ∧ s.stagesRun = true ∧ s.ctxUp n = true ∧ (s.ctx n).tcp = true ∧ (s.ctx n).connSec = 0 ∧ (s.ctx n).tls = 3 ∧ ((s.on F.CRYPT_TRUST_CFG_REQ_CLIENT = false ∨ (s.ctx n).v13 = false ∨ (s.ctx n).certOk = true))) ∧
  (∃ (s : State) (n : Fin 4), s.linkMine = true ∧ s.stagesRun = true ∧ s.ctxUp n = true ∧ (s.ctx n).tcp = true ∧ (s.ctx n).connSec = 0 ∧ (s.ctx n).tls ≠ 3) ∧
  (∃ (s : State) (n : Fin 4), s.linkMine = true ∧ s.stagesRun = true ∧ s.ctxUp n = true ∧ (s.ctx n).tcp = true ∧ (s.ctx n).connSec = 0 ∧ (s.ctx n).tls = 0) ∧
  (∃ (s : State) (n : Fin 4), s.vdeOwn n = true ∧ (s.ctx n).tcp = true ∧ (s.ctx n).tls = 2 ∧ s.pkeNext = some n.val) ∧
  (∃ (s : State) (n : Fin 4), s.vdeOwn n = true ∧ (s.ctx n).tcp = true ∧ (s.ctx n).connSec = 0 ∧ (s.ctx n).tls ≠ 4) ∧
  (∃ (s : State) (e : Fin 64), s.trustKind e = 0) ∧
  (∃ (s : State) (e : Fin 64), s.trustKind e ≠ 0 ∧ crc32 (s.trustDer e) ≠ s.rdLe (trustBase e + 8) 4) ∧
  (∃ (s : State) (e : Fin 64), s.trustKind e ≠ 0 ∧ s.rdLe (trustBase e + 4) 2 ≠ 0 ∧ s.rdLe (trustBase e + 4) 2 ≤ 1536 ∧ crc32 (s.trustDer e) = s.rdLe (trustBase e + 8) 4) ∧
  (∃ (der : List Nat), der.length ≤ 496) ∧
  (∃ (s : State), s.reaches 0x21 0x008 = true ∧ s.get F.VDE_STATUS_ACTIVE = 0) ∧
  (∃ (s : State), s.reaches 0x21 0x008 = true ∧ s.get F.VDE_STATUS_ACTIVE ≠ 0) ∧
  (∃ (s : State), s.reaches 0x21 0x008 = true ∧ s.on F.VDE_CTRL_EXI_LOAD = true) :=
  ⟨⟨(((((((wit .ready).set (F.LINK_CFG_KIND.inst 0) 2).set (F.LINK_STATUS_LSTATE.inst 0) 4).modCtx 0 fun c => { c with active := true, dad := 2 }).modCtx 0 fun x => { x with tcp := true }).modCtx 0 fun x => { x with connSec := 0 }).modCtx 0 fun x => { x with tls := 3 }), 0, by decide +kernel⟩,
    ⟨(((((((wit .ready).set (F.LINK_CFG_KIND.inst 0) 2).set (F.LINK_STATUS_LSTATE.inst 0) 4).modCtx 0 fun c => { c with active := true, dad := 2 }).modCtx 0 fun x => { x with tcp := true }).modCtx 0 fun x => { x with connSec := 0 }).modCtx 0 fun x => { x with tls := 2 }), 0, by decide +kernel⟩,
    ⟨(((((((wit .ready).set (F.LINK_CFG_KIND.inst 0) 2).set (F.LINK_STATUS_LSTATE.inst 0) 4).modCtx 0 fun c => { c with active := true, dad := 2 }).modCtx 0 fun x => { x with tcp := true }).modCtx 0 fun x => { x with connSec := 0 }).modCtx 0 fun x => { x with tls := 0 }), 0, by decide +kernel⟩,
    ⟨(((((wit .ready).modCtx 0 fun x => { x with tcp := true }).modCtx 0 fun x => { x with tls := 2 }).modVde fun v => { v with pke := [0] }).modCtx 0 fun c => { c with tcp := true, tls := 2 }), 0, by decide +kernel⟩,
    ⟨((((wit .ready).modCtx 0 fun x => { x with tcp := true }).modCtx 0 fun x => { x with connSec := 0 }).modCtx 0 fun x => { x with tls := 2 }), 0, by decide +kernel⟩,
    ⟨(wit .ready), 0, by decide +kernel⟩,
    ⟨(((wit .ready).wrByte (trustBase 0) 1).wrByte (trustBase 0 + 8) 1), 0, by decide +kernel⟩,
    ⟨((wit .ready).wrBytes (trustBase 0) ([1, 0, 0, 0, 1, 0, 0, 0] ++ leBytes 4 (crc32 [0]))), 0, by decide +kernel⟩,
    ⟨[], by decide +kernel⟩,
    ⟨((wit .ready).set F.VDE_STATUS_ACTIVE 0), by decide +kernel⟩,
    ⟨((wit .ready).set F.VDE_STATUS_ACTIVE 1), by decide +kernel⟩,
    ⟨((wit .ready).setB F.VDE_CTRL_EXI_LOAD true), by decide +kernel⟩⟩

/-- States and operands that meet the hypotheses of each clause of SessionSetup that has any. -/
theorem witness_SessionSetup :
  (∃ (s : State) (n : Fin 4) (offers : List (Nat × Nat)) (p : Nat), s.linkMine = true ∧ s.stagesRun = true ∧ s.v2gUp n = true ∧ s.ostate n = .link ∧ s.ctxStep n ≤ 1 ∧ s.on F.VDE_PROTO_PREF_EV = false ∧ ([3, 2, 1].find? fun p => (offers.filter fun o => s.protoOk n o.1).any fun o => o.1 == p) = some p) ∧
  (∃ (s : State) (n : Fin 4) (offers : List (Nat × Nat)), s.linkMine = true ∧ s.stagesRun = true ∧ s.v2gUp n = true ∧ s.ostate n = .link ∧ s.ctxStep n ≤ 1 ∧ s.on F.VDE_PROTO_PREF_EV = false ∧ ([3, 2, 1].find? fun p => (offers.filter fun o => s.protoOk n o.1).any fun o => o.1 == p) = none) ∧
  (∃ (s : State) (n : Fin 4),
    let r := s.noteReq n 2
    s.linkMine = true ∧ s.stagesRun = true ∧ s.v2gDue n 2 = true ∧ r.sys.sealedSvc = false ∧ (r.mode == .sealedService) = false ∧ r.on F.CRYPT_RNG_STAT_FAIL = false) ∧
  (∃ (s : State) (n : Fin 4), s.linkMine = true ∧ s.stagesRun = true ∧ s.v2gDue n 2 = true ∧ (s.noteReq n 2).on F.CRYPT_RNG_STAT_FAIL = true) ∧
  (∃ (s : State) (n : Fin 4), s.linkMine = true ∧ s.stagesRun = true ∧ s.v2gDue n 3 = true) ∧
  (∃ (s : State) (n : Fin 4), s.linkMine = true ∧ s.stagesRun = true ∧ s.v2gDue n 4 = true) ∧
  (∃ (s : State) (n : Fin 4), s.linkMine = true ∧ s.stagesRun = true ∧ s.v2gDue n 5 = true ∧ ((s.noteReq n 5).ctx n).certAns = none ∧ ((s.noteReq n 5).ctx n).certReq = none) ∧
  (∃ (s : State) (n : Fin 4), s.linkMine = true ∧ s.stagesRun = true ∧ s.v2gDue n 6 = true) ∧
  (∃ (s : State) (n : Fin 4), s.linkMine = true ∧ s.stagesRun = true ∧ s.v2gDue n 7 = true ∧ (s.noteReq n 7).authCode n = 0 ∧ (s.noteReq n 7).proto n < 3) ∧
  (∃ (s : State) (n : Fin 4) (r : Nat), s.mode ≠ .mirror ∧ (s.ctx n).authReq = some r) ∧
  (∃ (s : State) (n : Fin 4) (r : Nat), s.mode ≠ .mirror ∧ (s.ctx n).authReq = some r) ∧
  (∃ (s : State) (n : Fin 4), (s.ctx n).authReq = none) ∧
  (∃ (s : State) (n : Fin 4) (r : Nat), s.vdeOwn n = true ∧ (s.ctx n).authReq = some r ∧ s.on F.VDE_AUTH_CFG_TO_ALLOW = true) ∧
  (∃ (s : State) (n : Fin 4) (r : Nat), s.vdeOwn n = true ∧ (s.ctx n).authReq = some r ∧ s.on F.VDE_AUTH_CFG_TO_ALLOW = false) ∧
  (∃ (s : State) (n : Fin 4) (r : Nat), s.mode ≠ .mirror ∧ (s.ctx n).certReq = some r) ∧
  (∃ (s : State) (n : Nat),
    let t := s.modCtx n fun c => { c with certReq := none, certBuf := [] }
    t.proto n < 3) ∧
  (∃ (s : State) (n : Nat),
    let t := s.modCtx n fun c => { c with certReq := none, certBuf := [] }
    3 ≤ t.proto n) ∧
  (∃ (s : State) (n : Fin 4) (r : Nat), s.vdeOwn n = true ∧ (s.ctx n).certReq = some r) :=
  ⟨⟨(((((((((((wit .ready).set (F.LINK_CFG_KIND.inst 0) 2).set (F.LINK_STATUS_LSTATE.inst 0) 4).modCtx 0 fun c => { c with active := true, dad := 2, tcp := true, connSec := 0x10 }).set (F.OUTLET_STATUS_STATE.inst 0) 1).setB F.VDE_PROTO_PREF_EV false).setB F.VDE_STATUS_EXI_VALID true).gram).setB F.VDE_PROTO_ISO2_EN true).set (F.VDE_CTX_STATE_SEC.nth 0) 1).set F.VDE_PROTO_ISO2_SEC 0), 0, [(2, 0)], 2, by decide +kernel⟩,
    ⟨((((((wit .ready).set (F.LINK_CFG_KIND.inst 0) 2).set (F.LINK_STATUS_LSTATE.inst 0) 4).modCtx 0 fun c => { c with active := true, dad := 2, tcp := true, connSec := 0x10 }).set (F.OUTLET_STATUS_STATE.inst 0) 1).setB F.VDE_PROTO_PREF_EV false), 0, [], by decide +kernel⟩,
    ⟨((((wit .ready).v2gAt 0 2 2 1).modSys fun x => { x with sealedSvc := false }).setB F.CRYPT_RNG_STAT_FAIL false), 0, by dsimp only; decide +kernel⟩,
    ⟨(((wit .ready).v2gAt 0 2 2 1).setB F.CRYPT_RNG_STAT_FAIL true), 0, by decide +kernel⟩,
    ⟨((wit .ready).v2gAt 0 3 3 2), 0, by decide +kernel⟩,
    ⟨((wit .ready).v2gAt 0 4 2 2), 0, by decide +kernel⟩,
    ⟨((wit .ready).v2gAt 0 5 2 2), 0, by decide +kernel⟩,
    ⟨((wit .ready).v2gAt 0 6 2 2), 0, by decide +kernel⟩,
    ⟨((wit .ready).v2gAt 0 7 2 2), 0, by decide +kernel⟩,
    ⟨((wit .ready).modCtx 0 fun x => { x with authReq := some 0 }), 0, 0, by decide +kernel⟩,
    ⟨((wit .ready).modCtx 0 fun x => { x with authReq := some 0 }), 0, 0, by decide +kernel⟩,
    ⟨((wit .ready).modCtx 0 fun x => { x with authReq := none }), 0, by decide +kernel⟩,
    ⟨(((wit .ready).modCtx 0 fun x => { x with authReq := some 0 }).setB F.VDE_AUTH_CFG_TO_ALLOW true), 0, 0, by decide +kernel⟩,
    ⟨(((wit .ready).modCtx 0 fun x => { x with authReq := some 0 }).setB F.VDE_AUTH_CFG_TO_ALLOW false), 0, 0, by decide +kernel⟩,
    ⟨((wit .ready).modCtx 0 fun x => { x with certReq := some 0 }), 0, 0, by decide +kernel⟩,
    ⟨(wit .ready), 0, by dsimp only; decide +kernel⟩,
    ⟨((wit .ready).set (F.VDE_CTX_STATE_PROTO.nth 0) 3), 0, by dsimp only; decide +kernel⟩,
    ⟨((wit .ready).modCtx 0 fun x => { x with certReq := some 0 }), 0, 0, by decide +kernel⟩⟩

/-- States and operands that meet the hypotheses of each clause of SessionCharge that has any. -/
theorem witness_SessionCharge :
  (∃ (s : State) (n : Fin 4) (t : TargetSet), (s.ctx n).waitSet = some t ∧ (s.slot n).st = 0) ∧
  (∃ (s : State) (n : Fin 4), s.linkMine = true ∧ s.stagesRun = true ∧ s.v2gDue n 8 = true) ∧
  (∃ (s : State) (n : Fin 4), s.linkMine = true ∧ s.stagesRun = true ∧ s.v2gDue n 9 = true ∧ ((s.noteReq n 9).ctx n).check = 4) ∧
  (∃ (s : State) (n : Fin 4), s.linkMine = true ∧ s.stagesRun = true ∧ s.v2gDue n 9 = true ∧ ((s.noteReq n 9).ctx n).check = 2) ∧
  (∃ (s : State) (n : Fin 4), s.vdeOwn n = true ∧ s.stagesRun = true ∧ s.ostate n = .session ∧ (s.ctx n).check = 1 ∧ s.checkReady n = true) ∧
  (∃ (s : State) (n : Fin 4), s.hasOutlet n = true ∧ s.ostate n = .check ∧ s.stagesRun = true ∧ s.slotsClosed n = true) ∧
  (∃ (s : State) (n : Fin 4), s.hasOutlet n = true ∧ s.ostate n = .check ∧ s.stagesRun = true ∧ s.slotsClosed n = false ∧ (s.seqStep n).slotsClosed n = true ∧ ((s.seqStep n).ctx n).check = 2) ∧
  (∃ (s : State) (n : Fin 4), s.vdeOwn n = true ∧ s.stagesRun = true ∧ s.ostate n = .check ∧ (s.ctx n).check = 2 ∧ s.slotsClosed n = true ∧ s.on (F.OUTLET_STATUS_SLEWING.inst n) = false ∧ s.imdGood n = true ∧ (s.slot n).st = 0) ∧
  (∃ (s : State) (n : Fin 4), s.vdeOwn n = true ∧ s.stagesRun = true ∧ s.ostate n = .check ∧ (s.ctx n).check = 3 ∧ s.vc n ≤ (s.get F.VDE_CHECK_END_V * 1000 : Nat) ∧ 0 < s.getI (F.ALLOC_OUT_CEIL_W.nth n)) ∧
  (∃ (s : State) (n : Fin 4), s.vdeOwn n = true ∧ (s.ctx n).check ≠ 0 ∧ (s.ctx n).check ≠ 4) ∧
  (∃ (s : State) (n : Fin 4) (present : V2gNum) (target : V2gNum),
    let r := s.noteReq n 10
    let t := r.issueTargets n { vcmd := (clampI 150000 1500000 (milliOf target)).toNat, evMv := some (clampI 0 1500000 (if 3 ≤ r.proto n then milliOf present else milliOf target)).toNat } false
    s.linkMine = true ∧ s.stagesRun = true ∧ s.v2gDue n 10 = true ∧ (t.slot n).st ≠ 0) ∧
  (∃ (s : State) (n : Fin 4),
    let r := s.noteReq n 11
    s.linkMine = true ∧ s.stagesRun = true ∧ s.v2gDue n 11 = true ∧ r.on (F.OUTLET_STATUS_PRECHARGE_OK.inst n) = true) ∧
  (∃ (s : State) (n : Fin 4), s.linkMine = true ∧ s.stagesRun = true ∧ s.v2gDue n 11 = true ∧ (s.noteReq n 11).on (F.OUTLET_STATUS_PRECHARGE_OK.inst n) = false) ∧
  (∃ (s : State) (n : Fin 4) (req : EvReq),
    let r := s.noteReq n 12
    let d := r.setDemand n (r.targets n req)
    s.linkMine = true ∧ s.stagesRun = true ∧ s.v2gDue n 12 = true ∧ req.soc = none ∧ (d.targetClauses n (r.targets n req) false).isEmpty = false) :=
  ⟨⟨(((wit .ready).modCtx 0 fun x => { x with waitSet := some ({}) }).modSlot 0 fun x => { x with st := 0 }), 0, {}, by decide +kernel⟩,
    ⟨((wit .ready).v2gAt 0 8 2 2), 0, by decide +kernel⟩,
    ⟨(((wit .ready).v2gAt 0 9 2 2).modCtx 0 fun c => { c with check := 4 }), 0, by decide +kernel⟩,
    ⟨(((wit .ready).v2gAt 0 9 2 2).modCtx 0 fun c => { c with check := 2 }), 0, by decide +kernel⟩,
    ⟨(((((((((wit .ready).set (F.OUTLET_STATUS_STATE.inst 0) 2).modCtx 0 fun x => { x with check := 1 }).set (F.LINK_STATUS_COMBINED.inst 0) 2).set (F.VDE_CTX_STATE_AUTH.nth 0) 3).set (F.ALLOC_OUT_CEIL_W.nth 0) 1000).set (F.GROUP_STATUS_STAGE.inst 0) 3).modGrp 0 fun v => { v with phys := 0 }).setB F.LENS_STATUS_UNCAL false), 0, by decide +kernel⟩,
    ⟨(((wit .ready).set (F.OUTLET_STATUS_STATE.inst 0) 3).setBit F.LOOP_RUN_LO_CLOSED (4 * 0) true), 0, by decide +kernel⟩,
    ⟨((((wit .ready).set (F.OUTLET_STATUS_STATE.inst 0) 3).modOut 0 fun o => { o with seq := 5 }).modCtx 0 fun c => { c with check := 2 }), 0, by decide +kernel⟩,
    ⟨((((((wit .ready).set (F.OUTLET_STATUS_STATE.inst 0) 3).modCtx 0 fun x => { x with check := 2 }).setBit F.LOOP_RUN_LO_CLOSED (4 * 0) true).setB (F.OUTLET_STATUS_SLEWING.inst 0) false).modSlot 0 fun x => { x with st := 0 }), 0, by decide +kernel⟩,
    ⟨((((wit .ready).set (F.OUTLET_STATUS_STATE.inst 0) 3).modCtx 0 fun x => { x with check := 3 }).set (F.ALLOC_OUT_CEIL_W.nth 0) 1000), 0, by decide +kernel⟩,
    ⟨(((wit .ready).modCtx 0 fun x => { x with check := 1 }).modCtx 0 fun x => { x with check := 2 }), 0, by decide +kernel⟩,
    ⟨(((wit .ready).v2gAt 0 10 2 4).modSlot 0 fun x => { x with st := 1 }), 0, ⟨0, 0⟩, ⟨0, 0⟩, by dsimp only; decide +kernel⟩,
    ⟨(((wit .ready).v2gAt 0 11 2 4).setB (F.OUTLET_STATUS_PRECHARGE_OK.inst 0) true), 0, by dsimp only; decide +kernel⟩,
    ⟨((wit .ready).v2gAt 0 11 2 4), 0, by decide +kernel⟩,
    ⟨((wit .ready).v2gAt 0 12 2 5), 0, ⟨false, none, none, none, none, none, none, none, none, none⟩, by dsimp only; decide +kernel⟩⟩

/-- States and operands that meet the hypotheses of each clause of SessionEnd that has any. -/
theorem witness_SessionEnd :
  (∃ (s : State) (n : Fin 4), s.vdeOwn n = true ∧ s.stagesRun = true ∧ (s.ctx n).rspDue ≠ 0 ∧ (s.slot n).st = 0) ∧
  (∃ (s : State) (n : Fin 4), s.linkMine = true ∧ s.stagesRun = true ∧ s.v2gDue n 13 = true) ∧
  (∃ (s : State) (n : Fin 4), s.linkMine = true ∧ s.stagesRun = true ∧ s.v2gDue n 14 = true) ∧
  (∃ (s : State) (n : Fin 4),
    let r := s.noteReq n 15
    s.linkMine = true ∧ s.stagesRun = true ∧ s.v2gDue n 15 = true ∧ r.ostate n = .release) ∧
  (∃ (s : State) (n : Fin 4), s.linkMine = true ∧ s.stagesRun = true ∧ s.v2gDue n 16 = true) ∧
  (∃ (s : State) (n : Fin 4), s.linkMine = true ∧ s.stagesRun = true ∧ s.v2gUp n = true) ∧
  (∃ (s : State) (n : Fin 4), s.linkMine = true ∧ s.stagesRun = true ∧ s.v2gUp n = true) ∧
  (∃ (s : State) (n : Fin 4), s.vdeOwn n = true ∧ (s.ctx n).session = true ∧ s.ostate n = .session ∧ s.stagesRun = true) ∧
  (∃ (s : State) (n : Fin 4), s.vdeOwn n = true ∧ (s.ctx n).session = true ∧ s.ostate n = .energy ∧ s.stagesRun = true) ∧
  (∃ (s : State) (n : Fin 4), s.reaches 0x21 (0x104 + n * 0x40) = true ∧ s.vdeOwn n = true ∧ (s.ctx n).session = true ∧ s.stopped n = false) ∧
  (∃ (s : State) (n : Fin 4), s.vdeOwn n = true ∧ (s.ctx n).stopAsked = true ∧ (s.ctx n).session = true) :=
  ⟨⟨(((wit .ready).modCtx 0 fun x => { x with rspDue := 1 }).modSlot 0 fun x => { x with st := 0 }), 0, by decide +kernel⟩,
    ⟨((wit .ready).v2gAt 0 13 2 5), 0, by decide +kernel⟩,
    ⟨((wit .ready).v2gAt 0 14 2 5), 0, by decide +kernel⟩,
    ⟨(((wit .ready).v2gAt 0 15 2 6).set (F.OUTLET_STATUS_STATE.inst 0) 8), 0, by dsimp only; decide +kernel⟩,
    ⟨((wit .ready).v2gAt 0 16 2 2), 0, by decide +kernel⟩,
    ⟨((((wit .ready).set (F.LINK_CFG_KIND.inst 0) 2).set (F.LINK_STATUS_LSTATE.inst 0) 4).modCtx 0 fun c => { c with active := true, dad := 2, tcp := true, connSec := 0x10 }), 0, by decide +kernel⟩,
    ⟨((((wit .ready).set (F.LINK_CFG_KIND.inst 0) 2).set (F.LINK_STATUS_LSTATE.inst 0) 4).modCtx 0 fun c => { c with active := true, dad := 2, tcp := true, connSec := 0x10 }), 0, by decide +kernel⟩,
    ⟨(((wit .ready).modCtx 0 fun x => { x with session := true }).set (F.OUTLET_STATUS_STATE.inst 0) 2), 0, by decide +kernel⟩,
    ⟨(((wit .ready).modCtx 0 fun x => { x with session := true }).set (F.OUTLET_STATUS_STATE.inst 0) 5), 0, by decide +kernel⟩,
    ⟨((wit .ready).modCtx 0 fun x => { x with session := true }), 0, by decide +kernel⟩,
    ⟨(((wit .ready).modCtx 0 fun x => { x with stopAsked := true }).modCtx 0 fun x => { x with session := true }), 0, by decide +kernel⟩⟩

/-- States and operands that meet the hypotheses of each clause of SafetyInputs that has any. -/
theorem witness_SafetyInputs :
  (∃ (s : State), s.safetyRuns = true) ∧
  (∃ (s : State), s.safetyRuns = true) ∧
  (∃ (s : State) (k : Fin 8), s.safetyRuns = true ∧ s.get (F.SAFE_SIN_CFG_TEST.nth k) ≠ 0 ∧ s.mode ≠ .mirror ∧ (k.val % 2 == 1 && s.sinPaired k && s.on (F.SAFE_SIN_CFG_ANTI.nth (k.val - 1))) = false) ∧
  (∃ (s : State) (p : Fin 4), s.safetyRuns = true ∧ s.sinPaired (2 * p) = true) ∧
  (∃ (s : State), s.safetyRuns = true ∧ s.exclusive = true) ∧
  (∃ (s : State) (n : Fin 4), s.safetyRuns = true ∧ s.hasOutlet n = true) ∧
  (∃ (s : State) (n : Fin 4), s.safetyRuns = true ∧ s.hasOutlet n = true ∧ s.charging n = true ∧ s.get (F.VDE_CTX_EV_VMAX_MV.nth n) ≠ 0) ∧
  (∃ (s : State) (n : Fin 4), s.get (F.VDE_CTX_EV_VMAX_MV.nth n) = 0) ∧
  (∃ (s : State) (n : Fin 4), s.safetyRuns = true ∧ s.hasOutlet n = true) ∧
  (∃ (s : State) (n : Fin 4), s.safetyRuns = true ∧ s.hasOutlet n = true ∧ s.ostate n = .energy) ∧
  (∃ (s : State) (n : Fin 4), s.safetyRuns = true ∧ s.hasOutlet n = true ∧ s.ostate n = .release ∧ 60000 ≤ s.vc n) ∧
  (∃ (s : State) (n : Fin 4), s.mode ≠ .handover ∧ (s.outSt n).coilDue ≠ .none) ∧
  (∃ (s : State), s.mode ≠ .handover ∧ s.safe.nodeCoilDue = true) ∧
  (∃ (s : State), s.mode = .handover) :=
  ⟨⟨(wit .ready), by decide +kernel⟩,
    ⟨(wit .ready), by decide +kernel⟩,
    ⟨((wit .ready).set (F.SAFE_SIN_CFG_TEST.nth 0) 1), 0, by decide +kernel⟩,
    ⟨((wit .ready).setB (F.SAFE_SIN_CFG_PAIR.nth 0) true), 0, by decide +kernel⟩,
    ⟨(wit .ready), by decide +kernel⟩,
    ⟨(wit .ready), 0, by decide +kernel⟩,
    ⟨(((wit .ready).set (F.VDE_CTX_EV_VMAX_MV.nth 0) 1).set (F.OUTLET_STATUS_STATE.inst 0) 5), 0, by decide +kernel⟩,
    ⟨((wit .ready).set (F.VDE_CTX_EV_VMAX_MV.nth 0) 0), 0, by decide +kernel⟩,
    ⟨(wit .ready), 0, by decide +kernel⟩,
    ⟨((wit .ready).set (F.OUTLET_STATUS_STATE.inst 0) 5), 0, by decide +kernel⟩,
    ⟨(((wit .ready).set (F.OUTLET_STATUS_STATE.inst 0) 8).setI (F.OUTLET_VC_MV_MV.inst 0) 60000), 0, by decide +kernel⟩,
    ⟨((wit .ready).modOut 0 fun o => { o with coilDue := .afterCut }), 0, by decide +kernel⟩,
    ⟨((wit .ready).modSafe fun x => { x with nodeCoilDue := true }), by decide +kernel⟩,
    ⟨(wit .handover), by decide +kernel⟩⟩

/-- States and operands that meet the hypotheses of each clause of ContactorsAndInsulation that has any. -/
theorem witness_ContactorsAndInsulation :
  (∃ (s : State) (i : Fin 60), s.safetyRuns = true ∧ s.monitored i = true ∧ s.coilOn i = false ∧ s.safe.weldedSince.testBit i = false) ∧
  (∃ (s : State) (i : Fin 60), s.safetyRuns = true ∧ s.monitored i = true ∧ s.coilOn i = true ∧ s.safe.travelled.testBit i = true ∧ 48 ≤ i.val) ∧
  (∃ (s : State) (n : Fin 4), s.hasOutlet n = true ∧ s.stagesRun = true ∧ s.ostate n = .weldcheck ∧ s.fbClosed (mainPos n) = false ∧ s.fbClosed (mainNeg n) = false ∧ s.welded (mainPos n) = false ∧ s.welded (mainNeg n) = false ∧ s.welded (prechargeCoil n) = false) ∧
  (∃ (s : State) (n : Fin 4), s.hasOutlet n = true ∧ s.bit (F.SAFE_OUT_TRIP_ACTIVE.nth n) 10 = false) ∧
  (∃ (s : State) (n : Fin 4), s.safetyRuns = true ∧ s.hasOutlet n = true ∧ (s.outSt n).imdFault = false) ∧
  (∃ (s : State) (n : Fin 4), s.safetyRuns = true ∧ s.hasOutlet n = true ∧ (s.outSt n).imdPwmLost = false ∧ s.bit F.SAFE_IMD_CFG_PWM_EN n = false) ∧
  (∃ (s : State) (n : Fin 4), s.safetyRuns = true ∧ s.hasOutlet n = true) ∧
  (∃ (s : State) (n : Fin 4), s.safetyRuns = true ∧ s.hasOutlet n = true) :=
  ⟨⟨(wit .ready), 0, by decide +kernel⟩,
    ⟨((((wit .ready).modSafe fun v => { v with travelled := 2 ^ 48 }).setBit F.SAFE_COIL_CMD_HI_CMD 16 true).setBit F.SAFE_CONTACT_CFG_COIL_EN 0 true), 48, by decide +kernel⟩,
    ⟨((wit .ready).set (F.OUTLET_STATUS_STATE.inst 0) 7), 0, by decide +kernel⟩,
    ⟨((wit .ready).setBit (F.SAFE_OUT_TRIP_ACTIVE.nth 0) 10 false), 0, by decide +kernel⟩,
    ⟨((wit .ready).modOut 0 fun x => { x with imdFault := false }), 0, by decide +kernel⟩,
    ⟨(((wit .ready).modOut 0 fun x => { x with imdPwmLost := false }).setBit F.SAFE_IMD_CFG_PWM_EN 0 false), 0, by decide +kernel⟩,
    ⟨(wit .ready), 0, by decide +kernel⟩,
    ⟨(wit .ready), 0, by decide +kernel⟩⟩

/-- States and operands that meet the hypotheses of each clause of FaultsCleared that has any. -/
theorem witness_FaultsCleared :
  (∃ (s : State), s.safetyRuns = true) ∧
  (∃ (s : State), s.safetyRuns = true) ∧
  (∃ (s : State), s.safetyRuns = true) ∧
  (∃ (s : State), s.reaches 0x28 0x094 = true) ∧
  (∃ (s : State) (n : Fin 4),
    let t := s.refreshActive n
    s.hasOutlet n = true ∧ s.combined n = 0 ∧ t.get (F.SAFE_OUT_TRIP_LATCHED.nth n) = 0 ∧ t.bit (F.SAFE_OUT_TRIP_LATCHED.nth n) 2 = false ∧ t.bit (F.SAFE_OUT_TRIP_LATCHED.nth n) 5 = false ∧ t.bit (F.SAFE_OUT_TRIP_LATCHED.nth n) 6 = false ∧ t.bit (F.SAFE_OUT_TRIP_LATCHED.nth n) 7 = false ∧ (t.outSt n).src.testBit 0 = true) ∧
  (∃ (s : State) (n : Fin 4),
    let u := s.fbAllOpen n
    let t := (u.ev E.SAFE_CLEARED 0 [n, (u.outSt n).clearedFn]).modOut n fun o => { o with clearedFn := 0 }
    s.hasOutlet n = true ∧ s.ostate n = .fault ∧ s.get (F.SAFE_OUT_TRIP_LATCHED.nth n) = 0 ∧ (s.outSt n).src = 0 ∧ u.mayLeaveFault n = true ∧ u.stagesRun = true ∧ t.combined n = 0) ∧
  (∃ (s : State) (n : Fin 4), s.hasOutlet n = true ∧ s.ostate n = .fault ∧ s.get (F.SAFE_OUT_TRIP_LATCHED.nth n) ≠ 0 ∧ s.mayLeaveFault n = false) ∧
  (∃ (s : State) (n : Fin 4), s.reaches (0x0A + n) F.OUTLET_FB_STAT_LOST_V.off = true ∧ s.hasOutlet n = true ∧ s.ostate n = .fault) ∧
  (∃ (s : State), s.reaches 0x28 0x088 = true ∧ s.pwdOpen = true ∧ s.clogFull = false) ∧
  (∃ (s : State), s.reaches 0x28 0x08C = true ∧ s.pwdOpen = false) ∧
  (∃ (s : State), s.reaches 0x28 0x090 = true ∧ s.mode = .safeHold ∧ s.clearInputFaults.restartBar = none) ∧
  (∃ (s : State) (c : Nat), s.reaches 0x28 0x090 = true ∧ s.mode = .safeHold ∧ s.clearInputFaults.restartBar = some c) ∧
  (∃ (s : State),
    let t := s.modSafe fun v => { v with restarting := false }
    s.safe.restarting = true ∧ s.mode = .safeHold ∧ t.restartBar = none) ∧
  (∃ (s : State) (n : Fin 4),
    let t := s.ev E.SAFE_DEGRADED_EXPIRED 0 [n]
    s.safetyRuns = true ∧ s.hasOutlet n = true ∧ s.degraded n = true ∧ (s.outSt n).src.testBit 6 = false ∧ (t.outlets.all fun m => t.degraded m) = false) ∧
  (∃ (s : State) (n : Fin 4), s.hasOutlet n = true ∧ s.degraded n = false) :=
  ⟨⟨(wit .ready), by decide +kernel⟩,
    ⟨(wit .ready), by decide +kernel⟩,
    ⟨(wit .ready), by decide +kernel⟩,
    ⟨(wit .ready), by decide +kernel⟩,
    ⟨((((((((wit .ready).set (F.LINK_STATUS_COMBINED.inst 0) 0).set (F.SAFE_OUT_TRIP_LATCHED.nth 0) 0).setBit (F.SAFE_OUT_TRIP_LATCHED.nth 0) 2 false).setBit (F.SAFE_OUT_TRIP_LATCHED.nth 0) 5 false).setBit (F.SAFE_OUT_TRIP_LATCHED.nth 0) 6 false).setBit (F.SAFE_OUT_TRIP_LATCHED.nth 0) 7 false).modOut 0 fun o => { o with src := 1 }), 0, by dsimp only; decide +kernel⟩,
    ⟨((((((wit .ready).set (F.OUTLET_STATUS_STATE.inst 0) 9).set (F.SAFE_OUT_TRIP_LATCHED.nth 0) 0).modOut 0 fun x => { x with src := 0 }).set (F.LINK_STATUS_COMBINED.inst 0) 0).set (F.OUTLET_STATUS_STATE.inst 0) 9), 0, by dsimp only; decide +kernel⟩,
    ⟨(((wit .ready).set (F.OUTLET_STATUS_STATE.inst 0) 9).set (F.SAFE_OUT_TRIP_LATCHED.nth 0) 1), 0, by decide +kernel⟩,
    ⟨((wit .ready).set (F.OUTLET_STATUS_STATE.inst 0) 9), 0, by decide +kernel⟩,
    ⟨((wit .ready).setB F.SEAL_PWD_STAT_PWD_OPEN true), by decide +kernel⟩,
    ⟨(wit .ready), by decide +kernel⟩,
    ⟨(wit .safeHold), by decide +kernel⟩,
    ⟨((wit .safeHold).modSafe fun v => { v with internalFailure := true }), 3, by decide +kernel⟩,
    ⟨((wit .safeHold).modSafe fun x => { x with restarting := true }), by dsimp only; decide +kernel⟩,
    ⟨((wit .ready).modOut 0 fun o => { o with degCond := 1 }), 0, by dsimp only; decide +kernel⟩,
    ⟨(wit .ready), 0, by decide +kernel⟩⟩

/-- States and operands that meet the hypotheses of each clause of SafeChannel that has any. -/
theorem witness_SafeChannel :
  (∃ (s : State) (c : Fin 16),
    let t := (s.setConn c { s.conn c with next := ((s.conn c).next + 1) % 65536 }).set (F.GSC_CSEQ_TX.nth c) (s.conn c).next
    s.on (F.GSC_CCFG_EN.nth c) = true ∧ s.cstate c ≠ 0 ∧ s.mode ≠ .mirror ∧ t.on (F.GSC_CCFG_HOST.nth c) = false) ∧
  (∃ (s : State) (c : Fin 16), s.on (F.GSC_CCFG_EN.nth c) = false) ∧
  (∃ (s : State) (src : Nat) (p : List Nat) (c : Nat), s.galeshIn = true ∧ p.length = 20 ∧ p.getD 0 0 = 1 ∧ ((List.range 16).find? fun c => s.cstate c != 0 && !s.on (F.GSC_CCFG_HOST.nth c) && s.get (F.GSC_CPEER_ADDRESS.nth c) == src && s.get (F.GSC_CCFG_TAG.nth c) == p.getD 1 0) = some c) ∧
  (∃ (s : State) (c : Fin 16), s.gscFresh c = true) ∧
  (∃ (s : State) (c : Fin 16), s.cstate c = 2 ∧ s.mode ≠ .mirror ∧ s.gscFresh c = false) ∧
  (∃ (s : State) (c : Fin 16) (v : Word), s.reaches 0x29 (0x114 + 64 * c) = true ∧ v.toNat.testBit 0 = true ∧ s.cstate c = 3 ∧ (s.conn c).safeTick = none) ∧
  (∃ (s : State) (v : Word),
    let c := v.toNat % 16
    let p := (List.range 5).flatMap fun i => beBytes 4 (s.get (F.GSC_HOST_RX_PDU.nth i))
    s.reaches 0x29 0x074 = true ∧ v.toNat.testBit 31 = true ∧ s.cstate c ≠ 0 ∧ s.on (F.GSC_CCFG_HOST.nth c) = true ∧ s.get (F.GSC_CCFG_TAG.nth c) = p.getD 1 0) ∧
  (∃ (s : State) (c : Fin 16) (v : Word), s.reaches 0x29 (0x10C + 64 * c.val) = true ∧ s.pwdOpen = true ∧ s.clogFull = false ∧ 2 * bits v.toNat 15 8 + 2 ≤ bits v.toNat 31 16) ∧
  (∃ (s : State) (c : Fin 16) (v : Word), s.reaches 0x29 (0x10C + 64 * c.val) = true ∧ s.pwdOpen = true ∧ s.clogFull = false ∧ bits v.toNat 31 16 < 2 * bits v.toNat 15 8 + 2) ∧
  (∃ (s : State) (c : Fin 16), s.reaches 0x29 (0x10C + 64 * c.val) = true ∧ s.pwdOpen = false) ∧
  (∃ (s : State) (c : Nat) (p : List Nat), gscCrc (s.get (F.GSC_CID_ID.nth c)) p ≠ ofBe (slice p 16 4)) ∧
  (∃ (s : State) (c : Nat) (p : List Nat),
    let seq := ofBe (slice p 4 2)
    let gap := (seq + 65536 - s.get (F.GSC_CSEQ_RX.nth c)) % 65536
    gscCrc (s.get (F.GSC_CID_ID.nth c)) p = ofBe (slice p 16 4) ∧ (p.getD 2 0).testBit 1 = false ∧ ((gap = 0 ∨ s.get (F.GSC_CCFG_MAX_GAP.nth c) < gap))) ∧
  (∃ (s : State) (c : Nat) (p : List Nat),
    let seq := ofBe (slice p 4 2)
    let gap := (seq + 65536 - s.get (F.GSC_CSEQ_RX.nth c)) % 65536
    gscCrc (s.get (F.GSC_CID_ID.nth c)) p = ofBe (slice p 16 4) ∧ (p.getD 2 0).testBit 1 = false ∧ 1 ≤ gap ∧ gap ≤ s.get (F.GSC_CCFG_MAX_GAP.nth c) ∧ s.on (F.GSC_CCFG_AGE_EN.nth c) = false) ∧
  (∃ (s : State) (c : Nat) (p : List Nat),
    let seq := ofBe (slice p 4 2)
    let gap := (seq + 65536 - s.get (F.GSC_CSEQ_RX.nth c)) % 65536
    let age := (s.gscStamp + 2 ^ 32 - ofBe (slice p 6 4)) % 2 ^ 32
    gscCrc (s.get (F.GSC_CID_ID.nth c)) p = ofBe (slice p 16 4) ∧ (p.getD 2 0).testBit 1 = false ∧ 1 ≤ gap ∧ gap ≤ s.get (F.GSC_CCFG_MAX_GAP.nth c) ∧ s.on (F.GSC_CCFG_AGE_EN.nth c) = true ∧ ((s.get (F.GSC_CTIME_AGE_MS.nth c) * 1000 < age ∨ s.on F.TIME_SYNC_STATE_SYNC_OK = false))) ∧
  (∃ (s : State) (c : Nat) (p : List Nat),
    let seq := ofBe (slice p 4 2)
    let gap := (seq + 65536 - s.get (F.GSC_CSEQ_RX.nth c)) % 65536
    let age := (s.gscStamp + 2 ^ 32 - ofBe (slice p 6 4)) % 2 ^ 32
    gscCrc (s.get (F.GSC_CID_ID.nth c)) p = ofBe (slice p 16 4) ∧ (p.getD 2 0).testBit 1 = false ∧ 1 ≤ gap ∧ gap ≤ s.get (F.GSC_CCFG_MAX_GAP.nth c) ∧ age ≤ s.get (F.GSC_CTIME_AGE_MS.nth c) * 1000 ∧ s.on F.TIME_SYNC_STATE_SYNC_OK = true) ∧
  (∃ (s : State) (c : Nat) (p : List Nat), gscCrc (s.get (F.GSC_CID_ID.nth c)) p = ofBe (slice p 16 4) ∧ (p.getD 2 0).testBit 1 = true ∧ s.cstate c = 2) :=
  ⟨⟨((((wit .ready).setB (F.GSC_CCFG_EN.nth 0) true).set (F.GSC_CSTAT_STATE.nth 0) 1).setB (F.GSC_CCFG_HOST.nth 0) false), 0, by dsimp only; decide +kernel⟩,
    ⟨((wit .ready).setB (F.GSC_CCFG_EN.nth 0) false), 0, by decide +kernel⟩,
    ⟨(((wit .ready).galeshUp).set (F.GSC_CSTAT_STATE.nth 0) 1), 0, 1 :: List.replicate 19 0, 0, by decide +kernel⟩,
    ⟨(wit .ready), 0, by decide +kernel⟩,
    ⟨(((wit .ready).set (F.GSC_CSTAT_STATE.nth 0) 2).ticksTo 40000000000000), 0, by decide +kernel⟩,
    ⟨(((wit .ready).set (F.GSC_CSTAT_STATE.nth 0) 3).modConn 0 fun x => { x with safeTick := none }), 0, 1, by decide +kernel⟩,
    ⟨(((wit .ready).set (F.GSC_CSTAT_STATE.nth 0) 1).setB (F.GSC_CCFG_HOST.nth 0) true), 0x80000000, by dsimp only; decide +kernel⟩,
    ⟨((wit .ready).setB F.SEAL_PWD_STAT_PWD_OPEN true), 0, 0xA0200, by decide +kernel⟩,
    ⟨((wit .ready).setB F.SEAL_PWD_STAT_PWD_OPEN true), 0, 0, by decide +kernel⟩,
    ⟨(wit .ready), 0, by decide +kernel⟩,
    ⟨(wit .ready), 0, [], by decide +kernel⟩,
    ⟨(wit .ready), 0, List.replicate 16 0 ++ beBytes 4 (gscCrc 0 (List.replicate 16 0)), by dsimp only; decide +kernel⟩,
    ⟨(((wit .ready).setB (F.GSC_CCFG_AGE_EN.nth 0) false).set (F.GSC_CCFG_MAX_GAP.nth 0) 2), 0, [0, 0, 0, 0, 0, 1] ++ List.replicate 10 0 ++ beBytes 4 (gscCrc 0 ([0, 0, 0, 0, 0, 1] ++ List.replicate 10 0)), by dsimp only; decide +kernel⟩,
    ⟨((((wit .ready).setB (F.GSC_CCFG_AGE_EN.nth 0) true).setB (F.GSC_CCFG_AGE_EN.nth 0) true).set (F.GSC_CCFG_MAX_GAP.nth 0) 2), 0, [0, 0, 0, 0, 0, 1] ++ List.replicate 10 0 ++ beBytes 4 (gscCrc 0 ([0, 0, 0, 0, 0, 1] ++ List.replicate 10 0)), by dsimp only; decide +kernel⟩,
    ⟨((((wit .ready).setB F.TIME_SYNC_STATE_SYNC_OK true).setB F.TIME_SYNC_STATE_SYNC_OK true).set (F.GSC_CCFG_MAX_GAP.nth 0) 2), 0, [0, 0, 0, 0, 0, 1] ++ List.replicate 10 0 ++ beBytes 4 (gscCrc 0 ([0, 0, 0, 0, 0, 1] ++ List.replicate 10 0)), by dsimp only; decide +kernel⟩,
    ⟨((wit .ready).set (F.GSC_CSTAT_STATE.nth 0) 2), 0, [0, 0, 2] ++ List.replicate 13 0 ++ beBytes 4 (gscCrc 0 ([0, 0, 2] ++ List.replicate 13 0)), by decide +kernel⟩⟩

/-- States and operands that meet the hypotheses of each clause of Passwords that has any. -/
theorem witness_Passwords :
  (∃ (s : State) (len : Fin 64) (stored : List Nat), s.reaches 0x03 0x060 = true ∧ pwdFormat len (s.pwdChars len) = true ∧ s.lockOf 0 = none ∧ 1 ≤ s.clogFree ∧ s.pwOf 0 = some stored ∧ pwdMatches stored (s.pwdChars len) = true) ∧
  (∃ (s : State) (len : Fin 64) (stored : List Nat), s.reaches 0x03 0x060 = true ∧ pwdFormat len (s.pwdChars len) = true ∧ s.lockOf 0 = none ∧ 1 ≤ s.clogFree ∧ s.pwOf 0 = some stored ∧ pwdMatches stored (s.pwdChars len) = false ∧ s.failsOf 0 = 2) ∧
  (∃ (s : State) (len : Fin 64), s.reaches 0x03 0x060 = true ∧ pwdFormat len (s.pwdChars len) = false) ∧
  (∃ (s : State) (len : Fin 64) (stored : List Nat),
    let a := s.seeSealN true
    s.reaches 0x03 0x060 = true ∧ pwdFormat len (a.pwdChars len) = true ∧ a.lockOf 1 = none ∧ (if (!a.sealOpen) = true then 2 else 1) ≤ a.clogFree ∧ a.pwOf 1 = some stored ∧ pwdMatches stored (a.pwdChars len) = true) ∧
  (∃ (s : State), s.reaches 0x03 0x060 = true) ∧
  (∃ (s : State), s.reaches 0x03 0x060 = true) ∧
  (∃ (s : State), s.reaches 0x03 0x060 = true) ∧
  (∃ (s : State) (len : Fin 64), s.reaches 0x03 0x060 = true ∧ pwdFormat len (s.pwdChars len) = true ∧ s.pwdOpen = true ∧ 1 ≤ s.clogFree) ∧
  (∃ (s : State) (len : Fin 64),
    let a := s.seeSealN true
    s.reaches 0x03 0x060 = true ∧ pwdFormat len (a.pwdChars len) = true ∧ a.sealOpen = true ∧ 1 ≤ a.clogFree) ∧
  (∃ (s : State), s.pwdOpen = true) :=
  ⟨⟨((((wit .ready).set (F.SEAL_PWD_DATA_CHARS.nth 0) 0x21212121).set (F.SEAL_PWD_DATA_CHARS.nth 1) 0x21212121).modProt fun p => { p with pwSafety := some pw8 }), 8, pw8, by decide +kernel⟩,
    ⟨((((wit .ready).set (F.SEAL_PWD_DATA_CHARS.nth 0) 0x21212121).set (F.SEAL_PWD_DATA_CHARS.nth 1) 0x21212121).modProt fun p => { p with pwSafety := some [], failsSafety := 2 }), 8, [], by decide +kernel⟩,
    ⟨(wit .ready), 0, by decide +kernel⟩,
    ⟨((((wit .ready).set (F.SEAL_PWD_DATA_CHARS.nth 0) 0x21212121).set (F.SEAL_PWD_DATA_CHARS.nth 1) 0x21212121).modProt fun p => { p with pwSeal := some pw8 }), 8, pw8, by dsimp only; decide +kernel⟩,
    ⟨(wit .ready), by decide +kernel⟩,
    ⟨(wit .ready), by decide +kernel⟩,
    ⟨(wit .ready), by decide +kernel⟩,
    ⟨((((wit .ready).setB F.SEAL_PWD_STAT_PWD_OPEN true).set (F.SEAL_PWD_DATA_CHARS.nth 0) 0x21212121).set (F.SEAL_PWD_DATA_CHARS.nth 1) 0x21212121), 8, by decide +kernel⟩,
    ⟨((((wit .ready).setB F.SEAL_PWD_STAT_SEAL_OPEN true).set (F.SEAL_PWD_DATA_CHARS.nth 0) 0x21212121).set (F.SEAL_PWD_DATA_CHARS.nth 1) 0x21212121), 8, by dsimp only; decide +kernel⟩,
    ⟨((wit .ready).setB F.SEAL_PWD_STAT_PWD_OPEN true), by decide +kernel⟩⟩

/-- States and operands that meet the hypotheses of each clause of MirrorLane that has any. -/
theorem witness_MirrorLane :
  (∃ (s : State), s.paired = true) ∧
  (∃ (s : State), s.paired = true) ∧
  (∃ (s : State), s.reaches 0x2A 0x008 = true) ∧
  (∃ (s : State) (variant : Nat) (c : Nat) (m : Nat) (p : Nat) (crc : Word) (same : Bool),
    let a := ((s.setB F.MIR_STATUS_ALIGNED true).setB F.MIR_STATUS_LANE_UP true).ev E.MIR_ALIGNED 0 []
    let b := ((a.set F.MIR_PARTNER_VARIANT variant).set F.MIR_PARTNER_CTL_STEP c).partnerBack
    let d := b.modMir fun m => { m with matched := true, goodRun := 0, last := [] }
    s.paired = true ∧ s.hostOpen = true ∧ b.laneMismatch variant c m p crc.toNat same = none ∧ (d.mode == .configure) = true ∧ d.mir.waitAlign = true ∧ d.selected = false) ∧
  (∃ (s : State) (variant : Nat) (c : Nat) (m : Nat) (p : Nat) (crc : Word) (same : Bool) (x : Nat × Nat × Nat),
    let a := ((s.setB F.MIR_STATUS_ALIGNED true).setB F.MIR_STATUS_LANE_UP true).ev E.MIR_ALIGNED 0 []
    let b := ((a.set F.MIR_PARTNER_VARIANT variant).set F.MIR_PARTNER_CTL_STEP c).partnerBack
    s.paired = true ∧ s.hostOpen = true ∧ b.laneMismatch variant c m p crc.toNat same = some x ∧ b.selected = false) ∧
  (∃ (s : State), s.paired = true ∧ s.on F.MIR_STATUS_ALIGNED = true) ∧
  (∃ (s : State),
    let t := s.inc F.MIR_SEQ_TX_SEQ
    s.paired = true ∧ s.selected = true ∧ s.on F.MIR_STATUS_ALIGNED = true ∧ s.hostOpen = true ∧ s.mode ≠ .mirror ∧ t.ownFail = false) ∧
  (∃ (s : State),
    let t := s.inc F.MIR_SEQ_TX_SEQ
    s.paired = true ∧ s.selected = true ∧ s.on F.MIR_STATUS_ALIGNED = true ∧ s.hostOpen = true ∧ s.mode ≠ .mirror ∧ t.ownFail = true) ∧
  (∃ (s : State) (f : MirFrame), s.paired = true ∧ s.on F.MIR_STATUS_ALIGNED = true ∧ s.mir.matched = true ∧ s.mode = .mirror ∧ f.crcOk = true) ∧
  (∃ (s : State) (f : MirFrame), s.paired = true ∧ s.on F.MIR_STATUS_ALIGNED = true ∧ s.mir.matched = true ∧ s.mode = .mirror ∧ f.crcOk = false) ∧
  (∃ (s : State), s.paired = true ∧ s.on F.MIR_STATUS_ALIGNED = true ∧ s.mode = .mirror) ∧
  (∃ (s : State), s.paired = true ∧ s.on F.MIR_STATUS_ALIGNED = true ∧ s.selected = true) :=
  ⟨⟨((wit .ready).setB F.MIR_CFG_EN true), by decide +kernel⟩,
    ⟨((wit .ready).setB F.MIR_CFG_EN true), by decide +kernel⟩,
    ⟨(wit .ready), by decide +kernel⟩,
    ⟨(((wit .configure).setB F.MIR_CFG_EN true).modMir fun x => { x with waitAlign := true }), State.reset.get F.SYS_DEVICE_VARIANT, State.reset.get F.SYS_DEVICE_CTL_STEP, State.reset.get F.SYS_DEVICE_MET_STEP, State.reset.get F.SYS_DEVICE_PWR_STEP, BitVec.ofNat 32 (State.reset.get F.SAFE_CFG_CRC_CRC), true, by dsimp only; decide +kernel⟩,
    ⟨((wit .ready).setB F.MIR_CFG_EN true), 9, 0, 0, 0, 0, false, (1, State.reset.get F.SYS_DEVICE_VARIANT, 9), by dsimp only; decide +kernel⟩,
    ⟨(((wit .ready).setB F.MIR_CFG_EN true).setB F.MIR_STATUS_ALIGNED true), by decide +kernel⟩,
    ⟨((((wit .ready).setB F.MIR_CFG_EN true).setB F.MIR_STATUS_SELECTED true).setB F.MIR_STATUS_ALIGNED true), by dsimp only; decide +kernel⟩,
    ⟨(((((wit .ready).setB F.MIR_CFG_EN true).setB F.MIR_STATUS_SELECTED true).setB F.MIR_STATUS_ALIGNED true).modSafe fun x => { x with internalFailure := true }), by dsimp only; decide +kernel⟩,
    ⟨((((wit .mirror).setB F.MIR_CFG_EN true).setB F.MIR_STATUS_ALIGNED true).modMir fun x => { x with matched := true }), ⟨0, 0, [], true⟩, by decide +kernel⟩,
    ⟨((((wit .mirror).setB F.MIR_CFG_EN true).setB F.MIR_STATUS_ALIGNED true).modMir fun x => { x with matched := true }), ⟨0, 0, [], false⟩, by decide +kernel⟩,
    ⟨(((wit .mirror).setB F.MIR_CFG_EN true).setB F.MIR_STATUS_ALIGNED true), by decide +kernel⟩,
    ⟨((((wit .ready).setB F.MIR_CFG_EN true).setB F.MIR_STATUS_ALIGNED true).setB F.MIR_STATUS_SELECTED true), by decide +kernel⟩⟩

/-- States and operands that meet the hypotheses of each clause of Switchover that has any. -/
theorem witness_Switchover :
  (∃ (s : State), s.paired = true ∧ (s.setSelected true).mode = .mirror) ∧
  (∃ (s : State), s.paired = true ∧ (s.setSelected true).mode = .vault ∧ ((s.setSelected true).sys.vaultFrom == .mirror) = true) ∧
  (∃ (s : State), s.mode = .handover) ∧
  (∃ (s : State), s.paired = true ∧ s.selected = true ∧ (((s.tpoBalls false).setSelected false).modMir fun m => { m with held := [] }).mode = .ready) ∧
  (∃ (s : State) (w : Nat),
    let t := (s.inc F.MIR_GLITCH_COUNT).ev E.MIR_SEL_GLITCH 0 [w]
    s.paired = true ∧ w < 1000 ∧ t.selected = true ∧ t.exclusive = true) ∧
  (∃ (s : State) (w : Nat),
    let t := (s.inc F.MIR_GLITCH_COUNT).ev E.MIR_SEL_GLITCH 0 [w]
    s.paired = true ∧ w < 1000 ∧ t.selected = false) ∧
  (∃ (s : State) (k : Fin 4),
    let t := s.setArbUnit k false { s.arbUnit k false with hb := true, low := true, since := none }
    let u := (t.setB (F.PAIRARB_PAIR_STAT_A_HB_OK.nth k) true).setB (F.PAIRARB_PAIR_STAT_A_FAIL.nth k) true
    (s.arbUnit k false).failed = false ∧ u.arbOn k = true ∧ ((u.ev E.PAIRARB_UNIT_FAILED 0 [k, 1, 2]).arbUnit k true).failed = false ∧ (u.arbUnit k true).failed = false) ∧
  (∃ (s : State) (k : Fin 4) (isB : Bool) (hb : Bool) (low : Bool),
    let t := s.setArbUnit k isB { s.arbUnit k isB with hb := hb, low := low, since := none }
    let u := if isB then (t.setB (F.PAIRARB_PAIR_STAT_B_HB_OK.nth k) hb).setB (F.PAIRARB_PAIR_STAT_B_FAIL.nth k) low else (t.setB (F.PAIRARB_PAIR_STAT_A_HB_OK.nth k) hb).setB (F.PAIRARB_PAIR_STAT_A_FAIL.nth k) low
    (!hb || low) = true ∧ (s.arbUnit k isB).failed = false ∧ u.arbOn k = true) ∧
  (∃ (s : State) (k : Fin 4) (isB : Bool), (s.arbUnit k isB).failed = true) ∧
  (∃ (s : State) (k : Fin 4), s.arbOn k = true ∧ s.arbSelB k = false ∧ (s.arbUnit k false).failed = true ∧ s.arbQualified k true = true) ∧
  (∃ (s : State) (k : Fin 4) (act : Bool), s.arbOn k = true ∧ s.arbSelB k = act ∧ (s.arbUnit k act).failed = true ∧ s.arbQualified k (!act) = true) ∧
  (∃ (s : State), s.reaches 0x45 0x040 = true) ∧
  (∃ (s : State) (k : Fin 4), s.reaches 0x45 (0x084 + 16 * k.val) = true ∧ s.pwdOpen = false) :=
  ⟨⟨((wit .mirror).setB F.MIR_CFG_EN true), by decide +kernel⟩,
    ⟨(((wit .vault).setB F.MIR_CFG_EN true).modSys fun y => { y with vaultFrom := .mirror }), by decide +kernel⟩,
    ⟨(wit .handover), by decide +kernel⟩,
    ⟨(((wit .ready).setB F.MIR_CFG_EN true).setB F.MIR_STATUS_SELECTED true), by decide +kernel⟩,
    ⟨(((wit .ready).setB F.MIR_CFG_EN true).setB F.MIR_STATUS_SELECTED true), 0, by dsimp only; decide +kernel⟩,
    ⟨((wit .ready).setB F.MIR_CFG_EN true), 0, by dsimp only; decide +kernel⟩,
    ⟨((((wit .ready).modArb 0 false fun u => { u with hb := true }).modArb 0 true fun u => { u with hb := true }).setBit F.PAIRARB_CFG_EN 0 true), 0, by dsimp only; decide +kernel⟩,
    ⟨(((wit .ready).modArb 0 false fun u => { u with hb := true }).setBit F.PAIRARB_CFG_EN 0 true), 0, false, false, false, by dsimp only; decide +kernel⟩,
    ⟨(wit .ready), 0, false, by decide +kernel⟩,
    ⟨(((((wit .ready).modArb 0 true fun u => { u with hb := true, since := some 0 }).setBit F.PAIRARB_CFG_EN 0 true).ticksTo 40000000000000).setB (F.PAIRARB_PAIR_STAT_SELECT.nth 0) true), 0, by decide +kernel⟩,
    ⟨(((((wit .ready).modArb 0 true fun u => { u with hb := true, since := some 0 }).setBit F.PAIRARB_CFG_EN 0 true).ticksTo 40000000000000).setB (F.PAIRARB_PAIR_STAT_SELECT.nth 0) true), 0, false, by decide +kernel⟩,
    ⟨(wit .ready), by decide +kernel⟩,
    ⟨(((wit .ready).modArb 0 true fun u => { u with hb := true }).setBit F.PAIRARB_CFG_EN 0 true), 0, by decide +kernel⟩⟩

/-- States and operands that meet the hypotheses of each clause of LoadSwitchProtection that has any. -/
theorem witness_LoadSwitchProtection :
  (∃ (s : State) (c : Fin 32), s.reaches 0x2B (0x108 + c * 0x10) = true ∧ s.hasLsw c = true ∧ s.get (F.LSW_CH_STAT_OWNER.nth c) = 0) ∧
  (∃ (s : State) (c : Fin 32), s.reaches 0x2B (0x108 + c * 0x10) = true ∧ s.hasLsw c = true ∧ s.get (F.LSW_CH_STAT_OWNER.nth c) ≠ 0) ∧
  (∃ (s : State) (off : Nat), s.on F.LSW_STATUS_LINK_LOST = true ∧ s.hostOpen = true ∧ s.hasPage 0x2B = true ∧ (s.mode == .mirror && mirroredReg 0x2B off) = false ∧ (dieOf 0x2B == .metrology) = false) ∧
  (∃ (s : State) (off : Nat), s.on F.LSW_STATUS_LINK_LOST = true ∧ s.hostOpen = true ∧ s.hasPage 0x2C = true ∧ (s.mode == .mirror && mirroredReg 0x2C off) = false ∧ (dieOf 0x2C == .metrology) = false ∧ ((0x2C : Nat) == 0x2B) = false) ∧
  (∃ (s : State), s.pdie.wire = false) ∧
  (∃ (s : State), s.pdie.wire = true) ∧
  (∃ (s : State) (c : Fin 32), s.hasLsw c = true ∧ (s.chan c).on = true) ∧
  (∃ (s : State) (c : Fin 32) (temp : Int),
    let a := (s.modChan c fun v => { v with hot := true }).setI (F.LSW_TEMP_C.nth c) temp
    let b := (a.setB (chLatch c) true).ev E.LSW_THERMAL_SHUTDOWN c [c, ofSigned 32 temp]
    s.hasLsw c = true ∧ (s.chan c).hot = false ∧ a.on (chLatch c) = false ∧ (b.chan c).on = true) ∧
  (∃ (s : State) (c : Fin 32), s.hasLsw c = true ∧ (s.chan c).hot = true) ∧
  (∃ (s : State) (c : Fin 96), s.hasChan c = true) ∧
  (∃ (s : State) (c : Fin 32), s.hasLsw c = true ∧ (s.chan c).on = true ∧ s.on (F.LSW_CH_STAT_LIMITING.nth c) = true ∧ s.on (chBlanking c) = false) ∧
  (∃ (s : State) (k : Fin 4), s.hasCluster k = true ∧ s.bit F.LSW_STATUS_CLUSTER_WARN k = false) ∧
  (∃ (s : State) (k : Fin 4), s.bit F.LSW_STATUS_CLUSTER_WARN k = true) ∧
  (∃ (s : State) (c : Fin 96), s.hasChan c = true ∧ (s.chan c).shut = true ∧ s.on (chLatch c) = false) ∧
  (∃ (s : State) (c : Fin 96), s.hasChan c = true ∧ (s.chan c).on = true) ∧
  (∃ (s : State), s.reaches 0x2B 0x048 = true) :=
  ⟨⟨((wit .ready).set (F.LSW_CH_STAT_OWNER.nth 0) 0), 0, by decide +kernel⟩,
    ⟨((wit .ready).set (F.LSW_CH_STAT_OWNER.nth 0) 1), 0, by decide +kernel⟩,
    ⟨((wit .ready).setB F.LSW_STATUS_LINK_LOST true), 0, by decide +kernel⟩,
    ⟨((wit .ready).setB F.LSW_STATUS_LINK_LOST true), 0, by decide +kernel⟩,
    ⟨((wit .ready).modPdie fun x => { x with wire := false }), by decide +kernel⟩,
    ⟨((wit .ready).modPdie fun x => { x with wire := true }), by decide +kernel⟩,
    ⟨((wit .ready).modChan 0 fun x => { x with on := true }), 0, by decide +kernel⟩,
    ⟨((((wit .ready).modChan 0 fun x => { x with hot := false }).setB (chLatch 0) false).modChan 0 fun x => { x with on := true }), 0, 0, by dsimp only; decide +kernel⟩,
    ⟨((wit .ready).modChan 0 fun x => { x with hot := true }), 0, by decide +kernel⟩,
    ⟨(wit .ready), 0, by decide +kernel⟩,
    ⟨((((wit .ready).modChan 0 fun x => { x with on := true }).setB (F.LSW_CH_STAT_LIMITING.nth 0) true).setB (chBlanking 0) false), 0, by decide +kernel⟩,
    ⟨((wit .ready).setBit F.LSW_STATUS_CLUSTER_WARN 0 false), 0, by decide +kernel⟩,
    ⟨((wit .ready).setBit F.LSW_STATUS_CLUSTER_WARN 0 true), 0, by decide +kernel⟩,
    ⟨(((wit .ready).modChan 0 fun x => { x with shut := true }).setB (chLatch 0) false), 0, by decide +kernel⟩,
    ⟨((wit .ready).modChan 0 fun x => { x with on := true }), 0, by decide +kernel⟩,
    ⟨(wit .ready), by decide +kernel⟩⟩

/-- States and operands that meet the hypotheses of each clause of LoadSwitchMonitoring that has any. -/
theorem witness_LoadSwitchMonitoring :
  (∃ (s : State) (c : Fin 32), s.hasLsw c = true ∧ s.on (F.LSW_CH_CFG_OL_EN.nth c) = true ∧ (s.chan c).on = false ∧ (s.on F.MIR_CFG_EN && (s.chan c).commanded) = false) ∧
  (∃ (s : State), 4000 < s.get F.LSW_DISS_MW) ∧
  (∃ (s : State), s.get F.LSW_DISS_MW ≤ 4000) ∧
  (∃ (s : State), s.on F.LSW_SUPPLY_UV = false) ∧
  (∃ (s : State), s.on F.LSW_SUPPLY_OV = false) ∧
  (∃ (s : State), s.on F.LSW_SUPPLY_REVERSE = false) ∧
  (∃ (s : State), s.on F.LSW_SUPPLY_GND_LOST = false) ∧
  (∃ (s : State) (k : Fin 4), s.on (supplyField k) = true) ∧
  (∃ (s : State), s.is7680 = true ∧ s.on F.LSX_CFG_EN = true) ∧
  (∃ (s : State) (x : Fin 64), s.is7680 = true ∧ s.on F.LSX_CFG_EN = true ∧ s.on (F.LSX_XCFG_EN.nth x) = true) ∧
  (∃ (s : State) (x : Fin 64), s.is7680 = true ∧ (s.chan (32 + x)).on = true ∧ (s.chan (32 + x)).above = true) ∧
  (∃ (s : State) (v : Word), s.reaches 0x2C 0x008 = true ∧ v.toNat.testBit 31 = true) :=
  ⟨⟨(((wit .ready).setB (F.LSW_CH_CFG_OL_EN.nth 0) true).modChan 0 fun x => { x with on := false }), 0, by decide +kernel⟩,
    ⟨((wit .ready).set F.LSW_DISS_MW 4001), by decide +kernel⟩,
    ⟨(wit .ready), by decide +kernel⟩,
    ⟨((wit .ready).setB F.LSW_SUPPLY_UV false), by decide +kernel⟩,
    ⟨((wit .ready).setB F.LSW_SUPPLY_OV false), by decide +kernel⟩,
    ⟨((wit .ready).setB F.LSW_SUPPLY_REVERSE false), by decide +kernel⟩,
    ⟨((wit .ready).setB F.LSW_SUPPLY_GND_LOST false), by decide +kernel⟩,
    ⟨((wit .ready).setB (supplyField 0) true), 0, by decide +kernel⟩,
    ⟨((wit .ready).setB F.LSX_CFG_EN true), by decide +kernel⟩,
    ⟨(((wit .ready).setB F.LSX_CFG_EN true).setB (F.LSX_XCFG_EN.nth 0) true), 0, by decide +kernel⟩,
    ⟨(((wit .ready).modChan (32 + 0) fun x => { x with on := true }).modChan (32 + 0) fun x => { x with above := true }), 0, by decide +kernel⟩,
    ⟨(wit .ready), 0x80000000, by decide +kernel⟩⟩

/-- States and operands that meet the hypotheses of each clause of MetrologyChannels that has any. -/
theorem witness_MetrologyChannels :
  (∃ (s : State), s.lensRuns = true) ∧
  (∃ (s : State), s.lensRuns = true ∧ s.sys.metLost = false) ∧
  (∃ (s : State) (c : Fin 23), s.lensRuns = true ∧ s.chanOn c = true ∧ (s.lossOf 0 c).present = false) ∧
  (∃ (s : State) (c : Fin 23), s.lensRuns = true ∧ s.chanOn c = true ∧ (s.lossOf 1 c).present = false) ∧
  (∃ (s : State) (c : Fin 23) (k : Fin 3),
    let l := s.lossOf k c
    l.present = true ∧ l.judged = false ∧ isControl c = false ∧ (s.mode == .vault || l.supply) = false) ∧
  (∃ (s : State) (c : Fin 23) (k : Fin 3),
    let l := s.lossOf k c
    l.present = true ∧ l.judged = false ∧ isControl c = false ∧ (s.mode == .vault || l.supply) = true) ∧
  (∃ (s : State) (c : Fin 23) (k : Fin 3),
    let l := s.lossOf k c
    l.present = true ∧ l.judged = false ∧ isControl c = true) ∧
  (∃ (s : State) (c : Fin 23) (k : Fin 3),
    let l := s.lossOf k c
    l.present = true) ∧
  (∃ (s : State) (c : Fin 23) (reg : Fin 3), s.reaches 0x23 (0x200 + 16 * c.val + 4 * reg.val) = true ∧ s.sealOpen = true ∧ s.mode ≠ .sealedService) ∧
  (∃ (s : State) (c : Fin 23) (reg : Fin 3),
    let off := 0x200 + 16 * c.val + 4 * reg.val
    s.reaches 0x23 off = true ∧ s.sealOpen = true ∧ s.mode = .sealedService ∧ s.clogFull = false) ∧
  (∃ (s : State) (c : Fin 23) (reg : Fin 3), s.reaches 0x23 (0x200 + 16 * c.val + 4 * reg.val) = true ∧ s.sealOpen = false) :=
  ⟨⟨((wit .ready).modLens fun l => { l with started := true }), by decide +kernel⟩,
    ⟨(((wit .ready).modLens fun l => { l with started := true }).modSys fun x => { x with metLost := false }), by decide +kernel⟩,
    ⟨(((wit .ready).modLens fun l => { l with started := true }).modLoss 0 0 fun x => { x with present := false }), 0, by decide +kernel⟩,
    ⟨(((wit .ready).modLens fun l => { l with started := true }).modLoss 1 2 fun x => { x with present := false }), 2, by decide +kernel⟩,
    ⟨((wit .ready).modLoss 0 0 fun l => { l with present := true }), 0, 0, by dsimp only; decide +kernel⟩,
    ⟨((wit .ready).modLoss 0 0 fun l => { l with present := true, supply := true }), 0, 0, by dsimp only; decide +kernel⟩,
    ⟨((wit .ready).modLoss 0 2 fun l => { l with present := true }), 2, 0, by dsimp only; decide +kernel⟩,
    ⟨((wit .ready).modLoss 0 0 fun l => { l with present := true }), 0, 0, by dsimp only; decide +kernel⟩,
    ⟨((wit .ready).setB F.SEAL_PWD_STAT_SEAL_OPEN true), 0, 0, by decide +kernel⟩,
    ⟨((wit .sealedService).setB F.SEAL_PWD_STAT_SEAL_OPEN true), 0, 0, by dsimp only; decide +kernel⟩,
    ⟨(wit .ready), 0, 0, by decide +kernel⟩⟩

/-- States and operands that meet the hypotheses of each clause of PulsesAndCapture that has any. -/
theorem witness_PulsesAndCapture :
  (∃ (s : State), s.lensRuns = true ∧ s.gridOn = true) ∧
  (∃ (s : State), s.lensRuns = true ∧ s.gridOn = true ∧ s.lens.grid.lost = false) ∧
  (∃ (s : State) (k : Fin 8) (x : Nat) (rest : List Nat), (s.pulseOf k).due = x :: rest ∧ (s.pulseOf k).phase = 0 ∧ s.lget (F.PULSE_CFG_EN.nth k) ≠ 0 ∧ s.mode ≠ .vault ∧ s.mode ≠ .dormant ∧ s.lens.started = true) ∧
  (∃ (s : State) (k : Fin 8), (s.pulseOf k).phase = 1) ∧
  (∃ (s : State) (k : Fin 8), (s.pulseOf k).phase = 2) ∧
  (∃ (s : State) (k : Fin 8) (reg : Fin 3) (v : Word),
    let off := 0x040 + 32 * k.val + 4 * reg.val
    s.reaches 0x41 off = true ∧ s.sealOpen = true ∧ s.clogFull = false ∧ (¬(reg.val = 2 ∧ (bits v.toNat 31 16 = 0 ∨ bits v.toNat 15 0 = 0)))) ∧
  (∃ (s : State) (k : Fin 8) (v : Word), s.reaches 0x41 (0x040 + 32 * k.val + 8) = true ∧ s.sealOpen = true ∧ s.clogFull = false ∧ (bits v.toNat 31 16 = 0 ∨ bits v.toNat 15 0 = 0)) ∧
  (∃ (s : State), s.reaches 0x23 0x180 = true) ∧
  (∃ (s : State) (v : Word), s.reaches 0x23 0x180 = true ∧ v.toNat.testBit 1 = false) ∧
  (∃ (s : State) (v : Word),
    let t := s.setWord 0x23 0x180 0xFFFFFFFF (setBitOf v.toNat 1 true) fun a => a == .rw
    s.reaches 0x23 0x180 = true ∧ v.toNat.testBit 0 = false ∧ t.get F.LENS_CAP_CFG_TRIG = 0) ∧
  (∃ (s : State), s.capDue = true) ∧
  (∃ (s : State) (t : Nat), s.lens.cap.trig = some t ∧ s.on F.LENS_CAP_STAT_FILLING = true ∧ t + s.capPost ≤ s.lens.cap.total) :=
  ⟨⟨((((wit .ready).modLens fun l => { l with started := true }).setB F.GRID_CFG_EN true).force F.GRID_CFG_EN 1), by decide +kernel⟩,
    ⟨((((wit .ready).modLens fun l => { l with started := true }).setB F.GRID_CFG_EN true).force F.GRID_CFG_EN 1), by decide +kernel⟩,
    ⟨(((((wit .ready).modPulse 0 fun x => { x with due := 0 :: [] }).modPulse 0 fun x => { x with phase := 0 }).modLens fun x => { x with started := true }).force (F.PULSE_CFG_EN.nth 0) 1), 0, 0, [], by decide +kernel⟩,
    ⟨((wit .ready).modPulse 0 fun x => { x with phase := 1 }), 0, by decide +kernel⟩,
    ⟨((wit .ready).modPulse 0 fun x => { x with phase := 2 }), 0, by decide +kernel⟩,
    ⟨((wit .ready).setB F.SEAL_PWD_STAT_SEAL_OPEN true), 0, 0, 0, by dsimp only; decide +kernel⟩,
    ⟨((wit .ready).setB F.SEAL_PWD_STAT_SEAL_OPEN true), 0, 0, by decide +kernel⟩,
    ⟨(wit .ready), by decide +kernel⟩,
    ⟨(wit .ready), 0, by decide +kernel⟩,
    ⟨((wit .ready).set F.LENS_CAP_CFG_TRIG 0), 0, by dsimp only; decide +kernel⟩,
    ⟨((wit .ready).set F.LENS_CAP_CFG_TRIG 1), by decide +kernel⟩,
    ⟨(((wit .ready).setB F.LENS_CAP_STAT_FILLING true).modLens fun l => { l with cap := { l.cap with trig := some 0, total := 78125 } }), 0, by decide +kernel⟩⟩

/-- States and operands that meet the hypotheses of each clause of Billing that has any. -/
theorem witness_Billing :
  (∃ (s : State),
    let r := s.closeCycle s.legalSec s.legalNsPart s.epoch none false
    s.lensRuns = true ∧ r.1.bill.pend = none ∧ r.1.bill.intent = none ∧ r.1.bill.held = []) ∧
  (∃ (s : State),
    let r := s.closeCycle s.legalSec s.legalNsPart s.epoch none false
    s.lensRuns = true ∧ r.1.bill.pend.isSome = true) ∧
  (∃ (s : State) (pd : Pending), s.bill.pend = some pd ∧ s.bill.intent.isSome = false) ∧
  (∃ (s : State) (v : Word), s.reaches 0x26 0x008 = true ∧ v.toNat.testBit 0 = true ∧ s.sealOpen = true ∧ s.clogFull = false ∧ s.bankBad (1 - s.bank) = none) ∧
  (∃ (s : State) (v : Word) (e : Nat × Nat), s.reaches 0x26 0x008 = true ∧ v.toNat.testBit 0 = true ∧ s.sealOpen = true ∧ s.clogFull = false ∧ s.bankBad (1 - s.bank) = some e) ∧
  (∃ (s : State) (v : Word), s.reaches 0x25 0x008 = true ∧ v.toNat.testBit 0 = true ∧ s.sealOpen = true ∧ s.clogFull = false) ∧
  (∃ (s : State) (v : Word), s.reaches 0x25 0x040 = true ∧ s.sealOpen = true ∧ s.clogFull = false ∧ demandCfgOk v.toNat = true) ∧
  (∃ (s : State) (v : Word), s.reaches 0x25 0x040 = true ∧ s.sealOpen = true ∧ s.clogFull = false ∧ demandCfgOk v.toNat = false) ∧
  (∃ (s : State), s.reaches 0x25 0x040 = true ∧ s.sealOpen = false) :=
  ⟨⟨((wit .ready).modLens fun l => { l with started := true }), by dsimp only; decide +kernel⟩,
    ⟨(((wit .ready).modLens fun l => { l with started := true }).modBill fun b => { b with pend := some ⟨0, 0, 0, 0, 0, 0, 0, 0⟩ }), by dsimp only; decide +kernel⟩,
    ⟨((wit .ready).modBill fun b => { b with pend := some ⟨0, 0, 0, 0, 0, 0, 0, 0⟩ }), ⟨0, 0, 0, 0, 0, 0, 0, 0⟩, by decide +kernel⟩,
    ⟨((wit .ready).setB F.SEAL_PWD_STAT_SEAL_OPEN true), 1, by decide +kernel⟩,
    ⟨(((wit .ready).setB F.SEAL_PWD_STAT_SEAL_OPEN true).wrByte (tbl 3 8192) 9), 1, (512, 1), by decide +kernel⟩,
    ⟨((wit .ready).setB F.SEAL_PWD_STAT_SEAL_OPEN true), 1, by decide +kernel⟩,
    ⟨((wit .ready).setB F.SEAL_PWD_STAT_SEAL_OPEN true), 0x0F10, by decide +kernel⟩,
    ⟨((wit .ready).setB F.SEAL_PWD_STAT_SEAL_OPEN true), 0, by decide +kernel⟩,
    ⟨(wit .ready), by decide +kernel⟩⟩

/-- States and operands that meet the hypotheses of each clause of SessionsAndTamper that has any. -/
theorem witness_SessionsAndTamper :
  (∃ (s : State) (p : Nat), s.sys.metLost = false ∧ s.hasOutlet p = true) ∧
  (∃ (s : State) (p : Nat), s.sys.metLost = false ∧ s.hasOutlet p = false) ∧
  (∃ (s : State) (p : Nat), s.sys.metLost = false ∧ s.hasOutlet p = true) ∧
  (∃ (s : State) (i : Nat) (t : List Nat), s.bill.signs = i :: t) ∧
  (∃ (s : State) (v : Word), s.reaches 0x46 0x054 = true ∧ v.toNat.testBit 31 = true ∧ s.points.contains (bits v.toNat 3 0) = true) ∧
  (∃ (s : State) (v : Word), s.reaches 0x46 0x054 = true ∧ v.toNat.testBit 31 = true ∧ s.points.contains (bits v.toNat 3 0) = false) ∧
  (∃ (s : State), s.sys.metLost = false) ∧
  (∃ (s : State) (i : Fin 2), s.bit F.TAMPER_ACTIVE_TYPE i = false) ∧
  (∃ (s : State) (i : Fin 2), s.bit F.TAMPER_ACTIVE_TYPE i = true) ∧
  (∃ (s : State) (ppm : Nat), s.get F.TAMPER_PPM_LIM_PPM < ppm ∧ s.bit F.TAMPER_ACTIVE_TYPE 15 = false) ∧
  (∃ (s : State) (ppm : Nat), ppm ≤ s.get F.TAMPER_PPM_LIM_PPM) :=
  ⟨⟨((wit .ready).modSys fun x => { x with metLost := false }), 0, by decide +kernel⟩,
    ⟨(((wit .ready).modSys fun x => { x with metLost := false }).set F.SYS_DEVICE_VARIANT 1), 3, by decide +kernel⟩,
    ⟨((wit .ready).modSys fun x => { x with metLost := false }), 0, by decide +kernel⟩,
    ⟨((wit .ready).modBill fun b => { b with signs := [0] }), 0, [], by decide +kernel⟩,
    ⟨(wit .ready), 0x80000000, by decide +kernel⟩,
    ⟨(wit .ready), 0x8000000F, by decide +kernel⟩,
    ⟨((wit .ready).modSys fun x => { x with metLost := false }), by decide +kernel⟩,
    ⟨((wit .ready).setBit F.TAMPER_ACTIVE_TYPE 0 false), 0, by decide +kernel⟩,
    ⟨((wit .ready).setBit F.TAMPER_ACTIVE_TYPE 0 true), 0, by decide +kernel⟩,
    ⟨((wit .ready).setBit F.TAMPER_ACTIVE_TYPE 15 false), 100000, by decide +kernel⟩,
    ⟨(wit .ready), 0, by decide +kernel⟩⟩

/-- States and operands that meet the hypotheses of each clause of HostPort that has any. -/
theorem witness_HostPort :
  (∃ (s : State), s.sys.held = false ∧ s.on F.CLK_PLL_STAT_LOCKED = true ∧ s.mode ≠ .dormant ∧ s.on F.HOST_PCIE_STAT_LINK_UP = false) ∧
  (∃ (s : State), s.hostUp = true) ∧
  (∃ (s : State), s.hostUp = false) ∧
  (∃ (s : State), s.on F.HOST_PCIE_STAT_LINK_UP = true) ∧
  (∃ (s : State), s.reaches 0x2D 0x054 = true) ∧
  (∃ (s : State) (v : Fin 64), s.reaches 0x2D (0x80C + 16 * v) = true ∧ s.host.pba.testBit v = false) ∧
  (∃ (s : State) (m : MbxMsg) (rest : List MbxMsg) (k : Nat), s.vde.mbxWait = m :: rest ∧ ((List.range 8).find? fun k => s.mbx k == 0) = some k ∧ s.mode ≠ .mirror) ∧
  (∃ (s : State) (m : MbxMsg) (rest : List MbxMsg), s.vde.mbxWait = m :: rest ∧ ((List.range 8).find? fun k => s.mbx k == 0) = none ∧ s.mode ≠ .mirror) ∧
  (∃ (s : State) (v : Word), s.reaches 0x2D 0x088 = true ∧ v.toNat % 16 < 8 ∧ s.mbx (v.toNat % 16) = 1) ∧
  (∃ (s : State) (v : Word), s.reaches 0x2D 0x084 = true ∧ 8 ≤ v.toNat % 16 ∧ s.mbx (v.toNat % 16) = 0) ∧
  (∃ (s : State) (v : Word), s.reaches 0x2D 0x084 = true ∧ v.toNat % 16 < 8) ∧
  (∃ (s : State) (k : Fin 16), 8 ≤ k.val ∧ s.mbx k = 2 ∧ s.mbxFault k = none) ∧
  (∃ (s : State) (k : Fin 16) (c : Nat), 8 ≤ k.val ∧ s.mbx k = 2 ∧ s.mbxFault k = some c) ∧
  (∃ (s : State), (!s.sys.held || s.lens.started) = true ∧ s.sys.metLost = false ∧ s.mode ≠ .dormant) ∧
  (∃ (s : State), s.sys.metLost = true) ∧
  (∃ (s : State), s.sys.held = false ∧ s.on F.LSW_STATUS_LINK_LOST = false ∧ s.mode ≠ .dormant) ∧
  (∃ (s : State), s.on F.LSW_STATUS_LINK_LOST = true) ∧
  (∃ (s : State) (v : Word),
    let c := v.toNat % 4
    s.reaches 0x22 0x040 = true ∧ s.pwdOpen = true ∧ s.clogFull = false ∧ s.get F.CRYPT_STATUS_TLS_OPEN = 0 ∧ c ≠ 3) ∧
  (∃ (s : State), s.reaches 0x22 0x040 = true ∧ s.pwdOpen = true ∧ s.clogFull = false ∧ s.get F.CRYPT_STATUS_TLS_OPEN ≠ 0) ∧
  (∃ (s : State), s.reaches 0x22 0x040 = true ∧ s.pwdOpen = false) :=
  ⟨⟨((((wit .ready).modSys fun x => { x with held := false }).setB F.CLK_PLL_STAT_LOCKED true).setB F.HOST_PCIE_STAT_LINK_UP false), by decide +kernel⟩,
    ⟨((wit .ready).setB F.HOST_PCIE_STAT_LINK_UP true), by decide +kernel⟩,
    ⟨(wit .ready), by decide +kernel⟩,
    ⟨((wit .ready).setB F.HOST_PCIE_STAT_LINK_UP true), by decide +kernel⟩,
    ⟨(wit .ready), by decide +kernel⟩,
    ⟨(wit .ready), 0, by decide +kernel⟩,
    ⟨((wit .ready).modVde fun v => { v with mbxWait := [⟨1, []⟩] }), ⟨1, []⟩, [], 0, by decide +kernel⟩,
    ⟨(((wit .ready).modVde fun v => { v with mbxWait := [⟨1, []⟩] }).set F.HOST_MBX_STATE_STATE 0x5555), ⟨1, []⟩, [], by decide +kernel⟩,
    ⟨((wit .ready).set F.HOST_MBX_STATE_STATE 1), 0, by decide +kernel⟩,
    ⟨(wit .ready), 8, by decide +kernel⟩,
    ⟨(wit .ready), 0, by decide +kernel⟩,
    ⟨(((wit .ready).set F.HOST_MBX_STATE_STATE 0x20000).wrBytes (mbxBase 8) ([16, 0, 1, 0, 0, 0, 0, 0] ++ leBytes 4 (crc32 (List.replicate 16 0)))), 8, by decide +kernel⟩,
    ⟨((wit .ready).set F.HOST_MBX_STATE_STATE 0x20000), 8, 3, by decide +kernel⟩,
    ⟨((wit .ready).modSys fun x => { x with metLost := false }), by decide +kernel⟩,
    ⟨((wit .ready).modSys fun x => { x with metLost := true }), by decide +kernel⟩,
    ⟨(((wit .ready).modSys fun x => { x with held := false }).setB F.LSW_STATUS_LINK_LOST false), by decide +kernel⟩,
    ⟨((wit .ready).setB F.LSW_STATUS_LINK_LOST true), by decide +kernel⟩,
    ⟨(((wit .ready).setB F.SEAL_PWD_STAT_PWD_OPEN true).set F.CRYPT_STATUS_TLS_OPEN 0), 0, by dsimp only; decide +kernel⟩,
    ⟨(((wit .ready).setB F.SEAL_PWD_STAT_PWD_OPEN true).set F.CRYPT_STATUS_TLS_OPEN 1), by decide +kernel⟩,
    ⟨(wit .ready), by decide +kernel⟩⟩

/-- States and operands that meet the hypotheses of each clause of LifetimeAndStore that has any. -/
theorem witness_LifetimeAndStore :
  (∃ (s : State), s.sys.held = false ∧ s.mode ≠ .dormant ∧ s.mode ≠ .vault) ∧
  (∃ (s : State) (v : Word), s.reaches 0x3F 0x054 = true ∧ v.toNat % 512 < 448) ∧
  (∃ (s : State) (v : Word), s.reaches 0x3F 0x054 = true ∧ 448 ≤ v.toNat % 512) ∧
  (∃ (s : State) (v : Word), s.reaches 0x3F 0x058 = true ∧ bits v.toNat 14 8 < 80) ∧
  (∃ (s : State) (v : Word), s.reaches 0x3F 0x058 = true ∧ 80 ≤ bits v.toNat 14 8) ∧
  (∃ (s : State), s.reaches 0x3F 0x044 = true ∧ s.pwdOpen = true ∧ s.clogFull = false) ∧
  (∃ (s : State), s.reaches 0x3F 0x044 = true ∧ s.pwdOpen = false) ∧
  (∃ (s : State),
    let blk := s.get F.MEM_SCRUB_POS_BLOCK
    s.on F.MEM_SCRUB_CFG_EN = true ∧ s.sys.held = false ∧ s.mode ≠ .vault ∧ s.mode ≠ .dormant ∧ blk ≠ 16383) :=
  ⟨⟨((wit .ready).modSys fun x => { x with held := false }), by decide +kernel⟩,
    ⟨(wit .ready), 0, by decide +kernel⟩,
    ⟨(wit .ready), 448, by decide +kernel⟩,
    ⟨(wit .ready), 0, by decide +kernel⟩,
    ⟨(wit .ready), 20480, by decide +kernel⟩,
    ⟨((wit .ready).setB F.SEAL_PWD_STAT_PWD_OPEN true), by decide +kernel⟩,
    ⟨(wit .ready), by decide +kernel⟩,
    ⟨(((wit .ready).setB F.MEM_SCRUB_CFG_EN true).modSys fun x => { x with held := false }), by dsimp only; decide +kernel⟩⟩

/-- States and operands that meet the hypotheses of each clause of DmaChannels that has any. -/
theorem witness_DmaChannels :
  (∃ (s : State) (c : Fin 16), s.reaches (0x2F + c) 0x048 = true ∧ s.get (F.DMACH_MODE_MODE.inst c) = 1 ∧ s.dst c = 0) ∧
  (∃ (s : State) (c : Fin 16), s.reaches (0x2F + c) 0x048 = true ∧ s.get (F.DMACH_MODE_MODE.inst c) = 1 ∧ s.on (F.DMACH_SH_STAT_ARMED.inst c) = false ∧ s.dst c = 2) ∧
  (∃ (s : State) (c : Fin 16), s.reaches (0x2F + c) 0x048 = true ∧ s.get (F.DMACH_MODE_MODE.inst c) = 1 ∧ s.on (F.DMACH_SH_STAT_ARMED.inst c) = true ∧ s.dst c ≠ 0) ∧
  (∃ (s : State) (c : Fin 16), s.reaches (0x2F + c) 0x048 = true ∧ s.get (F.DMACH_MODE_MODE.inst c) ≠ 1) ∧
  (∃ (s : State) (c : Fin 16), s.reaches (0x2F + c) 0x048 = true ∧ s.get (F.DMACH_MODE_MODE.inst c) = 2 ∧ s.dst c = 0) ∧
  (∃ (s : State) (c : Fin 16), s.reaches (0x2F + c) 0x048 = true ∧ s.dst c ≠ 0) ∧
  (∃ (s : State) (c : Fin 16), s.reaches (0x2F + c) 0x048 = true ∧ s.dst c = 5 ∧ (s.dch c).resume ≠ 1) ∧
  (∃ (s : State) (c : Fin 16), s.reaches (0x2F + c) 0x048 = true ∧ s.dst c = 5 ∧ (s.dch c).resume = 1) ∧
  (∃ (s : State) (c : Fin 16), s.reaches (0x2F + c) 0x048 = true ∧ s.dst c = 7 ∧ (s.dch c).direct = false ∧ (s.dch c).fetched = true ∧ (s.dch c).last = false) ∧
  (∃ (s : State) (c : Fin 16), s.reaches (0x2F + c) 0x048 = true ∧ s.dst c = 7 ∧ (s.dch c).fetched = true) ∧
  (∃ (s : State) (c : Fin 16), s.reaches (0x2F + c) 0x048 = true ∧ s.dst c = 7 ∧ (s.dch c).fetched = false) ∧
  (∃ (s : State) (c : Fin 16), s.reaches (0x2F + c) 0x054 = true) ∧
  (∃ (s : State) (c : Fin 16) (desc : List Nat),
    let le := fun i n => ofLe (slice desc i n)
    s.dst c = 1 ∧ (le 28 4).testBit 31 = false ∧ le 24 3 < 2 ^ 21) ∧
  (∃ (s : State) (c : Fin 16) (desc : List Nat),
    let le := fun i n => ofLe (slice desc i n)
    s.dst c = 1 ∧ (le 28 4).testBit 31 = true ∧ (le 27 1).testBit 0 = true) ∧
  (∃ (s : State) (c : Fin 16) (code : Nat), s.dst c = 1 ∧ code ≠ 0) ∧
  (∃ (s : State) (c : Nat),
    let t := State.setDst { s with dma := { s.dma with last := c } } c 2
    s.dmaNext = some c ∧ s.on F.DMA_ACTIVE_BUSY = false ∧ s.on F.DMA_CFG_ENABLE = true ∧ (((t.dch c).usesHost = true → t.hostUp = true))) ∧
  (∃ (s : State), s.on F.DMA_CFG_ENABLE = false) ∧
  (∃ (s : State) (c : Nat), s.dmaNext = some c) ∧
  (∃ (s : State) (c : Fin 16), s.dst c = 4 ∧ s.get (F.DMACH_PACE_HI.inst c) ≤ s.ringFill (s.paceSrc c)) ∧
  (∃ (s : State) (c : Fin 16), s.dst c = 4 ∧ s.ringFill (s.paceSrc c) < s.get (F.DMACH_PACE_HI.inst c)) :=
  ⟨⟨(((wit .ready).set (F.DMACH_MODE_MODE.inst 0) 1).set (F.DMACH_STATE_STATE.inst 0) 0), 0, by decide +kernel⟩,
    ⟨((((wit .ready).set (F.DMACH_MODE_MODE.inst 0) 1).setB (F.DMACH_SH_STAT_ARMED.inst 0) false).set (F.DMACH_STATE_STATE.inst 0) 2), 0, by decide +kernel⟩,
    ⟨((((wit .ready).set (F.DMACH_MODE_MODE.inst 0) 1).setB (F.DMACH_SH_STAT_ARMED.inst 0) true).set (F.DMACH_STATE_STATE.inst 0) 2), 0, by decide +kernel⟩,
    ⟨(wit .ready), 0, by decide +kernel⟩,
    ⟨(((wit .ready).set (F.DMACH_MODE_MODE.inst 0) 2).set (F.DMACH_STATE_STATE.inst 0) 0), 0, by decide +kernel⟩,
    ⟨((wit .ready).set (F.DMACH_STATE_STATE.inst 0) 2), 0, by decide +kernel⟩,
    ⟨((((wit .ready).set (F.DMACH_STATE_STATE.inst 0) 5).modDch 0 fun x => { x with resume := 2 }).modDch 0 fun d => { d with resume := 3 }), 0, by decide +kernel⟩,
    ⟨(((wit .ready).set (F.DMACH_STATE_STATE.inst 0) 5).modDch 0 fun x => { x with resume := 1 }), 0, by decide +kernel⟩,
    ⟨(((((wit .ready).set (F.DMACH_STATE_STATE.inst 0) 7).modDch 0 fun x => { x with direct := false }).modDch 0 fun x => { x with fetched := true }).modDch 0 fun d => { d with fetched := true }), 0, by decide +kernel⟩,
    ⟨(((wit .ready).set (F.DMACH_STATE_STATE.inst 0) 7).modDch 0 fun x => { x with fetched := true }), 0, by decide +kernel⟩,
    ⟨(((wit .ready).set (F.DMACH_STATE_STATE.inst 0) 7).modDch 0 fun x => { x with fetched := false }), 0, by decide +kernel⟩,
    ⟨(wit .ready), 0, by decide +kernel⟩,
    ⟨((wit .ready).set (F.DMACH_STATE_STATE.inst 0) 1), 0, [], by dsimp only; decide +kernel⟩,
    ⟨((wit .ready).set (F.DMACH_STATE_STATE.inst 0) 1), 0, List.replicate 27 0 ++ [1, 0, 0, 0, 0x80], by dsimp only; decide +kernel⟩,
    ⟨((wit .ready).set (F.DMACH_STATE_STATE.inst 0) 1), 0, 1, by decide +kernel⟩,
    ⟨(((((wit .ready).setB F.DMA_ACTIVE_BUSY false).setB F.DMA_CFG_ENABLE true).setBit F.DMA_READY_CH 0 true).setB F.HOST_PCIE_STAT_LINK_UP true), 0, by dsimp only; decide +kernel⟩,
    ⟨((wit .ready).setB F.DMA_CFG_ENABLE false), by decide +kernel⟩,
    ⟨((wit .ready).setBit F.DMA_READY_CH 0 true), 0, by decide +kernel⟩,
    ⟨(((wit .ready).set (F.DMACH_STATE_STATE.inst 0) 4).set (F.DMACH_PACE_HI.inst 0) 0), 0, by decide +kernel⟩,
    ⟨((wit .ready).set (F.DMACH_STATE_STATE.inst 0) 4), 0, by decide +kernel⟩⟩

/-- States and operands that meet the hypotheses of each clause of Mover that has any. -/
theorem witness_Mover :
  (∃ (s : State) (c : Fin 16),
    let d := s.dch c
    s.dst c = 2 ∧ d.paced = false ∧ d.down = false ∧ d.overlap = false ∧ d.srcSpace = 0 ∧ d.dstSpace = 0 ∧ d.moved = 0 ∧ 0 < d.len ∧ d.len ≤ 256) ∧
  (∃ (s : State) (c : Fin 16) (moved : Nat),
    let d := s.dch c
    s.reaches (0x2F + c) 0x048 = true ∧ s.dst c = 2 ∧ d.paced = false ∧ d.down = false ∧ d.overlap = false ∧ d.srcSpace = 0 ∧ d.dstSpace = 0 ∧ d.moved = 0 ∧ 256 < d.len ∧ 0 < moved ∧ moved ≤ 256) ∧
  (∃ (s : State) (c : Fin 16), s.reaches (0x2F + c) 0x048 = true ∧ (s.dst c = 1 ∨ s.dst c = 3 ∨ s.dst c = 4)) ∧
  (∃ (s : State) (c : Fin 16), s.reaches (0x2F + c) 0x048 = true ∧ (s.dst c = 3 ∨ s.dst c = 4)) ∧
  (∃ (s : State) (c : Fin 16), s.reaches (0x2F + c) 0x048 = true ∧ s.dst c = 0) ∧
  (∃ (s : State) (c : Fin 16), s.dst c = 1) ∧
  (∃ (s : State) (c : Fin 16) (moved : Nat), s.dst c = 2 ∧ (s.dch c).usesHost = true ∧ s.dmaWaits c = false ∧ moved < s.moveUnit c) ∧
  (∃ (s : State) (c : Fin 16) (moved : Nat), s.dst c = 2 ∧ (s.dch c).usesHost = true ∧ s.dmaWaits c = false ∧ moved < s.moveUnit c) :=
  ⟨⟨(((wit .ready).set (F.DMACH_STATE_STATE.inst 0) 2).modDch 0 fun d => { d with len := 64 }), 0, by dsimp only; decide +kernel⟩,
    ⟨(((wit .ready).set (F.DMACH_STATE_STATE.inst 0) 2).modDch 0 fun d => { d with len := 512 }), 0, 1, by dsimp only; decide +kernel⟩,
    ⟨((wit .ready).set (F.DMACH_STATE_STATE.inst 0) 1), 0, by decide +kernel⟩,
    ⟨((wit .ready).set (F.DMACH_STATE_STATE.inst 0) 3), 0, by decide +kernel⟩,
    ⟨((wit .ready).set (F.DMACH_STATE_STATE.inst 0) 0), 0, by decide +kernel⟩,
    ⟨((wit .ready).set (F.DMACH_STATE_STATE.inst 0) 1), 0, by decide +kernel⟩,
    ⟨((wit .ready).set (F.DMACH_STATE_STATE.inst 0) 2), 0, 0, by decide +kernel⟩,
    ⟨((wit .ready).set (F.DMACH_STATE_STATE.inst 0) 2), 0, 0, by decide +kernel⟩⟩

/-! ### Worked examples of the manual -/

/-- The check value that identifies CRC-32C, CRC-32 and CRC-8 in common catalogues. -/
theorem test_crc_check_values :
    crc32c [0x31, 0x32, 0x33, 0x34, 0x35, 0x36, 0x37, 0x38, 0x39] = 0xE3069283 ∧
    crc32 [0x31, 0x32, 0x33, 0x34, 0x35, 0x36, 0x37, 0x38, 0x39] = 0xCBF43926 ∧
    crc8 [0x31, 0x32, 0x33, 0x34, 0x35, 0x36, 0x37, 0x38, 0x39] = 0xF4 := by decide +kernel

/-- Binary32 with round to nearest even (R169): 0.1 + 0.2, 0.1 × 0.1, 1 / 3, the square root of 2, and the 0.3333 of the example
after R169 for Ts 10 µs, Td 50 µs, N 10. -/
theorem test_binary32 :
    f32Add 0x3DCCCCCD 0x3E4CCCCD = 0x3E99999A ∧ f32Mul 0x3DCCCCCD 0x3DCCCCCD = 0x3C23D70B ∧ f32Div 0x3F800000 0x40400000 = 0x3EAAAAAB ∧
    f32Sqrt 0x40000000 = 0x3FB504F3 ∧ f32OfRat 50 (50 + 10 * 10) = 0x3EAAAAAB := by decide +kernel

/-- SHA-256 of "abc", the standard's example. -/
theorem test_sha256 : sha256 [0x61, 0x62, 0x63] = [0xBA, 0x78, 0x16, 0xBF, 0x8F, 0x01, 0xCF, 0xEA, 0x41, 0x41, 0x40, 0xDE, 0x5D, 0xAE, 0x22, 0x23, 0xB0, 0x03, 0x61, 0xA3, 0x96, 0x17, 0x7A, 0x9C, 0xB4, 0x10, 0xFF, 0x61, 0xF2, 0x00, 0x15, 0xAD] := by decide +kernel

/-- The example after R62: HEAD 8,191, TAIL 0, LOST 0. One append leaves HEAD 1, TAIL 2, LOST 2, with LOG_OVERRUN in entry 0. -/
theorem test_log_overrun :
    let s := (wit .ready).set F.EVT_HEAD_INDEX 8191
    let t := s.logAppend ⟨E.PAIRARB_FORCE_REFUSED, 0, [], false⟩
    t.get F.EVT_HEAD_INDEX = 1 ∧ t.get F.EVT_TAIL_INDEX = 2 ∧ t.get F.EVT_LOST_COUNT = 2 := by decide +kernel

/-- R361: "K4v-9q7x" is PWD_DATA0 0x2D76_344B and PWD_DATA1 0x7837_7139. -/
theorem test_password_words :
    let s := ((wit .configure).set (F.SEAL_PWD_DATA_CHARS.nth 0) 0x2D76344B).set (F.SEAL_PWD_DATA_CHARS.nth 1) 0x78377139
    s.pwdChars 8 = "K4v-9q7x".toList.map Char.toNat ∧ pwdFormat 8 (s.pwdChars 8) = true ∧ pwdFormat 6 (s.pwdChars 6) = false := by
  decide +kernel

/-- R449: 2,950 A on outlet 2 is bin 30 of histogram 14, at offset 0x1778; 3,000 A falls in bin 31. -/
theorem test_histogram_bin :
    histBin 14 2950000 = 30 ∧ histBin 14 3000000 = 31 ∧ histBin 14 (-1) = 0 ∧ 0x1000 + 14 * 128 + histBin 14 2950000 * 4 = 0x1778 := by
  decide +kernel

/-- Table 6.10: the split of 9.0 MW, and that of Q's share of 2.5 MW. -/
theorem test_split :
    splitWhole [⟨0x1000, 0, 4500000, 16, [0, 3000000], 0⟩, ⟨0x1001, 0, 3600000, 16, [0, 0, 0, 4500000], 0⟩,
      ⟨0, 0, 6000000, 32, [0, 0, 0, 2500000, 0, 1500000], 0⟩, ⟨1, 500000, 10000000, 16, [0, 0, 0, 2000000], 500000⟩] 9000000 =
      [(0x1000, 3000000), (0x1001, 1500000), (0, 2500000), (1, 2000000)] ∧
    splitWhole [⟨0x1002, 0, 4500000, 16, [0, 0, 0, 2500000], 0⟩, ⟨0x1003, 0, 4500000, 16, [0, 0, 0, 0, 0, 1500000], 0⟩] 2500000 =
      [(0x1002, 2500000), (0x1003, 0)] := by decide +kernel

/-- Table 7.7: the DAC start code of phases at 3,000 A over 36 phases is 829. -/
theorem test_dac_start_code :
    let s := ((wit .ready).set F.PHASE_SLOPE_SLOPE 1049).wrBytes (phaseBase 0) [0xB8, 0x0B, 0x00, 0x02, 0x48, 0xE8, 0x01, 0x00, 0x78, 0x00, 0x2B, 0x06, 1, 0]
    s.startCode 0 3000000000 36 7895 = 829 := by decide +kernel

/-- Table 7.7: a period of 25 µs in steps of 78.125 ps is 0x0004_E200, and MAX_ON 0xE000 is 21.875 µs, 8,750 ticks of 2.5 ns. -/
theorem test_max_on :
    (((wit .ready).set F.PHASE_PERIOD_FT 0x4E200).set F.PHASE_BLANK_MAXON_MAX_ON 0xE000).maxOnTicks = 8750 := by decide +kernel

/-- R401: four heavy channels of 10 A at 25 °C dissipate 4.0 W. -/
theorem test_dissipation : 4 * dissNw 0 10000 250 = 4000 * 1000000 := by decide +kernel

/-- R273: 3 MW over 78 samples of 12.8 µs is 832 mWh; 79 samples leave 187,500,000,000 units, a fraction of 0xAAAA_AAAA. -/
theorem test_cycle_energy :
    let acc (n : Nat) := (List.range n).foldl (fun (a : OutAcc) _ => a.add 1000000 3000000 1000000 3000000) {}
    (outRes (acc 78) 0 0).2.2.2 = 832 * 281250000000 ∧ (outRes (acc 79) 0 0).2.2.2 = 842 * 281250000000 + 187500000000 ∧
    187500000000 * 2 ^ 32 / 281250000000 = 0xAAAAAAAA := by decide +kernel

/-- R283: a pulse of 416 of a cycle's 832 mWh is due half a millisecond into the cycle. -/
theorem test_pulse_crossing : pulseLoop 832 1000000 1 416 832 0 = (416, [500]) := by decide +kernel

/-- The table gives its rows no bits, so no word spells a command, and nothing is placed in the queue. -/
theorem test_no_words : decodeTableWord 32 0 = none ∧ (State.reset.withFetchWord 32 0).pending = [] := by decide +kernel

/-- The first command in the queue runs first, and the rest stays. -/
theorem test_queue : (match step { wit .ready with pending := [.resetStuckClear, .errCodeRead 0x11] } with
    | .next t => t.pending
    | _ => []) = [.errCodeRead 0x11] := by decide +kernel

/-! ### Ill-formed commands -/

/-- One command for each check of WellFormed, and every one is refused. -/
theorem test_ill_formed : List.all (α := Instr)
  ([.pcieLinkUp 5 1 true, .pcieLinkUp 1 3 true, .imageCheck 0x10000, .imageActivate 0x10000, .imageWrite 2 0,
   .imageWrite 0x1000000 0, .registerWrite 0x10000000 0 4, .registerWrite 2 0 4, .readClear 0x47 ⟨0, 15⟩, .readClear 0 ⟨0x1000, 15⟩,
   .readClear 0 ⟨2, 15⟩, .errCodeRead 0x47, .unmappedAccess 0x100000000 false, .evtPendClear 0x47 0, .evtSet 0x47 0,
   .diagInjWrite 0x47 0, .tableEntryWrite 16 0 0, .tableEntryWrite 1 2 0, .eventAppend 0x47 0 0 0 [], .eventAppend 0 256 0 0 [],
   .eventAppend 0 0 8 0 [], .eventAppend 0 0 0 256 [], .eventAppend 0 0 0 0 [0x100000000]] ++
  [PtpMsg.mk 256 0 false 0 0 0, .mk 0 0x10000 false 0 0 0].flatMap (fun f =>
    [.ptpSyncRx 0 f, .ptpFollowUpRx 0 f, .ptpDelayReqRx 0 f, .ptpDelayRespRx 0 f, .ptpPdelayReqRx 0 f, .ptpPdelayRespRx 0 f,
     .ptpPdelayRespFollowUpRx 0 f, .ptpAnnounceRx 0 f]) ++
  [.prepareRx [256], .voteRx [256], .decideRx [256], .queryRx [256], .outcomeRx [256], .galeshFrameRx 0 [256],
   .nonGaleshFrameRx 0 [256], .routeEntryWrite 4096 false 0, .leaseRx 0 ⟨0, [256]⟩, .leaseRx 0 ⟨0x10000, []⟩,
   .demandRx ⟨0, [256]⟩, .demandRx ⟨0x10000, []⟩, .sensFrame [],
   .sensFrame (List.replicate 48 0x10000)] ++
  [.cmSlacParmReq 0 (2 ^ 64), .cmStartAttenCharInd 0 (2 ^ 64), .cmMnbcSoundInd 0 (2 ^ 64), .cmAttenProfileInd 0 [256],
   .cmAttenCharRsp 0 (2 ^ 64) true, .cmSlacMatchReq 0 (2 ^ 64) 0, .cmSlacMatchReq 0 0 (2 ^ 48), .cmValidateReq 0 (2 ^ 64),
   .icmpv6NsRx 0 ⟨⟨2 ^ 48, 0⟩, 0⟩ 0, .icmpv6NsRx 0 ⟨⟨0, 2 ^ 16⟩, 0⟩ 0, .icmpv6NsRx 0 ⟨⟨0, 0⟩, (2 ^ 128)⟩ 0, .icmpv6NsRx 0 ⟨⟨0, 0⟩, 0⟩ (2 ^ 128),
   .icmpv6EchoRx 0 ⟨⟨0, 0⟩, (2 ^ 128)⟩ 0 [], .icmpv6EchoRx 0 ⟨⟨0, 0⟩, 0⟩ 0 [256],
   .sdpRequestRx 0 ⟨⟨0, 0⟩, (2 ^ 128)⟩ 0 0 0 0 0 0, .sdpRequestRx 0 ⟨⟨0, 0⟩, 0⟩ 0 0x10000 0 0 0 0, .sdpRequestRx 0 ⟨⟨0, 0⟩, 0⟩ 0 0 256 0 0 0,
   .sdpRequestRx 0 ⟨⟨0, 0⟩, 0⟩ 0 0 0 256 0 0, .sdpRequestRx 0 ⟨⟨0, 0⟩, 0⟩ 0 0 0 0 256 0, .sdpRequestRx 0 ⟨⟨0, 0⟩, 0⟩ 0 0 0 0 0 256,
   .tcpSynRx 0 ⟨⟨0, 0⟩, 0⟩ 0x10000, .tcpSegmentRx 0 ⟨⟨0, 0⟩, (2 ^ 128)⟩ 0 0 false false, .supportedAppProtocol 0 [(256, 0)], .sessionSetup 0 [256], .certificateInstallation 0 false [256],
   .paymentDetails 0 [] [[256]], .authorization 0 [256] [], .meteringConfirmation 0 [256], .certRes 0 0 0 0 [256],
   .ocspSet 0 [256]] ++
  [.lensSample [] [], .recordAppendReq 0 [256], .gscRx 0x10000 [], .gscRx 0 [256], .lswDissCheck [] [],
   .lswLinkDownWrite false 2, .dmaPause 0 0 [256], .dmaAbort 0 0 [256], .dmaDescFetched 0 [] 0,
   .dmaDescFetched 0 (List.replicate 32 256) 0, .dmaTransferDone 0 [] 1, .dmaBusError 0 0x2F33 0 [], .dmaCplTimeout 0 0 [256],
   .scrubRead [(32, 0)] 0 false, .scrubRead [(0, 2 ^ 72)] 0 false, .scrubRead [] (2 ^ 72) false]) (fun c => !c.wf) = true := by decide +kernel

/-- Commands at the ends of their ranges are accepted. -/
theorem test_well_formed :
    ([.pcieLinkUp 4 4 true, .imageCheck 0xFFFF, .registerWrite 0xFFFFFFC 15 0, .readClear 0x46 ⟨0xFFC, 15⟩, .tableEntryWrite 15 0xFFFFFC 0,
      .eventAppend 0x46 255 7 255 [0xFFFFFFFF], .sensFrame (List.replicate 48 0xFFFF), .routeEntryWrite 4095 true 0,
      .lensSample (List.replicate 23 0) [], .dmaDescFetched 0 [] 0x2F37, .dmaBusError 0 0x2F32 0 []] : List Instr).all Instr.wf = true := by
  decide +kernel

end Sys2Proof.Tests
end

/-! PROOFS. Reading back what was written: numbers in bytes and in two's complement (R5, R8), register fields, and the table
memory, whose canonical form is determined by what it reads (R42). -/
section
namespace Sys2Proof.Machine

/-! ### Numbers in bytes -/

theorem ofLe_leBytes (n v : Nat) : ofLe (leBytes n v) = v % 256 ^ n := by
  induction n generalizing v with
  | zero => simp [leBytes, ofLe, Nat.mod_one]
  | succ n ih => rw [leBytes, ofLe, ih, Nat.mod_mod, Nat.pow_succ', Nat.mod_mul]

theorem ofBe_beBytes (n v : Nat) : ofBe (beBytes n v) = v % 256 ^ n := by
  rw [ofBe, beBytes, List.reverse_reverse, ofLe_leBytes]

/-- Of a listed number only its low byte counts. -/
theorem ofLe_map_mod (l : List Nat) : ofLe (l.map (· % 256)) = ofLe l := by
  induction l with
  | nil => rfl
  | cons b t ih => rw [List.map_cons, ofLe, ofLe, ih, Nat.mod_mod]

theorem leBytes_getElem (n v i : Nat) (h : i < (leBytes n v).length) : (leBytes n v)[i] = v / 256 ^ i % 256 := by
  induction n generalizing v i with
  | zero => simp [leBytes] at h
  | succ n ih =>
    cases i with
    | zero => simp [leBytes]
    | succ i => simp [leBytes, ih, Nat.div_div_eq_div_mul, Nat.pow_succ']

theorem leBytes_getD (n v i : Nat) (h : i < n) : (leBytes n v).getD i 0 = v / 256 ^ i % 256 := by
  have hi : i < (leBytes n v).length := by rwa [leBytes_length]
  rw [List.getD_eq_getElem?_getD, List.getElem?_eq_getElem hi, Option.getD_some, leBytes_getElem]

/-- Byte `i` of a number stands `i` places before the last in its most significant first form. -/
theorem beBytes_getD (n v i : Nat) (h : i < n) : (beBytes n v).getD (n - 1 - i) 0 = v / 256 ^ i % 256 := by
  have hi : n - 1 - i < (leBytes n v).reverse.length := by
    rw [List.length_reverse, leBytes_length]
    omega
  have e : n - 1 - (n - 1 - i) = i := by omega
  rw [beBytes, List.getD_eq_getElem?_getD, List.getElem?_eq_getElem hi, Option.getD_some, List.getElem_reverse, leBytes_getElem,
    leBytes_length, e]

/-! ### Two's complement, through the library's bit vectors -/

theorem ofSigned_eq_toNat_ofInt (w : Nat) (z : Int) : ofSigned w z = (BitVec.ofInt w z).toNat := by
  simp [ofSigned]

theorem toSigned_toNat {w : Nat} (hw : 0 < w) (x : BitVec w) : toSigned w x.toNat = x.toInt := by
  have hp : 2 ^ (w - 1) * 2 = 2 ^ w := Nat.two_pow_pred_mul_two hw
  have hc : x.toNat < 2 ^ (w - 1) ↔ 2 * x.toNat < 2 ^ w := by omega
  simp [toSigned, BitVec.toInt_eq_toNat_cond, hc]

theorem toSigned_ofSigned {w : Nat} {z : Int} (hw : 0 < w) (hlo : -(2 : Int) ^ (w - 1) ≤ z) (hhi : z < 2 ^ (w - 1)) :
    toSigned w (ofSigned w z) = z := by
  rw [ofSigned_eq_toNat_ofInt, toSigned_toNat hw, BitVec.toInt_ofInt_eq_self hw hlo hhi]

theorem ofSigned_lt (w : Nat) (z : Int) : ofSigned w z < 2 ^ w := by
  rw [ofSigned_eq_toNat_ofInt]
  exact BitVec.isLt _

theorem ofSigned_toSigned {w n : Nat} (hw : 0 < w) (hn : n < 2 ^ w) : ofSigned w (toSigned w n) = n := by
  have hx : (BitVec.ofNat w n).toNat = n := by rw [BitVec.toNat_ofNat, Nat.mod_eq_of_lt hn]
  calc ofSigned w (toSigned w n)
      = (BitVec.ofInt w (toSigned w (BitVec.ofNat w n).toNat)).toNat := by rw [hx, ofSigned_eq_toNat_ofInt]
    _ = n := by rw [toSigned_toNat hw, BitVec.ofInt_toInt, hx]

/-- Settles O6: bytes by induction on their number, two's complement through `BitVec.ofInt` and `BitVec.toInt`. -/
theorem numberFormats : Obligations.NumberFormats :=
  ⟨fun n v => ⟨ofLe_leBytes n v, ofBe_beBytes n v, leBytes_length n v⟩,
    fun n v i h => ⟨leBytes_getD n v i h, beBytes_getD n v i h⟩,
    fun w z hw hlo hhi => ⟨toSigned_ofSigned hw hlo hhi, ofSigned_lt w z⟩,
    fun _ _ hw hn => ofSigned_toSigned hw hn⟩

/-! ### Numbers in the table memory -/

/-- The bytes read where a run was written are the bytes written. -/
theorem rdBytes_wrBytes (s : State) (a : Nat) (l : List Nat) : (s.wrBytes a l).rdBytes a l.length = l.map (· % 256) := by
  refine List.ext_getElem (by simp) fun i _ h => ?_
  have hi : i < l.length := by simpa using h
  simp [State.rdBytes, State.rdByte_wrBytes_same s a l i hi]

theorem rdLe_wrLe (s : State) (a n v : Nat) : (s.wrLe a n v).rdLe a n = v % 256 ^ n := by
  have h := rdBytes_wrBytes s a (leBytes n v)
  rw [leBytes_length] at h
  rw [State.rdLe, State.wrLe, h, ofLe_map_mod, ofLe_leBytes]

/-! ### A canonical memory is what it reads -/

theorem mem_of_memGet_ne_zero {m : List Host.Cell} {k : Nat} (h : memGet m k ≠ 0) : (k, memGet m k) ∈ m := by
  induction m with
  | nil => simp [memGet] at h
  | cons e t ih =>
    obtain ⟨a, b⟩ := e
    by_cases hk : a = k
    · simp [memGet, hk]
    · simp only [memGet, hk, if_false] at h ⊢
      exact List.mem_cons_of_mem _ (ih h)

theorem memGet_of_mem {m : List Host.Cell} {e : Host.Cell} (hm : m.Pairwise fun a b => a.1 < b.1) (he : e ∈ m) :
    memGet m e.1 = e.2 := by
  induction m with
  | nil => simp at he
  | cons x t ih =>
    obtain ⟨hlt, ht⟩ := List.pairwise_cons.1 hm
    rcases List.mem_cons.1 he with rfl | het
    · simp [memGet]
    · rw [memGet, if_neg (Nat.ne_of_lt (hlt e het)), ih ht het]

/-- In the canonical form the listed bytes are those that do not read 0. -/
theorem mem_iff_memGet {m : List Host.Cell} (hm : Memory.wf m = true) (e : Host.Cell) :
    e ∈ m ↔ memGet m e.1 = e.2 ∧ e.2 ≠ 0 := by
  obtain ⟨hp, hz⟩ := (wf_iff m).1 hm
  refine ⟨fun he => ⟨memGet_of_mem hp he, hz e he⟩, fun ⟨hg, h0⟩ => ?_⟩
  have h := mem_of_memGet_ne_zero (hg ▸ h0)
  rwa [hg] at h

theorem nodup_of_keys_lt {m : List Host.Cell} (h : m.Pairwise fun a b => a.1 < b.1) : m.Nodup :=
  h.imp fun hlt he => Nat.ne_of_lt hlt (congrArg Prod.fst he)

/-- Two canonical memories that read alike list the same bytes, and by rising keys there is one list of them. -/
theorem eq_of_memGet_eq {m n : List Host.Cell} (hm : Memory.wf m = true) (hn : Memory.wf n = true)
    (h : ∀ a, memGet m a = memGet n a) : m = n := by
  have hmem : ∀ e, e ∈ m ↔ e ∈ n := fun e => by rw [mem_iff_memGet hm, mem_iff_memGet hn, h]
  obtain ⟨hpm, -⟩ := (wf_iff m).1 hm
  obtain ⟨hpn, -⟩ := (wf_iff n).1 hn
  have hperm : m.Perm n := (List.perm_ext_iff_of_nodup (nodup_of_keys_lt hpm) (nodup_of_keys_lt hpn)).2 hmem
  exact hperm.eq_of_pairwise (fun _ _ _ _ hab hba => absurd hba (Nat.lt_asymm hab)) hpm hpn

/-- Settles O5: the rules of reading after writing, and `eq_of_memGet_eq` for the canonical form. -/
theorem readAfterWrite : Obligations.ReadAfterWrite :=
  ⟨fun s f v => ⟨State.get_set_same s f v, fun a => State.rdByte_congr (State.set_mem s f v) a⟩,
    State.get_set_other, rdLe_wrLe, State.rdByte_wrBytes_other, State.get_wrBytes, State.wf_wrBytes,
    fun _ _ => eq_of_memGet_eq⟩

end Sys2Proof.Machine
end

/-! PROOFS. What later proofs read a command's effect through: its guard, its end (`done`) with the STATUS bits it leaves alone, and
the loops of the model. -/
section
namespace Sys2Proof.Machine

/-! ### Reading through a command's guard and through its end -/

/-- A command whose guard holds has its effect. -/
theorem finish_when_of_true {c : Bool} {s : State} {f : State → State} (h : c = true) : (s.when c f).finish = .next (f s).done := by
  rw [h, State.when_true, State.finish]

/-- A command whose guard fails only takes its time. -/
theorem finish_when_of_false {c : Bool} {s : State} {f : State → State} (h : c = false) : (s.when c f).finish = .next s.done := by
  rw [h, State.when_false, State.finish]

/-- A host write that reaches its register has its effect. -/
theorem finish_hostWrites_of_reaches {s : State} {page off : Nat} (h : s.reaches page off = true) (f : State → State) :
    (s.hostWrites page off f).finish = .next (f s).done := by
  rw [hostWrites_of_reaches s page off f h, State.finish]

theorem done_on (s : State) (f : Field) (h : quiet f = true) : s.done.on f = s.on f := by rw [State.on, done_get s f h, State.on]

theorem done_mode (s : State) : s.done.mode = s.mode := congrArg Mode.ofCode (done_get s F.SYS_MODE_CURRENT (by decide))

theorem on_setB_same (s : State) (f : Field) (b : Bool) (h : f.width = 1) : (s.setB f b).on f = b := by
  cases b <;> simp [State.on, h]

theorem on_set_other (s : State) (f g : Field) (v : Nat) (h : f.key ≠ g.key) : (s.set f v).on g = s.on g := by
  rw [State.on, State.get_set_other s f g v h, State.on]

theorem on_setB_other (s : State) (f g : Field) (b : Bool) (h : f.key ≠ g.key) : (s.setB f b).on g = s.on g :=
  on_set_other s f g _ h

@[simp] theorem State.modSys_sys (s : State) (f : SysState → SysState) : (s.modSys f).sys = f s.sys := rfl
@[simp] theorem State.modSys_regs (s : State) (f : SysState → SysState) : (s.modSys f).regs = s.regs := rfl
@[simp] theorem State.get_modSys (s : State) (f : SysState → SysState) (g : Field) : (s.modSys f).get g = s.get g := rfl
@[simp] theorem State.on_ev (s : State) (c : EvCode) (n : Nat) (d : List Nat) (g : Field) : (s.ev c n d).on g = s.on g := rfl

/-- What no step of a loop over a list changes is as before. -/
theorem each_invariant {α β : Type} (p : State → β) (l : List α) (f : α → State → State) (h : ∀ a t, p (f a t) = p t) (s : State) :
    p (s.each l f) = p s := by
  induction l generalizing s with
  | nil => rfl
  | cons a l ih => exact (ih (f a s)).trans (h a s)

/-! ### The STATUS word of a page under the end of a command

`done_get` speaks of the fields outside the page headers. Of the headers, the STATUS bits below ERR_NEW are left alone too: the
log writes ERR_NEW, the error registers, EVT_RAW and its own ring. -/

/-- A field of a page's STATUS word below ERR_NEW. -/
def statusBit (f : Field) : Bool := f.off == 0x00C && decide (f.lo < 31)

/-- A field that is no STATUS bit; the log writes no other. -/
def offStatus (f : Field) : Bool := decide (f.lo < 32) && decide (f.off < 0x1000) && (f.off != 0x00C || f.lo == 31)

theorem key_ne_of_offStatus {f g : Field} (hf : offStatus f = true) (hg : statusBit g = true) : f.key ≠ g.key := by
  simp only [offStatus, statusBit, Field.key, Bool.and_eq_true, Bool.or_eq_true, decide_eq_true_eq, beq_iff_eq, bne_iff_ne] at *
  omega

/-- Every STATUS bit reads in `t` as in `s`. -/
def KeepsStatus (s t : State) : Prop := ∀ f, statusBit f = true → t.get f = s.get f

theorem KeepsStatus.refl (s : State) : KeepsStatus s s := fun _ _ => rfl

theorem KeepsStatus.trans {s t u : State} (h : KeepsStatus s t) (k : KeepsStatus t u) : KeepsStatus s u :=
  fun f hf => (k f hf).trans (h f hf)

theorem keepsStatus_of_regs {s t : State} (h : t.regs = s.regs) : KeepsStatus s t := fun f _ => State.get_congr h f

theorem keepsStatus_evt (s : State) (e : EvtState) : KeepsStatus s { s with evt := e } := fun _ _ => rfl

theorem keepsStatus_set (s : State) {f : Field} (v : Nat) (h : offStatus f = true) : KeepsStatus s (s.set f v) :=
  fun g hg => State.get_set_other s f g v (key_ne_of_offStatus h hg)

theorem keepsStatus_refreshFill (s : State) : KeepsStatus s s.refreshFill := by
  have h : KeepsStatus s (s.set F.EVT_FILL_COUNT s.logFill) := keepsStatus_set s _ rfl
  unfold State.refreshFill
  dsimp only
  split
  · exact h.trans (keepsStatus_evt _ _)
  · exact h

theorem keepsStatus_logMakeRoom (s : State) : KeepsStatus s s.logMakeRoom := by
  unfold State.logMakeRoom
  split
  · exact (keepsStatus_set s _ rfl).trans (keepsStatus_set _ _ rfl)
  · exact KeepsStatus.refl s

theorem keepsStatus_logWrite (s : State) (e : Ev) : KeepsStatus s (s.logWrite e) :=
  (keepsStatus_of_regs (State.wrBytes_regs s _ _)).trans
    ((keepsStatus_set _ _ rfl).trans ((keepsStatus_set _ _ rfl).trans (keepsStatus_refreshFill _)))

theorem keepsStatus_setRaw (s : State) (e : Ev) : KeepsStatus s (s.setRaw e) :=
  (keepsStatus_evt s _).trans (keepsStatus_set _ _ rfl)

theorem keepsStatus_logAppend (s : State) (e : Ev) : KeepsStatus s (s.logAppend e) := by
  have h := (keepsStatus_logMakeRoom s).trans (keepsStatus_logWrite _ e)
  unfold State.logAppend
  dsimp only
  split
  · exact h.trans ((keepsStatus_logMakeRoom _).trans ((keepsStatus_logWrite _ _).trans (keepsStatus_setRaw _ _)))
  · exact h

theorem keepsStatus_logOne (s : State) (e : Ev) : KeepsStatus s (s.logOne e) := by
  unfold State.logOne
  split
  · exact KeepsStatus.refl s
  · split
    · exact keepsStatus_set s _ rfl
    · exact (keepsStatus_logAppend s e).trans (keepsStatus_evt _ _)

theorem logSinkFrom_regs (s : State) (n i : Nat) : (s.logSinkFrom n i).regs = s.regs := by
  induction n generalizing s i with
  | zero => rfl
  | succ n ih =>
    unfold State.logSinkFrom
    split
    · rw [ih, State.logSwap, State.wrBytes_regs, State.wrBytes_regs]
    · rfl

theorem keepsStatus_logSink (s : State) : KeepsStatus s s.logSink := keepsStatus_of_regs (logSinkFrom_regs s _ _)

theorem keepsStatus_judgeFill (s : State) : KeepsStatus s s.judgeFill := by
  unfold State.judgeFill
  split
  · exact (keepsStatus_evt s _).trans ((keepsStatus_setRaw _ _).trans (keepsStatus_logOne _ _))
  · exact KeepsStatus.refl s

theorem keepsStatus_setError (s : State) (e : Ev) (first : Bool) : KeepsStatus s (s.setError e first) := by
  have h : KeepsStatus s (s.incSat (hErrCount e.page)) := keepsStatus_set s _ rfl
  unfold State.setError
  dsimp only
  split
  · exact h.trans ((keepsStatus_set _ _ rfl).trans ((keepsStatus_set _ _ rfl).trans
      ((keepsStatus_set _ _ rfl).trans (keepsStatus_set _ _ rfl))))
  · exact h

theorem lifeStore_regs (s : State) (i n : Nat) : (s.lifeStore i n).regs = s.regs := State.wrBytes_regs s _ _
theorem lifeStore_sys (s : State) (i n : Nat) : (s.lifeStore i n).sys = s.sys := State.wrBytes_sys s _ _

theorem lifeAdd_regs (s : State) (i n : Nat) : (s.lifeAdd i n).regs = s.regs := by
  unfold State.lifeAdd
  split
  · rfl
  · exact lifeStore_regs s i n

theorem countLife_regs (s : State) (e : Ev) : (s.countLife e).regs = s.regs := by
  unfold State.countLife
  split
  · exact lifeStore_regs s _ _
  · exact lifeAdd_regs s _ _
  · rfl

theorem keepsStatus_takeEvent (s : State) (errs : List Nat) (e : Ev) : KeepsStatus s (s.takeEvent errs e) := by
  have h := (keepsStatus_setRaw s e).trans (keepsStatus_of_regs (countLife_regs _ e))
  have log (t : State) : KeepsStatus t ((((t.logOne e).logSink).judgeFill).logSink) :=
    (keepsStatus_logOne t e).trans ((keepsStatus_logSink _).trans ((keepsStatus_judgeFill _).trans (keepsStatus_logSink _)))
  unfold State.takeEvent
  dsimp only
  split
  · exact h.trans ((keepsStatus_setError _ _ _).trans (log _))
  · exact h.trans (log _)

theorem keepsStatus_takeEvents (s : State) (errs : List Nat) (es : List Ev) : KeepsStatus s (s.takeEvents errs es) := by
  induction es generalizing s errs with
  | nil => exact KeepsStatus.refl s
  | cons e es ih => exact (keepsStatus_takeEvent s errs e).trans (ih _ _)

/-- The end of a command leaves a STATUS bit alone. -/
theorem done_get_status (s : State) (f : Field) (h : statusBit f = true) : s.done.get f = s.get f :=
  (State.get_congr (judges_done s).regs f).trans (keepsStatus_takeEvents { s with evWait := [] } _ _ f h)

theorem done_on_status (s : State) (f : Field) (h : statusBit f = true) : s.done.on f = s.on f := by
  rw [State.on, done_get_status s f h, State.on]

end Sys2Proof.Machine
end

/-! PROOFS. The state after reset, requests to reset and the reset button (R34 to R37). -/
section
namespace Sys2Proof.Machine

/-! ### The state after reset -/

/-- After reset no page has a pending event, so no vector has its condition and no line is asserted. -/
theorem settled_reset : Settled State.reset where
  noEvent := rfl
  cond := by decide
  intN := by decide
  intA := by decide
  failN := by decide

/-- Settles O2: nothing is listed after reset, so every field reads its reset value. -/
theorem resetState : Obligations.ResetState :=
  ⟨fun _ => rfl, rfl, rfl, by decide, rfl, settled_reset, rfl⟩

/-! ### RESET_STUCK (R37) -/

theorem exec_resetStuckClear_of_reaches {s : State} (h : s.reaches 0x00 0x060 = true) :
    exec .resetStuckClear s = .next s.stuckClear.done :=
  (exec_resetStuckClear s).trans (finish_hostWrites_of_reaches h _)

theorem stuckClear_of_released {s : State} (h : s.on F.SYS_BUTTON_PRESSED = false) :
    s.stuckClear = s.setB F.SYS_BUTTON_RESET_STUCK false := by rw [State.stuckClear, h, Bool.not_false, State.when_true]

theorem stuckClear_of_pressed {s : State} (h : s.on F.SYS_BUTTON_PRESSED = true) : s.stuckClear = s := by
  rw [State.stuckClear, h, Bool.not_true, State.when_false]

/-- Settles O10: the write is `stuckClear`, whose guard is the released button; the end of a command leaves the flag alone. -/
theorem resetStuckClear : Obligations.ResetStuckClear := by
  refine ⟨fun s hr hp => ⟨?_, ?_⟩, fun s hr hp => ⟨?_, ?_⟩⟩
  · rw [exec_resetStuckClear_of_reaches hr, stuckClear_of_released hp]
  · rw [done_on _ _ (by decide), on_setB_same _ _ _ rfl]
  · rw [exec_resetStuckClear_of_reaches hr, stuckClear_of_pressed hp]
  · rw [done_on _ _ (by decide)]

/-! ### Requests to reset (R35): one lemma for each way a request is taken -/

section requests
variable {s : State} {cause : Nat} (hheld : s.sys.held = false)
include hheld

theorem requestReset_in_vault (hv : s.mode = .vault) :
    s.requestReset cause = s.modSys fun y => { y with heldRequest := setBitOf y.heldRequest cause true } := by
  simp [State.requestReset, hheld, hv]

variable (hv : s.mode ≠ .vault)
include hv

theorem requestReset_while_deferred (hd : s.sys.deferred ≠ 0) :
    s.requestReset cause = s.modSys fun y => { y with deferred := setBitOf y.deferred cause true } := by
  simp [State.requestReset, hheld, hv, hd]

theorem requestReset_while_idle (hd : s.sys.deferred = 0)
    (he : ((s.mode == .deliver || s.mode == .degraded) && s.anyEnergy) = false) :
    s.requestReset cause = s.deviceReset (setBitOf 0 cause true) := by
  simp only [State.requestReset, hheld, hv, hd, he, bne_self_eq_false, Bool.false_eq_true, if_false]

theorem requestReset_while_delivering (hd : s.sys.deferred = 0)
    (he : ((s.mode == .deliver || s.mode == .degraded) && s.anyEnergy) = true) :
    let l := s.outlets.filter fun n => s.ostate n == .energy
    s.requestReset cause =
      ((((s.modSys fun y => { y with deferred := setBitOf y.deferred cause true }).setB F.SYS_BUTTON_DEFER_PENDING true).ev
        E.SYS_RESET_DEFERRED 0 [l.foldl (fun m n => setBitOf m n true) 0]).each l fun n s =>
          s.modOut n fun o => { o with resetRamp := max 1 o.refUa }) := by
  simp only [State.requestReset, hheld, hv, hd, he, bne_self_eq_false, Bool.false_eq_true, if_false, if_true]

end requests

/-- A write of SW_RESET's key requests a reset with cause 4 of Table 2.6. -/
theorem exec_swReset_of_key {s : State} (h : s.reaches 0x00 0x064 = true) :
    exec (.swReset 0xA5C30F5A) s = .next (s.requestReset 4).done :=
  (exec_swReset 0xA5C30F5A s).trans (finish_hostWrites_of_reaches h _)

theorem exec_swReset_of_other {s : State} {key : Word} (h : s.reaches 0x00 0x064 = true) (hk : key ≠ 0xA5C30F5A) :
    exec (.swReset key) s = .next s.done := by
  have hn : (key.toNat == 0xA5C30F5A) = false :=
    beq_eq_false_iff_ne.2 fun he => hk (BitVec.eq_of_toNat_eq he)
  rw [exec_swReset, execSwReset, finish_hostWrites_of_reaches h, State.swReset, hn, State.when_false]

/-- A release of the button that is not disregarded requests a reset with cause 3. -/
theorem exec_resetButtonRelease_of_heeded {s : State} (h : s.sys.btnIgnored = false) :
    exec .resetButtonRelease s = .next ((s.setB F.SYS_BUTTON_PRESSED false).requestReset 3).done :=
  (exec_resetButtonRelease s).trans
    (finish_when_of_true (s := s.setB F.SYS_BUTTON_PRESSED false) (by rw [State.setB_sys, h, Bool.not_false]))

theorem exec_resetButtonRelease_of_ignored {s : State} (h : s.sys.btnIgnored = true) :
    exec .resetButtonRelease s = .next (s.setB F.SYS_BUTTON_PRESSED false).done :=
  (exec_resetButtonRelease s).trans
    (finish_when_of_false (s := s.setB F.SYS_BUTTON_PRESSED false) (by rw [State.setB_sys, h, Bool.not_true]))

/-- The reset deferred follows once no outlet delivers and none that stops carries current. -/
theorem exec_deferredResetDone_of_zero {s : State} (hd : s.sys.deferred ≠ 0) (hv : s.mode ≠ .vault) (he : s.anyEnergy = false)
    (hz : ∀ n ∈ s.outlets, s.ostate n = .stopping → s.icZero n = true) :
    exec .deferredResetDone s = .next (s.deviceReset s.sys.deferred).done := by
  have hall : (s.outlets.all fun n => s.ostate n != .stopping || s.icZero n) = true :=
    List.all_eq_true.2 fun n hn => by
      by_cases hs : s.ostate n = .stopping
      · rw [hz n hn hs, Bool.or_true]
      · rw [bne_iff_ne.2 hs, Bool.true_or]
  exact (exec_deferredResetDone s).trans (finish_when_of_true (by simp [hd, hv, he, hall]))

/-- Settles O12: each request runs `requestReset`, by the lemma of the case the device is in. -/
theorem resets : Obligations.Resets := by
  refine ⟨exec_vaonPowerOnReset, fun s hr hh hv hd he => ?_, fun s hr hh hv hd => ?_, fun s hb hh hv hd he => ?_, fun s hh hv hd he => ?_,
    fun s hd hv he hz => exec_deferredResetDone_of_zero hd hv he hz, fun s hr hh hv => ?_, fun s hr hh hm hd he => ?_,
    fun s key hr hk => exec_swReset_of_other hr hk, fun s hb => ?_, exec_resetButtonReleased1s,
    fun s hb => exec_resetButtonRelease_of_ignored hb, fun s hr => ?_⟩
  · rw [exec_swReset_of_key hr, requestReset_while_idle hh hv hd he]
  · rw [exec_swReset_of_key hr, requestReset_while_deferred hh hv hd]
  · rw [exec_resetButtonRelease_of_heeded hb, requestReset_while_idle (s := s.setB F.SYS_BUTTON_PRESSED false) hh hv hd he]
  · rw [exec_pcieReset, execPcieReset, State.finish, requestReset_while_idle hh hv hd he]
  · rw [exec_swReset_of_key hr, requestReset_in_vault hh hv]
  · rw [exec_swReset_of_key hr, requestReset_while_delivering hh (by simp [hm]) hd (by simp [hm, he])]
  · exact (exec_resetStuck s).trans (finish_when_of_true (by rw [hb, Bool.not_false]))
  · rw [exec_resetStuckClear_of_reaches hr]
    split
    case isTrue hp => rw [stuckClear_of_pressed hp]
    case isFalse hp => rw [stuckClear_of_released (eq_false_of_ne_true hp)]

end Sys2Proof.Machine
end

/-! PROOFS. From the rails to service, and DORMANT (R23 to R26, R34, R38). -/
section
namespace Sys2Proof.Machine

/-! ### Out of reset (R34, R38) -/

/-- The state in which RAILS_GOOD has recorded and counted the causes `c` of the reset that ends. -/
def State.causesRecorded (s : State) (c : Nat) (buttonHeld : Bool) : State :=
  ((s.modSys fun y => { y with held := false, resetCauses := 0, btnIgnored := y.btnIgnored || buttonHeld }).set
    F.SYS_RESET_CAUSE_CAUSE ((s.get F.SYS_RESET_CAUSE_CAUSE).lor c)).each ((List.range 7).filter fun b => c.testBit b) fun b s =>
      s.lifeStore (12 + b) 1

theorem causesRecorded_sys (s : State) (c : Nat) (b : Bool) :
    (s.causesRecorded c b).sys = { s.sys with held := false, resetCauses := 0, btnIgnored := s.sys.btnIgnored || b } :=
  each_invariant State.sys _ _ (fun _ t => lifeStore_sys t _ _) _

theorem causesRecorded_get_cause (s : State) (c : Nat) (b : Bool) :
    (s.causesRecorded c b).get F.SYS_RESET_CAUSE_CAUSE = ((s.get F.SYS_RESET_CAUSE_CAUSE).lor c) % 128 :=
  (State.get_congr (each_invariant State.regs _ _ (fun _ t => lifeStore_regs t _ _) _) _).trans (State.get_set_same _ _ _)

/-- The state in which RAILS_GOOD ends with the button released: causes, straps and rails shown, and WAKING begun. -/
def State.railsUp (s : State) (cfgHost unitB selHigh : Bool) : State :=
  let s := (s.causesRecorded s.sys.resetCauses false).setB F.SYS_BUTTON_PRESSED false
  let s := (s.setB F.SYS_BOOT_CFG_HOST cfgHost).setB F.MIR_CFG_UNIT_B unitB
  let s := (s.setB F.MIR_STATUS_SEL_LEVEL selHigh).setB F.MIR_STATUS_SELECTED (selHigh != unitB)
  let s := (s.set F.PWR_RAIL_STAT_UV 0).setB F.PWR_RAIL_STAT_VLS_WARN false
  ((s.set F.SYS_MODE_CURRENT Mode.waking.code).refreshCfgCrc).ev E.SYS_MODE_CHANGE 0 [s.mode.code, Mode.waking.code, 1]

theorem exec_railsGood_of_held {s : State} (h : s.sys.held = true) (cfgHost unitB selHigh : Bool) :
    exec (.railsGood cfgHost unitB selHigh false) s = .next (s.railsUp cfgHost unitB selHigh).done :=
  (exec_railsGood cfgHost unitB selHigh false s).trans (finish_when_of_true h)

section railsUp
variable (s : State) (cfgHost unitB selHigh : Bool)

theorem railsUp_sys : (s.railsUp cfgHost unitB selHigh).sys =
    { s.sys with held := false, resetCauses := 0, btnIgnored := s.sys.btnIgnored || false } := by
  simp only [State.railsUp, State.refreshCfgCrc, State.ev_sys, State.set_sys, State.setB_sys, causesRecorded_sys]

theorem railsUp_mode : (s.railsUp cfgHost unitB selHigh).mode = .waking := by
  have h : (s.railsUp cfgHost unitB selHigh).get F.SYS_MODE_CURRENT = Mode.waking.code := by
    simp (disch := decide) only [State.railsUp, State.refreshCfgCrc, State.get_ev, State.get_set_other, State.get_set_same]
    decide
  rw [State.mode, h]
  rfl

theorem railsUp_cfgHost : (s.railsUp cfgHost unitB selHigh).on F.SYS_BOOT_CFG_HOST = cfgHost := by
  simp (disch := decide) only [State.railsUp, State.refreshCfgCrc, State.on_ev, on_set_other, on_setB_other, on_setB_same]

theorem railsUp_unitB : (s.railsUp cfgHost unitB selHigh).on F.MIR_CFG_UNIT_B = unitB := by
  simp (disch := decide) only [State.railsUp, State.refreshCfgCrc, State.on_ev, on_set_other, on_setB_other, on_setB_same]

theorem railsUp_selected : (s.railsUp cfgHost unitB selHigh).on F.MIR_STATUS_SELECTED = (selHigh != unitB) := by
  simp (disch := decide) only [State.railsUp, State.refreshCfgCrc, State.on_ev, on_set_other, on_setB_other, on_setB_same]

theorem railsUp_cause : (s.railsUp cfgHost unitB selHigh).get F.SYS_RESET_CAUSE_CAUSE =
    ((s.get F.SYS_RESET_CAUSE_CAUSE).lor s.sys.resetCauses) % 128 := by
  simp (disch := decide) only [State.railsUp, State.refreshCfgCrc, State.get_ev, State.get_set_other, State.get_setB_other,
    causesRecorded_get_cause]

theorem railsUp_uv : (s.railsUp cfgHost unitB selHigh).get F.PWR_RAIL_STAT_UV = 0 := by
  simp (disch := decide) only [State.railsUp, State.refreshCfgCrc, State.get_ev, State.get_set_other, State.get_setB_other,
    State.get_set_same, Nat.zero_mod]

end railsUp

/-! ### Waking (R26), the self-test and the configuration (R38, R346, R347) -/

/-- A level source fires on the signal of its kind of link, outside the window of that signal (Table 2.3). -/
theorem fires_iff (w : WakeWindow) {src : Nat} (h : src < 3) (isB : Bool) (mv : Int) :
    w.fires src isB mv = true ↔
      ((src = 0 ∧ w.kind = 1) ∨ (src = 1 ∧ w.kind = 2 ∧ isB = false) ∨ (src = 2 ∧ w.kind = 2 ∧ isB = true)) ∧
        (if isB then mv < w.loB ∨ w.hiB < mv else mv < w.loA ∨ w.hiA < mv) := by
  match src, h with
  | 0, _ | 1, _ | 2, _ => cases isB <;> simp [WakeWindow.fires]

/-- Below source 3 the comparator of the link decides. -/
theorem wakes_of_window {s : State} {src n : Nat} {w : WakeWindow} (h : src < 3) (hw : s.sys.wakeWindows[n]? = some w) (isB : Bool)
    (mv : Int) : s.wakes src n isB mv = w.fires src isB mv := by
  have hs : decide (3 ≤ src) = false := decide_eq_false (Nat.not_le_of_lt h)
  rw [State.wakes, hs, hw, Bool.false_or]

theorem exec_selftestDone_of_selftest {s : State} (h : s.mode = .selftest) (us k : Nat) :
    let u := (s.pulseCoils.set F.DIAG_SELFTEST_DURATION_US us).set F.DIAG_SELFTEST_FIRST_FAIL k
    let v := (u.ev E.DIAG_TEST_FAIL 0 [k, u.mode.code]).modSys fun y => { y with safeFrom := .selftest }
    let w : State := { v with safe := { v.safe with internalFailure := true } }
    exec (.selftestDone us k) s = .next (if k = 0 then
      (u.modSys fun y => { y with selftestPassed := true, waitHost := u.on F.SYS_BOOT_CFG_HOST }).setMode .configure 4
      else ((w.setMode .safeHold 5).tripNode 3).enterSafeHold 5).done :=
  (exec_selftestDone us k s).trans (finish_when_of_true (beq_iff_eq.2 h))

/-- The loader of CONFIGURE runs while neither the host nor the partner is waited for. -/
theorem loader_runs {s : State} (h : s.mode = .configure) (hw : s.sys.waitHost = false) (ha : s.mir.waitAlign = false) :
    (s.mode == .configure && !s.sys.waitHost && !s.mir.waitAlign) = true := by simp [h, hw, ha]

theorem exec_configLoadDone_of_valid {s : State} (h : s.mode = .configure) (hw : s.sys.waitHost = false) (ha : s.mir.waitAlign = false)
    (hi : (s.imageCheck s.activeImg).1 = 2) :
    exec .configLoadDone s = .next
      (((((s.modSys fun y => { y with imageFresh := false }).loadImage s.activeImg s.sys.imageFresh).set F.SYS_BOOT_CONFIG_SRC
        (1 + s.activeImg)).afterLoad s.sys.imageFresh).configured).done :=
  (exec_configLoadDone s).trans
    ((finish_when_of_true (loader_runs h hw ha)).trans (congrArg (fun t : State => Host.Outcome.next t.done) (if_pos hi)))

theorem exec_configLoadDone_of_no_image {s : State} (h : s.mode = .configure) (hw : s.sys.waitHost = false)
    (ha : s.mir.waitAlign = false) (hi : (s.imageCheck s.activeImg).1 ≠ 2) (hj : (s.imageCheck (1 - s.activeImg)).1 ≠ 2) :
    exec .configLoadDone s = .next (s.modSys fun y => { y with waitHost := true }).done :=
  (exec_configLoadDone s).trans
    ((finish_when_of_true (loader_runs h hw ha)).trans
      (congrArg (fun t : State => Host.Outcome.next t.done) ((if_neg hi).trans (if_neg hj))))

theorem configDone_of_waiting {s : State} (h : s.mode = .configure) (hw : s.sys.waitHost = true) : s.configDone = s.configured := by
  simp [State.configDone, h, hw]

/-! ### DORMANT (R25) -/

theorem tryDormant_of_free {s : State} (h : s.dormantBar = none) : s.tryDormant = s.enterDormant := by
  rw [State.tryDormant, h]

theorem tryDormant_of_barred {s : State} {c : Nat} (h : s.dormantBar = some c) :
    s.tryDormant = s.err E.SYS_MODE_REQ_REFUSED 0 [0, c] := by
  rw [State.tryDormant, h]

theorem exec_modeReqDormant_of_reaches {s : State} (h : s.reaches 0x00 0x048 = true) :
    exec .modeReqDormant s = .next s.tryDormant.done :=
  (exec_modeReqDormant s).trans (finish_hostWrites_of_reaches h _)

theorem exec_dormantIdleExpiry_of_due {s : State} (hm : s.mode = .ready) (hd : s.get F.SYS_DORMANT_IDLE_SECONDS ≠ 0)
    (ht : s.get F.SYS_DORMANT_IDLE_SECONDS * 400000000 ≤ s.since s.sys.idleSince) :
    exec .dormantIdleExpiry s = .next s.tryDormant.done :=
  (exec_dormantIdleExpiry s).trans (finish_when_of_true (by simp [hm, hd, ht]))

theorem exec_modeReqReady_of_sealed {s : State} (h : s.reaches 0x00 0x048 = true) (hm : s.mode = .sealedService) :
    exec .modeReqReady s = .next s.closeSeal.done := by
  rw [exec_modeReqReady, execModeReqReady, finish_hostWrites_of_reaches h, State.modeReq, if_neg (by decide), if_pos ⟨rfl, hm⟩]

/-- Settles O13: out of reset by the lemmas of `railsUp`; every other step by its command's guard. -/
theorem startUp : Obligations.StartUp := by
  refine ⟨fun s cfgHost unitB selHigh hh hc => ⟨_, exec_railsGood_of_held hh cfgHost unitB selHigh, ?_, ?_, ?_, ?_, ?_, ?_, ?_⟩,
    fun s src n isB mv hm he hw => ?_, fun s src n isB mv hw => ?_, fun s src n isB mv w hs hw => ?_, fun s us hm hh => ?_,
    fun s us hm => ?_, fun s us k hm hk => ?_, fun s hm hw ha hi => exec_configLoadDone_of_valid hm hw ha hi,
    fun s hm hw ha hi hj => exec_configLoadDone_of_no_image hm hw ha hi hj, fun s hr hm hw => ?_, fun s hr hb => ?_,
    fun s c hr hb => ?_, fun s hm hd ht hb => ?_, fun s hr hm => exec_modeReqReady_of_sealed hr hm⟩
  · rw [done_mode, railsUp_mode]
  · rw [(done_parts _).sys, railsUp_sys, Bool.or_false]
  · rw [done_on _ _ (by decide), railsUp_cfgHost]
  · rw [done_on _ _ (by decide), railsUp_unitB]
  · rw [done_on_status _ _ (by decide), railsUp_selected]
  · rw [done_get _ _ (by decide), railsUp_cause, hc]
  · rw [done_get _ _ (by decide), railsUp_uv]
  · exact (exec_wakeEvent _ s).trans (finish_when_of_true (by simp [hm, he, hw]))
  · exact (exec_wakeEvent _ s).trans (finish_when_of_false (by simp [hw]))
  · rw [wakes_of_window hs hw, fires_iff w hs]
  · exact (exec_pllLocked us s).trans (finish_when_of_true (by simp [hm, hh]))
  · exact exec_selftestDone_of_selftest hm us 0
  · exact (exec_selftestDone_of_selftest hm us k).trans (by rw [if_neg hk])
  · rw [exec_configDone, execConfigDone, finish_hostWrites_of_reaches hr, configDone_of_waiting hm hw]
  · rw [exec_modeReqDormant_of_reaches hr, tryDormant_of_free hb]
  · rw [exec_modeReqDormant_of_reaches hr, tryDormant_of_barred hb]
  · rw [exec_dormantIdleExpiry_of_due hm hd ht, tryDormant_of_free hb]

end Sys2Proof.Machine
end

/-! PROOFS. VAULT, the flush without it, and the clock monitor (R29 to R33). -/
section
namespace Sys2Proof.Machine

/-- The rails whose fall VAULT answers: VDDA, VDD_FE, VLS below VRESET and VLS below VWARN. -/
theorem railFall_heeded {s : State} {rail : Fin 9} (hh : s.sys.held = false) (hd : s.mode ≠ .dormant)
    (hr : rail.val = 4 ∨ rail.val = 5 ∨ rail.val = 7 ∨ rail.val = 8) :
    (!s.sys.held && s.mode != .dormant && (rail.val == 4 || rail.val == 5 || rail.val == 7 || rail.val == 8)) = true := by
  simp [hh, hd, hr, or_assoc]

theorem flushEnd_of_vreset {s : State} (h : s.sys.vresetSeen = true) :
    s.flushEnd = (s.modSys fun y => { y with flushing := false }).deviceReset s.sys.vaultCauses := by
  simp only [State.flushEnd, State.modSys_sys, h, if_true]

theorem flushEnd_of_waiting {s : State} (h : s.sys.vresetSeen = false)
    (hd : (s.modSys fun y => { y with flushing := false }).vaultComplete.sys.recoverDue = none) :
    s.flushEnd = (s.modSys fun y => { y with flushing := false }).vaultComplete := by
  simp only [State.flushEnd, State.modSys_sys, h, hd, Bool.false_eq_true, if_false]

theorem flushEnd_of_recovered {s : State} {low : Int} {us : Nat} (h : s.sys.vresetSeen = false)
    (hd : (s.modSys fun y => { y with flushing := false }).vaultComplete.sys.recoverDue = some (low, us)) :
    s.flushEnd = (s.modSys fun y => { y with flushing := false }).vaultComplete.leaveVault low us := by
  simp only [State.flushEnd, State.modSys_sys, h, hd, Bool.false_eq_true, if_false]

section vaultResets
variable (s : State) (b : Nat)

/-- A reset that VAULT is to end with waits for the flush. -/
theorem vaultResets_of_flushing (h : s.sys.flushing = true) :
    s.vaultResets b = s.modSys fun y => { y with vresetSeen := true, vaultCauses := setBitOf y.vaultCauses b true } := by
  rw [State.vaultResets, State.modSys_sys]
  exact if_pos h

theorem vaultResets_of_flushed (h : s.sys.flushing = false) :
    let u := s.modSys fun y => { y with vresetSeen := true, vaultCauses := setBitOf y.vaultCauses b true }
    s.vaultResets b = u.deviceReset u.sys.vaultCauses := by
  rw [State.vaultResets, State.modSys_sys]
  exact if_neg (by rw [h]; exact Bool.false_ne_true)

end vaultResets

theorem exec_vaultVreset_of_vault {s : State} (h : s.mode = .vault) :
    exec .vaultVreset s = .next (((s.setBit F.PWR_RAIL_STAT_UV 7 true).ev E.PWR_RAIL_UV 0 [7]).vaultResets 1).done :=
  (exec_vaultVreset s).trans (finish_when_of_true (beq_iff_eq.2 h))

theorem exec_vaultRecovery_of_vault {s : State} (hv : s.mode = .vault) (hn : s.sys.vresetSeen = false) (low : Int) (us : Nat) :
    exec (.vaultRecovery low us) s = .next
      (if s.sys.flushing then s.modSys fun y => { y with recoverDue := some (low, us) } else s.leaveVault low us).done :=
  (exec_vaultRecovery low us s).trans (finish_when_of_true (by simp [hv, hn]))

theorem exec_ctlRailFlush_of_powered {s : State} (hh : s.sys.held = false) (hd : s.mode ≠ .dormant) (rail : Fin 4) :
    let u := (s.setBit F.PWR_RAIL_STAT_UV rail true).ev E.PWR_RAIL_UV 0 [rail]
    exec (.ctlRailFlush rail) s = .next (if u.mode = .vault then u.vaultResets 2
      else ((((u.vaultIntent).vaultRecord).vaultComplete).ev E.PWR_CTL_RAIL_FLUSH 0 [rail]).controlReset).done :=
  (exec_ctlRailFlush rail s).trans (finish_when_of_true (by simp [hh, hd]))

/-- The clock monitor acts once the device has left WAKING. -/
theorem exec_pllUnlock_of_running {s : State} (hh : s.sys.held = false) (hd : s.mode ≠ .dormant) (hw : s.mode ≠ .waking) (xtal : Bool) :
    exec (.pllUnlock xtal) s = .next
      (((((if xtal then s.setB F.CLK_PLL_STAT_XTAL_OK false else s).setB F.CLK_PLL_STAT_LOCKED false).ev
        (if xtal then E.CLK_XTAL_FAIL else E.CLK_PLL_UNLOCK) 0 []).modSys fun y => { y with needsReset := true }).enterSafeHold 16).done :=
  (exec_pllUnlock xtal s).trans (finish_when_of_true (by simp [hh, hd, hw]))

/-- Settles O14: each command by its guard, the end of the flush by the lemmas of `flushEnd`, a reset due in VAULT by those of
`vaultResets`. -/
theorem vault : Obligations.Vault := by
  refine ⟨fun s rail mv hh hd hv hr => ?_, fun s us hv hf => ?_, fun s low us hv hf hn => ?_, fun s low us hv hf hn => ?_,
    fun s rail mv hh hv hr => ?_, fun s hn hd => flushEnd_of_waiting hn hd, fun s low us hn hd => flushEnd_of_recovered hn hd,
    fun s hn => flushEnd_of_vreset hn, fun s hv hf => ?_, fun s hv hf => ?_, fun s mv hv hf hm => ?_, fun s mv => exec_vholdLow mv s,
    fun s rail hh hd hv => ?_, fun s rail hh hd hv => ?_, fun s hh hd hw => exec_pllUnlock_of_running hh hd hw false,
    fun s hh hd hw => exec_pllUnlock_of_running hh hd hw true, fun s okA okB hl hh hd hr => ?_⟩
  · rw [exec_vaultEnter, execVaultEnter, finish_when_of_true (railFall_heeded hh hd hr), if_neg hv]
  · exact (exec_vaultFlushDone us s).trans (finish_when_of_true (by simp [hv, hf]))
  · rw [exec_vaultRecovery_of_vault hv hn, hf, if_neg Bool.false_ne_true]
  · rw [exec_vaultRecovery_of_vault hv hn, if_pos hf]
  · rw [exec_vaultEnter, execVaultEnter, finish_when_of_true (railFall_heeded hh (by simp [hv]) hr), if_pos hv]
  · rw [exec_vaultVreset_of_vault hv, vaultResets_of_flushed]
    exact hf
  · rw [exec_vaultVreset_of_vault hv, vaultResets_of_flushing]
    exact hf
  · exact (exec_holdupShort mv s).trans (finish_when_of_true (by simp [hv, hf, hm]))
  · rw [exec_ctlRailFlush_of_powered hh hd, if_neg hv]
  · rw [exec_ctlRailFlush_of_powered hh hd, if_pos hv]
  · rw [exec_metrologyStart, execMetrologyStart, finish_when_of_true (by simp [hl, hh, hd])]
    dsimp only
    rw [hr, State.when_false]

end Sys2Proof.Machine
end

/-! PROOFS. Every meaning ends in `finish`, and so every step leaves the block settled (R45, R61, R377, R428, R430). -/
section
namespace Sys2Proof.Machine

/-- The answer of a command that ran to its end: an effect, then `done`. -/
def Finishes (r : Result) : Prop := ∃ u : State, r = u.finish

theorem Finishes.next_settled {r : Result} (h : Finishes r) : ∃ t, r = .next t ∧ Settled t := by
  obtain ⟨u, rfl⟩ := h
  exact ⟨u.done, rfl, done_settled u⟩

theorem Finishes.ite {c : Prop} [Decidable c] {x y : Result} (hx : Finishes x) (hy : Finishes y) : Finishes (if c then x else y) := by
  split
  · exact hx
  · exact hy

/-- The meaning a register has of its own, where it has one, runs to its end. -/
def OwnFinishes (o : Option Result) : Prop := ∀ r, o = some r → Finishes r

theorem OwnFinishes.none : OwnFinishes none := fun _ h => nomatch h

theorem OwnFinishes.some {r : Result} (h : Finishes r) : OwnFinishes (some r) := fun _ hr => Option.some.inj hr ▸ h

/-- One register of a page has the meaning `r`; `o` is that of the page's others. -/
theorem OwnFinishes.orElse {c : Prop} [Decidable c] {r : Result} {o : Option Result} (hr : Finishes r) (ho : OwnFinishes o) :
    OwnFinishes (if c then Option.some r else o) := by
  split
  · exact .some hr
  · exact ho

theorem sentCommand_finishes (op slot : Nat) (s : State) : Finishes (sentCommand op slot s) := by
  unfold sentCommand
  split <;> exact ⟨_, rfl⟩

/-- The registers with meanings of their own, page by page. -/
theorem ownCommand_finishes (s : State) (page off v : Nat) : OwnFinishes (s.ownCommand page off v) := by
  unfold State.ownCommand
  dsimp only
  split
  case h_1 => exact .orElse (sentCommand_finishes _ _ s) .none
  case h_2 => exact .orElse ⟨_, rfl⟩ .none
  case h_3 => exact .orElse (.ite ⟨_, rfl⟩ ⟨_, rfl⟩) (.orElse ⟨_, rfl⟩ .none)
  case h_4 =>
    split
    · exact .some (.ite ⟨_, rfl⟩ ⟨_, rfl⟩)
    · split
      · exact .some (.ite ⟨_, rfl⟩ ⟨_, rfl⟩)
      · exact .none
  case h_5 => exact .orElse ⟨_, rfl⟩ .none
  case h_6 => exact .orElse ⟨_, rfl⟩ (.orElse ⟨_, rfl⟩ .none)
  case h_7 => exact .orElse ⟨_, rfl⟩ .none
  case h_8 => exact .orElse ⟨_, rfl⟩ (.orElse ⟨_, rfl⟩ (.orElse ⟨_, rfl⟩ (.orElse ⟨_, rfl⟩ .none)))
  case h_9 => exact .orElse ⟨_, rfl⟩ (.orElse ⟨_, rfl⟩ (.orElse ⟨_, rfl⟩ .none))
  case h_10 => exact .orElse ⟨_, rfl⟩ .none
  case h_11 => exact .orElse ⟨_, rfl⟩ .none
  case h_12 =>
    refine .orElse ?_ .none
    split <;> exact ⟨_, rfl⟩
  case h_13 => exact .orElse ⟨_, rfl⟩ .none
  case h_14 => exact .orElse ⟨_, rfl⟩ .none
  case h_15 => exact .none

theorem regWrite_finishes (s : State) (page off v : Nat) : Finishes (s.regWrite page off v) := by
  unfold State.regWrite
  refine .ite ⟨_, rfl⟩ (.ite ⟨_, rfl⟩ (.ite ⟨_, rfl⟩ ?_))
  split
  · exact ownCommand_finishes s page off v _ ‹_›
  · exact ⟨_, rfl⟩

theorem busWrite_finishes (s : State) (addr v : Nat) : Finishes (s.busWrite addr v) :=
  .ite (regWrite_finishes s _ _ v) (.ite ⟨_, rfl⟩ ⟨_, rfl⟩)

/-- Every command runs to its end: all but two are written as an effect and `finish`; a register write may be the command of its
register, and a queued write is a register write. -/
theorem exec_finishes (c : Instr) (s : State) : Finishes (exec c s) := by
  cases c with
  | registerWrite addr be value => exact .ite ⟨_, rfl⟩ (regWrite_finishes s _ _ _)
  | spiQueuedWrite =>
    rw [exec_spiQueuedWrite, execSpiQueuedWrite]
    split
    · exact busWrite_finishes _ _ _
    · exact ⟨_, rfl⟩
  | _ => exact ⟨_, rfl⟩

theorem step_finishes (s : State) : Finishes (step s) := by
  unfold step
  split
  · exact exec_finishes _ _
  · exact ⟨_, rfl⟩

/-- Settles O3: every step ends in `done`, and what `done` leaves is settled. -/
theorem everyStepSettles : Obligations.EveryStepSettles := by
  refine ⟨fun c s => (exec_finishes c s).next_settled, fun s => ?_, fun s t ht => ?_⟩
  · obtain ⟨t, ht, -⟩ := (step_finishes s).next_settled
    exact ⟨t, ht⟩
  · obtain ⟨u, hu, hs⟩ := (step_finishes s).next_settled
    rw [ht] at hu
    cases hu
    exact hs

end Sys2Proof.Machine
end

/-! PROOFS. The log: the order of the events of one command and which of them are logged (R61), and the ring with its overrun
(R62). -/
section
namespace Sys2Proof.Machine

/-! ### The order of events (R61) -/

theorem evInsert_perm (e : Ev) (l : List Ev) : (evInsert e l).Perm (e :: l) := by
  induction l with
  | nil => exact .refl _
  | cons a l ih =>
    unfold evInsert
    split
    · exact .refl _
    · exact (ih.cons a).trans (.swap e a l)

theorem evInsert_pairwise (e : Ev) (l : List Ev) (h : l.Pairwise fun a b => a.code.code16 ≤ b.code.code16) :
    (evInsert e l).Pairwise fun a b => a.code.code16 ≤ b.code.code16 := by
  induction l with
  | nil => exact List.pairwise_singleton _ e
  | cons a l ih =>
    obtain ⟨hal, hl⟩ := List.pairwise_cons.1 h
    unfold evInsert
    split
    case isTrue hea =>
      exact List.pairwise_cons.2 ⟨List.forall_mem_cons.2 ⟨Nat.le_of_lt hea, fun b hb => Nat.le_trans (Nat.le_of_lt hea) (hal b hb)⟩, h⟩
    case isFalse hea =>
      refine List.pairwise_cons.2 ⟨fun b hb => ?_, ih hl⟩
      rcases List.mem_cons.1 ((evInsert_perm e l).subset hb) with rfl | hb
      · exact Nat.le_of_not_lt hea
      · exact hal b hb

theorem evInsert_foldl_perm (l acc : List Ev) : (l.foldl (fun acc e => evInsert e acc) acc).Perm (l ++ acc) := by
  induction l generalizing acc with
  | nil => exact .refl _
  | cons e l ih => exact (ih _).trans (((evInsert_perm e acc).append_left l).trans List.perm_middle)

theorem evInsert_foldl_pairwise (l acc : List Ev) (h : acc.Pairwise fun a b => a.code.code16 ≤ b.code.code16) :
    (l.foldl (fun acc e => evInsert e acc) acc).Pairwise fun a b => a.code.code16 ≤ b.code.code16 := by
  induction l generalizing acc with
  | nil => exact h
  | cons e l ih => exact ih _ (evInsert_pairwise e acc h)

/-- The events of a command, none added and none dropped. -/
theorem evSort_perm (l : List Ev) : (evSort l).Perm l := (evInsert_foldl_perm l []).trans (by rw [List.append_nil])

theorem evSort_pairwise (l : List Ev) : (evSort l).Pairwise fun a b => a.code.code16 ≤ b.code.code16 :=
  evInsert_foldl_pairwise l [] .nil

/-! ### Which events are logged (R61) -/

/-- A repeat at exactly 1 ms still counts as within the interval, log entry 21 (the model's choice). -/
theorem suppressed_of_repeat {s : State} {e : Ev} (hs : e.code.sev ≤ 3) (h0 : mget 0 s.evt.lastLogged e.key ≠ 0)
    (ht : s.ticks + 1 - mget 0 s.evt.lastLogged e.key ≤ ticksMs) : s.suppressed e = true := by
  simp [State.suppressed, hs, h0, ht]

theorem not_suppressed_of_severe {s : State} {e : Ev} (h : 4 ≤ e.code.sev) : ¬ s.suppressed e = true := by
  have hs : decide (e.code.sev ≤ 3) = false := decide_eq_false (by omega)
  rw [State.suppressed, hs, Bool.false_and]
  exact Bool.false_ne_true

theorem logOne_of_below_minSev {s : State} {e : Ev} (h2 : e.code.sev ≤ 2) (hm : e.code.sev < s.get F.EVT_LOG_CFG_MIN_SEV) :
    s.logOne e = s := by
  rw [State.logOne, if_pos ⟨h2, hm⟩]

theorem logOne_of_suppressed {s : State} {e : Ev} (hm : e.code.sev ≤ 2 → s.get F.EVT_LOG_CFG_MIN_SEV ≤ e.code.sev)
    (h : s.suppressed e = true) : s.logOne e = s.inc F.EVT_SUPPRESSED_COUNT := by
  rw [State.logOne, if_neg fun ⟨h2, hlt⟩ => Nat.not_le_of_lt hlt (hm h2), if_pos h]

theorem logOne_of_severe {s : State} {e : Ev} (h : 4 ≤ e.code.sev) :
    s.logOne e =
      { s.logAppend e with evt := { (s.logAppend e).evt with lastLogged := mput 0 (s.logAppend e).evt.lastLogged e.key (s.ticks + 1) } } := by
  have ht : (s.logAppend e).ticks = s.ticks := (logs_logAppend s e).parts.ticks
  rw [State.logOne, if_neg (by omega), if_neg (not_suppressed_of_severe h), ← ht]

/-- Settles O7: `evSort` by induction on the events, `logOne` by one lemma for each of its ways. -/
theorem eventOrder : Obligations.EventOrder :=
  ⟨fun _ => rfl, fun l => ⟨evSort_perm l, evSort_pairwise l⟩, fun _ _ h2 hm => logOne_of_below_minSev h2 hm,
    fun _ _ h3 hm h0 ht => logOne_of_suppressed hm (suppressed_of_repeat h3 h0 ht), fun _ _ h => logOne_of_severe h,
    fun s e l f hf => (logs_takeEvent s l e).get f hf⟩

/-! ### The ring (R62) -/

theorem get_refreshFill_other (s : State) {f : Field} (h : F.EVT_FILL_COUNT.key ≠ f.key) : s.refreshFill.get f = s.get f := by
  have hf : (s.set F.EVT_FILL_COUNT s.logFill).get f = s.get f := State.get_set_other s _ f _ h
  unfold State.refreshFill
  dsimp only
  split <;> exact hf

theorem refreshFill_mem (s : State) : s.refreshFill.mem = s.mem := by
  unfold State.refreshFill
  dsimp only
  split <;> rfl

/-- Of the registers a record written changes HEAD, APPENDED and FILL alone. -/
theorem get_logWrite_other (s : State) (e : Ev) {f : Field} (hh : F.EVT_HEAD_INDEX.key ≠ f.key) (ha : F.EVT_APPENDED_COUNT.key ≠ f.key)
    (hf : F.EVT_FILL_COUNT.key ≠ f.key) : (s.logWrite e).get f = s.get f := by
  rw [State.logWrite, get_refreshFill_other _ hf, State.get_inc_other _ _ _ ha, State.get_set_other _ _ _ _ hh, State.get_wrBytes]

theorem get_logWrite_tail (s : State) (e : Ev) : (s.logWrite e).get F.EVT_TAIL_INDEX = s.get F.EVT_TAIL_INDEX :=
  get_logWrite_other s e (by decide) (by decide) (by decide)

theorem get_logWrite_lost (s : State) (e : Ev) : (s.logWrite e).get F.EVT_LOST_COUNT = s.get F.EVT_LOST_COUNT :=
  get_logWrite_other s e (by decide) (by decide) (by decide)

theorem get_logWrite_head (s : State) (e : Ev) : (s.logWrite e).get F.EVT_HEAD_INDEX = (s.get F.EVT_HEAD_INDEX + 1) % 8192 := by
  rw [State.logWrite, get_refreshFill_other _ (by decide), State.get_inc_other _ _ _ (by decide), State.get_set_same]
  exact Nat.mod_mod _ _

theorem rdByte_logWrite (s : State) (e : Ev) {i : Nat} (h : i < 32) :
    (s.logWrite e).rdByte (tbl 1 (s.get F.EVT_HEAD_INDEX * 32) + i) = (s.evRecord e).getD i 0 % 256 := by
  have hi : i < (s.evRecord e).length := by rwa [evRecord_length]
  have hm : (s.logWrite e).mem = (s.wrBytes (tbl 1 (s.get F.EVT_HEAD_INDEX * 32)) (s.evRecord e)).mem := by
    rw [State.logWrite, refreshFill_mem]
    rfl
  rw [State.rdByte_congr hm, State.rdByte_wrBytes_same _ _ _ _ hi, List.getD_eq_getElem?_getD,
    List.getElem?_eq_getElem hi, Option.getD_some]

theorem evt_head_lt (s : State) : s.get F.EVT_HEAD_INDEX < 8192 := get_lt s F.EVT_HEAD_INDEX
theorem evt_tail_lt (s : State) : s.get F.EVT_TAIL_INDEX < 8192 := get_lt s F.EVT_TAIL_INDEX

theorem logFill_le (s : State) : s.logFill ≤ 8191 := Nat.le_of_lt_succ (Nat.mod_lt _ (by decide))

theorem logFill_eq_zero_iff (s : State) : s.logFill = 0 ↔ s.get F.EVT_HEAD_INDEX = s.get F.EVT_TAIL_INDEX := by
  have hh := evt_head_lt s
  have ht := evt_tail_lt s
  unfold State.logFill logSize
  omega

/-! ### The overrun (R62) -/

/-- The oldest record discarded and counted lost. -/
def State.logDropped (s : State) : State := (s.set F.EVT_TAIL_INDEX ((s.get F.EVT_TAIL_INDEX + 1) % 8192)).inc F.EVT_LOST_COUNT

theorem logMakeRoom_of_room {s : State} (h : s.logFill < 8191) : s.logMakeRoom = s := if_neg (by unfold logSize; omega)

theorem logMakeRoom_of_full {s : State} (h : s.logFill = 8191) : s.logMakeRoom = s.logDropped := if_pos h

theorem get_logDropped_head (s : State) : s.logDropped.get F.EVT_HEAD_INDEX = s.get F.EVT_HEAD_INDEX := by
  rw [State.logDropped, State.get_inc_other _ _ _ (by decide), State.get_set_other _ _ _ _ (by decide)]

theorem get_logDropped_tail (s : State) : s.logDropped.get F.EVT_TAIL_INDEX = (s.get F.EVT_TAIL_INDEX + 1) % 8192 := by
  rw [State.logDropped, State.get_inc_other _ _ _ (by decide), State.get_set_same]
  exact Nat.mod_mod _ _

theorem get_logDropped_lost (s : State) : s.logDropped.get F.EVT_LOST_COUNT = (s.get F.EVT_LOST_COUNT + 1) % 2 ^ 32 := by
  rw [State.logDropped, State.get_inc_same, State.get_set_other _ _ _ _ (by decide)]
  rfl

/-- A record written after one was discarded leaves the fill as it was. -/
theorem logFill_logDropped_logWrite (s : State) (e : Ev) : (s.logDropped.logWrite e).logFill = s.logFill := by
  have hh := evt_head_lt s
  have ht := evt_tail_lt s
  simp only [State.logFill, get_logWrite_head, get_logWrite_tail, get_logDropped_head, get_logDropped_tail, logSize]
  omega

theorem logAppend_of_room {s : State} (h : s.logFill < 8191) (e : Ev) : s.logAppend e = s.logWrite e := by
  rw [State.logAppend, logMakeRoom_of_room h, get_logWrite_lost]
  exact if_neg fun ⟨h0, h1⟩ => h1 h0

theorem logAppend_of_full_again {s : State} (h : s.logFill = 8191) (hl : s.get F.EVT_LOST_COUNT ≠ 0) (e : Ev) :
    s.logAppend e = s.logDropped.logWrite e := by
  rw [State.logAppend, logMakeRoom_of_full h]
  exact if_neg fun ⟨h0, _⟩ => hl h0

/-- The first loss of an episode: LOG_OVERRUN takes the place of a second record and holds both losses. -/
theorem logAppend_of_full_first {s : State} (h : s.logFill = 8191) (hl : s.get F.EVT_LOST_COUNT = 0) (e : Ev) :
    s.logAppend e = ((s.logDropped.logWrite e).logDropped.logWrite ⟨E.EVT_LOG_OVERRUN, 0, [2], false⟩).setRaw
      ⟨E.EVT_LOG_OVERRUN, 0, [2], false⟩ := by
  have h1 : (s.logDropped.logWrite e).get F.EVT_LOST_COUNT = 1 :=
    (get_logWrite_lost _ e).trans ((get_logDropped_lost s).trans (congrArg (fun n => (n + 1) % 2 ^ 32) hl))
  have h2 : (s.logDropped.logWrite e).logDropped.get F.EVT_LOST_COUNT = 2 :=
    (get_logDropped_lost _).trans (congrArg (fun n => (n + 1) % 2 ^ 32) h1)
  have hf : (s.logDropped.logWrite e).logMakeRoom = (s.logDropped.logWrite e).logDropped :=
    logMakeRoom_of_full ((logFill_logDropped_logWrite s e).trans h)
  rw [State.logAppend, logMakeRoom_of_full h]
  dsimp only
  rw [if_pos ⟨hl, by rw [h1]; decide⟩, hf, h2]

theorem fieldsAt_lost : fieldsAt 0x43 F.EVT_LOST_COUNT.off = [F.EVT_LOST_COUNT] := by decide

theorem readEffect_lost (s : State) : s.readEffect 0x43 F.EVT_LOST_COUNT.off = s.set F.EVT_LOST_COUNT 0 := by
  rw [State.readEffect, fieldsAt_lost]
  rfl

/-- Settles O8: the ring by the rules of its registers, the overrun by `logAppend`'s three cases. -/
theorem logOverrun : Obligations.LogOverrun := by
  refine ⟨fun s e i hi => rdByte_logWrite s e hi, fun s e => ⟨get_logWrite_head s e, get_logWrite_tail s e, get_logWrite_lost s e⟩,
    fun s => ⟨logFill_le s, logFill_eq_zero_iff s⟩, fun s e h => logAppend_of_room h e, fun s e h hl => logAppend_of_full_again h hl e,
    fun s e h hl => logAppend_of_full_first h hl e, fun s => ?_⟩
  rw [readEffect_lost, State.get_set_same, Nat.zero_mod]

end Sys2Proof.Machine
end

/-! PROOFS. The configuration images: their check, their activation and the words written to them (R57, R58). That words
are written one by one, and what stands in the change-log record, are the model's choice, log entry 98. -/
section
namespace Sys2Proof.Machine

/-- A write that reaches its table has its effect. -/
theorem finish_tableWrites_of_reach {s : State} {t off : Nat} (h : s.tableReach t off = true) (f : State → State) :
    (s.tableWrites t off f).finish = .next (f s).done := by
  rw [tableWrites_of_reach s t off f h, State.finish]

theorem imageCmd_of_other_key {s : State} {key : Nat} (h : key ≠ 0x1A6E) (op : Nat) : s.imageCmd key op = s := if_pos h

theorem imageCmd_check (s : State) : s.imageCmd 0x1A6E 1 = (s.imageResult 1 0).setImgGood false := rfl

/-- The image whose last check found it bad, or that has been written since, is not activated. -/
theorem imageCmd_activate_unchecked {s : State} (h : s.sys.imgGood = false) :
    s.imageCmd 0x1A6E 2 = s.ev E.SYS_IMAGE_REFUSED 0 [s.get F.SYS_IMAGE_STAT_RESULT, s.get F.SYS_IMAGE_STAT_FIRST_BAD] := by
  simp [State.imageCmd, h]

/-- An image without protected registers that its last check found good is activated; RESULT is 0 then, log entry 19 (the model's
choice). -/
theorem imageCmd_activate_good {s : State} (hg : s.sys.imgGood = true) (h0 : s.imgFlag (1 - s.activeImg) 0 = false)
    (h1 : s.imgFlag (1 - s.activeImg) 1 = false) (hc : s.clogFull = false) :
    let img := 1 - s.activeImg
    let u := (((s.clogAppend 0xFF 3 (15 * 4096 + img) (s.imgBodyCrc (1 - img)) (s.imgBodyCrc img)).set F.SYS_IMAGE_STAT_ACTIVE img).setB
      F.SYS_IMAGE_STAT_SWAP_PENDING true).imageResult 0 0
    let v := { u with sys := { u.sys with imageFresh := true, imgGood := false } }
    s.imageCmd 0x1A6E 2 = v.ev E.SYS_IMAGE_ACTIVATED 0 [img, u.rdLe (imgBase img + 12) 4, u.imgBodyCrc img] := by
  simp [State.imageCmd, hg, h0, h1, hc]

theorem imageWrite_of_inactive {s : State} {off : Nat} (h : off / 4 * 4 / 0x80000 ≠ s.activeImg) (v : Nat) :
    s.imageWrite off v = ((s.wrLe (tbl 15 (off / 4 * 4)) 4 v).imageResult 0 0).setImgGood false := if_neg h

theorem imageWrite_of_active {s : State} {off : Nat} (h : off / 4 * 4 / 0x80000 = s.activeImg) (v : Nat) : s.imageWrite off v = s :=
  if_pos h

theorem exec_imageCheck_of_reaches {s : State} (h : s.reaches 0x00 0x06C = true) (key : Nat) :
    exec (.imageCheck key) s = .next (s.imageCmd key 1).done :=
  (exec_imageCheck key s).trans (finish_hostWrites_of_reaches h _)

theorem exec_imageActivate_of_reaches {s : State} (h : s.reaches 0x00 0x06C = true) (key : Nat) :
    exec (.imageActivate key) s = .next (s.imageCmd key 2).done :=
  (exec_imageActivate key s).trans (finish_hostWrites_of_reaches h _)

theorem exec_imageWrite_of_reach {s : State} {off : Nat} (h : s.tableReach 15 off = true) (v : Word) :
    exec (.imageWrite off v) s = .next (s.imageWrite off v.toNat).done :=
  (exec_imageWrite off v s).trans (finish_tableWrites_of_reach h _)

/-- Settles O15: the commands by the cases of `imageCmd`, a word written by those of `imageWrite`. -/
theorem images : Obligations.Images := by
  refine ⟨fun s h => exec_imageCheck_of_reaches h _, fun s key h hk => ?_,
    fun s h => (exec_imageCheckDone s).trans (finish_when_of_true (beq_iff_eq.2 h)), fun s h hg h0 h1 hc => ?_, fun s h hg => ?_,
    fun s off v h ha => ?_, fun s off v h ha => ?_⟩
  · rw [exec_imageCheck_of_reaches h, imageCmd_of_other_key hk]
  · rw [exec_imageActivate_of_reaches h, imageCmd_activate_good hg h0 h1 hc]
  · rw [exec_imageActivate_of_reaches h, imageCmd_activate_unchecked hg]
  · rw [exec_imageWrite_of_reach h, imageWrite_of_inactive ha]
  · rw [exec_imageWrite_of_reach h, imageWrite_of_active ha]

end Sys2Proof.Machine
end

/-! PROOFS. Host reads, the event and test registers of a page, and unmapped addresses (R43 to R47, R65, R424). That EVT_PEND clears
RAW whatever EN holds, and that a read of no byte reads nothing, are the model's choice, log entries 20 and 112. -/
section
namespace Sys2Proof.Machine

/-! ### What a host access meets -/

/-- A page within reach belongs to the host, is present, and is not behind the lost link. -/
theorem readReach_iff (s : State) (page : Nat) :
    s.readReach page = true ↔ s.hostOpen = true ∧ s.hasPage page = true ∧ (dieOf page == .metrology && s.sys.metLost) = false := by
  rw [State.readReach, Bool.and_eq_true, Bool.and_eq_true, Bool.not_eq_true', and_assoc]

theorem finish_hostReach_of_reach {s : State} {page : Nat} (h : s.readReach page = true) (off : Nat) (f : State → State) :
    (s.hostReach page off f).finish = .next (f s).done := by
  rw [hostReach_of_reach s page off f h, State.finish]

theorem regRead_of_metLost {s : State} {page : Nat} (ho : s.hostOpen = true) (hp : s.hasPage page = true) (hd : dieOf page = .metrology)
    (hl : s.sys.metLost = true) (hn : page < 0x47) (off : Nat) :
    s.regRead page off = (0, s.err E.HOST_D2D_ABORT 0 [page * 0x1000 + off]) := by
  have hn' : ¬ 0x47 ≤ page := Nat.not_le_of_lt hn
  simp [State.regRead, ho, hp, hd, hl, hn']

section reach
variable {s : State} {page off : Nat} (hr : s.readReach page = true) (hn : page < 0x47) (ht : ¬(page = 0x04 ∧ off = 0x048))
include hr hn ht

theorem regRead_of_value {v : Nat} (h : (s.viewOf page off).regValue page off = some v) :
    s.regRead page off = (v, s.readEffect page off) := by
  obtain ⟨ho, hp, hd⟩ := (readReach_iff s page).1 hr
  rw [State.regRead, ho, hp, hd, if_neg (by decide), if_neg (by omega), if_neg (by decide), if_neg (by decide), if_neg ht]
  simp only [h]

theorem regRead_of_no_register (h : (s.viewOf page off).regValue page off = none) :
    s.regRead page off = (0, s.errC .noRegister page [off]) := by
  obtain ⟨ho, hp, hd⟩ := (readReach_iff s page).1 hr
  rw [State.regRead, ho, hp, hd, if_neg (by decide), if_neg (by omega), if_neg (by decide), if_neg (by decide), if_neg ht]
  simp only [h]

end reach

/-- A host read within reach answers the bytes asked for of what `regRead` gives and leaves what it leaves. -/
theorem hostRead_of_reach {s : State} {page be : Nat} (h : s.readReach page = true) (hb : be ≠ 0) (off : Nat) :
    let r := s.regRead page (off / 4 * 4)
    s.hostRead page off be = r.2.emit (.rdata (page * 0x1000 + off / 4 * 4) (r.1.land (beMask be))) := by
  obtain ⟨ho, hp, hd⟩ := (readReach_iff s page).1 h
  have hm : (dieOf page == .metrology && s.hasPage page && s.sys.metLost) = false := by rw [hp, Bool.and_true, hd]
  rw [State.hostRead, ho, hm, if_neg hb]
  rfl

theorem hostRead_of_metLost {s : State} {page be : Nat} (ho : s.hostOpen = true) (hp : s.hasPage page = true)
    (hd : dieOf page = .metrology) (hl : s.sys.metLost = true) (hn : page < 0x47) (hb : be ≠ 0) (off : Nat) :
    let a := page * 0x1000 + off / 4 * 4
    s.hostRead page off be = (s.err E.HOST_D2D_ABORT 0 [a]).emit (.cplAbort a) := by
  simp [State.hostRead, regRead_of_metLost ho hp hd hl hn, ho, hp, hd, hl, hb]

/-! ### ERR_CODE (R46) -/

/-- The header is shown as it is, link lost or not. -/
theorem viewOf_errCode (s : State) (page : Nat) : s.viewOf page 0x020 = s := by simp [State.viewOf]

theorem land_beMask_all {v : Nat} (h : v < 2 ^ 32) : v.land (beMask 15) = v := by
  have hm : beMask 15 = 2 ^ 32 - 1 := by decide
  calc v.land (beMask 15) = v &&& (2 ^ 32 - 1) := by rw [hm]; rfl
    _ = v := by rw [Nat.and_two_pow_sub_one_eq_mod, Nat.mod_eq_of_lt h]

theorem errCode_word_lt (s : State) (page : Nat) : s.get (hErrCount page) * 2 ^ 16 + s.get (hErrCode page) < 2 ^ 32 := by
  have hc : s.get (hErrCount page) < 2 ^ 16 := get_lt s (hErrCount page)
  have he : s.get (hErrCode page) < 2 ^ 16 := get_lt s (hErrCode page)
  omega

theorem hostRead_errCode {s : State} {page : Nat} (h : s.readReach page = true) (hn : page < 0x47) :
    s.hostRead page 0x020 15 = (s.setB (hErrNew page) false).emit
      (.rdata (page * 0x1000 + 0x020) (s.get (hErrCount page) * 2 ^ 16 + s.get (hErrCode page))) := by
  have hv : (s.viewOf page 0x020).regValue page 0x020 = some (s.get (hErrCount page) * 2 ^ 16 + s.get (hErrCode page)) := by
    rw [viewOf_errCode]
    rfl
  have hr := regRead_of_value h hn (by omega) hv
  refine (hostRead_of_reach h (by decide) 0x020).trans ?_
  rw [show 0x020 / 4 * 4 = 0x020 from rfl, hr, land_beMask_all (errCode_word_lt s page)]
  rfl

/-! ### EVT_SET and DIAG_INJ (R47) -/

theorem testMode_iff (s : State) : s.testMode = true ↔ s.mode = .selftest ∨ s.mode = .sealedService := by
  simp [State.testMode]

theorem testMode_of_neither {s : State} (h1 : s.mode ≠ .selftest) (h2 : s.mode ≠ .sealedService) : s.testMode = false := by
  rw [← Bool.not_eq_true, testMode_iff]
  exact not_or.2 ⟨h1, h2⟩

/-- In SELFTEST the device's own sequence writes the test registers of every page present. -/
theorem testWrites_of_selftest {s : State} {page : Nat} (hp : s.hasPage page = true) (hm : s.mode = .selftest) (off : Nat)
    (f : State → State) : s.testWrites page off f = f s := by
  rw [State.testWrites, if_pos hm, if_pos hp]

/-- Elsewhere the host writes them. -/
theorem testWrites_of_reaches {s : State} {page off : Nat} (h : s.reaches page off = true) (hm : s.mode ≠ .selftest) (f : State → State) :
    s.testWrites page off f = f s := by
  rw [State.testWrites, if_neg hm, hostWrites_of_reaches s page off f h]

theorem evtSet_of_testMode {s : State} (h : s.testMode = true) (page v : Nat) :
    s.evtSet page v = s.each ((List.range 32).filter fun b => v.testBit b) fun b s => s.ev ⟨pageKind page, 8 * b, 6⟩ (pageInst page) [] := by
  rw [State.evtSet, h, Bool.not_true, if_neg Bool.false_ne_true]

theorem evtSet_refused {s : State} (h : s.testMode = false) (page v : Nat) : s.evtSet page v = s.errC .evtSetRefused page [v] := by
  rw [State.evtSet, h, Bool.not_false, if_pos rfl]

theorem diagInj_of_testMode {s : State} (h : s.testMode = true) (page v : Nat) :
    s.diagInj page v = (s.set (hDiagSel page) (v / 2 ^ 16)).set (hDiagArm page) (v % 2) := by
  rw [State.diagInj, h, Bool.not_true, if_neg Bool.false_ne_true]

theorem diagInj_refused {s : State} (h : s.testMode = false) (page v : Nat) : s.diagInj page v = s.errC .diagInjRefused page [v] := by
  rw [State.diagInj, h, Bool.not_false, if_pos rfl]

/-- Settles O16: reads by `hostRead`, the test registers by the mode the device is in. -/
theorem hostReads : Obligations.HostReads := by
  refine ⟨fun s page off v be hr ht hn hv hb => ?_, fun s page off be hr ht hn hv hb => ?_, by decide, fun s page hr hn => ?_,
    fun s addr ho hu => ?_, fun s addr ho hu => ?_, fun s hr => (exec_timeNowRead s).trans (finish_hostReach_of_reach hr _ _),
    fun s page off be ho hp hd hl hn hb => ?_,
    fun s page mask h => (exec_evtPendClear page mask s).trans (finish_hostWrites_of_reaches h _),
    fun s page mask h hm => ?_, fun s page mask hp hm => ?_, fun s page mask h h1 h2 => ?_, fun s page value h hm => ?_,
    fun s page value hp hm => ?_, fun s page value h h1 h2 => ?_, fun s page code sev inst data hn hh => ?_⟩
  · rw [exec_readClear, execReadClear, State.finish, hostRead_of_reach hr hb, regRead_of_value hr hn ht hv]
  · rw [exec_readClear, execReadClear, State.finish, hostRead_of_reach hr hb, regRead_of_no_register hr hn ht hv]
    rw [show (0 : Nat).land (beMask be) = 0 from Nat.zero_and _]
  · rw [exec_errCodeRead, execErrCodeRead, State.finish, hostRead_errCode hr hn]
  · exact (exec_unmappedAccess addr false s).trans (finish_when_of_true (by rw [ho, hu, Bool.and_self]))
  · exact (exec_unmappedAccess addr true s).trans (finish_when_of_true (by rw [ho, hu, Bool.and_self]))
  · rw [exec_readClear, execReadClear, State.finish, hostRead_of_metLost ho hp hd hl hn hb]
  · rw [exec_evtSet, execEvtSet, State.finish, testWrites_of_reaches h (by simp [hm]), evtSet_of_testMode ((testMode_iff s).2 (.inr hm))]
  · rw [exec_evtSet, execEvtSet, State.finish, testWrites_of_selftest hp hm, evtSet_of_testMode ((testMode_iff s).2 (.inl hm))]
  · rw [exec_evtSet, execEvtSet, State.finish, testWrites_of_reaches h h1, evtSet_refused (testMode_of_neither h1 h2)]
  · rw [exec_diagInjWrite, execDiagInjWrite, State.finish, testWrites_of_reaches h (by simp [hm]),
      diagInj_of_testMode ((testMode_iff s).2 (.inr hm))]
  · rw [exec_diagInjWrite, execDiagInjWrite, State.finish, testWrites_of_selftest hp hm,
      diagInj_of_testMode ((testMode_iff s).2 (.inl hm))]
  · rw [exec_diagInjWrite, execDiagInjWrite, State.finish, testWrites_of_reaches h h1, diagInj_refused (testMode_of_neither h1 h2)]
  · exact (exec_eventAppend page code sev inst data s).trans (finish_when_of_true (by simp [hn, hh]))

end Sys2Proof.Machine
end

/-! PROOFS. Host writes of registers and table words, and the rings the host reads out (R43, R44, R50, R54, R55, R448, R471, R472).
Where an access meets two rules of a page, log entry 112 gives the order (the model's choice). -/
section
namespace Sys2Proof.Machine

/-! ### A whole register, and a part of one -/

theorem execRegisterWrite_partial {be : Fin 16} {page off : Nat} (hb : be ≠ 15) (hn : page < 0x47) (ho : off < 0x1000) (h4 : off % 4 = 0)
    (v : Word) (s : State) :
    execRegisterWrite (page * 0x1000 + off) be v s = (s.hostReach page off fun s => s.errC .partialWrite page [off]).finish := by
  have hp : (page * 0x1000 + off) / 0x1000 = page := by omega
  have hoff : (page * 0x1000 + off) % 0x1000 / 4 * 4 = off := by omega
  have hbv : be.val ≠ 15 := fun h => hb (Fin.ext h)
  rw [execRegisterWrite, hp, hoff]
  exact if_pos ⟨hbv, hn⟩

theorem execRegisterWrite_whole {page off : Nat} (ho : off < 0x1000) (h4 : off % 4 = 0) (v : Word) (s : State) :
    execRegisterWrite (page * 0x1000 + off) 15 v s = s.regWrite page off v.toNat := by
  have hp : (page * 0x1000 + off) / 0x1000 = page := by omega
  have hoff : (page * 0x1000 + off) % 0x1000 / 4 * 4 = off := by omega
  rw [execRegisterWrite, hp, hoff]
  exact if_neg fun h => h.1 rfl

theorem regWrite_of_undefined {page off : Nat} (hn : page < 0x47) (hd : defined page off = false) (v : Nat) (s : State) :
    s.regWrite page off v = (s.hostReach page off fun s => s.errC .noRegister page [off]).finish := by
  rw [State.regWrite, if_neg (Nat.not_le_of_lt hn), hd, Bool.not_false, if_pos rfl]

/-- A register of the block without a meaning of its own takes the write as `regPut` has it. -/
theorem regWrite_of_ordinary {s : State} {page off v : Nat} (hn : page < 0x47) (ho : 0x040 ≤ off) (hd : defined page off = true)
    (hc : s.ownCommand page off v = none) :
    s.regWrite page off v = (s.hostWrites page off fun s => s.regPut page off v).finish := by
  rw [State.regWrite, if_neg (Nat.not_le_of_lt hn), hd, Bool.not_true, if_neg Bool.false_ne_true, if_neg (by omega), hc]

/-! ### Words of tables: one lemma for each table's rule -/

theorem exec_tableEntryWrite_of_reach {s : State} {t off : Nat} (ht : t < 16) (h : s.tableReach t off = true) (v : Word) :
    exec (.tableEntryWrite t off v) s = .next (s.tablePut t (off / 4 * 4) v.toNat).done := by
  rw [exec_tableEntryWrite, execTableEntryWrite, finish_when_of_true (decide_eq_true ht), State.tableWrite,
    tableWrites_of_reach s t off _ h]

theorem exec_tableEntryWrite_beyond {s : State} {t off : Nat} (ht : t < 16) (ho : s.hostOpen = true) (h : tableSize t ≤ off) (v : Word) :
    exec (.tableEntryWrite t off v) s = .next (s.err E.EVT_TABLE_RANGE 0 [t, off]).done := by
  rw [exec_tableEntryWrite, execTableEntryWrite, finish_when_of_true (decide_eq_true ht), State.tableWrite, State.tableWrites, ho,
    if_neg (by decide), if_pos h]

theorem tablePut_calendar_sealed {s : State} (h : s.sealOpen = false) (off v : Nat) :
    s.tablePut 3 off v = s.errC .writeSealed 0x26 [off] := by simp [State.tablePut, h]

/-- A word that is not its entry's last is buffered. -/
theorem tablePut_list_inner {off : Nat} (h : off % 32 ≠ 28) (v : Nat) (s : State) :
    s.tablePut 5 off v = { s with tabBuf := mins (tbl 5 off) v s.tabBuf } := by
  have hn : (off % bufStride 5 == bufStride 5 - 4) = false := beq_eq_false_iff_ne.2 h
  rw [State.tablePut, State.bufWrite, hn, State.when_false]

theorem tablePut_trust_locked {s : State} (h : s.pwdOpen = false) (off v : Nat) :
    s.tablePut 6 off v = s.errC .writeNeedsPassword 0x22 [off] := by simp [State.tablePut, h]

theorem tablePut_phase {s : State} (h : s.is7680 = true) (off v : Nat) :
    s.tablePut 9 off v = s.errC .writeNeedsSentence 0x1A [off] := by simp [State.tablePut, h]

/-- The tables the device alone writes ignore the host's words. -/
theorem tablePut_readOnly {t : Nat} (h : t ∈ [0, 1, 2, 4, 12, 13]) (off v : Nat) (s : State) : s.tablePut t off v = s := by
  simp only [List.mem_cons, List.not_mem_nil, or_false] at h
  obtain rfl | rfl | rfl | rfl | rfl | rfl := h <;> rfl

theorem lt_sixteen_of_readOnly {t : Nat} (h : t ∈ [0, 1, 2, 4, 12, 13]) : t < 16 := by
  simp only [List.mem_cons, List.not_mem_nil, or_false] at h
  omega

/-! ### The rings (R471, R472) and the records requested over the die link (R51, R448) -/

theorem tailWrite_of_unread {s : State} {r : Ring} {v : Nat}
    (h : (v % (paceRing (ringNo r)).2.2 + (paceRing (ringNo r)).2.2 - s.ringTail (ringNo r)) % (paceRing (ringNo r)).2.2 ≤
      s.ringFill (ringNo r)) :
    s.tailWrite r v = s.setTail (ringNo r) (v % (paceRing (ringNo r)).2.2) := if_neg (Nat.not_lt_of_le h)

theorem tailWrite_of_beyond {s : State} {r : Ring} {v : Nat}
    (h : s.ringFill (ringNo r) <
      (v % (paceRing (ringNo r)).2.2 + (paceRing (ringNo r)).2.2 - s.ringTail (ringNo r)) % (paceRing (ringNo r)).2.2) :
    s.tailWrite r v = s.errC .tailRange (ringPage r) [ringOff r] := if_pos h

theorem exec_tailWrite_of_reaches {s : State} {r : Ring} (h : s.reaches (ringPage r) (ringOff r) = true) (v : Word) :
    exec (.tailWrite r v) s = .next (s.tailWrite r v.toNat).done :=
  (exec_tailWrite r v s).trans (finish_hostWrites_of_reaches h _)

/-- The metrology die answers while it can be reached and stands out of reset. -/
theorem recordTaken {s : State} (hl : s.sys.metLost = false) (hh : s.sys.held = false) : (!s.sys.metLost && !s.sys.held) = true := by
  rw [hl, hh]
  rfl

/-- Settles O17: registers by `regWrite`'s ways, table words by the rule of their table, the rings by `tailWrite`'s two. -/
theorem hostWrites : Obligations.HostWrites := by
  refine ⟨fun s page off v hn ho h4 hlo hd hc hr => ?_, fun s page off v be hn ho h4 hb hr => ?_, fun s page off v hn ho h4 hd hr => ?_,
    fun s off v h => exec_tableEntryWrite_of_reach (by decide) h v, fun s off v h hw => ?_, fun s off v h hs => ?_,
    fun s off v h => exec_tableEntryWrite_of_reach (by decide) h v, fun s t off v ht h => ?_, fun s off v h hp => ?_, fun s off v h h7 => ?_,
    fun s off v ho h => exec_tableEntryWrite_beyond (by decide) ho h v, fun s r v hr h => ?_, fun s r v hr h => ?_,
    fun s v hr => (exec_logCfgWrite v s).trans (finish_hostWrites_of_reaches hr _),
    fun s content hl hh => (exec_recordAppendReq 0 content s).trans (finish_when_of_true (recordTaken hl hh)),
    fun s content hl hh hc => ?_,
    fun s content hl hh => (exec_recordAppendReq 2 content s).trans (finish_when_of_true (recordTaken hl hh))⟩
  · rw [exec_registerWrite, execRegisterWrite_whole ho h4, regWrite_of_ordinary hn hlo hd hc, finish_hostWrites_of_reaches hr]
  · rw [exec_registerWrite, execRegisterWrite_partial hb hn ho h4, finish_hostReach_of_reach hr]
  · rw [exec_registerWrite, execRegisterWrite_whole ho h4, regWrite_of_undefined hn hd, finish_hostReach_of_reach hr]
  · rw [exec_tableEntryWrite_of_reach (by decide) h, tablePut_list_inner hw]
  · rw [exec_tableEntryWrite_of_reach (by decide) h, tablePut_calendar_sealed hs]
  · rw [exec_tableEntryWrite_of_reach (lt_sixteen_of_readOnly ht) h, tablePut_readOnly ht]
  · rw [exec_tableEntryWrite_of_reach (by decide) h, tablePut_trust_locked hp]
  · rw [exec_tableEntryWrite_of_reach (by decide) h, tablePut_phase h7]
  · rw [exec_tailWrite_of_reaches hr, tailWrite_of_unread h]
  · rw [exec_tailWrite_of_reaches hr, tailWrite_of_beyond h]
  · exact (exec_recordAppendReq 1 content s).trans ((finish_when_of_true (recordTaken hl hh)).trans
      (congrArg (fun t : State => Host.Outcome.next t.done) (if_neg (ne_true_of_eq_false hc))))

end Sys2Proof.Machine
end

/-! PROOFS. TLS, the trust store and the grammar tables (R55, R241 to R247). The alert that
a failed handshake carries is the model's choice, log entry 116. -/
section
namespace Sys2Proof.Machine

/-! ### TLS records (R241, R242) -/

/-- What arrives on a link acts in the unit that runs it, outside VAULT and HANDOVER. -/
theorem onLink_of_mine {s : State} (hm : s.linkMine = true) (hs : s.stagesRun = true) (i : Instr) (f : State → State) :
    s.onLink i f = f s := by
  rw [State.onLink, hm, hs]
  rfl

section records
variable {s : State} {n : Nat}

theorem tlsIn_of_connection (hu : s.ctxUp n = true) (ht : (s.ctx n).tcp = true) (hc : (s.ctx n).connSec = 0) (r : TlsRec) :
    s.tlsIn n r = s.tlsRecord n r := by
  rw [State.tlsIn, hu, ht, hc]
  rfl

theorem tlsRecord_clientHello (h : (s.ctx n).tls = 0) (v13 : Bool) (suites groups shares algs : List Nat) :
    s.tlsRecord n (.clientHello v13 suites groups shares algs) = s.clientHello n v13 suites groups shares algs :=
  if_pos (h ▸ Nat.zero_le 1)

/-- A Finished out of its place ends the connection with alert 10. -/
theorem tlsRecord_finished_of_early (h : (s.ctx n).tls ≠ 3) (ok : Bool) : s.tlsRecord n (.finished ok) = s.tlsFail n 10 := if_pos h

/-- A good Finished opens the connection once a client certificate that is asked for has been accepted. -/
theorem tlsRecord_finished (h : (s.ctx n).tls = 3)
    (hcert : s.on F.CRYPT_TRUST_CFG_REQ_CLIENT = false ∨ (s.ctx n).v13 = false ∨ (s.ctx n).certOk = true) :
    let t := ((s.setCtx n { s.ctx n with tls := 4 }).inc F.CRYPT_HS_COUNT_COUNT).setBit F.CRYPT_STATUS_TLS_OPEN n true
    s.tlsRecord n (.finished true) =
      ((t.set (F.VDE_CTX_STATE_CONN.nth n) 4).set (F.VDE_CTX_STATE_SEC.nth n) (if (s.ctx n).v13 then 3 else 2)).ev E.CRYPT_TLS_UP 0
        [n, if (s.ctx n).v13 then 0x0304 else 0x0303, (s.ctx n).suite] := by
  have hno : ¬((s.ctx n).v13 = true ∧ s.on F.CRYPT_TRUST_CFG_REQ_CLIENT = true ∧ (!(s.ctx n).certOk) = true) := by
    rintro ⟨hv, hr, hk⟩
    rw [hv, hr] at hcert
    simp_all
  rw [State.tlsRecord, if_neg (not_not_intro h), Bool.not_true, if_neg Bool.false_ne_true, if_neg hno]

end records

theorem exec_tlsRecordRx_of_connection {s : State} {n : Fin 4} (hm : s.linkMine = true) (hs : s.stagesRun = true) (hu : s.ctxUp n = true)
    (ht : (s.ctx n).tcp = true) (hc : (s.ctx n).connSec = 0) (r : TlsRec) :
    exec (.tlsRecordRx n r) s = .next (s.tlsRecord n r).done := by
  rw [exec_tlsRecordRx, execTlsRecordRx, onLink_of_mine hm hs, tlsIn_of_connection hu ht hc, State.finish]

/-! ### The trust store (R244) -/

theorem trustApply_of_unused {s : State} {e : Nat} (h : s.trustKind e = 0) :
    s.trustApply e = (s.wrByte (trustBase e + 2) 0).refreshTrust := by simp [State.trustApply, h]

theorem trustApply_of_bad_crc {s : State} {e : Nat} (h : s.trustKind e ≠ 0) (hc : crc32 (s.trustDer e) ≠ s.rdLe (trustBase e + 8) 4) :
    s.trustApply e = ((s.wrByte (trustBase e + 2) 3).ev E.CRYPT_TRUST_ENTRY_BAD 0 [e, 3]).refreshTrust := by
  simp [State.trustApply, h, hc]

/-- An entry in use whose bytes are whole is good exactly when they are a certificate. -/
theorem trustApply_of_whole {s : State} {e : Nat} (h : s.trustKind e ≠ 0) (h0 : s.rdLe (trustBase e + 4) 2 ≠ 0)
    (hl : s.rdLe (trustBase e + 4) 2 ≤ 1536) (hc : crc32 (s.trustDer e) = s.rdLe (trustBase e + 8) 4) :
    s.trustApply e = if (Config.x509 (s.trustDer e)).isSome then (s.wrByte (trustBase e + 2) 1).refreshTrust
      else ((s.wrByte (trustBase e + 2) 2).ev E.CRYPT_TRUST_ENTRY_BAD 0 [e, 2]).refreshTrust := by
  have hl' : ¬ 1536 < s.rdLe (trustBase e + 4) 2 := Nat.not_lt_of_le hl
  cases hx : Config.x509 (s.trustDer e) <;> simp [State.trustApply, h, h0, hl', hc, hx]

theorem ocspSet_of_fitting {s : State} {e : Nat} {der : List Nat} (h : der.length ≤ 496) :
    s.ocspSet e der = ((s.wrBytes (trustBase e + 1552) (der ++ List.replicate (496 - der.length) 0)).wrLe (trustBase e + 6) 2
      der.length).wrByte (trustBase e + 1) (setBitOf (s.rdByte (trustBase e + 1)) 1 (!der.isEmpty)) := if_neg (Nat.not_lt_of_le h)

/-! ### The grammar tables (R247) -/

theorem exiSet_of_idle {s : State} (h : s.get F.VDE_STATUS_ACTIVE = 0) :
    s.exiSet = (s.setB F.VDE_CTRL_EXI_LOAD true).setB F.VDE_STATUS_EXI_LOADING true := if_neg (not_not_intro h)

theorem exiSet_of_active {s : State} (h : s.get F.VDE_STATUS_ACTIVE ≠ 0) : s.exiSet = s.err E.VDE_EXI_BUSY 0 [] := if_pos h

theorem exiClear_of_loading {s : State} (h : s.on F.VDE_CTRL_EXI_LOAD = true) :
    s.exiClear = ((s.setB F.VDE_CTRL_EXI_LOAD false).setB F.VDE_STATUS_EXI_LOADING false).exiCheck := if_pos h

theorem exec_exiLoadSet_of_reaches {s : State} (h : s.reaches 0x21 0x008 = true) : exec .exiLoadSet s = .next s.exiSet.done :=
  (exec_exiLoadSet s).trans (finish_hostWrites_of_reaches h _)

/-- Settles O40: a record by `tlsRecord`'s ways, an entry by `trustApply`'s, the grammar tables by the state of the engine. -/
theorem credentials : Obligations.Credentials := by
  refine ⟨fun s n hm hs hu ht hc h3 hcert => ?_, fun s n ok hm hs hu ht hc h3 => ?_,
    fun s n v13 suites groups shares algs hm hs hu ht hc h0 => ?_, fun s n ho ht h2 hp => ?_, fun s n ho ht hc h4 => ?_,
    fun s e h => ?_, fun s e h hc => ?_, fun s e h h0 hl hc => ?_, fun s e der h => ?_, fun s hr h => ?_, fun s hr h => ?_,
    fun s hr h => ?_, fun s test => exec_rngFail test s⟩
  · rw [exec_tlsRecordRx_of_connection hm hs hu ht hc, tlsRecord_finished h3 hcert]
  · rw [exec_tlsRecordRx_of_connection hm hs hu ht hc, tlsRecord_finished_of_early h3]
  · rw [exec_tlsRecordRx_of_connection hm hs hu ht hc, tlsRecord_clientHello h0]
  · exact (exec_pkeDone n s).trans (finish_when_of_true (by simp [ho, ht, h2, hp]))
  · exact (exec_tlsHandshakeTimeout n s).trans (finish_when_of_true (by simp [ho, ht, hc, h4]))
  · rw [exec_trustEntryApply, execTrustEntryApply, trustApply_of_unused h, State.finish]
  · rw [exec_trustEntryApply, execTrustEntryApply, trustApply_of_bad_crc h hc, State.finish]
  · rw [exec_trustEntryApply, execTrustEntryApply, trustApply_of_whole h h0 hl hc, State.finish]
  · rw [exec_ocspSet, execOcspSet, ocspSet_of_fitting h, State.finish]
  · rw [exec_exiLoadSet_of_reaches hr, exiSet_of_idle h]
  · rw [exec_exiLoadSet_of_reaches hr, exiSet_of_active h]
  · rw [exec_exiLoadClear, execExiLoadClear, finish_hostWrites_of_reaches hr, exiClear_of_loading h]

end Sys2Proof.Machine
end

/-! PROOFS. The safe channel: its units, its timing and what a received unit meets (R50, R353 to R360). The words of a
HOST unit and the order of the checks are the model's choice, log entry 76. -/
section
namespace Sys2Proof.Machine

/-! ### Registers under the safety password (R50, R51) -/

section guarded
variable {s : State} {page off : Nat} {wo : Option Nat} {no : State → State} {f : State → Option State}

theorem guarded_of_locked (h : s.pwdOpen = false) : s.guarded false page off wo no f = s.errC .writeNeedsPassword page [off] := by
  simp [State.guarded, h]

variable (hp : s.pwdOpen = true) (hc : s.clogFull = false)
include hp hc

/-- With the password open and room in the change log, the block itself may still refuse the value. -/
theorem guarded_of_declined (hf : f s = none) : s.guarded false page off wo no f = no s := by simp [State.guarded, hp, hc, hf]

theorem guarded_of_accepted {t : State} (hf : f s = some t) :
    s.guarded false page off none no f = t.rwpLogged page off (s.regWord page off) (t.regWord page off) := by
  simp [State.guarded, hp, hc, hf]

end guarded

/-! ### What a received unit meets (R356): one lemma for each of `gscCheck`'s ways -/

section check
variable {s : State} {c : Nat} {p : List Nat}

/-- The distance of a unit's number from the last one accepted. -/
def State.gscGap (s : State) (c : Nat) (p : List Nat) : Nat := (ofBe (slice p 4 2) + 65536 - s.get (F.GSC_CSEQ_RX.nth c)) % 65536

/-- The age of a unit, µs modulo 2^32. -/
def State.gscAge (s : State) (p : List Nat) : Nat := (s.gscStamp + 2 ^ 32 - ofBe (slice p 6 4)) % 2 ^ 32

theorem gscCheck_of_bad_crc (h : gscCrc (s.get (F.GSC_CID_ID.nth c)) p ≠ ofBe (slice p 16 4)) :
    s.gscCheck c p = (s.ev E.GSC_CRC_ERROR 0 [c]).gscBad c := if_pos h

variable (hcrc : gscCrc (s.get (F.GSC_CID_ID.nth c)) p = ofBe (slice p 16 4))
include hcrc

theorem gscCheck_of_restart (hr : (p.getD 2 0).testBit 1 = true) (hs : s.cstate c = 2) : s.gscCheck c p = (s.gscBad c).gscFault c :=
  (if_neg (not_not_intro hcrc)).trans (if_pos ⟨hr, hs⟩)

variable (hr : (p.getD 2 0).testBit 1 = false)
include hr

theorem gscCheck_of_bad_number (hg : s.gscGap c p = 0 ∨ s.get (F.GSC_CCFG_MAX_GAP.nth c) < s.gscGap c p) :
    s.gscCheck c p = (s.ev E.GSC_SEQ_ERROR 0 [c, ofBe (slice p 4 2)]).gscBad c := by
  have hin : (!((decide (1 ≤ s.gscGap c p) && decide (s.gscGap c p ≤ s.get (F.GSC_CCFG_MAX_GAP.nth c))) ||
      ((p.getD 2 0).testBit 1 && s.cstate c == 1))) = true := by
    rw [hr, Bool.false_and, Bool.or_false, Bool.not_eq_true', Bool.and_eq_false_iff, decide_eq_false_iff_not, decide_eq_false_iff_not]
    omega
  exact (if_neg (not_not_intro hcrc)).trans ((if_neg fun h => ne_true_of_eq_false hr h.1).trans (if_pos hin))

variable (h1 : 1 ≤ s.gscGap c p) (hmax : s.gscGap c p ≤ s.get (F.GSC_CCFG_MAX_GAP.nth c))
include h1 hmax

/-- A unit of good CRC and number is judged by its age. -/
theorem gscCheck_of_good_number :
    s.gscCheck c p =
      if s.on (F.GSC_CCFG_AGE_EN.nth c) ∧ (s.get (F.GSC_CTIME_AGE_MS.nth c) * 1000 < s.gscAge p ∨ !s.on F.TIME_SYNC_STATE_SYNC_OK) then
        (s.ev E.GSC_AGE_ERROR 0 [c, s.gscAge p]).gscBad c
      else s.gscAccept c p (ofBe (slice p 4 2)) (s.gscAge p) := by
  have hin : ¬(!((decide (1 ≤ s.gscGap c p) && decide (s.gscGap c p ≤ s.get (F.GSC_CCFG_MAX_GAP.nth c))) ||
      ((p.getD 2 0).testBit 1 && s.cstate c == 1))) = true := by
    rw [decide_eq_true h1, decide_eq_true hmax]
    exact Bool.false_ne_true
  exact (if_neg (not_not_intro hcrc)).trans ((if_neg fun h => ne_true_of_eq_false hr h.1).trans (if_neg hin))

theorem gscCheck_of_old_stamp (he : s.on (F.GSC_CCFG_AGE_EN.nth c) = true)
    (ha : s.get (F.GSC_CTIME_AGE_MS.nth c) * 1000 < s.gscAge p ∨ s.on F.TIME_SYNC_STATE_SYNC_OK = false) :
    s.gscCheck c p = (s.ev E.GSC_AGE_ERROR 0 [c, s.gscAge p]).gscBad c := by
  rw [gscCheck_of_good_number hcrc hr h1 hmax, if_pos ⟨he, ha.imp_right fun h => by rw [h, Bool.not_false]⟩]

theorem gscCheck_of_age_unchecked (he : s.on (F.GSC_CCFG_AGE_EN.nth c) = false) :
    s.gscCheck c p = s.gscAccept c p (ofBe (slice p 4 2)) (s.gscAge p) := by
  rw [gscCheck_of_good_number hcrc hr h1 hmax, if_neg fun h => ne_true_of_eq_false he h.1]

theorem gscCheck_of_young (ha : s.gscAge p ≤ s.get (F.GSC_CTIME_AGE_MS.nth c) * 1000) (hs : s.on F.TIME_SYNC_STATE_SYNC_OK = true) :
    s.gscCheck c p = s.gscAccept c p (ofBe (slice p 4 2)) (s.gscAge p) := by
  rw [gscCheck_of_good_number hcrc hr h1 hmax, if_neg]
  rintro ⟨-, hold | hsync⟩
  · exact Nat.not_lt_of_le ha hold
  · rw [hs] at hsync
    exact Bool.false_ne_true hsync

end check

/-! ### The commands -/

/-- The fabric hands a unit to the connection its source and tag name. -/
theorem gscRx_of_match {s : State} {src c : Nat} {p : List Nat} (hl : p.length = 20) (h0 : p.getD 0 0 = 1)
    (hf : ((List.range 16).find? fun c => s.cstate c != 0 && !s.on (F.GSC_CCFG_HOST.nth c) && s.get (F.GSC_CPEER_ADDRESS.nth c) == src &&
      s.get (F.GSC_CCFG_TAG.nth c) == p.getD 1 0) = some c) : s.gscRx src p = s.gscCheck c p := by
  rw [State.gscRx, if_neg (not_or.2 ⟨not_not_intro hl, not_not_intro h0⟩), hf]

theorem exec_gscTx_of_up {s : State} {c : Fin 16} (he : s.on (F.GSC_CCFG_EN.nth c) = true) (hs : s.cstate c ≠ 0) (hm : s.mode ≠ .mirror) :
    let t := (s.setConn c { s.conn c with next := ((s.conn c).next + 1) % 65536 }).set (F.GSC_CSEQ_TX.nth c) (s.conn c).next
    t.on (F.GSC_CCFG_HOST.nth c) = false →
    exec (.gscTx c) s = .next (t.galeshSend 0x40 (t.get (F.GSC_CPEER_ADDRESS.nth c)) (s.gscUnit c)).done := fun hh =>
  (exec_gscTx c s).trans ((finish_when_of_true (by simp [he, hs, hm])).trans
    (congrArg (fun t : State => Host.Outcome.next t.done) (if_neg (ne_true_of_eq_false hh))))

/-- A connection in FAULT goes back to WAIT, and the outlets' latched trips that have no cause left clear. -/
theorem exec_gscAck_of_fault {s : State} {c : Fin 16} {v : Word} (hr : s.reaches 0x29 (0x114 + 64 * c) = true)
    (hv : v.toNat.testBit 0 = true) (hs : s.cstate c = 3) (hq : (s.conn c).safeTick = none) :
    let t := ((s.setConn c { s.conn c with restart := true }).setCstate c 1).ev E.GSC_ACKED 0 [c]
    exec (.gscAck c v) s = .next (t.gscActions.each t.outlets fun n s =>
      s.when (s.bit (F.SAFE_OUT_TRIP_LATCHED.nth n) 8 && !s.causeOn n 9) fun s => (s.unlatchFn n 9).leaveFault n).done := by
  rw [exec_gscAck, execGscAck, finish_hostWrites_of_reaches hr, hq, hv, hs]
  rfl

/-- CTIME is guarded by the safety password, and a watchdog of less than two periods and 2 ms is refused. -/
theorem exec_gscCtimeWrite_of_reaches {s : State} {c : Fin 16} (hr : s.reaches 0x29 (0x10C + 64 * c.val) = true) (v : Word) :
    exec (.gscCtimeWrite c v) s = .next (s.guarded false 0x29 (0x10C + 64 * c.val) none (fun s => s.err E.GSC_BAD_TIMING 0 [c]) fun s =>
      if bits v.toNat 31 16 < 2 * bits v.toNat 15 8 + 2 then none
      else some ((((s.set (F.GSC_CTIME_WD_MS.nth c) (bits v.toNat 31 16)).set (F.GSC_CTIME_PERIOD_MS.nth c) (bits v.toNat 15 8)).set
        (F.GSC_CTIME_AGE_MS.nth c) (bits v.toNat 7 0)).refreshCfgCrc)).done :=
  (exec_gscCtimeWrite c v s).trans (finish_hostWrites_of_reaches hr _)

/-- Settles O47: the commands by their guards, a received unit by `gscCheck`'s ways, the timing by `guarded`'s. -/
theorem safeChannel : Obligations.SafeChannel := by
  refine ⟨fun s c he hs hm => exec_gscTx_of_up he hs hm, fun s c he => ?_, fun s src p c hg hl h0 hf => ?_, fun s c hf => ?_,
    fun s c hs hm hf => ?_, fun s c v hr hv hs hq => exec_gscAck_of_fault hr hv hs hq, fun s v hr hv hs hh ht => ?_,
    fun s c v hr hp hc hw => ?_, fun s c v hr hp hc hw => ?_, fun s c v hr hp => ?_, fun s c p h => gscCheck_of_bad_crc h,
    fun s c p hcrc hr hg => gscCheck_of_bad_number hcrc hr hg,
    fun s c p hcrc hr h1 hmax he => gscCheck_of_age_unchecked hcrc hr h1 hmax he,
    fun s c p hcrc hr h1 hmax he ha => gscCheck_of_old_stamp hcrc hr h1 hmax he ha,
    fun s c p hcrc hr h1 hmax ha hs => gscCheck_of_young hcrc hr h1 hmax ha hs, fun s c p hcrc hr hs => gscCheck_of_restart hcrc hr hs⟩
  · exact (exec_gscTx c s).trans (finish_when_of_false (by simp [he]))
  · rw [exec_gscRx, execGscRx, finish_when_of_true hg, gscRx_of_match hl h0 hf]
  · exact (exec_gscWatchdog c s).trans (finish_when_of_false (by simp [hf]))
  · exact (exec_gscWatchdog c s).trans (finish_when_of_true (by simp [hs, hm, hf]))
  · exact (exec_gscHostRxGo v s).trans ((finish_hostWrites_of_reaches hr _).trans (finish_when_of_true (by simp [hv, hs, hh, ht])))
  · rw [exec_gscCtimeWrite_of_reaches hr, guarded_of_accepted hp hc (if_neg (Nat.not_lt_of_le hw))]
  · rw [exec_gscCtimeWrite_of_reaches hr, guarded_of_declined hp hc (if_pos hw)]
  · rw [exec_gscCtimeWrite_of_reaches hr, guarded_of_locked hp]

end Sys2Proof.Machine
end

/-! PROOFS. The passwords and the seal (R48, R49, R361 to R365). The records of kinds 3 to 7 stand on page SEAL, log entry 78 (the
model's choice). -/
section
namespace Sys2Proof.Machine

/-! ### Entry of a password (R362, R363, R365) -/

section entry
variable {s : State} {op len : Nat}

theorem pwdEnter_of_bad_format {w : Nat} (h : pwdFormat len (s.pwdChars len) = false) :
    s.pwdEnter w op len = s.err E.SEAL_PWD_FORMAT 0 [op, len] := by
  rw [State.pwdEnter, h, Bool.not_false, if_pos rfl]

variable {stored : List Nat} (hf : pwdFormat len (s.pwdChars len) = true)
include hf

theorem pwdEnter_safety_of_match (hl : s.lockOf 0 = none) (hc : 1 ≤ s.clogFree) (hs : s.pwOf 0 = some stored)
    (hm : pwdMatches stored (s.pwdChars len) = true) :
    let t := (s.setFails 0 0).ev E.SEAL_PWD_ACCEPTED 0 [0]
    let u := (t.clogAppend 3 7 0 0 0).setB F.SEAL_PWD_STAT_PWD_OPEN true
    s.pwdEnter 0 op len = (u.modProt fun p => { p with rwpTick := t.ticks }).refreshPwd 0 := by
  have hc' : ¬ s.clogFree < 1 := Nat.not_lt_of_le hc
  simp [State.pwdEnter, hf, hl, hc', hs, hm]

/-- The third wrong entry in a row locks the password. -/
theorem pwdEnter_safety_of_third_wrong (hl : s.lockOf 0 = none) (hc : 1 ≤ s.clogFree) (hs : s.pwOf 0 = some stored)
    (hm : pwdMatches stored (s.pwdChars len) = false) (h2 : s.failsOf 0 = 2) :
    let t := (s.setFails 0 3).ev E.SEAL_PWD_REFUSED 0 [0, 3]
    s.pwdEnter 0 op len = ((t.setLock 0 (some t.ticks)).ev E.SEAL_PWD_LOCKOUT 0 [0]).refreshPwd 0 := by
  have hc' : ¬ s.clogFree < 1 := Nat.not_lt_of_le hc
  simp [State.pwdEnter, hf, hl, hc', hs, hm, h2]

/-- While the seal is closed its opening takes one record and its closing another. -/
theorem pwdEnter_seal_of_match (hl : s.lockOf 1 = none) (hc : (if (!s.sealOpen) = true then 2 else 1) ≤ s.clogFree)
    (hs : s.pwOf 1 = some stored) (hm : pwdMatches stored (s.pwdChars len) = true) :
    s.pwdEnter 1 op len = (((s.setFails 1 0).ev E.SEAL_PWD_ACCEPTED 0 [1]).openSeal).refreshPwd 1 := by
  have hno : ¬((s.lockOf 1).isSome = true ∨ s.clogFree < (if (decide (1 = 1) && !s.sealOpen) = true then 2 else 1)) := by
    rw [hl, decide_eq_true rfl, Bool.true_and]
    exact fun h => h.elim (fun hn => Bool.false_ne_true hn) (Nat.not_lt_of_le hc)
  rw [State.pwdEnter, hf, Bool.not_true, if_neg Bool.false_ne_true, if_neg hno, hs]
  dsimp only
  rw [hm]
  rfl

/-- A password that is open, or unset, is changed while the change log has room. -/
theorem pwdChange_of_open {w : Nat} (ho : s.openOf w = true) (hc : 1 ≤ s.clogFree) :
    s.pwdChange w op len = (((s.pwdStore w (s.pwdChars len)).clogAppend 3 4 w 0 0).ev E.SEAL_PWD_CHANGED 0 [w]).refreshPwd w := by
  have hc' : ¬ s.clogFree < 1 := Nat.not_lt_of_le hc
  simp [State.pwdChange, hf, ho, hc']

end entry

/-! ### The commands on PWD_CMD -/

section commands
variable {s : State} (hr : s.reaches 0x03 0x060 = true)
include hr

theorem exec_pwdEnterSafety_of_reaches (len : Fin 64) : exec (.pwdEnterSafety len) s = .next (s.pwdEnter 0 1 len).done :=
  (exec_pwdEnterSafety len s).trans (finish_hostWrites_of_reaches hr _)

/-- The seal's password is taken while SEAL_N is asserted; the command shows the level of SEAL_N. -/
theorem exec_pwdEnterSeal_of_reaches (len : Fin 64) :
    exec (.pwdEnterSeal len true) s = .next ((s.seeSealN true).pwdEnter 1 2 len).done :=
  (exec_pwdEnterSeal len true s).trans (finish_hostWrites_of_reaches hr _)

theorem exec_pwdEnterSeal_released (len : Fin 64) : exec (.pwdEnterSeal len false) s = .next (s.seeSealN false).done :=
  (exec_pwdEnterSeal len false s).trans (finish_hostWrites_of_reaches hr _)

theorem exec_pwdChangeSafety_of_reaches (len : Fin 64) : exec (.pwdChangeSafety len) s = .next (s.pwdChange 0 5 len).done :=
  (exec_pwdChangeSafety len s).trans (finish_hostWrites_of_reaches hr _)

theorem exec_pwdChangeSeal_of_reaches (len : Fin 64) :
    exec (.pwdChangeSeal len true) s = .next ((s.seeSealN true).pwdChange 1 6 len).done :=
  (exec_pwdChangeSeal len true s).trans (finish_hostWrites_of_reaches hr _)

end commands

/-- Settles O48: each command on PWD_CMD runs `pwdEnter`, `pwdChange` or a close, by the lemma of its case. -/
theorem passwords : Obligations.Passwords := by
  refine ⟨fun s len stored hr hf hl hc hs hm => ?_, fun s len stored hr hf hl hc hs hm h2 => ?_, fun s len hr hf => ?_,
    fun s len stored hr hf hl hc hs hm => ?_, fun s len hr => exec_pwdEnterSeal_released hr len,
    fun s hr => (exec_pwdCloseSafety s).trans (finish_hostWrites_of_reaches hr _),
    fun s hr => (exec_pwdCloseSeal s).trans (finish_hostWrites_of_reaches hr _), fun s len hr hf ho hc => ?_,
    fun s len hr hf ho hc => ?_, fun s isSeal => exec_pwdLockoutEnd isSeal s,
    fun s ho => (exec_pwdIdleTimeout s).trans (finish_when_of_true ho), exec_sealNRelease⟩
  · rw [exec_pwdEnterSafety_of_reaches hr, pwdEnter_safety_of_match hf hl hc hs hm]
  · rw [exec_pwdEnterSafety_of_reaches hr, pwdEnter_safety_of_third_wrong hf hl hc hs hm h2]
  · rw [exec_pwdEnterSafety_of_reaches hr, pwdEnter_of_bad_format hf]
  · rw [exec_pwdEnterSeal_of_reaches hr, pwdEnter_seal_of_match hf hl hc hs hm]
  · rw [exec_pwdChangeSafety_of_reaches hr, pwdChange_of_open (w := 0) hf ho hc]
  · rw [exec_pwdChangeSeal_of_reaches hr, pwdChange_of_open (w := 1) hf ho hc]

end Sys2Proof.Machine
end

/-! PROOFS. The switchover of a redundant pair and the pair arbiter (R50, R374 to R381, R387, R394 to R397). The arbiter's
numbers of units and causes, and which of its events are logged, are the model's choice, log entry 81. -/
section
namespace Sys2Proof.Machine

/-! ### The switchover (R387, R395 to R397) -/

section handover
variable {s : State} (hp : s.paired = true)
include hp

theorem exec_handoverStart_of_mirror (h : (s.setSelected true).mode = .mirror) :
    exec .handoverStart s = .next (s.setSelected true).startHandover.done := by
  rw [exec_handoverStart, execHandoverStart, finish_when_of_true hp]
  dsimp only
  rw [h]

/-- During VAULT the selection waits, where the unit came there from MIRROR. -/
theorem exec_handoverStart_of_vault (h : (s.setSelected true).mode = .vault) :
    exec .handoverStart s = .next ((s.setSelected true).when ((s.setSelected true).sys.vaultFrom == .mirror) fun s =>
      s.modMir fun m => { m with selDue := true }).done := by
  rw [exec_handoverStart, execHandoverStart, finish_when_of_true hp]
  dsimp only
  rw [h]

theorem exec_deselected_of_selected (h : s.selected = true) : exec .deselected s = .next s.deselect.done :=
  (exec_deselected s).trans (finish_when_of_true (by rw [hp, h, Bool.and_self]))

/-- A pulse shorter than 1 µs is counted; the exclusive outputs of the selected unit are off for it. -/
theorem exec_selGlitch_of_short {w : Nat} (h : w < 1000) :
    let t := (s.inc F.MIR_GLITCH_COUNT).ev E.MIR_SEL_GLITCH 0 [w]
    exec (.selGlitch w) s = .next (t.when (t.selected && t.exclusive) State.blink).done :=
  (exec_selGlitch w s).trans (finish_when_of_true (by rw [hp, decide_eq_true h, Bool.and_self]))

end handover

/-- The mode a unit in service leaves behind stands in the event. -/
theorem deselect_of_ready {s : State} (h : (((s.tpoBalls false).setSelected false).modMir fun m => { m with held := [] }).mode = .ready) :
    let t := ((s.tpoBalls false).setSelected false).modMir fun m => { m with held := [] }
    s.deselect = ((((t.imageLost).modMir fun m => { m with coilHeld := 0 }).setMode .mirror 20).ev E.MIR_DESELECTED 0
      [t.get F.SYS_MODE_CURRENT]).refreshPilots := by
  unfold State.deselect
  dsimp only
  rw [h]

/-! ### The arbiter (R376, R379, R380) -/

/-- Unit `isB` of pair `k` as the arbiter has judged it, its STAT bits showing heartbeat and FAIL_N. -/
def State.arbShown (s : State) (k : Nat) (isB : Bool) (u : ArbUnit) : State :=
  let s := s.setArbUnit k isB u
  if isB then (s.setB (F.PAIRARB_PAIR_STAT_B_HB_OK.nth k) u.hb).setB (F.PAIRARB_PAIR_STAT_B_FAIL.nth k) u.low
  else (s.setB (F.PAIRARB_PAIR_STAT_A_HB_OK.nth k) u.hb).setB (F.PAIRARB_PAIR_STAT_A_FAIL.nth k) u.low

section unit
variable {s : State} {k : Nat} {isB : Bool}

/-- A unit that fails on an arbitrated pair is logged, and both failed too. -/
theorem arbChange_of_failing {hb low : Bool} (hn : (!hb || low) = true) (ho : (s.arbUnit k isB).failed = false) :
    let u := s.arbShown k isB { s.arbUnit k isB with hb := hb, low := low, since := none }
    let w := u.ev E.PAIRARB_UNIT_FAILED 0 [k, unitNo isB, if hb then 2 else 1]
    u.arbOn k = true →
    s.arbChange k isB hb low = (w.when (u.arbUnit k (!isB)).failed fun s => s.ev E.PAIRARB_BOTH_FAILED 0 [k]).refreshArb k := by
  intro u w hon
  have hnew : ({ s.arbUnit k isB with hb := hb, low := low } : ArbUnit).failed = true := hn
  have hnew' : ({ s.arbUnit k isB with hb := hb, low := low, since := none } : ArbUnit).failed = true := hn
  have hc : (u.arbOn k && ({ s.arbUnit k isB with hb := hb, low := low, since := none } : ArbUnit).failed && !(s.arbUnit k isB).failed) =
      true := by rw [hon, hnew', ho]; rfl
  rw [State.arbChange]
  dsimp only
  rw [if_pos hnew]
  exact congrArg (fun t : State => t.refreshArb k) (if_pos hc)

/-- A failed unit whose inputs are good again counts its hold-off from now. -/
theorem arbChange_of_recovering (ho : (s.arbUnit k isB).failed = true) :
    s.arbChange k isB true false = (s.arbShown k isB { s.arbUnit k isB with hb := true, low := false, since := some s.ticks }).refreshArb k := by
  have hnew : ¬({ s.arbUnit k isB with hb := true, low := false } : ArbUnit).failed = true := Bool.false_ne_true
  rw [State.arbChange]
  dsimp only
  rw [if_neg hnew, if_pos ho]
  refine congrArg (fun t : State => t.refreshArb k) (if_neg ?_)
  rw [ho, Bool.not_true, Bool.and_false]
  exact Bool.false_ne_true

end unit

theorem arbSwitch_of_other {s : State} {k : Nat} {isB : Bool} (h : s.arbSelB k = !isB) :
    s.arbSwitch k isB = ((s.arbSelect k isB).inc (F.PAIRARB_PAIR_COUNT_COUNT.nth k)).ev E.PAIRARB_SWITCHED 0 [k, unitNo isB] :=
  if_neg (by rw [h]; cases isB <;> decide)

/-- The output moves from a failed unit to a healthy one. -/
theorem exec_arbSwitch_of_failed {s : State} {k : Fin 4} {act : Bool} (hon : s.arbOn k = true) (hs : s.arbSelB k = act)
    (hf : (s.arbUnit k act).failed = true) (hq : s.arbQualified k (!act) = true) :
    exec (.arbSwitch k) s = .next
      (((s.arbSelect k (!act)).inc (F.PAIRARB_PAIR_COUNT_COUNT.nth k)).ev E.PAIRARB_SWITCHED 0 [k, unitNo (!act)]).done := by
  rw [exec_arbSwitch, execArbSwitch, hs, finish_when_of_true (by rw [hon, hf, hq]; rfl), arbSwitch_of_other (by rw [hs, Bool.not_not])]

/-- Settles O50: the switchover by the unit's mode, the arbiter by `arbChange`'s and `arbSwitch`'s ways. -/
theorem switchover : Obligations.Switchover := by
  refine ⟨fun s hp hm => exec_handoverStart_of_mirror hp hm, fun s hp hv hf => ?_,
    fun s gap hand hm => ?_, fun s hp hs hm => ?_,
    fun s w hp hw hs he => ?_, fun s w hp hw hs => ?_, fun s k ho hon hf _ => ?_, fun s k isB hb low hn ho hon => ?_,
    fun s k isB ho => ?_, fun s k hon hs hf hq => exec_arbSwitch_of_failed (act := false) hon hs hf hq,
    fun s k act hon hs hf hq => exec_arbSwitch_of_failed hon hs hf hq,
    fun s v levels hr => (exec_pairarbEnable v levels s).trans (finish_hostWrites_of_reaches hr _), fun s k v hr hp => ?_⟩
  · rw [exec_handoverStart_of_vault hp hv, hf, State.when_true]
  · rw [exec_handoverDone, execHandoverDone, finish_when_of_true (beq_iff_eq.2 hm)]
  · rw [exec_deselected_of_selected hp hs, deselect_of_ready hm]
  · rw [exec_selGlitch_of_short hp hw, hs, he, Bool.and_self, State.when_true]
  · rw [exec_selGlitch_of_short hp hw, hs, Bool.false_and, State.when_false]
  · rw [exec_arbUnitStateChange, execArbUnitStateChange, arbChange_of_failing (hb := true) (low := true) rfl ho hon]
    exact congrArg (fun t : State => (t.refreshArb k).finish) (if_neg (ne_true_of_eq_false hf))
  · rw [exec_arbUnitStateChange, execArbUnitStateChange, arbChange_of_failing hn ho hon]
    rfl
  · rw [exec_arbUnitStateChange, execArbUnitStateChange, arbChange_of_recovering ho]
    rfl
  · rw [exec_pairarbForce, execPairarbForce, finish_hostWrites_of_reaches hr, State.arbForce, guarded_of_locked hp]

end Sys2Proof.Machine
end

/-! PROOFS. The host's writes to TIME, the clock states and legal time (R64, R66, R68 to R70, R74, R75, R99). That the registers keep an
increment outside its limits is log entry 97, that a step by CTRL acts in its own write log entry 105, the rounding of the mean
increment log entry 30, and LEGAL_SET and the rounding of LEGAL_DIFF log entry 32 (the model's choices). -/
section
namespace Sys2Proof.Machine

/-! ### The roles (R66) -/

theorem timeCfg_of_two_slaves {v : Nat} (h : bits v 11 10 = 2 ∧ bits v 9 8 = 2) (s : State) :
    s.timeCfg v = s.err E.TIME_BAD_ROLE 0 [v] := if_pos h

theorem timeCfg_of_roles {v : Nat} (h : ¬(bits v 11 10 = 2 ∧ bits v 9 8 = 2)) (s : State) :
    s.timeCfg v = (s.setWord 0x04 0x040 0xFFFFFFFF v fun a => a == .rw).ptpState := if_neg h

theorem exec_timeCfgWrite_of_reaches {s : State} (h : s.reaches 0x04 0x040 = true) (v : Word) :
    exec (.timeCfgWrite v) s = .next ((s.timeCfg v.toNat).syncSentences).done :=
  (exec_timeCfgWrite v s).trans (finish_hostWrites_of_reaches h _)

/-! ### The increment (R64, R70) -/

theorem setIncr_of_within {v : Nat} (hlo : incrMin ≤ v) (hhi : v ≤ incrMax) (s : State) :
    s.setIncr v = (s.set F.TIME_INCR_NS_NS (v / 2 ^ 32)).set F.TIME_INCR_FRAC_FRAC (v % 2 ^ 32) := by
  have h : (decide (v < incrMin) || decide (incrMax < v)) = false := by simp [hlo, hhi]
  simp only [State.setIncr, h, State.when_false]

theorem setIncr_of_outside {v : Nat} (hv : v < incrMin ∨ incrMax < v) (s : State) :
    s.setIncr v = ((s.set F.TIME_INCR_NS_NS (v / 2 ^ 32)).set F.TIME_INCR_FRAC_FRAC (v % 2 ^ 32)).err E.TIME_INCR_CLAMPED 0
      [v / 2 ^ 32, v % 2 ^ 32] := by
  have h : (decide (v < incrMin) || decide (incrMax < v)) = true := by simpa using hv
  simp only [State.setIncr, h, State.when_true]

theorem incrMin_le_incr (s : State) : incrMin ≤ s.incr := Nat.le_max_left _ _

theorem incr_le_incrMax (s : State) : s.incr ≤ incrMax := Nat.max_le.2 ⟨by decide, Nat.min_le_left _ _⟩

theorem incr_of_within {s : State} (hlo : incrMin ≤ s.incrReg) (hhi : s.incrReg ≤ incrMax) : s.incr = s.incrReg := by
  rw [State.incr, Nat.min_eq_right hhi, Nat.max_eq_right hlo]

theorem exec_timeIncrWrite_of_reaches {s : State} {isFrac : Bool} (h : s.reaches 0x04 (if isFrac then 0x05C else 0x058) = true)
    (v : Word) : exec (.timeIncrWrite isFrac v) s = .next (s.incrWrite isFrac v.toNat).done :=
  (exec_timeIncrWrite isFrac v s).trans (finish_hostWrites_of_reaches h _)

/-- The half of the increment that is not written stays. -/
theorem incrWrite_of_host {s : State} (h : s.hostServo = true) (isFrac : Bool) (v : Nat) :
    s.incrWrite isFrac v = s.setIncr
      (if isFrac then s.get F.TIME_INCR_NS_NS * 2 ^ 32 + v else v % 16 * 2 ^ 32 + s.get F.TIME_INCR_FRAC_FRAC) := if_pos h

theorem incrWrite_of_servo {s : State} (h : s.hostServo = false) (isFrac : Bool) (v : Nat) :
    s.incrWrite isFrac v = s.servoOwns (if isFrac then 0x05C else 0x058) := if_neg (ne_true_of_eq_false h)

/-! ### Steps and slews (R70) -/

theorem exec_timeStep_of_reaches {s : State} (h : s.reaches 0x04 0x008 = true) : exec .timeStep s = .next s.hostStep.done :=
  (exec_timeStep s).trans (finish_hostWrites_of_reaches h _)

theorem hostStep_of_host {s : State} (h : s.hostServo = true) : s.hostStep = (s.stepFab s.setTarget 1).syncSentences := if_pos h

theorem hostStep_of_servo {s : State} (h : s.hostServo = false) : s.hostStep = s.servoOwns 0x008 := if_neg (ne_true_of_eq_false h)

theorem exec_timeAdjWrite_of_reaches {s : State} (h : s.reaches 0x04 0x06C = true) (v : Word) :
    exec (.timeAdjWrite v) s = .next (s.adjWrite v.toNat).done :=
  (exec_timeAdjWrite v s).trans (finish_hostWrites_of_reaches h _)

theorem adjWrite_of_host {s : State} (h : s.hostServo = true) (v : Nat) :
    s.adjWrite v = (s.modTim fun t => { t with slew := toSigned 32 v * 2 ^ 32 }).showSlew := if_pos h

theorem adjWrite_of_servo {s : State} (h : s.hostServo = false) (v : Nat) : s.adjWrite v = s.servoOwns 0x06C :=
  if_neg (ne_true_of_eq_false h)

theorem exec_adjCfgWrite_of_reaches {s : State} (h : s.reaches 0x04 0x070 = true) (v : Word) :
    exec (.adjCfgWrite v) s = .next (s.adjCfgWrite v.toNat).done :=
  (exec_adjCfgWrite v s).trans (finish_hostWrites_of_reaches h _)

theorem adjCfgWrite_of_within {v : Nat} (hlo : 1 ≤ v % 2 ^ 16) (hhi : v % 2 ^ 16 ≤ 1000) (s : State) :
    s.adjCfgWrite v = s.set F.TIME_ADJ_CFG_SLEW_PPM (v % 2 ^ 16) := if_pos ⟨hlo, hhi⟩

theorem adjCfgWrite_of_outside {v : Nat} (h : v % 2 ^ 16 = 0 ∨ 1000 < v % 2 ^ 16) (s : State) :
    s.adjCfgWrite v = s.err E.TIME_BAD_SLEW 0 [v] := if_neg (by omega)

/-! ### Holdover and the age of the last Sync (R68, R69) -/

/-- HOLDOVER is entered with the increment that stands. -/
def State.holdoverBegins (s : State) : State :=
  (((s.modTim fun t => { t with holdoverTick := s.ticks }).set F.TIME_SYNC_STATE_STATE 3).set F.TIME_SYNC_STATE_HOLDOVER_S 0).ev
    E.TIME_HOLDOVER 0 [s.get F.TIME_OFFSET_NS_NS]

/-- Without a Sync for LOSS_MS a locked clock is in holdover; only the hardware servo's increment freezes at the mean. -/
theorem exec_holdoverEnter_of_lost {s : State} (hl : s.get F.TIME_SYNC_STATE_STATE = 2)
    (ht : s.get F.TIME_HOLDOVER_LOSS_MS * ticksMs ≤ s.since (s.tim.lastSync.getD 0)) :
    exec .holdoverEnter s = .next
      (if s.tim.incrs.isEmpty || s.hostServo then s
        else s.servoIncrSet ((s.tim.incrs.sum / s.tim.incrs.length : Nat) : Int)).holdoverBegins.done :=
  (exec_holdoverEnter s).trans (finish_when_of_true (by rw [hl, decide_eq_true ht]; rfl))

theorem exec_syncAgeExpiry_of_old {s : State} {t : Nat} (hs : s.tim.lastSync = some t)
    (hst : s.get F.TIME_SYNC_STATE_STATE = 2 ∨ s.get F.TIME_SYNC_STATE_STATE = 3) (ho : s.on F.TIME_SYNC_STATE_SYNC_OK = true)
    (ht : s.get F.TIME_HOLDOVER_SENT_MS * ticksMs < s.since t) :
    exec .syncAgeExpiry s = .next ((s.ev E.TIME_HOLDOVER_EXCEEDED 0 [s.since t / ticksMs]).setSyncOk false).done := by
  rw [exec_syncAgeExpiry, execSyncAgeExpiry, hs]
  exact finish_when_of_true (by simp [hst, ho, ht])

/-! ### The steering of legal time (R74, R75) -/

/-- Legal time as fabric time and the UTC offset give it, 2^−32 ns. -/
def State.legalWant (s : State) : Int := (s.tim.fab : Int) - s.getI F.TIME_UTC_OFFSET_SECONDS * secUnit

/-- How far legal time is ahead of that. -/
def State.legalAhead (s : State) : Int := (s.tim.legal : Int) - s.legalWant

/-- LEGAL_DIFF shows the difference, in milliseconds. -/
def State.showLegalDiff (s : State) : State :=
  s.setI F.TIME_LEGAL_DIFF_MS (clampI (-(2 : Int) ^ 31) (2 ^ 31 - 1) (divZ s.legalAhead (1000000 * 2 ^ 32)))

section steering
variable {s : State} (ho : s.on F.TIME_SYNC_STATE_SYNC_OK = true) (he : s.on F.TIME_LEGAL_STAT_STEER_EN = true)
  (hl : s.sys.metLost = false) (hh : s.sys.held = false)
include ho he hl hh

/-- Legal time is steered while SYNC_OK stands and steering is on, the metrology die being reachable and out of reset. -/
theorem exec_legalSteer_of_steered :
    let u := s.showLegalDiff.setB F.TIME_LEGAL_STAT_LEGAL_SET true
    exec .legalSteer s = .next
      (if s.legalAhead.natAbs ≤ 10000 * 2 ^ 32 then s.showLegalDiff
        else if s.legalAhead.natAbs ≤ 2 * secUnit then
          (u.modTim fun t => { t with legalSlew := -s.legalAhead }).setB F.TIME_LEGAL_STAT_SLEWING true
        else u.legalStep s.legalWant.toNat).done :=
  (exec_legalSteer s).trans (finish_when_of_true (by rw [ho, he, hl, hh]; rfl))

theorem exec_legalSteer_of_near (hd : s.legalAhead.natAbs ≤ 10000 * 2 ^ 32) : exec .legalSteer s = .next s.showLegalDiff.done := by
  rw [exec_legalSteer_of_steered ho he hl hh, if_pos hd]

theorem exec_legalSteer_of_slewed (hd : 10000 * 2 ^ 32 < s.legalAhead.natAbs) (hd' : s.legalAhead.natAbs ≤ 2 * secUnit) :
    exec .legalSteer s = .next
      (((s.showLegalDiff.setB F.TIME_LEGAL_STAT_LEGAL_SET true).modTim fun t => { t with legalSlew := -s.legalAhead }).setB
        F.TIME_LEGAL_STAT_SLEWING true).done := by
  rw [exec_legalSteer_of_steered ho he hl hh, if_neg (Nat.not_le_of_lt hd), if_pos hd']

theorem exec_legalSteer_of_stepped (hd : 2 * secUnit < s.legalAhead.natAbs) (hd' : 10000 * 2 ^ 32 < s.legalAhead.natAbs) :
    exec .legalSteer s = .next ((s.showLegalDiff.setB F.TIME_LEGAL_STAT_LEGAL_SET true).legalStep s.legalWant.toNat).done := by
  rw [exec_legalSteer_of_steered ho he hl hh, if_neg (Nat.not_le_of_lt hd'), if_neg (Nat.not_le_of_lt hd)]

end steering

theorem exec_legalSteer_of_unsteered {s : State}
    (h : s.on F.TIME_SYNC_STATE_SYNC_OK = false ∨ s.on F.TIME_LEGAL_STAT_STEER_EN = false) : exec .legalSteer s = .next s.done :=
  (exec_legalSteer s).trans (finish_when_of_false (by rcases h with h | h <;> simp [h]))

/-- Settles O19: each write by its register's two ways, holdover and steering by their command's guard and cases. -/
theorem timeHostWrites : Obligations.TimeHostWrites := by
  refine ⟨fun s v hr hv => ?_, fun s v hr hv => ?_, fun s v hr hs => ?_, fun s v hr hs => ?_, fun s v hr hs => ?_, fun s v hr hs => ?_,
    fun s v hlo hhi => setIncr_of_within hlo hhi s, fun s v hv => setIncr_of_outside hv s,
    fun s => ⟨incrMin_le_incr s, incr_le_incrMax s, incr_of_within⟩, fun s hr hs => ?_, fun s hr hs => ?_, fun s v hr hs => ?_,
    fun s v hr hs => ?_, fun s v hr hlo hhi => ?_, fun s v hr hv => ?_, fun s hl ht hi => ?_, fun s hl ht hi hs => ?_,
    fun s t hs hst ho ht => exec_syncAgeExpiry_of_old hs hst ho ht, fun s ho he hl hh hd hd' => exec_legalSteer_of_slewed ho he hl hh hd hd',
    fun s ho he hl hh hd hd' => exec_legalSteer_of_stepped ho he hl hh hd hd',
    fun s ho he hl hh hd => exec_legalSteer_of_near ho he hl hh hd, fun s h => exec_legalSteer_of_unsteered h⟩
  · rw [exec_timeCfgWrite_of_reaches hr, timeCfg_of_roles hv]
  · rw [exec_timeCfgWrite_of_reaches hr, timeCfg_of_two_slaves hv]
  · exact (exec_timeIncrWrite_of_reaches (isFrac := false) hr v).trans (by rw [incrWrite_of_host hs]; rfl)
  · exact (exec_timeIncrWrite_of_reaches (isFrac := true) hr v).trans (by rw [incrWrite_of_host hs]; rfl)
  · exact (exec_timeIncrWrite_of_reaches (isFrac := false) hr v).trans (by rw [incrWrite_of_servo hs]; rfl)
  · exact (exec_timeIncrWrite_of_reaches (isFrac := true) hr v).trans (by rw [incrWrite_of_servo hs]; rfl)
  · rw [exec_timeStep_of_reaches hr, hostStep_of_host hs]
  · rw [exec_timeStep_of_reaches hr, hostStep_of_servo hs, State.servoOwns]
  · rw [exec_timeAdjWrite_of_reaches hr, adjWrite_of_host hs, State.modTim]
  · rw [exec_timeAdjWrite_of_reaches hr, adjWrite_of_servo hs, State.servoOwns]
  · rw [exec_adjCfgWrite_of_reaches hr, adjCfgWrite_of_within hlo hhi]
  · rw [exec_adjCfgWrite_of_reaches hr, adjCfgWrite_of_outside hv]
  · rw [exec_holdoverEnter_of_lost hl ht, if_pos (by rwa [Bool.or_eq_true]), State.holdoverBegins]
  · rw [exec_holdoverEnter_of_lost hl ht, if_neg (by rw [hi, hs]; decide), State.holdoverBegins]

end Sys2Proof.Machine
end

/-! PROOFS. Time-triggered outputs (R76 to R78). That a one-shot that has acted is not judged again and that SKIPPED saturates are log
entry 33; that PERIOD counts in the periodic mode alone and that the end of a one-shot pulse leaves CFG.ARM at 1 are log entry 105
(the model's choices). -/
section
namespace Sys2Proof.Machine

/-! ### Arming and disarming (R76) -/

theorem exec_tpoArm_of_reaches {s : State} {n : Fin 8} (h : s.reaches 0x05 (0x040 + n * 0x20) = true) :
    exec (.tpoArm n) s = .next (s.tpoArm n).done :=
  (exec_tpoArm n s).trans (finish_hostWrites_of_reaches h _)

theorem exec_tpoDisarm_of_reaches {s : State} {n : Fin 8} (h : s.reaches 0x05 (0x040 + n * 0x20) = true) :
    exec (.tpoDisarm n) s = .next (s.tpoDisarm n).done :=
  (exec_tpoDisarm n s).trans (finish_hostWrites_of_reaches h _)

section arming
variable {s : State} {n : Nat}

theorem tpoArm_of_bad_timing (h : tpoBadTiming s n = true) : s.tpoArm n = (s.tpoDisarm n).err E.TPO_BAD_TIMING 0 [n] := if_pos h

theorem tpoArm_of_sound (h : tpoBadTiming s n = false) (hm : tpoMode s n ≠ 0) :
    s.tpoArm n = (((s.setB (F.TPO_CFG_ARM.nth n) true).setB (F.TPO_STATUS_ARMED.nth n) true).setTpo n
      { stop := (s.tpoOf n).stop }).tpoJudge n := by
  rw [State.tpoArm, h, if_neg Bool.false_ne_true, beq_eq_false_iff_ne.2 hm, State.when_false]

end arming

/-! ### The judging of an output (R77, R78) -/

section judging
variable {s : State} {n : Nat}

/-- A one-shot that has not acted: on time, or late by its policy. -/
theorem tpoJudge_of_oneShot (hm : tpoMode s n = 1 ∨ tpoMode s n = 2) (ha : (s.tpoOf n).acted = false) :
    s.tpoJudge n =
      if tpoStart s n < s.tim.fab + nsUnits 50 then
        if s.on (F.TPO_CFG_LATE_POLICY.nth n) then
          (((s.setB (F.TPO_CFG_ARM.nth n) false).setB (F.TPO_STATUS_ARMED.nth n) false).setB (F.TPO_STATUS_MISSED.nth n) true).ev
            E.TPO_MISSED 0 [n, tpoStart s n / secUnit, tpoStart s n % secUnit / 2 ^ 32]
        else ((s.setTpo n { s.tpoOf n with due := s.tim.fab + nsUnits 50 }).setB (F.TPO_STATUS_LATE.nth n) true).ev E.TPO_LATE 0 [n, 0]
      else s.setTpo n { s.tpoOf n with due := tpoStart s n } := by
  rw [State.tpoJudge]
  split
  case h_1 h => omega
  case h_2 h => omega
  case h_3 => exact if_neg (ne_true_of_eq_false ha)

/-- A periodic output leaves out the pulses before its first one in time. -/
theorem tpoJudge_of_skipping (hm : tpoMode s n = 3)
    (hk : (s.tpoOf n).next < tpoFirst (tpoStart s n) (tpoPeriod s n) (s.tim.fab + nsUnits 50)) :
    let k := tpoFirst (tpoStart s n) (tpoPeriod s n) (s.tim.fab + nsUnits 50)
    s.tpoJudge n = (((s.setTpo n { s.tpoOf n with next := k, due := tpoStart s n + k * tpoPeriod s n }).setB (F.TPO_STATUS_LATE.nth n) true).set
      (F.TPO_STATUS_SKIPPED.nth n) (satTo 16 (k - (s.tpoOf n).next))).ev E.TPO_LATE 0 [n, satTo 16 (k - (s.tpoOf n).next)] := by
  rw [State.tpoJudge]
  split
  case h_1 h => omega
  case h_2 => exact if_pos hk
  case h_3 h => exact absurd hm h

end judging

/-- The pulses from START lie `p` apart, so that as many are before `t` as that distance takes, rounded up. -/
theorem tpoFirst_le_iff {p : Nat} (hp : 0 < p) (a t k : Nat) : tpoFirst a p t ≤ k ↔ t ≤ a + k * p := by
  rw [tpoFirst]
  split
  case isTrue h => exact ⟨fun _ => by omega, fun _ => Nat.zero_le k⟩
  case isFalse h =>
    have hc : (t - a + p - 1) / p ≤ k ↔ t - a + p - 1 < (k + 1) * p := by rw [← Nat.lt_succ_iff, Nat.div_lt_iff_lt_mul hp]
    have hs : (k + 1) * p = k * p + p := Nat.succ_mul k p
    rw [hc]
    omega

/-- The first pulse at or after `t` is the one with every earlier pulse before `t`. -/
theorem eq_tpoFirst_iff {p : Nat} (hp : 0 < p) (a t k : Nat) :
    k = tpoFirst a p t ↔ t ≤ a + k * p ∧ ∀ j, j < k → a + j * p < t := by
  have before (j : Nat) : a + j * p < t ↔ j < tpoFirst a p t := by rw [← Nat.not_le, ← Nat.not_le, tpoFirst_le_iff hp]
  simp only [before, ← tpoFirst_le_iff hp]
  refine ⟨fun h => ⟨Nat.le_of_eq h.symm, fun j hj => h ▸ hj⟩, fun ⟨hle, hlt⟩ => Nat.le_antisymm (Nat.le_of_not_lt fun h => ?_) hle⟩
  exact Nat.lt_irrefl _ (hlt _ h)

/-! ### The instant and the end of a pulse (R76) -/

theorem exec_tpoStart_of_armed {s : State} {n : Fin 8} (hr : s.tpoRuns = true) (ha : s.on (F.TPO_STATUS_ARMED.nth n) = true) :
    exec (.tpoStart n) s = .next (s.tpoStartNow n).done :=
  (exec_tpoStart n s).trans (finish_when_of_true (by rw [hr, ha]; rfl))

section instant
variable {s : State} {n : Nat}

theorem tpoStartNow_of_edge (hm : tpoMode s n = 1) :
    s.tpoStartNow n = (s.setTpo n { s.tpoOf n with acted := true }).tpoDrive n true := by
  rw [State.tpoStartNow, hm]
  rfl

theorem tpoStartNow_of_pulse (hm : tpoMode s n = 2) (ha : (s.tpoOf n).acted = false) :
    s.tpoStartNow n =
      (s.setTpo n { s.tpoOf n with acted := true, stop := some ((s.tpoOf n).due + tpoWidth s n) }).tpoDrive n true := by
  rw [State.tpoStartNow, hm]
  exact if_neg (ne_true_of_eq_false ha)

theorem tpoStartNow_of_periodic (hm : tpoMode s n = 3) :
    let t := s.tpoOf n
    s.tpoStartNow n =
      (s.setTpo n { t with next := t.next + 1, due := t.due + tpoPeriod s n, stop := some (t.due + tpoWidth s n) }).tpoDrive n true := by
  rw [State.tpoStartNow, hm]
  rfl

end instant

/-- Settles O20: arming by `tpoArm`'s two ways, the judging by `tpoJudge`'s, the instant by the output's mode. -/
theorem timeTriggeredOutputs : Obligations.TimeTriggeredOutputs := by
  refine ⟨fun s n hr hb hm => ?_, fun s n hr hb => ?_, fun s n hr => exec_tpoDisarm_of_reaches hr, fun s n hm ha ht => ?_,
    fun s n hm ha ht hp => ?_, fun s n hm ha ht hp => ?_, fun s n => tpoJudge_of_skipping, fun a p t k hp => eq_tpoFirst_iff hp a t k,
    fun s n hr ha hm => ?_, fun s n hr ha hm hd => ?_, fun s n hr ha hm => ?_,
    fun s n ha hs => (exec_tpoPulseEnd n s).trans (finish_when_of_true (by rw [ha, hs]; rfl))⟩
  · rw [exec_tpoArm_of_reaches hr, tpoArm_of_sound hb hm]
  · rw [exec_tpoArm_of_reaches hr, tpoArm_of_bad_timing hb]
  · rw [tpoJudge_of_oneShot hm ha, if_neg (Nat.not_lt_of_le ht)]
  · rw [tpoJudge_of_oneShot hm ha, if_pos ht, if_neg (ne_true_of_eq_false hp)]
  · rw [tpoJudge_of_oneShot hm ha, if_pos ht, if_pos hp]
  · rw [exec_tpoStart_of_armed hr ha, tpoStartNow_of_edge hm]
  · rw [exec_tpoStart_of_armed hr ha, tpoStartNow_of_pulse hm hd]
  · rw [exec_tpoStart_of_armed hr ha, tpoStartNow_of_periodic hm]

end Sys2Proof.Machine
end

/-! PROOFS. PTP messages received and sent (R66, R67, R72 to R74). Stamps and roundings are log entry 30; that frames from and to the
device's own PTP have no residence time, and what PATH_DELAY shows without a slave port, are log entry 105; that the time a frame
stays in the switch is a free value is log entry 1 (the model's choices). -/
section
namespace Sys2Proof.Machine

/-! ### Whose message it is (R66) -/

/-- A message that is the port's own has its effect there. -/
theorem finish_ite_of_true {c : Bool} {t u : State} (h : c = true) : (if c then t else u).finish = .next t.done := by
  rw [if_pos h, State.finish]

theorem finish_ite_of_false {c : Bool} {t u : State} (h : c = false) : (if c then t else u).finish = .next u.done := by
  rw [if_neg (ne_true_of_eq_false h), State.finish]

section received
variable {s : State} {port : Fin 2} {f : PtpMsg}

theorem accepts_in_role {r : Nat} (ha : s.ptpAccepts port f = true) (hr : s.ptpRole port = r) :
    (s.ptpAccepts port f && s.ptpRole port == r) = true := by rw [ha, hr, beq_self_eq_true, Bool.and_self]

theorem accepts_on_p2p (ha : s.ptpAccepts port f = true) (hp : s.ptpP2p port = true) :
    (s.ptpAccepts port f && s.ptpP2p port) = true := by rw [ha, hp, Bool.and_self]

theorem not_accepts_and (ha : s.ptpAccepts port f = false) (b : Bool) : (s.ptpAccepts port f && b) = false := by
  rw [ha, Bool.false_and]

/-- The answer belongs to the measurement in progress. -/
theorem delay_awaits (hb : (s.delayOf port).busy = true) (hq : (s.delayOf port).seqId = f.seqId) :
    ((s.delayOf port).busy && (s.delayOf port).seqId == f.seqId) = true := by rw [hb, hq, beq_self_eq_true, Bool.and_self]

/-! ### What a slave port receives (R66, R67, R74) -/

theorem exec_ptpSyncRx_of_slave (ha : s.ptpAccepts port f = true) (hr : s.ptpRole port = 2) :
    exec (.ptpSyncRx port f) s = .next
      (if f.twoStep then s.modTim fun t => { t with pendingSync := some (f.seqId, s.rxStamp port, f.corr) }
        else s.syncResult ((f.ts : Int) + divZ f.corr 65536) (s.rxStamp port)).done :=
  (exec_ptpSyncRx port f s).trans (finish_ite_of_true (accepts_in_role ha hr))

/-- The Follow_Up of the Sync that waits gives the result. -/
theorem exec_ptpFollowUpRx_of_pending {rx c : Int} (ha : s.ptpAccepts port f = true) (hr : s.ptpRole port = 2)
    (hq : s.tim.pendingSync = some (f.seqId, rx, c)) :
    exec (.ptpFollowUpRx port f) s = .next (s.syncResult ((f.ts : Int) + divZ (c + f.corr) 65536) rx).done := by
  rw [exec_ptpFollowUpRx, execPtpFollowUpRx, finish_ite_of_true (accepts_in_role ha hr), hq]
  dsimp only
  rw [beq_self_eq_true, State.when_true]

theorem exec_ptpDelayRespRx_of_awaited (ha : s.ptpAccepts port f = true) (hr : s.ptpRole port = 2) (hp : s.ptpP2p port = false)
    (hb : (s.delayOf port).busy = true) (hq : (s.delayOf port).seqId = f.seqId) :
    let d := { s.delayOf port with
      t1 := s.tim.syncT1, t2 := s.tim.syncT2, t4 := (f.ts : Int), corr := (s.delayOf port).corr + f.corr, busy := false }
    exec (.ptpDelayRespRx port f) s = .next (s.setPath port d d.path).done := by
  have hm : (s.ptpAccepts port f && s.ptpRole port == 2 && !s.ptpP2p port) = true := by rw [accepts_in_role ha hr, hp]; rfl
  rw [exec_ptpDelayRespRx, execPtpDelayRespRx, finish_ite_of_true hm]
  dsimp only
  rw [delay_awaits hb hq, State.when_true]

theorem exec_ptpPdelayRespRx_of_awaited (ha : s.ptpAccepts port f = true) (hp : s.ptpP2p port = true)
    (hb : (s.delayOf port).busy = true) (hq : (s.delayOf port).seqId = f.seqId) (h2 : f.twoStep = true) :
    exec (.ptpPdelayRespRx port f) s = .next
      (s.setDelay port { s.delayOf port with t2 := (f.ts : Int), t4 := s.rxStamp port, corr := (s.delayOf port).corr + f.corr }).done := by
  rw [exec_ptpPdelayRespRx, execPtpPdelayRespRx, finish_ite_of_true (accepts_on_p2p ha hp)]
  dsimp only
  rw [delay_awaits hb hq, State.when_true, if_pos h2]

theorem exec_ptpPdelayRespFollowUpRx_of_awaited (ha : s.ptpAccepts port f = true) (hp : s.ptpP2p port = true)
    (hb : (s.delayOf port).busy = true) (hq : (s.delayOf port).seqId = f.seqId) :
    let d := { s.delayOf port with t3 := (f.ts : Int), corr := (s.delayOf port).corr + f.corr, busy := false }
    exec (.ptpPdelayRespFollowUpRx port f) s = .next (s.setPath port d d.path).done := by
  rw [exec_ptpPdelayRespFollowUpRx, execPtpPdelayRespFollowUpRx, finish_ite_of_true (accepts_on_p2p ha hp)]
  dsimp only
  rw [delay_awaits hb hq, State.when_true]

theorem exec_ptpAnnounceRx_of_slave (ha : s.ptpAccepts port f = true) (hr : s.ptpRole port = 2) :
    let u := s.modTim fun t => { t with announced := some f.utc }
    exec (.ptpAnnounceRx port f) s = .next
      (u.when (s.on F.TIME_UTC_OFFSET_FROM_ANNOUNCE) fun s => s.setI F.TIME_UTC_OFFSET_SECONDS f.utc).done :=
  (exec_ptpAnnounceRx port f s).trans (finish_ite_of_true (accepts_in_role ha hr))

end received

/-! ### What a port sends (R66, R67, R72) -/

section sent
variable {s : State} {port : Fin 2} (he : s.on F.TIME_CFG_ENABLE = true)
include he

theorem exec_ptpSyncTx_of_master (hr : s.ptpRole port = 1) :
    let corr : Int := (s.tim.fab % 2 ^ 32 / 65536 : Nat)
    exec (.ptpSyncTx port) s = .next
      (if s.ptpOneStep port then (s.ptpOwn port ptpSync s.tim.txSeq (s.txStamp port) corr false).nextSeq
        else ((s.ptpOwn port ptpSync s.tim.txSeq 0 0 true).ptpOwn port ptpFollowUp s.tim.txSeq (s.txStamp port) corr false).nextSeq).done :=
  (exec_ptpSyncTx port s).trans (finish_when_of_true (by rw [he, hr]; rfl))

theorem exec_delayReqTx_of_measuring (hr : (s.ptpRole port == 2 || (s.ptpP2p port && s.ptpRole port != 0)) = true) :
    let q := s.tim.txSeq
    exec (.delayReqTx port) s = .next
      (if s.ptpP2p port then
          ((s.setDelay port { seqId := q, t1 := s.txStamp port, busy := true }).ptpOwn port ptpPdelayReq q 0 0 false).nextSeq
        else ((s.setDelay port { seqId := q, t3 := s.txStamp port, busy := true }).ptpOwn port ptpDelayReq q 0 0 false).nextSeq).done :=
  (exec_delayReqTx port s).trans (finish_when_of_true (by rw [he, hr]; rfl))

theorem exec_announceTx_of_master (hr : s.ptpRole port = 1) :
    exec (.announceTx port) s = .next ((s.ptpOwn port ptpAnnounce s.tim.txSeq 0 0 false).nextSeq).done :=
  (exec_announceTx port s).trans (finish_when_of_true (by rw [he, hr]; rfl))

end sent

/-! ### What is switched to the other port (R73) -/

theorem ptpForward_of_no_tc {s : State} (h : s.on F.TIME_CFG_TC_EN = false) (port kind : Nat) (m : PtpMsg) :
    s.ptpForward port kind m = s.emit (.ptp (1 - port) kind m) := by
  simp [State.ptpForward, h]

/-- Without TC_P2P no peer delay is added to a Sync. -/
theorem ptpForward_sync_of_oneStep {s : State} {m : PtpMsg} (h : s.on F.TIME_CFG_TC_EN = true) (hp : s.on F.TIME_CFG_TC_P2P = false)
    (hm : m.twoStep = false) (port : Nat) :
    s.ptpForward port ptpSync m = s.freeNext.emit (.ptp (1 - port) ptpSync { m with corr := m.corr + s.residence port }) := by
  simp [State.ptpForward, h, hp, hm]

/-- Settles O21: a received message by whether the port takes it, a sent one by the port's role, a switched one by TC_EN. -/
theorem ptpMessages : Obligations.PtpMessages := by
  refine ⟨fun s port f ha hr h2 => ?_, fun s port f ha hr h2 => ?_, fun s port f rx c ha hr hq => exec_ptpFollowUpRx_of_pending ha hr hq,
    fun s port f => exec_ptpDelayRespRx_of_awaited, fun s port f => exec_ptpPdelayRespRx_of_awaited,
    fun s port f => exec_ptpPdelayRespFollowUpRx_of_awaited, fun s port f ha hr hu => ?_,
    fun s port f ha hr => (exec_ptpDelayReqRx port f s).trans (finish_ite_of_true (accepts_in_role ha hr)),
    fun s port f ha hp => (exec_ptpPdelayReqRx port f s).trans (finish_ite_of_true (accepts_on_p2p ha hp)),
    fun s port he hr ho => ?_, fun s port he hr ho => ?_, fun s port he hr hp => ?_, fun s port he hr hp => ?_,
    fun s port he hr => exec_announceTx_of_master he hr,
    fun s port f ha => (exec_ptpSyncRx port f s).trans (finish_ite_of_false (not_accepts_and ha _)), fun s port f ha => ?_,
    fun s port kind m h => ptpForward_of_no_tc h port kind m, fun s port m h hp hm => ptpForward_sync_of_oneStep h hp hm port,
    fun s port seqId => exec_tcFollowUpTimeout port seqId s⟩
  · rw [exec_ptpSyncRx_of_slave ha hr, if_neg (ne_true_of_eq_false h2)]
  · rw [exec_ptpSyncRx_of_slave ha hr, if_pos h2]
  · rw [exec_ptpAnnounceRx_of_slave ha hr, hu, State.when_true, State.modTim]
  · rw [exec_ptpSyncTx_of_master he hr, if_pos ho]
  · rw [exec_ptpSyncTx_of_master he hr, if_neg (ne_true_of_eq_false ho)]
  · rw [exec_delayReqTx_of_measuring he (by rw [hr]; rfl), if_neg (ne_true_of_eq_false hp)]
  · rw [exec_delayReqTx_of_measuring he (by rw [hp, bne_iff_ne.2 hr, Bool.and_self, Bool.or_true]), if_pos hp]
  · have other (b : Bool) := not_accepts_and ha b
    exact ⟨(exec_ptpFollowUpRx port f s).trans (finish_ite_of_false (other _)),
      (exec_ptpDelayReqRx port f s).trans (finish_ite_of_false (other _)),
      (exec_ptpDelayRespRx port f s).trans (finish_ite_of_false (by rw [other, Bool.false_and])),
      (exec_ptpPdelayReqRx port f s).trans (finish_ite_of_false (other _)),
      (exec_ptpPdelayRespRx port f s).trans (finish_ite_of_false (other _)),
      (exec_ptpPdelayRespFollowUpRx port f s).trans (finish_ite_of_false (other _)),
      (exec_ptpAnnounceRx port f s).trans (finish_ite_of_false (other _))⟩

end Sys2Proof.Machine
end

/-! PROOFS. The host's Sentence commands and their refusals (R82 to R85). -/
section
namespace Sys2Proof.Machine

section hostCommands
variable {s : State} (hr : s.reaches 0x09 0x040 = true) (hb : s.on F.SENT_CMD_RESULT_BUSY = false)
include hr hb

/-! ### How a command reaches the engine (R84) -/

theorem finish_sentCmd {op slot : Nat} {names : Bool} (f : State → State) :
    (s.sentCmd op slot names f).finish = .next
      (if names && decide (slot < 12) then s.cmdRefuse E.SENT_NOT_OWNER slot [slot, op] else f s).done := by
  rw [State.sentCmd, finish_hostWrites_of_reaches hr, if_neg (ne_true_of_eq_false hb)]

/-- A command that names no slot is not judged by its owner. -/
theorem finish_sentCmd_unnamed (op slot : Nat) (f : State → State) :
    (s.sentCmd op slot false f).finish = .next (f s).done :=
  finish_sentCmd hr hb f

theorem finish_sentCmd_own {slot : Nat} (h : 12 ≤ slot) (op : Nat) (f : State → State) :
    (s.sentCmd op slot true f).finish = .next (f s).done := by
  rw [finish_sentCmd hr hb, Bool.true_and, if_neg (by simpa using h)]

theorem finish_sentCmd_foreign {slot : Nat} (h : slot < 12) (op : Nat) (f : State → State) :
    (s.sentCmd op slot true f).finish = .next (s.cmdRefuse E.SENT_NOT_OWNER slot [slot, op]).done := by
  rw [finish_sentCmd hr hb, Bool.true_and, if_pos (decide_eq_true h)]

/-! ### The commands that name no slot -/

theorem exec_sentOpen_of_free {k : Nat} (h : s.freeSlot 12 16 = some k) :
    exec .sentOpen s = .next (((s.setSlot k { st := 1, owner := 0 }).cmdResult k 0).refreshSent).done := by
  rw [exec_sentOpen, execSentOpen, finish_sentCmd_unnamed hr hb, h]

theorem exec_sentOpen_of_full (h : s.freeSlot 12 16 = none) :
    exec .sentOpen s = .next (s.cmdRefuse E.SENT_NO_SLOT_FREE 0 [0]).done := by
  rw [exec_sentOpen, execSentOpen, finish_sentCmd_unnamed hr hb, h]

theorem exec_sentBadOp_of_unlisted {op : Fin 16} (h : op = 0 ∨ 7 ≤ op.val) (k : Fin 16) :
    exec (.sentBadOp op k) s = .next (s.cmdRefuse E.SENT_BAD_OP k [op]).done := by
  have hop : (op == 0 || decide (7 ≤ op.val)) = true := by simpa using h
  rw [exec_sentBadOp, execSentBadOp, finish_sentCmd_unnamed hr hb, hop, State.when_true]

/-! ### The commands on a slot of the host: each by the state of the slot -/

section onOwnSlot
variable {k : Fin 16} (hk : 12 ≤ (k : Nat))
include hk

theorem exec_sentStage_of_not_open (h : (s.slot k).st ≠ 1) :
    exec (.sentStage k) s = .next (s.cmdRefuse E.SENT_NOT_OPEN k [k, 2]).done := by
  rw [exec_sentStage, execSentStage, finish_sentCmd_own hr hb hk]
  exact congrArg (fun t : State => Host.Outcome.next t.done) (if_pos h)

/-- A sound Clause joins the Sentence that has room for it. -/
theorem exec_sentStage_of_sound (h : (s.slot k).st = 1) (hc : s.clauseBad s.stagedClause false = none)
    (hn : (s.slot k).clauses.length < 64) :
    exec (.sentStage k) s = .next
      (((s.setSlot k { s.slot k with clauses := (s.slot k).clauses ++ [s.stagedClause] }).cmdResult k 0).refreshSent).done := by
  rw [exec_sentStage, execSentStage, finish_sentCmd_own hr hb hk]
  dsimp only
  rw [if_neg (Decidable.not_not.2 h), hc]
  dsimp only
  rw [if_neg (Nat.not_le.2 hn)]

/-- The count is judged with the last check of R85 alone, so below it a failed check answers with its own code. -/
theorem exec_sentStage_of_bad {e : EvCode} (h : (s.slot k).st = 1) (hc : s.clauseBad s.stagedClause false = some e)
    (hn : (s.slot k).clauses.length < 64) :
    exec (.sentStage k) s = .next (s.cmdRefuse e k [k, (s.slot k).clauses.length]).done := by
  rw [exec_sentStage, execSentStage, finish_sentCmd_own hr hb hk]
  dsimp only
  rw [if_neg (Decidable.not_not.2 h), hc]
  dsimp only
  rw [decide_eq_false (Nat.not_le.2 hn), Bool.false_and, if_neg Bool.false_ne_true]

theorem exec_sentPrepare_of_own :
    exec (.sentPrepare k) s = .next (if (s.slot k).st ≠ 1 then s.cmdRefuse E.SENT_NOT_OPEN k [k, 3]
      else ((s.setSlot k { s.slot k with st := 2, prepNs := s.fabNs }).cmdResult k 0).refreshSent).done :=
  (exec_sentPrepare k s).trans (finish_sentCmd_own hr hb hk _ _)

theorem exec_sentAbort_of_own :
    let x := s.slot k
    exec (.sentAbort k) s = .next (if x.st = 1 ∨ (x.st = 3 ∧ !x.dist ∧ x.vaultDue.isNone) then (s.endSlot k 7 0 0).cmdResult k 0
      else if x.st = 3 ∧ x.dist then (s.decideAbort k 0).cmdResult k 0
      else s.cmdRefuse E.SENT_ABORT_REFUSED k [k, 4]).done :=
  (exec_sentAbort k s).trans (finish_sentCmd_own hr hb hk _ _)

theorem exec_sentRelease_of_own :
    exec (.sentRelease k) s = .next (if 6 ≤ (s.slot k).st then ((s.freeSlotNow k).cmdResult k 0).refreshSent
      else s.cmdRefuse E.SENT_NOT_TERMINAL k [k, 5]).done :=
  (exec_sentRelease k s).trans (finish_sentCmd_own hr hb hk _ _)

theorem exec_sentClear_of_own :
    exec (.sentClear k) s = .next (if (s.slot k).st = 1 then ((s.setSlot k { s.slot k with clauses := [] }).cmdResult k 0).refreshSent
      else s.cmdRefuse E.SENT_NOT_OPEN k [k, 6]).done :=
  (exec_sentClear k s).trans (finish_sentCmd_own hr hb hk _ _)

/-- In OPEN, and for a local Sentence in PREPARED before its full stop, ABORT ends the slot. -/
theorem exec_sentAbort_of_endable
    (h : (s.slot k).st = 1 ∨ ((s.slot k).st = 3 ∧ (s.slot k).dist = false ∧ (s.slot k).vaultDue = none)) :
    exec (.sentAbort k) s = .next ((s.endSlot k 7 0 0).cmdResult k 0).done := by
  rw [exec_sentAbort_of_own hr hb hk, if_pos (by simpa using h)]

/-- A distributed Sentence in PREPARED is aborted by the decision of its coordinator. -/
theorem exec_sentAbort_of_distributed (h : (s.slot k).st = 3) (hd : (s.slot k).dist = true) :
    exec (.sentAbort k) s = .next ((s.decideAbort k 0).cmdResult k 0).done := by
  rw [exec_sentAbort_of_own hr hb hk, if_neg (by simp [h, hd]), if_pos ⟨h, hd⟩]

/-- A Sentence in any other state, or past its full stop in VAULT, is not aborted. -/
theorem exec_sentAbort_of_barred
    (h : ((s.slot k).st ≠ 1 ∧ (s.slot k).st ≠ 3) ∨
      ((s.slot k).st = 3 ∧ (s.slot k).dist = false ∧ (s.slot k).vaultDue.isSome = true)) :
    exec (.sentAbort k) s = .next (s.cmdRefuse E.SENT_ABORT_REFUSED k [k, 4]).done := by
  rw [exec_sentAbort_of_own hr hb hk]
  rcases h with ⟨h1, h3⟩ | ⟨h3, hd, hv⟩
  · rw [if_neg (by simp [h1, h3]), if_neg (by simp [h3])]
  · rw [if_neg (by simp [h3, Option.isSome_iff_ne_none.1 hv]), if_neg (by simp [hd])]

end onOwnSlot
end hostCommands

/-- Settles O22: a command by whether it names a slot and whose slot it is, then by the state of the slot. -/
theorem sentenceCommands : Obligations.SentenceCommands := by
  refine ⟨fun s k hr hb => exec_sentOpen_of_free hr hb, fun s k hr hb hk => exec_sentStage_of_sound hr hb hk,
    fun s k e hr hb hk => exec_sentStage_of_bad hr hb hk, fun s k hr hb hk h => ?_,
    fun s k hr hb hk h => exec_sentAbort_of_endable hr hb hk (.inl h),
    fun s k hr hb hk h hd hv => exec_sentAbort_of_endable hr hb hk (.inr ⟨h, hd, hv⟩),
    fun s k hr hb hk => exec_sentAbort_of_distributed hr hb hk, fun s k hr hb hk h => ?_, fun s k hr hb hk h => ?_,
    fun s op k hr hb h => exec_sentBadOp_of_unlisted hr hb (.inr h) k, fun s k hr hb hk => ?_, fun s k hr hb hk h _ => ?_,
    fun s k hr hb hk h => ?_, fun s k hr hb hk h1 h3 => exec_sentAbort_of_barred hr hb hk (.inl ⟨h1, h3⟩),
    fun s k hr hb hk h hd hv => exec_sentAbort_of_barred hr hb hk (.inr ⟨h, hd, hv⟩),
    fun s hr hb => exec_sentOpen_of_full hr hb⟩
  · rw [exec_sentPrepare_of_own hr hb hk, if_neg (Decidable.not_not.2 h)]
  · rw [exec_sentRelease_of_own hr hb hk, if_pos h]
  · rw [exec_sentClear_of_own hr hb hk, if_pos h]
  · exact ⟨(exec_sentStage k s).trans (finish_sentCmd_foreign hr hb hk _ _),
      (exec_sentPrepare k s).trans (finish_sentCmd_foreign hr hb hk _ _),
      (exec_sentAbort k s).trans (finish_sentCmd_foreign hr hb hk _ _),
      (exec_sentRelease k s).trans (finish_sentCmd_foreign hr hb hk _ _),
      (exec_sentClear k s).trans (finish_sentCmd_foreign hr hb hk _ _)⟩
  · refine ⟨exec_sentStage_of_not_open hr hb hk h, ?_, ?_⟩
    · rw [exec_sentPrepare_of_own hr hb hk, if_pos h]
    · rw [exec_sentClear_of_own hr hb hk, if_neg h]
  · rw [exec_sentRelease_of_own hr hb hk, if_neg (Nat.not_le.2 h)]

end Sys2Proof.Machine
end

/-! PROOFS. Validation, the full stop and the take instant of a Sentence (R86, R88 to R90, R95, R98, R100, R113). That Sentences
stop together where MODE 2 names the full stop is log entry 117; that one left HALF for a missing decision has reason 0 is log entry
38 (the model's choices). -/
section
namespace Sys2Proof.Machine

/-! ### Validation of a local Sentence (R86) -/

theorem exec_validationDone_of_validating {s : State} {k : Fin 16} (h : (s.slot k).st = 2) :
    exec (.validationDone k) s = .next (s.finishValidation k).done :=
  (exec_validationDone k s).trans (finish_when_of_true (beq_iff_eq.2 h))

/-- A slot under validation, with its yields, its takes and its participants fixed. -/
def State.fixedSlot (s : State) (k : Nat) : SentSlot :=
  let x := s.slot k
  { x with
    yields := (s.slotParts x).1, takes := (s.slotParts x).2, delay := s.takeDelay x, kids := if x.dist then kidsOf x.clauses else [] }

theorem fixedSlot_of_local {s : State} {k : Nat} (hd : (s.slot k).dist = false) :
    let x := s.slot k
    s.fixedSlot k = { x with yields := (s.slotParts x).1, takes := (s.slotParts x).2, delay := s.takeDelay x, kids := [] } := by
  simp [State.fixedSlot, hd]

theorem finishValidation_of_failed {s : State} {k : Nat} {e : Nat × SentErr}
    (h : (s.setSlot k (s.fixedSlot k)).validate k = some e) :
    s.finishValidation k = (s.setSlot k (s.fixedSlot k)).abortErr k e := by
  rw [State.fixedSlot] at h ⊢
  dsimp only [State.finishValidation]
  rw [h]

theorem finishValidation_of_passed {s : State} {k : Nat} (hd : (s.slot k).dist = false)
    (h : (s.setSlot k (s.fixedSlot k)).validate k = none) :
    s.finishValidation k = ((s.setSlot k (s.fixedSlot k)).setSlot k { s.fixedSlot k with st := 3 }).refreshSent := by
  rw [State.fixedSlot] at h ⊢
  dsimp only [State.finishValidation]
  rw [h]
  exact if_neg (ne_true_of_eq_false hd)

/-! ### The full stop (R88, R89, R95, R98, R100) -/

section fullStop
variable {s : State} {k : Fin 16}

theorem exec_fullStop_of_not_due (h : s.stopDue k = false) : exec (.fullStop k) s = .next ((s.sendDue k).syncSentences).done := by
  rw [exec_fullStop, execFullStop, h, State.finish]
  rfl

/-- Outside MIRROR a slot that is due stops, or waits for the return where no Clause may be applied now. -/
theorem exec_fullStop_of_due (h : s.stopDue k = true) (hm : s.mode ≠ .mirror) :
    exec (.fullStop k) s = .next (((if s.stagesRun then s.stopAll (s.stopSet k)
      else s.modSlot k fun x => { x with vaultDue := some (x.vaultDue.getD E.PWR_VAULT_ENTER.code16) }).sendDue k).syncSentences).done := by
  rw [exec_fullStop, execFullStop, h, beq_eq_false_iff_ne.2 hm, State.finish]
  cases s.stagesRun <;> rfl

end fullStop

theorem mem_stopSet (s : State) (k j : Nat) :
    j ∈ s.stopSet k ↔ j < 16 ∧ s.stopDue j = true ∧ (j = k ∨ ((s.slot k).mode = 2 ∧ (s.slot j).mode = 2 ∧ (s.slot j).stop = (s.slot k).stop)) := by
  simp [State.stopSet, and_assoc]

/-- A slot that stops alone: its yields, then the takes' turn, or HALF when it is bound without a decision. -/
theorem stopAll_singleton (s : State) (k : Nat) :
    let t := s.applyYields k
    s.stopAll [k] = if (t.slot k).bound then t.halve k (if (t.slot k).leaseOut then E.TREE_LEASE_EXPIRED.code16 else 0) else t.afterYields k :=
  rfl

/-! ### The take instant (R89, R113) -/

theorem exec_takeInstant_of_yielded {s : State} {k : Fin 16} (h : (s.slot k).st = 5) (hs : s.stagesRun = true) (hm : s.mode ≠ .mirror) :
    exec (.takeInstant k) s = .next ((s.applyTakes k).syncSentences).done := by
  rw [exec_takeInstant, execTakeInstant, finish_when_of_true (beq_iff_eq.2 h), beq_eq_false_iff_ne.2 hm, hs]
  rfl

theorem applyTakes_of_free {s : State} {k : Nat} (h : s.leaseBars (s.slot k) = false) :
    s.applyTakes k =
      (((s.applyActs k (s.slot k).takes).setSlot k { s.slot k with takesOn := true }).endSlot k 6 0 0).refreshMode :=
  if_neg (ne_true_of_eq_false h)

theorem applyTakes_of_barred {s : State} {k : Nat} (h : s.leaseBars (s.slot k) = true) :
    s.applyTakes k = s.endSlot k 8 E.TREE_LEASE_EXPIRED.code16 0x7F :=
  if_pos h

/-- Settles O23: validation by its answer, the full stop by whether the slot is due and bound, the take instant by its lease. -/
theorem sentenceExecution : Obligations.SentenceExecution := by
  refine ⟨fun s k e => ?_, fun s k => ?_, fun s k h hs hm => ?_, fun s k => exec_fullStop_of_not_due, fun s k h hs hm => ?_,
    mem_stopSet, fun s k hn => ?_, fun s k hn hl => ?_, fun s k h hs hm hl => ?_, fun s k h hs hm hl => ?_⟩
  · intro x t h hd hv
    rw [exec_validationDone_of_validating h, finishValidation_of_failed (by rwa [fixedSlot_of_local hd]), fixedSlot_of_local hd]
  · intro x y t h hd hv
    rw [exec_validationDone_of_validating h, finishValidation_of_passed hd (by rwa [fixedSlot_of_local hd]), fixedSlot_of_local hd]
  · rw [exec_fullStop_of_due h hm, if_pos hs]
  · rw [exec_fullStop_of_due h hm, if_neg (ne_true_of_eq_false hs)]
  · exact (stopAll_singleton s k).trans (if_neg (ne_true_of_eq_false hn))
  · rw [stopAll_singleton, if_pos hn, if_neg (ne_true_of_eq_false hl)]
  · rw [exec_takeInstant_of_yielded h hs hm, applyTakes_of_free hl]
  · rw [exec_takeInstant_of_yielded h hs hm, applyTakes_of_barred hl]

end Sys2Proof.Machine
end

/-! PROOFS. A participant's part in a distributed Sentence (R91 to R93, R95). That LATE_DECISION is logged once for each SID is log
entry 38, the order and rounding of the room a participant makes log entry 41 (the model's choices). -/
section
namespace Sys2Proof.Machine

/-- A guarded effect that changes nothing, whatever the guard. -/
theorem finish_when_of_unchanged {c : Bool} {s : State} {f : State → State} (h : f s = s) : (s.when c f).finish = .next s.done := by
  cases c with
  | true => rw [finish_when_of_true rfl, h]
  | false => exact finish_when_of_false rfl

/-! ### PREPARE and its vote (R93) -/

section prepare
variable {s : State} {p : List Nat}

theorem exec_prepareRx_of_in (h : s.galeshIn = true) : exec (.prepareRx p) s = .next (s.prepareRx p).done :=
  (exec_prepareRx p s).trans (finish_when_of_true h)

theorem prepareRx_of_stranger (h : s.fromParent p = false) : s.prepareRx p = s :=
  if_pos (by rw [h, Bool.not_false])

variable (hp : s.fromParent p = true)
include hp

/-- A PREPARE heard again is answered as it was. -/
theorem prepareRx_of_known {k : Nat} (hk : s.partSlot (payloadSid p) = some k) : s.prepareRx p = s.sendVote (payloadSid p) 0 := by
  simp only [State.prepareRx, hp, hk, Bool.not_true, Bool.false_eq_true, if_false]

theorem prepareRx_of_no_sync (hn : s.partSlot (payloadSid p) = none) (hs : s.on F.TIME_SYNC_STATE_SYNC_OK = false) :
    s.prepareRx p = s.voteNo (payloadSid p) (E.SENT_NO_SYNC, [0xFF, 0x7F]) := by
  simp only [State.prepareRx, hp, hn, hs, Bool.not_true, Bool.not_false, Bool.false_eq_true, if_false, if_true]

end prepare

/-- The slot of a participation, as a PREPARE lays it out. -/
def State.preparedSlot (s : State) (p : List Nat) : SentSlot :=
  { st := 2, owner := 3, clauses := payloadClauses p, mode := 2, dist := true, autoRel := true,
    stop := ofBe (slice p 8 6) * 1000000000 + ofBe (slice p 14 4), delay := max 2 (ofBe (slice p 18 4)),
    prepNs := s.fabNs, sid := payloadSid p }

/-- The participation with its takes and its yields, those added to make room among them (R123). -/
def State.roomedSlot (s : State) (p : List Nat) (k : Nat) : SentSlot :=
  let x := s.preparedSlot p
  { x with yields := (s.slotParts x).1 ++ s.makeRoom k (s.slotParts x).1, takes := (s.slotParts x).2 }

/-- A PREPARE that no check refuses is voted YES. -/
theorem prepareRx_of_passed {s : State} {p : List Nat} {k : Nat} (hp : s.fromParent p = true)
    (hn : s.partSlot (payloadSid p) = none) (hs : s.on F.TIME_SYNC_STATE_SYNC_OK = true) (he : s.on F.SENT_CTRL_DIST_EN = true)
    (hk : s.freeSlot 4 12 = some k)
    (ht : s.fabNs + (s.get F.SENT_TIMING_GUARD_US + 100) * 1000 ≤ (s.preparedSlot p).stop)
    (hc : clauseIdx (fun c => (s.clauseBad c true).isSome) 0 (payloadClauses p) = none)
    (hv : (s.setSlot k (s.roomedSlot p k)).validate k = none) :
    s.prepareRx p = ((s.setSlot k { s.roomedSlot p k with st := 3 }).sendVote (payloadSid p) 0).refreshSent := by
  rw [State.roomedSlot, State.preparedSlot] at hv ⊢
  rw [State.preparedSlot] at ht
  dsimp only at hv ht ⊢
  simp only [State.prepareRx, hp, hn, hs, he, hk, hc, hv, Nat.not_lt.2 ht, Bool.not_true, Bool.false_eq_true, if_false]

/-! ### The decision (R95) -/

section decision
variable {s : State} {p : List Nat}

theorem exec_decideRx_of_in (h : s.galeshIn = true) : exec (.decideRx p) s = .next (s.decideRx p).done :=
  (exec_decideRx p s).trans (finish_when_of_true h)

theorem decideRx_of_stranger (h : s.fromParent p = false) : s.decideRx p = s :=
  if_pos (by rw [h, Bool.not_false])

variable {k : Nat} (hp : s.fromParent p = true) (hk : s.partSlot (payloadSid p) = some k)
include hp hk

theorem decideRx_of_prepared (hb : (s.slot k).bound = false) (h : (s.slot k).st = 3) :
    s.decideRx p = if p.getD 8 0 = 1 then (s.setSlot k { s.slot k with st := 4 }).refreshSent
      else if p.getD 8 0 = 2 then s.endSlot k 7 0 0x7F else s := by
  rw [State.decideRx]
  simp only [hp, hk, hb, h, Bool.not_true, Bool.false_eq_true, if_false, ne_eq, not_true_eq_false]

/-- A COMMIT that reaches a bound participant is late: recorded, the first time for its Sentence. -/
theorem decideRx_of_bound_commit (hb : (s.slot k).bound = true) (hd : p.getD 8 0 = 1)
    (hl : s.sent.lateSeen.contains (payloadSid p) = false) :
    s.decideRx p = (((s.modSent fun e => { e with lateSeen := payloadSid p :: e.lateSeen }).ev E.SENT_LATE_DECISION 0
      [payloadSid p, 1]).setSlot k { s.slot k with late := true }).refreshSent := by
  rw [State.decideRx]
  simp only [hp, hk, hb, hd, hl, Bool.not_true, Bool.not_false, Bool.false_eq_true, if_false, if_true, beq_self_eq_true, Bool.and_self,
    State.when_true]

end decision

/-! ### The query and the guard instant (R95) -/

theorem exec_querySend_of_undecided {s : State} {k : Fin 16} (h : (s.slot k).undecided = true) (hq : (s.slot k).queried = false) :
    exec (.querySend k) s = .next ((s.setSlot k { s.slot k with queried := true }).galeshSend 0x35 (s.get F.TREE_PARENT_ADDRESS)
      ([0x35, 1] ++ beBytes 2 s.ownAddr ++ beBytes 4 (s.slot k).sid ++ [0, 0, 0, 0])).done :=
  (exec_querySend k s).trans (finish_when_of_true (by rw [h, hq]; rfl))

theorem exec_guardInstant_of_undecided {s : State} {k : Fin 16} (h : (s.slot k).undecided = true) :
    exec (.guardInstant k) s = .next (s.setSlot k { s.slot k with bound := true }).done :=
  (exec_guardInstant k s).trans (finish_when_of_true h)

/-- Settles O24: a PREPARE and a decision by their sender and the slot they find, the query and the guard instant by their guards. -/
theorem sentenceParticipant : Obligations.SentenceParticipant := by
  refine ⟨fun s p k hg hp hk => ?_, fun s p hg hp hn hs => ?_, fun s p k hg hp hk hb h hd => ?_, fun s p k hg hp hk hb h hd => ?_,
    fun s p hp => ⟨?_, ?_⟩, fun s p hg => ?_, fun s p k hg hp hk hb hd hl => ?_, fun s k => exec_querySend_of_undecided,
    fun s k => exec_guardInstant_of_undecided, fun s p k => ?_⟩
  · rw [exec_prepareRx_of_in hg, prepareRx_of_known hp hk]
  · rw [exec_prepareRx_of_in hg, prepareRx_of_no_sync hp hn hs, State.voteNo]
  · rw [exec_decideRx_of_in hg, decideRx_of_prepared hp hk hb h, if_pos hd]
  · rw [exec_decideRx_of_in hg, decideRx_of_prepared hp hk hb h, hd, if_neg (by decide), if_pos rfl]
  · exact (exec_decideRx p s).trans (finish_when_of_unchanged (decideRx_of_stranger hp))
  · exact (exec_prepareRx p s).trans (finish_when_of_unchanged (prepareRx_of_stranger hp))
  · exact ⟨(exec_decideRx p s).trans (finish_when_of_false hg), (exec_prepareRx p s).trans (finish_when_of_false hg),
      (exec_voteRx p s).trans (finish_when_of_false hg), (exec_queryRx p s).trans (finish_when_of_false hg),
      (exec_outcomeRx p s).trans (finish_when_of_false hg)⟩
  · rw [exec_decideRx_of_in hg, decideRx_of_bound_commit hp hk hb hd hl]
  · intro x y hg hp hn hs he hk ht hc hv
    rw [exec_prepareRx_of_in hg, prepareRx_of_passed hp hn hs he hk ht hc hv]
    rfl

end Sys2Proof.Machine
end

/-! PROOFS. The coordinator's part in a distributed Sentence (R93, R94, R96). That decisions are kept for each SID is log entry 38
(the model's choice). -/
section
namespace Sys2Proof.Machine

/-! ### The votes (R94) -/

theorem exec_voteRx_of_in {s : State} {p : List Nat} (h : s.galeshIn = true) : exec (.voteRx p) s = .next (s.voteRx p).done :=
  (exec_voteRx p s).trans (finish_when_of_true h)

/-- The vote of a participant that is still to answer is heeded. -/
theorem vote_heeded {x : SentSlot} {a : Nat} (h : x.st = 3) (hm : x.kids.contains a = true) (hn : x.yes.contains a = false) :
    ¬(x.st ≠ 3 ∨ (!x.kids.contains a) = true ∨ x.yes.contains a = true) := by
  rw [h, hm, hn]
  decide

section votes
variable {s : State} {p : List Nat} {k : Nat} (hk : s.coordSlot (payloadSid p) = some k) (h : (s.slot k).st = 3)
  (hm : (s.slot k).kids.contains (payloadSender p) = true) (hn : (s.slot k).yes.contains (payloadSender p) = false)
include hk h hm hn

/-- A participant's first YES is counted; the last one wanted commits. -/
theorem voteRx_of_yes (hd : p.getD 8 0 = 0) :
    let t := s.setSlot k { s.slot k with yes := (s.slot k).yes ++ [payloadSender p] }
    s.voteRx p = if (s.slot k).yes.length + 1 = (s.slot k).kids.length then t.decideCommit k else t.refreshSent := by
  rw [State.voteRx, hk]
  dsimp only
  rw [if_neg (vote_heeded h hm hn), if_pos hd, List.length_append, List.length_singleton]

/-- A NO aborts with its reason; one for want of capacity is logged besides (R123). -/
theorem voteRx_of_no (hd : p.getD 8 0 ≠ 0) :
    let x := s.slot k
    let t := s.setSlot k { x with noCnt := x.noCnt + 1, noFacet := payloadSender p, noReason := ofBe (slice p 10 2) }
    s.voteRx p = (t.when (ofBe (slice p 10 2) == E.SENT_CAPACITY.code16) fun s =>
      s.ev E.ALLOC_SHED_SHORT 0 [payloadSender p, x.sid]).decideAbort k (ofBe (slice p 10 2)) := by
  rw [State.voteRx, hk]
  dsimp only
  rw [if_neg (vote_heeded h hm hn), if_neg hd]

end votes

theorem exec_voteDeadline_of_voting {s : State} {k : Fin 16} (ho : (s.slot k).owner ≠ 3) (hd : (s.slot k).dist = true)
    (h : (s.slot k).st = 3) :
    let x := s.slot k
    exec (.voteDeadline k) s = .next
      ((s.err E.SENT_VOTES_MISSING 0 [x.sid, x.kids.length - x.yes.length - x.noCnt]).decideAbort k E.SENT_VOTES_MISSING.code16).done :=
  (exec_voteDeadline k s).trans (finish_when_of_true (by simp [ho, hd, h]))

/-! ### The decision, repeated and asked for (R94) -/

theorem exec_decideRepeat_of_due {s : State} {sid : Word} (hd : (s.coord sid.toNat).decision ≠ 0) (hc : (s.coord sid.toNat).copies < 3) :
    let c := s.coord sid.toNat
    exec (.decideRepeat sid) s = .next ((s.setCoord sid.toNat { c with copies := c.copies + 1 }).galeshCast 0x33
      (s.decidePayload sid.toNat c.decision c.copies)).done :=
  (exec_decideRepeat sid s).trans (finish_when_of_true (by simp [hd, hc]))

theorem exec_queryRx_of_decided {s : State} {p : List Nat} (hg : s.galeshIn = true) (hd : (s.coord (payloadSid p)).decision ≠ 0) :
    exec (.queryRx p) s = .next
      (s.galeshSend 0x33 (payloadSender p) (s.decidePayload (payloadSid p) (s.coord (payloadSid p)).decision 0)).done := by
  rw [exec_queryRx, execQueryRx, finish_when_of_true hg, State.queryRx, bne_iff_ne.2 hd, State.when_true]

/-! ### The outcomes (R96) -/

/-- An OUTCOME in its count (V_OUTCOME): DONE, HALF, and ABORTED for any other value. -/
def SentSlot.countOutcome (x : SentSlot) : Nat → SentSlot
  | 1 => { x with outDone := x.outDone + 1 }
  | 2 => { x with outHalf := x.outHalf + 1 }
  | _ => { x with outAborted := x.outAborted + 1 }

theorem countOutcome_of_other (x : SentSlot) {r : Nat} (h1 : r ≠ 1) (h2 : r ≠ 2) :
    x.countOutcome r = { x with outAborted := x.outAborted + 1 } := by
  unfold SentSlot.countOutcome
  split
  case h_1 => exact absurd rfl h1
  case h_2 => exact absurd rfl h2
  case h_3 => rfl

/-- The state after an OUTCOME is heard: HALF of a child is logged. -/
def State.outcomeHeard (s : State) (p : List Nat) : State :=
  s.when (p.getD 8 0 == 2 && (s.childOf (payloadSender p)).isSome) fun s =>
    s.ev E.SENT_HALF_REPORTED 0 [payloadSid p, payloadSender p, ofBe (slice p 10 2)]

theorem outcomeHeard_of_half {s : State} {p : List Nat} (h : p.getD 8 0 = 2) :
    s.outcomeHeard p = s.when (s.childOf (payloadSender p)).isSome fun s =>
      s.ev E.SENT_HALF_REPORTED 0 [payloadSid p, payloadSender p, ofBe (slice p 10 2)] := by
  rw [State.outcomeHeard, h]
  rfl

theorem outcomeHeard_of_other {s : State} {p : List Nat} (h : p.getD 8 0 ≠ 2) : s.outcomeHeard p = s := by
  rw [State.outcomeHeard, beq_eq_false_iff_ne.2 h, Bool.false_and, State.when_false]

/-- An OUTCOME that is waited for is counted in the slot of its Sentence. -/
theorem exec_outcomeRx_of_awaited {s : State} {p : List Nat} {k : Nat} (hg : s.galeshIn = true)
    (hw : (s.coord (payloadSid p)).waiting.contains (payloadSender p) = true) :
    let c := s.coord (payloadSid p)
    let t := (s.outcomeHeard p).setCoord (payloadSid p) { c with waiting := c.waiting.filter fun a => a != payloadSender p }
    t.coordSlot (payloadSid p) = some k →
    exec (.outcomeRx p) s = .next ((t.modSlot k fun x => x.countOutcome (p.getD 8 0)).refreshSent).done := by
  intro c t hk
  dsimp only [t, c, State.outcomeHeard] at hk
  rw [exec_outcomeRx, execOutcomeRx, finish_when_of_true hg, State.outcomeRx]
  dsimp only
  rw [hw, Bool.not_true, if_neg Bool.false_ne_true, hk]
  rfl

theorem exec_outcomeMissing_of_awaited {s : State} {sid : Word} {child k : Nat}
    (hw : (s.coord sid.toNat).waiting.contains child = true) (hd : (s.coord sid.toNat).decision ≠ 0) :
    let t := s.ev E.SENT_OUTCOME_MISSING 0 [sid.toNat, child]
    t.coordSlot sid.toNat = some k →
    exec (.outcomeMissing sid child) s = .next ((t.modSlot k fun x => { x with outMissing := x.outMissing + 1 }).refreshSent).done := by
  intro t hk
  rw [exec_outcomeMissing, execOutcomeMissing, finish_when_of_true (by rw [hw, bne_iff_ne.2 hd]; rfl)]
  dsimp only
  rw [hk]

/-- Settles O25: the votes by `voteRx`'s two answers, the outcomes by the value they carry. -/
theorem sentenceCoordinator : Obligations.SentenceCoordinator := by
  refine ⟨fun s p k => ?_, fun s p k => ?_, fun s p k => ?_, fun s k => exec_voteDeadline_of_voting,
    fun s sid => exec_decideRepeat_of_due, fun s p => exec_queryRx_of_decided, fun s p k => ?_, fun s p k => ?_, fun s p k => ?_,
    fun s sid child k hw hd => exec_outcomeMissing_of_awaited hw hd⟩
  · intro x hg hk h hm hn hd hl
    rw [exec_voteRx_of_in hg, voteRx_of_yes hk h hm hn hd, if_pos hl]
  · intro x hg hk h hm hn hd hl
    rw [exec_voteRx_of_in hg, voteRx_of_yes hk h hm hn hd, if_neg hl]
  · intro x hg hk h hm hn hd
    rw [exec_voteRx_of_in hg, voteRx_of_no hk h hm hn (by rw [hd]; decide)]
  · intro c t hg hd hw hk
    have hs : s.outcomeHeard p = s := outcomeHeard_of_other (by rw [hd]; decide)
    rw [exec_outcomeRx_of_awaited hg hw (by rwa [hs]), hs, hd]
    rfl
  · intro u c t hg hd hw hk
    have hs : s.outcomeHeard p = u := outcomeHeard_of_half hd
    rw [exec_outcomeRx_of_awaited hg hw (by rwa [hs]), hs, hd]
    rfl
  · intro c t hg h1 h2 hw hk
    have hs : s.outcomeHeard p = s := outcomeHeard_of_other h2
    rw [exec_outcomeRx_of_awaited hg hw (by rwa [hs]), hs]
    simp only [countOutcome_of_other _ h1 h2]
    rfl

end Sys2Proof.Machine
end

/-! PROOFS. The fabric ports: Galesh frames and other frames, the route table, the links (R40, R96, R102, R104 to R107). How frames
that are not for the device are routed is log entry 93 (the model's choice). -/
section
namespace Sys2Proof.Machine

/-! ### Galesh frames received (R104) -/

section frames
variable {s : State} {port : Fin 2} {frame : List Nat}

theorem exec_galeshFrameRx_of_up (he : s.get F.FAB_ETYPE_ETYPE ≠ 0) (hp : s.fabEnabled port = true) (hl : s.fabLink port = true) :
    exec (.galeshFrameRx port frame) s = .next (s.galeshRx port frame).done :=
  (exec_galeshFrameRx port frame s).trans (finish_when_of_true (by rw [bne_iff_ne.2 he, hp, hl]; rfl))

theorem galeshRx_of_broken (h : frame.length < 12) :
    s.galeshRx port frame = (s.inc F.FAB_DROP_FORMAT_COUNT).ev E.FAB_BAD_FRAME 0 [port, frame.getD 1 0] :=
  if_pos (.inl h)

/-- A whole frame of this version for one controller, from an address that is not one of the own: it is consumed where its address
is hosted, and forwarded elsewhere while hops are left. -/
theorem galeshRx_of_unicast (hw : 12 + ofBe (slice frame 8 2) ≤ frame.length) (hv : frame.getD 0 0 = 1)
    (hb : (frame.getD 2 0).testBit 0 = false) (hc : (s.internalPort && s.hostsAddr (ofBe (slice frame 6 2))) = false) :
    s.galeshRx port frame =
      if s.internalPort && s.hostsAddr (ofBe (slice frame 4 2)) then s.galeshConsume port frame
      else if frame.getD 3 0 ≤ 1 then
        (s.inc F.FAB_DROP_HOP_COUNT).ev E.FAB_HOP_LIMIT 0 [ofBe (slice frame 4 2), ofBe (slice frame 6 2)]
      else s.forwardFrame port (lowerHops frame) := by
  have hs : ¬(frame.length < 12 ∨ frame.getD 0 0 ≠ 1 ∨ frame.length < 12 + ofBe (slice frame 8 2)) := by omega
  rw [State.galeshRx, if_neg hs]
  simp only [hc, hb, State.when_false, Bool.not_false, State.when_true, Bool.false_eq_true, if_false]

/-- A frame for another controller is not consumed. -/
theorem galeshRx_of_foreign (hw : 12 + ofBe (slice frame 8 2) ≤ frame.length) (hv : frame.getD 0 0 = 1)
    (hb : (frame.getD 2 0).testBit 0 = false) (hc : (s.internalPort && s.hostsAddr (ofBe (slice frame 6 2))) = false)
    (hd : s.hostsAddr (ofBe (slice frame 4 2)) = false) :
    s.galeshRx port frame =
      if frame.getD 3 0 ≤ 1 then
        (s.inc F.FAB_DROP_HOP_COUNT).ev E.FAB_HOP_LIMIT 0 [ofBe (slice frame 4 2), ofBe (slice frame 6 2)]
      else s.forwardFrame port (lowerHops frame) := by
  rw [galeshRx_of_unicast hw hv hb hc, hd, Bool.and_false, if_neg Bool.false_ne_true]

end frames

/-! ### The links of the ports (R40, R96) -/

/-- A port's link as FAB.PORT_STAT shows it once it is up, with its event. -/
def State.linkShown (s : State) (port speed : Nat) (an : Bool) : State :=
  (if port = 0 then ((s.setB F.FAB_PORT_STAT_P0_LINK true).set F.FAB_PORT_STAT_P0_SPEED speed).setB F.FAB_PORT_STAT_P0_AN_DONE an
    else ((s.setB F.FAB_PORT_STAT_P1_LINK true).set F.FAB_PORT_STAT_P1_SPEED speed).setB F.FAB_PORT_STAT_P1_AN_DONE an).ev
    E.FAB_LINK_UP 0 [port, speed]

/-- The HALF outcomes reported before, reported once more; those still on their way are left out (R96). -/
def State.halvesAgain (s : State) : State :=
  s.each (s.sent.halves.filter fun x => !s.sent.outDue.any fun o => o.2.1 == x.1) fun x s => s.sendEnd x.1 2 x.2.code

section links
variable {s : State} {port : Fin 2} {speed : Nat} {an : Bool}

theorem exec_fabLinkUp_of_down (ho : s.hostOpen = true) (hp : s.fabEnabled port = true) (hl : s.fabLink port = false) :
    let u := s.linkShown port speed an
    exec (.fabLinkUp port speed an) s =
      .next (u.when (u.get F.TREE_PARENT_PORT == port.val || u.get F.TREE_PARENT_PORT == 3) State.halvesAgain).done :=
  (exec_fabLinkUp port speed an s).trans (finish_when_of_true (by rw [ho, hp, hl]; rfl))

/-- The link of a port that is not the parent's comes up. -/
theorem exec_fabLinkUp_of_other (ho : s.hostOpen = true) (hp : s.fabEnabled port = true) (hl : s.fabLink port = false)
    (h : (s.linkShown port speed an).get F.TREE_PARENT_PORT ≠ port.val) (h3 : (s.linkShown port speed an).get F.TREE_PARENT_PORT ≠ 3) :
    exec (.fabLinkUp port speed an) s = .next (s.linkShown port speed an).done := by
  rw [exec_fabLinkUp_of_down ho hp hl, beq_eq_false_iff_ne.2 h, beq_eq_false_iff_ne.2 h3, Bool.or_false, State.when_false]

/-- The parent's link returns, or one that may be the parent's. -/
theorem exec_fabLinkUp_of_parent (ho : s.hostOpen = true) (hp : s.fabEnabled port = true) (hl : s.fabLink port = false)
    (h : (s.linkShown port speed an).get F.TREE_PARENT_PORT = port.val ∨ (s.linkShown port speed an).get F.TREE_PARENT_PORT = 3) :
    exec (.fabLinkUp port speed an) s = .next (s.linkShown port speed an).halvesAgain.done := by
  have hc : (_ || _) = true := (Bool.or_eq_true _ _).mpr (h.imp beq_iff_eq.2 beq_iff_eq.2)
  rw [exec_fabLinkUp_of_down ho hp hl, hc, State.when_true]

theorem exec_fabLinkUp_of_closed (ho : s.hostOpen = false) : exec (.fabLinkUp port speed an) s = .next s.done :=
  (exec_fabLinkUp port speed an s).trans (finish_when_of_false (by rw [ho]; rfl))

end links

/-! ### Other frames and the route table (R105, R106) -/

theorem exec_nonGaleshFrameRx_of_passing {s : State} {port : Fin 2} {bytes : List Nat} (hc : s.on F.FAB_ROUTE_CFG_PASS_OTHER = true)
    (hp : s.fabEnabled (1 - port) = true) (hl : s.fabLink (1 - port) = true) :
    exec (.nonGaleshFrameRx port bytes) s = .next (s.emit (.fabric (1 - port) bytes)).done :=
  (exec_nonGaleshFrameRx port bytes s).trans (finish_when_of_true (by rw [hc, hp, hl]; rfl))

theorem exec_nonGaleshFrameRx_of_barred {s : State} {port : Fin 2} {bytes : List Nat} (hc : s.on F.FAB_ROUTE_CFG_PASS_OTHER = false) :
    exec (.nonGaleshFrameRx port bytes) s = .next s.done :=
  (exec_nonGaleshFrameRx port bytes s).trans (finish_when_of_false (by rw [hc]; rfl))

theorem exec_routeEntryWrite_of_reach {s : State} {i : Nat} {high : Bool} (h : s.tableReach 11 (8 * i + if high then 4 else 0) = true)
    (v : Word) : exec (.routeEntryWrite i high v) s = .next (s.routeWrite i high v.toNat).done :=
  (exec_routeEntryWrite i high v s).trans (finish_tableWrites_of_reach h _)

/-- Settles O26: a whole unicast frame by its destination and its hops, a link by whether its port is the parent's, the rest by the
guard of its command. -/
theorem fabricFrames : Obligations.FabricFrames := by
  refine ⟨fun s port frame he hp hl h => ?_, fun s port frame => ?_, fun s port frame => ?_,
    fun s port frame he hp hl hw hv hb hi hc hd => ?_, fun s port bytes => exec_nonGaleshFrameRx_of_passing,
    fun s port bytes => exec_nonGaleshFrameRx_of_barred, fun s i v h => exec_routeEntryWrite_of_reach (high := false) h v,
    fun s i v h => exec_routeEntryWrite_of_reach (high := true) h v, fun s speed an ho hp hl => ?_, fun s speed an ho hp hl => ?_,
    fun s speed an ho hp hl => exec_fabLinkUp_of_parent (port := 0) ho hp hl, fun s port speed an => exec_fabLinkUp_of_closed,
    fun s h => (exec_fabLinkDown 1 s).trans (finish_when_of_true h), fun s h => (exec_fabLinkDown 0 s).trans (finish_when_of_true h)⟩
  · rw [exec_galeshFrameRx_of_up he hp hl, galeshRx_of_broken h]
  · intro conflict he hp hl hw hv hb hc hd hh
    rw [exec_galeshFrameRx_of_up he hp hl, galeshRx_of_foreign hw hv hb hc hd, if_neg (Nat.not_le.2 hh)]
  · intro conflict he hp hl hw hv hb hc hd hh
    rw [exec_galeshFrameRx_of_up he hp hl, galeshRx_of_foreign hw hv hb hc hd, if_pos hh]
  · rw [exec_galeshFrameRx_of_up he hp hl, galeshRx_of_unicast hw hv hb (by rw [hc, Bool.and_false]), hi, hd, Bool.and_self, if_pos rfl]
  · intro t u h
    exact exec_fabLinkUp_of_other (port := 0) ho hp hl (fun e => absurd (h.symm.trans e) (by decide))
      fun e => absurd (h.symm.trans e) (by decide)
  · intro t u h
    exact exec_fabLinkUp_of_other (port := 1) ho hp hl (fun e => absurd (h.symm.trans e) (by decide))
      fun e => absurd (h.symm.trans e) (by decide)

end Sys2Proof.Machine
end

/-! PROOFS. Leases taken and leases given (R111, R113 to R117, R129). That a LEASE counts as the parent's only when frame and payload
both name it, and that the Sentence of a lease ramp names every target, are log entry 117 (the model's choices). -/
section
namespace Sys2Proof.Machine

/-! ### A LEASE received (R111, R115, R117) -/

section lease
variable {s : State} {port : Fin 2} {src : Nat} {p : List Nat}

theorem exec_leaseRx_of_up (hi : s.internalPort = true) (hl : s.fabLink port = true) :
    exec (.leaseRx port ⟨src, p⟩) s = .next (s.leaseRx port src p).done :=
  (exec_leaseRx port ⟨src, p⟩ s).trans (finish_when_of_true (by rw [hi, hl]; rfl))

theorem exec_leaseRx_of_down (hl : s.fabLink port = false) : exec (.leaseRx port ⟨src, p⟩) s = .next s.done :=
  (exec_leaseRx port ⟨src, p⟩ s).trans (finish_when_of_false (by rw [hl, Bool.and_false]))

theorem leaseRx_of_stranger (h : s.on F.TREE_SELF_ROOT = true ∨ src ≠ s.get F.TREE_PARENT_ADDRESS ∨
    payloadSender p ≠ s.get F.TREE_PARENT_ADDRESS) : s.leaseRx port src p = s.ev E.TREE_NOT_PARENT_FRAME 0 [src] :=
  if_pos h

theorem leaseRx_of_parent (hr : s.on F.TREE_SELF_ROOT = false) (hs : src = s.get F.TREE_PARENT_ADDRESS)
    (hp : payloadSender p = s.get F.TREE_PARENT_ADDRESS) :
    let remain := ofBe (slice p 8 4)
    let lease := ofBe (slice p 26 2)
    let tight := decide (remain < lease * 500)
    let t := s.modTree fun t => { t with
      expiry := some (s.ticks + remain * 999 * ticksUs / 1000), rampMs := ofBe (slice p 24 2), leaseMs := lease, ramp := [], rampStep := 0 }
    s.leaseRx port src p =
      ((((((t.set F.TREE_TARGET_W (ofBe (slice p 20 4))).set F.TREE_DEPTH_DEPTH (p.getD 28 0)).set F.TREE_PARENT_PORT port).set
        F.TREE_LEASE_STAT_STATE 1).setB F.TREE_LEASE_STAT_TIGHT tight).when tight fun s =>
          s.ev E.TREE_LEASE_TIGHT 0 [remain, p.getD 28 0]).refreshLease :=
  if_neg (by simp [hr, hs, hp])

end lease

/-! ### The expiry and its ramp (R113, R114) -/

/-- The state at the next millisecond of the ramp. -/
def State.rampStepped (s : State) : State := s.modTree fun t => { t with rampStep := s.tree.rampStep + 1 }

/-- The value of every target's line after `k` of `n` milliseconds. -/
def State.rampWant (s : State) (k n : Nat) : List (Nat × Nat) := s.tree.ramp.map fun x => (x.1, rampLine x.2.1 x.2.2 k n)

/-- The yields of millisecond `k`: the targets above their line that no pending Sentence holds. -/
def State.rampClauses (s : State) (k n : Nat) : List Clause :=
  ((s.rampWant k n).filter fun x => decide (x.2 < s.aptCeil x.1) && !s.aptHeld 16 x.1).map fun x => aptClause x.1 (s.aptFloor x.1) x.2

/-- What millisecond `k` of the ramp does to the ceilings, and to the lease once every line is met. -/
def State.rampLower (s : State) (k n : Nat) : State :=
  let t := s.when (!(s.rampClauses k n).isEmpty) fun t => (t.commitNow (s.rampClauses k n)).1
  t.when (decide (n ≤ k) && ((s.rampWant k n).all fun x => decide (t.aptCeil x.1 ≤ x.2))) fun t => t.set F.TREE_LEASE_STAT_STATE 3

/-- A step before the last lowers the ceilings above their lines, and the ramp goes on. -/
theorem rampLower_of_above {s : State} {k n : Nat} (hc : (s.rampClauses k n).isEmpty = false) (hk : k < n) :
    s.rampLower k n = (s.commitNow (s.rampClauses k n)).1 := by
  rw [State.rampLower, hc, decide_eq_false (Nat.not_le.2 hk), Bool.false_and, State.when_false, Bool.not_false, State.when_true]

section ramp
variable {s : State} (hm : s.mode ≠ .mirror)
include hm

/-- Outside MIRROR the state of the own lease alone tells whether a step of it is due. -/
theorem leaseStep_due {k : Nat} (h : s.get F.TREE_LEASE_STAT_STATE = k) :
    (s.get F.TREE_LEASE_STAT_STATE == k && s.mode != .mirror) = true := by
  rw [beq_iff_eq.2 h, bne_iff_ne.2 hm, Bool.and_self]

theorem exec_leaseRampStep_of_expired (h : s.get F.TREE_LEASE_STAT_STATE = 2) :
    exec .leaseRampStep s = .next
      (s.rampStepped.when s.rampStepped.stagesRun fun t => t.rampLower (s.tree.rampStep + 1) s.tree.rampMs).done :=
  (exec_leaseRampStep s).trans (finish_when_of_true (leaseStep_due hm h))

end ramp

/-! ### Children (R116, R129) -/

theorem demandRx_of_stranger {s : State} {src : Nat} (h : s.childOf src = none) (p : List Nat) : s.demandRx src p = s := by
  rw [State.demandRx, h]

theorem demandRx_of_child {s : State} {src e : Nat} (h : s.childOf src = some e) (p : List Nat) :
    let c := s.child e
    let t := s.setChild e { c with
      heard := true, demand := (List.range 8).map fun k => ofBe (slice p (8 + 4 * k) 4), cap := ofBe (slice p 40 4),
      shed := ofBe (slice p 44 4), ownCeil := ofBe (slice p 48 4), ownFloor := toSigned 32 (ofBe (slice p 52 4)),
      measured := toSigned 32 (ofBe (slice p 56 4)), owed := c.owed || s.fState e != 1, entryCeil := s.fCeil e,
      backTick := if s.fState e = 1 then c.backTick else some s.ticks }
    s.demandRx src p = (t.setFState e 1 0).ev E.TREE_CHILD_ACTIVE 0 [src] := by
  rw [State.demandRx, h]

section children
variable {s : State} {e : Fin 256} (hk : s.fKind e = 1) (hm : s.mode ≠ .mirror)
include hk hm

theorem exec_childExpiry_of_leased (h : s.fState e = 1 ∨ s.fState e = 2) :
    exec (.childExpiry e) s = .next (s.setFState e 3 (s.fEpochs e)).done :=
  (exec_childExpiry e s).trans (finish_when_of_true (by simp [hk, hm, h]))

/-- A child above its reserved floor is lowered to it; only one that has come back at this tick keeps its state. -/
theorem exec_childReclaim_of_above (h : s.fState e = 1 ∨ s.fState e = 2 ∨ s.fState e = 3) (hr : s.aptRes e < s.fCeil e) :
    let t := (if s.childBack e then s else s.setFState e 4 (s.fEpochs e)).ev E.TREE_CHILD_RECLAIMED 0 [s.fAddr e, s.fCeil e - s.aptRes e]
    exec (.childReclaim e) s = .next (t.commitNow [aptClause e (t.fFloor e) (s.aptRes e)]).1.done := by
  rw [exec_childReclaim, execChildReclaim, finish_when_of_true (by simp [hk, hm, h, or_assoc])]
  dsimp only
  rw [decide_eq_true hr, State.when_true]

end children

/-- Settles O27: a LEASE by its sender, the expiry and its ramp by the lease's state, a child by its state and whether it is back. -/
theorem leases : Obligations.Leases := by
  refine ⟨fun s port src p => ?_, fun s port src p hi hl h => ?_, fun s port src p => exec_leaseRx_of_down, fun s h hm => ?_,
    fun s => ?_, fun s => ?_, fun s src p e => ?_,
    fun s src p h => ?_, fun s e hk h hm => exec_childExpiry_of_leased hk hm h, fun s e => ?_, fun s e => ?_⟩
  · intro remain lease tight t hi hl hr hs hp
    rw [exec_leaseRx_of_up hi hl, leaseRx_of_parent hr hs hp]
  · rw [exec_leaseRx_of_up hi hl, leaseRx_of_stranger h]
  · exact (exec_leaseExpiry s).trans (finish_when_of_true (leaseStep_due hm h))
  · intro t h hm hs
    rw [exec_leaseRampStep_of_expired hm h, State.rampStepped, hs, State.when_false]
  · intro t want cs h hm hs hc hk
    rw [exec_leaseRampStep_of_expired hm h, State.rampStepped, hs, State.when_true, rampLower_of_above hc hk]
    rfl
  · intro c t hg h
    rw [exec_demandRx, execDemandRx, finish_when_of_true hg, demandRx_of_child h]
  · exact (exec_demandRx ⟨src, p⟩ s).trans (finish_when_of_unchanged (demandRx_of_stranger h p))
  · intro t hk h hb hm hr
    rw [exec_childReclaim_of_above hk hm h hr, hb, if_neg Bool.false_ne_true]
  · intro t hk h hb hm hr
    rw [exec_childReclaim_of_above hk hm (.inl h) hr, hb, if_pos rfl]

end Sys2Proof.Machine
end

/-! PROOFS. The epoch boundary, EPOCH_CFG and the capacity yield (R112, R118, R119, R127, R130). -/
section
namespace Sys2Proof.Machine

/-! ### EPOCH_CFG (R118) -/

theorem exec_epochCfgWrite_of_reaches {s : State} (h : s.reaches 0x08 0x040 = true) (v : Word) :
    exec (.epochCfgWrite v) s = .next (s.epochCfgWrite v.toNat).done :=
  (exec_epochCfgWrite v s).trans (finish_hostWrites_of_reaches h _)

theorem epochCfgWrite_of_lawful {s : State} {v : Nat} (hlo : 10 ≤ bits v 31 16) (hhi : bits v 31 16 ≤ 1000) (hd : 1000 % bits v 31 16 = 0)
    (ho : bits v 15 0 < bits v 31 16) (hl : s.get F.SENT_DIST_LEAD_LEAD_US + 1000 ≤ bits v 15 0 * 1000) :
    s.epochCfgWrite v = (s.set F.ALLOC_EPOCH_CFG_EPOCH_MS (bits v 31 16)).set F.ALLOC_EPOCH_CFG_STOP_OFFSET_MS (bits v 15 0) :=
  if_neg (by omega)

theorem epochCfgWrite_of_unlawful {s : State} {v : Nat} (h : bits v 31 16 < 10 ∨ 1000 < bits v 31 16 ∨ 1000 % bits v 31 16 ≠ 0 ∨
    bits v 31 16 ≤ bits v 15 0 ∨ bits v 15 0 * 1000 < s.get F.SENT_DIST_LEAD_LEAD_US + 1000) :
    s.epochCfgWrite v = s.err E.ALLOC_BAD_EPOCH 0 [v] :=
  if_pos h

/-! ### The boundary (R112, R118) -/

/-- The end of a boundary: the sums of the epoch that begins are empty. -/
def State.epochBegun (s : State) : State := (s.modTree fun t => { t with epochTick := s.ticks, pSum := [], pCnt := 0 }).refreshSent

/-- A boundary while the tree runs: the count and the frozen inputs, DEMAND from every controller but the root, the leases, the
allocation where it is enabled. -/
theorem exec_epochBoundary_of_runs {s : State} (h : s.treeRuns = true) :
    let t := (s.inc F.ALLOC_EPOCH_COUNT_COUNT).freezeInputs
    let u := (t.when (!t.on F.TREE_SELF_ROOT) State.sendDemand).keepUp.sendLeases
    exec .epochBoundary s = .next (u.when (u.on F.ALLOC_CFG_ENABLE) fun s => s.reconcile.allocate).epochBegun.done :=
  (exec_epochBoundary s).trans (finish_when_of_true h)

/-! ### The capacity yield (R127, R130) -/

theorem exec_capacityYield_of_waiting {s : State} {n : Fin 4} (hd : s.tree.capDue.contains n.val = true)
    (hh : s.aptHeld 16 (0x1000 + n) = true) : exec (.capacityYield n) s = .next s.done :=
  (exec_capacityYield n s).trans (finish_when_of_false (by rw [hd, hh]; rfl))

theorem exec_capacityYield_of_free {s : State} {n : Fin 4} (hh : s.aptHeld 16 (0x1000 + n) = false) :
    exec (.capacityYield n) s = .next (s.capacityYield n).done :=
  (exec_capacityYield n s).trans (finish_when_of_true (by rw [hh, Bool.and_false, Bool.not_false]))

/-- Which Sentences hold a target does not depend on the tree's own state. -/
theorem aptHeld_modTree (s : State) (f : TreeState → TreeState) (k t : Nat) : (s.modTree f).aptHeld k t = s.aptHeld k t := rfl

/-- The ceiling of an outlet whose target is free falls to what the outlet can carry, or to its reserved floor. -/
theorem capacityYield_of_free {s : State} {n : Nat} (hr : s.treeRuns = true) (ho : s.hasOutlet n = true)
    (hh : s.aptHeld 16 (0x1000 + n) = false) :
    let t := 0x1000 + n
    let c := max (s.outletCap n) (s.aptRes t)
    let u := s.modTree fun x => { x with capDue := x.capDue.filter fun k => k != n }
    let r := u.commitNow [aptClause t (u.aptFloor t) c]
    u.on F.ALLOC_CFG_ENABLE = true → c < u.aptCeil t →
    s.capacityYield n = r.1.when r.2 fun s => s.ev E.ALLOC_CAPACITY_YIELD 0 [n, c] := by
  intro t c u r he hc
  rw [State.capacityYield, hr, ho, Bool.and_self, State.when_true]
  change (u.when (u.on F.ALLOC_CFG_ENABLE && decide (c < u.aptCeil t)) fun _ => _) = _
  rw [he, decide_eq_true hc, Bool.and_self, State.when_true, aptHeld_modTree, hh]
  rfl

/-- Settles O28: EPOCH_CFG by whether its value is lawful, the boundary by the root and the allocator's enable, the yield by whether
its target is held. -/
theorem epochs : Obligations.Epochs := by
  refine ⟨fun s v => ?_, fun s v => ?_, fun s => ?_, fun s => ?_, fun s n => ?_,
    fun s n => exec_capacityYield_of_waiting⟩
  · intro e o hr hlo hhi hd ho hl
    rw [exec_epochCfgWrite_of_reaches hr, epochCfgWrite_of_lawful hlo hhi hd ho hl]
  · intro e o hr h
    rw [exec_epochCfgWrite_of_reaches hr, epochCfgWrite_of_unlawful h]
  · intro t u h hr he
    rw [exec_epochBoundary_of_runs h, hr, Bool.not_true, State.when_false, he, State.when_false, State.epochBegun]
  · intro t u w h hr he
    rw [exec_epochBoundary_of_runs h, hr, Bool.not_false, State.when_true, he, State.when_true, State.epochBegun]
  · intro t c u hr ho he hc hh
    rw [exec_capacityYield_of_free hh, capacityYield_of_free hr ho hh he hc]

end Sys2Proof.Machine
end

/-! PROOFS. The timing registers and the pulses of the phases, overvoltage truncation and the sense check (R134 to R141, R149,
R150, R153 to R155). -/
section
namespace Sys2Proof.Machine

/-! ### The timing registers (R134, R135) -/

theorem exec_phasePeriodWrite_of_reaches {s : State} (h : s.reaches 0x1A 0x040 = true) (v : Word) :
    exec (.phasePeriodWrite v) s = .next (s.periodWrite v.toNat).done :=
  (exec_phasePeriodWrite v s).trans (finish_hostWrites_of_reaches h _)

theorem periodWrite_of_busy {s : State} {v : Nat} (h : s.anyGroupBusy = true) : s.periodWrite v = s.err E.PHASE_PERIOD_BUSY 0 [v] :=
  if_pos h

/-- With every group UNROUTED or in FAULT the timing alone decides a write to PERIOD. -/
theorem periodWrite_of_idle {s : State} {v : Nat} (h : s.anyGroupBusy = false) :
    s.periodWrite v = if timingOk (bits v 19 0) (s.get F.PHASE_DEADTIME_DT_HL) (s.get F.PHASE_DEADTIME_DT_LH)
        (s.get F.PHASE_BLANK_MAXON_BLANK) (s.get F.PHASE_BLANK_MAXON_MAX_ON)
      then (s.set F.PHASE_PERIOD_FT (bits v 19 0)).refreshOffsets else s.err E.PHASE_BAD_TIMING 0 [0x040] :=
  if_neg (Bool.eq_false_iff.1 h)

theorem exec_blankWrite_of_reaches {s : State} (h : s.reaches 0x1A 0x048 = true) (v : Word) :
    exec (.phaseTimingWrite true v) s = .next (s.timingWrite true v.toNat).done :=
  (exec_phaseTimingWrite true v s).trans (finish_hostWrites_of_reaches h _)

theorem exec_deadTimeWrite_of_reaches {s : State} (h : s.reaches 0x1A 0x044 = true) (v : Word) :
    exec (.phaseTimingWrite false v) s = .next (s.timingWrite false v.toNat).done :=
  (exec_phaseTimingWrite false v s).trans (finish_hostWrites_of_reaches h _)

/-! ### The start of a period (R133, R136, R139, R146, R150) -/

section period
variable {s : State} {p : Nat}

theorem exec_periodStart_of_present {p : Fin 72} (h : s.hasGroup (p.val / 6) = true) :
    exec (.periodStart p) s = .next (s.periodStart p).done :=
  (exec_periodStart p s).trans (finish_when_of_true h)

theorem periodStart_of_matched (h : (s.startPeriod p).matchReached (p / 6) = true) :
    s.periodStart p = (s.startPeriod p).startClosing (p / 6) ((s.startPeriod p).route (p / 6)) :=
  if_pos h

theorem periodStart_of_stopped (h : (s.startPeriod p).matchReached (p / 6) = false)
    (hs : (s.startPeriod p).phEnabled p = false ∨ (s.startPeriod p).grpSwitches (p / 6) = false) :
    s.periodStart p = (s.startPeriod p).stopPhase p :=
  (if_neg (Bool.eq_false_iff.1 h)).trans (if_pos (by simpa using hs))

theorem periodStart_of_switching (h : (s.startPeriod p).matchReached (p / 6) = false)
    (he : (s.startPeriod p).phEnabled p = true) (hs : (s.startPeriod p).grpSwitches (p / 6) = true) :
    s.periodStart p = (s.startPeriod p).switchPeriod p :=
  (if_neg (Bool.eq_false_iff.1 h)).trans (if_neg (by simp [he, hs]))

/-- The share of group `g` shown in its registers, with its sign as the direction. -/
def State.showShare (s : State) (g : Nat) : State :=
  (s.setI (F.GROUP_SHARE_MA_MA.inst g) (Int.tdiv (s.groupShareUa g) 1000)).setB (F.GROUP_STATUS_DIRECTION.inst g)
    (decide (s.groupShareUa g < 0))

theorem switchPeriod_of_truncating (ha : (s.showShare (p / 6)).on (F.PHASE_OV_STAT_ACTIVE.nth (s.grp (p / 6)).phys) = true)
    (hm : ((s.showShare (p / 6)).stage (p / 6) != .matching) = true) :
    s.switchPeriod p = ((s.showShare (p / 6)).skipPeriod p (decide (s.groupShareUa (p / 6) < 0))).modOut (s.grp (p / 6)).phys
      fun x => { x with truncSkipped := x.truncSkipped + 1 } :=
  if_pos (Bool.and_eq_true_iff.2 ⟨ha, hm⟩)

section untruncated
variable (ha : (s.showShare (p / 6)).on (F.PHASE_OV_STAT_ACTIVE.nth (s.grp (p / 6)).phys) = false)
include ha

theorem switchPeriod_of_below_skip
    (hk : (s.groupShareUa (p / 6)).natAbs <
      (s.showShare (p / 6)).get F.PHASE_CFG_SKIP_A * 1000000 * (s.enabledPhases (p / 6)).length) :
    s.switchPeriod p = (s.showShare (p / 6)).skipPeriod p (decide (s.groupShareUa (p / 6) < 0)) :=
  (if_neg fun h => Bool.false_ne_true (ha.symm.trans (Bool.and_eq_true_iff.1 h).1)).trans (if_pos hk)

/-- The reference of the first pulse of a phase has no slope to make up for; that of a later one has the slope of the on-time before. -/
theorem switchPeriod_of_reaching_skip
    (hk : (s.showShare (p / 6)).get F.PHASE_CFG_SKIP_A * 1000000 * (s.enabledPhases (p / 6)).length ≤
      (s.groupShareUa (p / 6)).natAbs) :
    s.switchPeriod p = (s.showShare (p / 6)).startPulse p (decide (s.groupShareUa (p / 6) < 0))
      ((s.showShare (p / 6)).startCode p (s.groupShareUa (p / 6)) (s.enabledPhases (p / 6)).length
        (if (s.phs p).started then (s.phs p).nPrev else 0)) :=
  (if_neg fun h => Bool.false_ne_true (ha.symm.trans (Bool.and_eq_true_iff.1 h).1)).trans (if_neg (Nat.not_lt.2 hk))

end untruncated

end period

/-! ### The end of an on-time, and a phase that is lost (R137, R153, R155) -/

theorem exec_comparatorTrip_of_pulse {s : State} {p : Fin 72} {on : Nat} (hg : s.hasGroup (p.val / 6) = true)
    (hp : (s.phs p).pulse = true) (hb : s.get F.PHASE_BLANK_MAXON_BLANK ≤ on) (hm : on < s.maxOnTicks) :
    exec (.comparatorTrip p on) s = .next ((s.endPulse p on).noteTrip p).done :=
  (exec_comparatorTrip p on s).trans (finish_when_of_true (by simp [hg, hp, hb, hm]))

theorem exec_maxOnExpiry_of_pulse {s : State} {p : Fin 72} (hg : s.hasGroup (p.val / 6) = true) (hp : (s.phs p).pulse = true) :
    exec (.maxOnExpiry p) s = .next ((s.endPulse p s.maxOnTicks).modPhs p PhaseState.reachMax).done :=
  (exec_maxOnExpiry p s).trans (finish_when_of_true (by rw [hg, hp, Bool.and_self]))

theorem exec_phaseOpenDetected_of_run {s : State} {p : Fin 72} (hg : s.hasGroup (p.val / 6) = true) (he : s.phEnabled p = true)
    (hr : 3 ≤ (s.phs p).openRun) : exec (.phaseOpenDetected p) s = .next (s.losePhase p 1).done := by
  rw [exec_phaseOpenDetected, execPhaseOpenDetected, if_neg (by simp [hg, he]), if_pos hr, State.finish]

/-! ### Overvoltage truncation (R149, R150) -/

theorem exec_ovTruncate_of_inactive {s : State} {n : Fin 4} (ho : s.hasOutlet n = true)
    (ha : s.on (F.PHASE_OV_STAT_ACTIVE.nth n) = false) : exec (.ovTruncate n) s = .next (s.ovTruncate n).done :=
  (exec_ovTruncate n s).trans (finish_when_of_true (by rw [ho, ha]; rfl))

/-! ### The block of the current-sense comparison (R154, R158) -/

section sense
variable {s : State} {n : Nat} {ic : Int}

/-- The current that the pulses of a block imply for outlet `n`, mA: the sum of the means of the phases that carry it. -/
def State.outletImplied (s : State) (n : Nat) : Int :=
  ((s.carrying n).map fun p => let v := s.phs p; if v.impliedCnt = 0 then 0 else Int.tdiv v.impliedSum v.impliedCnt).foldl (· + ·) 0

/-- A block of a flagged feedback shows the implied current and judges nothing. -/
theorem senseBlock_of_flagged (h : s.fbFlagged n = true) :
    s.senseBlock n ic = (s.setI (F.PHASE_IMPLIED_MA0_MA.nth n) (s.outletImplied n)).each (s.carrying n) fun p s => s.freshBlock p := by
  rw [State.senseBlock, h, Bool.true_or]
  rfl

/-- A block that agrees within the window ends the run and the episode of disagreement. -/
theorem senseBlock_of_agreement (hf : s.fbFlagged n = false) (hs : ((s.carrying n).any fun p => (s.phs p).spoiled) = false)
    (hw : (s.outletImplied n - ic).natAbs * 100 ≤
      s.get F.PHASE_SENSE_WIN_WIN_A * 100000 + s.get F.PHASE_SENSE_WIN_WIN_PCT * ic.natAbs) :
    s.senseBlock n ic =
      (((((s.setI (F.PHASE_IMPLIED_MA0_MA.nth n) (s.outletImplied n)).each (s.carrying n) fun p s => s.clearRun p).modOut n
        fun o => { o with senseRun := 0, senseEpisode := false }).setBit F.PHASE_SENSE_STAT_MISMATCH n false).each (s.carrying n)
        fun p s => s.freshBlock p) := by
  rw [State.outletImplied] at hw ⊢
  rw [State.senseBlock]
  simp only [hf, hs, Bool.or_self, Bool.false_eq_true, if_false, decide_eq_false (Nat.not_lt.2 hw)]

end sense

/-- Settles O29: a timing write by whether it fits, a period by what its group may do, the end of an on-time and the truncation by
their guards, a sense block by its verdict. -/
theorem phasePulses : Obligations.PhasePulses := by
  refine ⟨fun s v hr hb ht => ?_, fun s v hr hb => ?_, fun s v hr hb ht => ?_, fun s v hr ht => ?_, fun s v hr ht => ?_,
    fun s v hr ht => ?_, fun s v hr ht => ?_, fun s g => rfl, fun s p hg hm => ?_, fun s p => ?_, fun s p => ?_, fun s p => ?_,
    fun s p => ?_, fun s p on => exec_comparatorTrip_of_pulse, fun s p => exec_maxOnExpiry_of_pulse,
    fun s p => exec_phaseOpenDetected_of_run, fun s n => exec_ovTruncate_of_inactive, fun s n ho ha => ?_, fun s n ic ho hc hg => ?_,
    fun s n ic => ?_, fun s n ic => ?_⟩
  · rw [exec_phasePeriodWrite_of_reaches hr, periodWrite_of_idle hb, if_pos ht]
  · rw [exec_phasePeriodWrite_of_reaches hr, periodWrite_of_busy hb]
  · rw [exec_phasePeriodWrite_of_reaches hr, periodWrite_of_idle hb, ht, if_neg Bool.false_ne_true]
  · rw [exec_blankWrite_of_reaches hr, State.timingWrite, if_pos rfl, ht, if_neg Bool.false_ne_true]
  · rw [exec_blankWrite_of_reaches hr, State.timingWrite, if_pos rfl, ht, if_pos rfl]
  · rw [exec_deadTimeWrite_of_reaches hr, State.timingWrite, if_neg Bool.false_ne_true, ht, if_pos rfl]
  · rw [exec_deadTimeWrite_of_reaches hr, State.timingWrite, if_neg Bool.false_ne_true, ht, if_neg Bool.false_ne_true]
  · rw [exec_periodStart_of_present hg, periodStart_of_matched hm]
  · intro g t hg hm hs
    rw [exec_periodStart_of_present hg, periodStart_of_stopped hm hs]
  · intro g t ua o u hg hm he hs ha hk
    rw [exec_periodStart_of_present hg, periodStart_of_switching hm he hs, switchPeriod_of_below_skip ha hk]
    rfl
  · intro g t ua o u hg hm he hs ha hn
    rw [exec_periodStart_of_present hg, periodStart_of_switching hm he hs, switchPeriod_of_truncating ha hn]
    rfl
  · intro g t ua o u code w hg hm he hs ha hk
    rw [exec_periodStart_of_present hg, periodStart_of_switching hm he hs, switchPeriod_of_reaching_skip ha hk]
    rfl
  · exact (exec_ovRelease n s).trans (finish_when_of_true (by rw [ho, ha, Bool.and_self]))
  · exact (exec_senseBlock n ic s).trans (finish_when_of_true (by rw [ho, hc, hg]; rfl))
  · exact senseBlock_of_flagged
  · exact senseBlock_of_agreement

end Sys2Proof.Machine
end

/-! PROOFS. Groups join and leave outlets, and their faults (R144, R146 to R148, R151, R152, R159, R161). -/
section
namespace Sys2Proof.Machine

/-! ### A routing stage waited for

Every step of a join or a leave has the same guard: the group exists, stands in its stage, and stages may change. -/

/-- The guard of a routing step whose group stands in the stage it asks for. -/
theorem stage_awaited {s : State} {g : Nat} {st : Stage} (hg : s.hasGroup g = true) (hs : s.stage g = st)
    (hr : s.stagesRun = true) : (s.hasGroup g && s.stage g == st && s.stagesRun) = true := by
  rw [hg, hr, beq_iff_eq.2 hs, Bool.and_self, Bool.and_self]

section join
variable {s : State} {g : Fin 12} (hg : s.hasGroup g = true) (hr : s.stagesRun = true)
include hg hr

/-! ### Joining (R146) -/

theorem exec_matchTimeout_of_matching (hs : s.stage g = .matching) :
    exec (.matchTimeout g) s = .next (if s.matchReached g then s.startClosing g (s.route g)
      else (s.setStage g .fault).ev E.GROUP_MATCH_TIMEOUT g
        [s.route g, s.get (F.GROUP_VOUT_MV.inst g), s.get (F.OUTLET_VC_MV_MV.inst (s.route g))]).done :=
  (exec_matchTimeout g s).trans (finish_when_of_true (stage_awaited hg hs hr))

theorem exec_matrixClosed_of_closing (hs : s.stage g = .closing) (hc : s.coilOn (matrixCoil g (s.grp g).phys) = true) (ms : Nat) :
    exec (.matrixClosed g ms) s = .next (s.matrixClosed g ms).done :=
  (exec_matrixClosed g ms s).trans (finish_when_of_true (by rw [stage_awaited hg hs hr, hc, Bool.and_self]))

/-! ### Leaving (R147, R148) -/

theorem exec_leavingDone_of_within (hs : s.stage g = .leaving) (hw : s.refWithinCap (s.grp g).phys = true) :
    exec (.leavingDone g) s = .next (s.startUnloading g).done :=
  (exec_leavingDone g s).trans (finish_when_of_true (by rw [stage_awaited hg hs hr, hw, Bool.or_true, Bool.and_self]))

theorem exec_zeroConfirmed_of_unloading (hs : s.stage g = .unloading) :
    exec (.zeroConfirmed g) s = .next ((s.setCoil (matrixCoil g (s.grp g).phys) false).setStage g .opening).done := by
  rw [exec_zeroConfirmed, execZeroConfirmed, if_neg (by simp [hg, hr]), hs, State.finish]

end join

/-- The state after the contactor of group `g` has read closed. -/
def State.closeSeen (s : State) (g ms : Nat) : State :=
  let t := (s.setFb (matrixCoil g (s.grp g).phys) true).set (F.GROUP_TRAVEL_CLOSE_MS.inst g) (satTo 16 ms)
  { t with safe := { t.safe with travelled := setBitOf t.safe.travelled (matrixCoil g (s.grp g).phys) true } }

/-- A group that is to go neither to FAULT nor off its outlet is joined. -/
theorem matrixClosed_of_kept {s : State} {g ms : Nat} (hf : ((s.closeSeen g ms).grp g).faultAfter = false)
    (hl : ((s.closeSeen g ms).grp g).leaveAfterClose = false) :
    s.matrixClosed g ms =
      (((s.closeSeen g ms).setStage g .routed).ev E.GROUP_JOINED g [(s.grp g).phys]).startMains (s.grp g).phys :=
  (if_neg (Bool.eq_false_iff.1 hf)).trans (if_neg (Bool.eq_false_iff.1 hl))

/-- The state after contactor `i` of group `g` has read open. -/
def State.openSeen (s : State) (g i ms : Nat) : State :=
  let t := (s.setFb i false).set (F.GROUP_TRAVEL_OPEN_MS.inst g) (satTo 16 ms)
  { t with safe := { t.safe with weldedSince := setBitOf t.safe.weldedSince i false } }

/-- The feedbacks are register bits: the hidden state of the groups stands. -/
theorem grp_setFb (s : State) (i : Nat) (b : Bool) (g : Nat) : (s.setFb i b).grp g = s.grp g := by
  rw [State.setFb]
  split <;> rfl

theorem exec_matrixOpened_of_opening {s : State} {g : Fin 12} {ms : Nat} (hg : s.hasGroup g = true) (hr : s.stagesRun = true)
    (hp : (s.grp g).phys < 4) (hc : s.coilOn (matrixCoil g (s.grp g).phys) = false)
    (hs : (s.openSeen g (matrixCoil g (s.grp g).phys) ms).stage g = .opening) :
    exec (.matrixOpened g ms) s = .next ((s.openSeen g (matrixCoil g (s.grp g).phys) ms).released g).done := by
  rw [exec_matrixOpened, execMatrixOpened, finish_when_of_true (by simp [hg, hr, hp, hc])]
  have hk : (((s.setFb (matrixCoil g (s.grp g).phys) false).set (F.GROUP_TRAVEL_OPEN_MS.inst g) (satTo 16 ms)).grp g).phys =
      (s.grp g).phys := congrArg GroupState.phys (grp_setFb s _ false g)
  rw [State.openSeen] at hs ⊢
  simp only [hk, hs]

/-! ### Group faults (R151, R152, R161) -/

section fault
variable {s : State} {g : Fin 12}

theorem exec_groupFaultInput_of_present (h : s.hasGroup g = true) : exec (.groupFaultInput g) s = .next (s.gfltLow g).done :=
  (exec_groupFaultInput g s).trans (finish_when_of_true h)

/-- While stages may change, the group faults at once. -/
theorem gfltLow_of_stages (h : s.stagesRun = true) :
    let t := s.modGrp g fun v => { v with gflt := true, gfltDue := false }
    t.stagesRun = true → s.gfltLow g = t.groupFault g E.GROUP_FAULT_INPUT [(t.stage g).code] := by
  intro t ht
  rw [State.gfltLow, h, Bool.not_true]
  exact if_pos ht

/-- While they may not, its gates fall and the fault is due. -/
theorem gfltLow_of_held (h : s.stagesRun = false) :
    let t := s.modGrp g fun v => { v with gflt := true, gfltDue := true }
    t.stagesRun = false → s.gfltLow g = t.each (groupPhases g) fun p s => s.stopPhase p := by
  intro t ht
  rw [State.gfltLow, h, Bool.not_false]
  exact if_neg (Bool.eq_false_iff.1 ht)

theorem exec_faultClr_of_reaches (h : s.reaches (0x0E + g.val) 0x008 = true) (high : Bool) :
    exec (.faultClr g high) s = .next (s.faultClr g high).done :=
  (exec_faultClr g high s).trans (finish_hostWrites_of_reaches h _)

end fault

/-- The input is still low: only that is noted. -/
theorem faultClr_of_low (s : State) (g : Nat) : s.faultClr g false = s.modGrp g fun v => { v with gflt := true } :=
  if_neg (by simp)

/-- Group `g` back in UNROUTED, with the phases that the fault had disabled. -/
def State.faultCleared (s : State) (g : Nat) : State :=
  let u := s.each ((groupPhases g).filter fun p => s.phReason p == 3) fun p s => s.setPhase p true (s.phLost p) 0
  ((u.setGrp g { u.grp g with phys := 0xFF, faultAfter := false, coilCut := false, leaveAfterClose := false }).setStage g
    .unrouted).judgeMin g

theorem faultClr_of_high {s : State} {g : Nat} :
    let t := s.modGrp g fun v => { v with gflt := false }
    t.stagesRun = true → t.stage g = .fault → t.route g = 0xFF → (t.grp g).phys = 0xFF →
    ((List.range 4).all fun o => !t.fbClosed (matrixCoil g o)) = true → s.faultClr g true = t.faultCleared g := by
  intro t hr hs ho hp hc
  refine if_pos ?_
  change (t.stagesRun && t.stage g == .fault && t.route g == 0xFF && true &&
    ((t.grp g).phys == 0xFF || !t.fbClosed (matrixCoil g (t.grp g).phys)) && _) = true
  rw [hr, hs, ho, hp]
  exact hc

/-- Settles O30: each routing step by its stage and what it waits for, the fault input by whether stages may change, FAULT_CLR by
its input. -/
theorem groupRouting : Obligations.GroupRouting := by
  refine ⟨fun s g hg hs hr hm => ?_, fun s g hg hs hr hm => ?_, fun s g ms => ?_, fun s g hg hs hr => ?_,
    fun s g hg hs hr => exec_leavingDone_of_within hg hr hs, fun s g hg hs hr => ?_,
    fun s g hg hs hr => exec_zeroConfirmed_of_unloading hg hr hs, fun s g hg hs hr => ?_, fun s g ms => ?_, fun s g hg hs hr => ?_,
    fun s g => ?_, fun s g => ?_, fun s g => ?_, fun s g hr => ?_⟩
  · rw [exec_matchTimeout_of_matching hg hr hs, if_pos hm]
  · rw [exec_matchTimeout_of_matching hg hr hs, hm, if_neg Bool.false_ne_true]
  · intro o t u hg hs hr hc hf hl
    rw [exec_matrixClosed_of_closing hg hr hs hc, matrixClosed_of_kept hf hl]
    rfl
  · exact (exec_contactorCloseTimeout g s).trans (finish_when_of_true (stage_awaited hg hs hr))
  · exact (exec_leaveTimeout g s).trans (finish_when_of_true (stage_awaited hg hs hr))
  · exact (exec_zeroTimeout g s).trans (finish_when_of_true (stage_awaited hg hs hr))
  · intro i t u hg hr hp hc hs
    exact exec_matrixOpened_of_opening hg hr hp hc hs
  · exact (exec_matrixOpenTimeout g s).trans (finish_when_of_true (stage_awaited hg hs hr))
  · intro t hg hr ht
    rw [exec_groupFaultInput_of_present hg, gfltLow_of_stages hr ht]
  · intro t hg hr ht
    rw [exec_groupFaultInput_of_present hg, gfltLow_of_held hr ht]
  · intro t u hw hr hs ho hp hc
    rw [exec_faultClr_of_reaches hw, faultClr_of_high hr hs ho hp hc]
    rfl
  · rw [exec_faultClr_of_reaches hr, faultClr_of_low]

end Sys2Proof.Machine
end

/-! PROOFS. The fast loops and the sample of an outlet (R168, R170, R171, R173, R175, R176, R187). What a deferred reset does to the
loops is log entry 13, the order of a sample and what LOAD counts log entry 47 (the model's choices). -/
section
namespace Sys2Proof.Machine

/-! ### Bank swaps (R168) and missed deadlines (R173) -/

theorem exec_loopSwapReq_of_reaches {s : State} (h : s.reaches 0x1B 0x040 = true) (v : Word) :
    exec (.loopSwapReq v) s = .next (s.swapReq v.toNat).done :=
  (exec_loopSwapReq v s).trans (finish_hostWrites_of_reaches h _)

/-- The miss counted in the slot and in the loops, and recorded. -/
def State.missNoted (s : State) (k : Nat) : State :=
  (((s.wrLe (slotBase k + 62) 2 (satTo 16 (s.rdLe (slotBase k + 62) 2 + 1))).incSat F.LOOP_MISSED_COUNT).set
    F.LOOP_DEADLINE_LAST_SLOT k).ev E.LOOP_DEADLINE_MISSED 0 [k]

/-- A miss of fast slot `k` counted in its outlet's run of misses. -/
def State.fastMissNoted (s : State) (k : Nat) : State := (s.missNoted k).modOut (k / 4) fun o => { o with missRun := o.missRun + 1 }

theorem deadlineMiss_of_slow {s : State} {k : Nat} (h : 16 ≤ k) : s.deadlineMiss k = s.missNoted k := if_neg (Nat.not_lt.2 h)

/-- A run of misses that reaches the limit while the slots are CLOSED is a loop fault. -/
theorem deadlineMiss_of_fast {s : State} {k : Nat} (h : k < 16) :
    let t := s.fastMissNoted k
    s.deadlineMiss k = t.when (t.slotsClosed (k / 4) && decide ((t.outSt (k / 4)).missRun = t.get F.LOOP_DEADLINE_FAST_LIMIT)) fun s =>
      (s.ev E.LOOP_DEADLINE_FAULT 0 [k / 4]).loopReact (k / 4) := if_pos h

theorem exec_sampleDeadlineMiss_of_closed {s : State} {k : Fin 64} (hr : s.stagesRun = true) (hp : 16 ≤ k.val ∨ k.val < s.fastSlots)
    (hc : s.slotState k = 2) : exec (.sampleDeadlineMiss k) s = .next (s.deadlineMiss k).done :=
  (exec_sampleDeadlineMiss k s).trans (finish_when_of_true (by simpa [hr, hc] using hp))

/-! ### The direction (R176) -/

theorem exec_directionZeroReached_of_zero {s : State} {n : Fin 4} (ho : s.hasOutlet n = true) (hr : s.stagesRun = true)
    (hd : s.dirDiffers n = true) (hi : (s.outSt n).ihiUa = 0) (hz : s.icZero n = true) :
    let t := (s.setB (F.OUTLET_STATUS_DIRECTION.inst n) (s.on (F.OUTLET_DIR_EXPORT.inst n))).each (List.range 4) fun j s =>
      s.wrLe (slotBase (4 * n + j) + 44) 8 0
    exec (.directionZeroReached n) s = .next
      (((t.modOut n fun o => { o with dirRamp := false }).setRef n 0).setVramp n (t.vc n * 1000)).done :=
  (exec_directionZeroReached n s).trans (finish_when_of_true (by rw [ho, hr, hd, hz, decide_eq_true hi]; rfl))

/-! ### The sample (R165, R171, R175, R176, R187) -/

section sample
variable {s : State} {n : Nat} {vc ic : Int}

/-- Outlet `n` as a sample has measured it, before its loops act: its measurements, its ceilings, its target and its direction. -/
def State.sampled (s : State) (n : Nat) (vc ic : Int) : State :=
  let a := (s.measure n vc ic).when (!s.fbFlagged n) fun s => s.modOut n fun o => { o with lastIc := ic.natAbs }
  let b := (a.when (!a.prechargeOk n) fun s => s.setB (F.OUTLET_STATUS_PRECHARGE_OK.inst n) false).refreshSafeMa n
  let c := b.set (F.OUTLET_APT_MA_MA.inst n) (b.aptMa n)
  ((c.setI (F.OUTLET_ITGT_MA_MA.inst n) (if c.exporting n then -(c.targetMa n : Int) else (c.targetMa n : Int))).modOut n
    fun o => { o with missRun := 0 }).judgeDirection n

/-- The loops of outlet `n` after a sample without a reaction: VRAMP and IHI advanced, the slots computed. -/
def State.loopsRun (s : State) (n ticks : Nat) : State :=
  let e := (s.showLoad n 480).setVramp n ((s.showLoad n 480).nextVramp n ticks)
  ((e.setIhi n (e.nextIhi n ticks)).fastCompute n).resetStop n

/-- What a sample does, by the slots and the reaction. -/
theorem fastSample_eq : s.fastSample n vc ic =
    if !(s.sampled n vc ic).slotsClosed n then ((s.sampled n vc ic).setVramp n (vc * 1000)).swapOff
    else if ((s.sampled n vc ic).outSt n).reaction != .none then (s.sampled n vc ic).fastRamp n (s.slotRate (4 * n))
    else (s.sampled n vc ic).loopsRun n (s.slotRate (4 * n)) := by
  rfl

theorem fastSample_of_open (h : (s.sampled n vc ic).slotsClosed n = false) :
    s.fastSample n vc ic = ((s.sampled n vc ic).setVramp n (vc * 1000)).swapOff := by
  rw [fastSample_eq, h, Bool.not_false, if_pos rfl]

variable (h : (s.sampled n vc ic).slotsClosed n = true)
include h

theorem fastSample_of_reaction (hr : ((s.sampled n vc ic).outSt n).reaction ≠ .none) :
    s.fastSample n vc ic = (s.sampled n vc ic).fastRamp n (s.slotRate (4 * n)) := by
  rw [fastSample_eq, h, Bool.not_true, if_neg Bool.false_ne_true, if_pos (bne_iff_ne.2 hr)]

theorem fastSample_of_closed (hr : ((s.sampled n vc ic).outSt n).reaction = .none) :
    s.fastSample n vc ic = (s.sampled n vc ic).loopsRun n (s.slotRate (4 * n)) := by
  rw [fastSample_eq, h, hr, Bool.not_true, if_neg Bool.false_ne_true]
  exact if_neg Bool.false_ne_true

end sample

theorem exec_fastSample_of_runs {s : State} {n : Fin 4} (ho : s.hasOutlet n = true) (hr : s.stagesRun = true) (hm : s.mode ≠ .dormant)
    (vc ic : Int) : exec (.fastSample n vc ic) s = .next (s.fastSample n vc ic).done :=
  (exec_fastSample n vc ic s).trans (finish_when_of_true (by rw [ho, hr, bne_iff_ne.2 hm]; rfl))

/-- Settles O31: a missed deadline by the kind of its slot, a sample by the slots and the reaction, the rest by their guards. -/
theorem fastLoops : Obligations.FastLoops := by
  refine ⟨fun s v => (exec_loopSwapReq_of_reaches · v), fun s n vc ic ho hr hm => exec_fastSample_of_runs ho hr hm vc ic, fun s k => ?_,
    fun s k => ?_, fun s n => exec_directionZeroReached_of_zero, fun s n vc ic => fastSample_of_open,
    fun s n vc ic => fastSample_of_reaction, fun s n vc ic => fastSample_of_closed, fun s n => rfl⟩
  · intro m hr hk hc
    rw [exec_sampleDeadlineMiss_of_closed hr (.inl hk) hc, deadlineMiss_of_slow hk, State.missNoted]
  · intro m n t hr hk hf hc
    rw [exec_sampleDeadlineMiss_of_closed hr (.inr hf) hc, deadlineMiss_of_fast hk]
    rfl

end Sys2Proof.Machine
end

/-! PROOFS. The sequences of an outlet's contactors (R180, R181, R183, R340). That the feedbacks of coils that are off read open by
STOP_CONTACTORS_OPEN is log entry 99 (the model's choice). -/
section
namespace Sys2Proof.Machine

/-- Contactor `i` of a stop that ran out: one that still reads closed is welded. -/
def State.stopJudged (s : State) (i : Nat) (closed : Bool) : State := if closed then (s.setFb i true).weld i else s.fbGone i

section sequence
variable {s : State} {n : Fin 4} (ho : s.hasOutlet n = true)
include ho

/-! ### Closing and precharge (R180, R181) -/

theorem exec_mainTimeout_of_sequence (hs : s.ostate n = .check) (hr : s.stagesRun = true) (hq : (s.outSt n).seq ≠ 0) :
    exec (.mainTimeout n) s = .next
      (((s.ev E.OUTLET_MAIN_TIMEOUT n (seqCoil n (s.outSt n).seq)).latchSrc n 1).gateCutOutlet n).done :=
  (exec_mainTimeout n s).trans (finish_when_of_true (by simp [ho, hs, hr, hq]))

theorem exec_prechargeDone_of_within (hs : s.ostate n = .precharge) (hw : s.prechargeOk n = true)
    (hn : s.on (F.OUTLET_STATUS_PRECHARGE_OK.inst n) = false) :
    exec (.prechargeDone n) s = .next ((s.setB (F.OUTLET_STATUS_PRECHARGE_OK.inst n) true).ev E.OUTLET_PRECHARGE_DONE n
      [s.get (F.OUTLET_VC_MV_MV.inst n), s.get (F.OUTLET_EV_MV_MV.inst n)]).done :=
  (exec_prechargeDone n s).trans (finish_when_of_true (by rw [ho, hs, hw, hn]; rfl))

theorem exec_prechargeTimeout_of_waiting (hs : s.ostate n = .precharge) (hn : s.on (F.OUTLET_STATUS_PRECHARGE_OK.inst n) = false) :
    exec (.prechargeTimeout n) s = .next ((s.ev E.OUTLET_PRECHARGE_TIMEOUT n
      [s.get (F.OUTLET_VC_MV_MV.inst n), s.get (F.OUTLET_EV_MV_MV.inst n)]).setOState n .stopping).done :=
  (exec_prechargeTimeout n s).trans (finish_when_of_true (by rw [ho, hs, hn]; rfl))

/-! ### Stopping (R183) -/

variable (hs : s.ostate n = .stopping)
include hs

theorem exec_stopZeroReached_of_zero (hz : (s.outSt n).refUa = 0) (hi : s.icZero n = true) (hr : s.stagesRun = true) :
    exec (.stopZeroReached n) s = .next
      (((s.when (s.slotsClosed n) fun s => s.openSlots n).outletCoilsOff n).modOut n fun o => { o with seq := 6 }).done :=
  (exec_stopZeroReached n s).trans (finish_when_of_true (by rw [ho, hs, hi, hr, decide_eq_true hz]; rfl))

variable (hq : (s.outSt n).seq = 6)
include hq

/-- The contactors of an outlet that stops have opened: the weld check follows. -/
theorem exec_stopContactorsOpen_of_opening : exec (.stopContactorsOpen n) s = .next ((s.fbAllOpen n).setOState n .weldcheck).done := by
  have hg : (s.ostate n == .stopping && decide ((s.outSt n).seq = 6)) = true := by rw [hs, decide_eq_true hq]; rfl
  rw [exec_stopContactorsOpen, execStopContactorsOpen, finish_when_of_true ho, hg, State.when_true]

theorem exec_stopOpenTimeout_of_opening {pos neg : Bool} (hc : (pos || neg) = true) :
    exec (.stopOpenTimeout n pos neg) s = .next
      (((s.ev E.OUTLET_MAIN_TIMEOUT n [if pos then mainPos n else mainNeg n, 0]).stopJudged (mainPos n) pos).stopJudged
        (mainNeg n) neg).done :=
  (exec_stopOpenTimeout n pos neg s).trans (finish_when_of_true (by rw [ho, hs, hc, decide_eq_true hq]; rfl))

end sequence

/-- Settles O32: every step by the outlet's state and what it waits for, the stop that ran out by the feedbacks still closed. -/
theorem outletSequences : Obligations.OutletSequences :=
  ⟨fun _ _ => exec_mainTimeout_of_sequence, fun _ _ => exec_prechargeDone_of_within, fun _ _ => exec_prechargeTimeout_of_waiting,
    fun _ _ => exec_stopZeroReached_of_zero, fun _ _ => exec_stopContactorsOpen_of_opening,
    fun _ _ ho hs hq => exec_stopOpenTimeout_of_opening ho hs hq rfl, fun _ _ ho hs hq => exec_stopOpenTimeout_of_opening ho hs hq rfl⟩

end Sys2Proof.Machine
end

/-! PROOFS. The feedback of an outlet lost, frozen or disagreeing (R184 to R188). How long a loss counts as a cause is log entry 102
(the model's choice). So are the channel numbers of these events, 0 VC, 1 IC and 2 both, where log entry 9 has 1 VC and 2 IC. -/
section
namespace Sys2Proof.Machine

/-! ### A loss (R184) and a freeze (R185) -/

section lost
variable {s : State} {n : Fin 4} (ho : s.hasOutlet n = true) (hr : s.stagesRun = true)
include ho hr

theorem exec_fbLost_of_runs (cause : Fin 4) : exec (.fbLost n cause) s = .next (s.fbLost n cause).done :=
  (exec_fbLost n cause s).trans (finish_when_of_true (by rw [ho, hr, Bool.and_self]))

/-- The guard of the checks that only CLOSED slots have. -/
theorem closed_guard (hc : s.slotsClosed n = true) : (s.hasOutlet n && s.stagesRun && s.slotsClosed n) = true := by
  rw [ho, hr, hc, Bool.and_self, Bool.and_self]

theorem exec_fbFrozen_of_closed (hc : s.slotsClosed n = true) (isI : Bool) :
    let t := s.setB (if isI then F.OUTLET_FB_STAT_FROZEN_I.inst n else F.OUTLET_FB_STAT_FROZEN_V.inst n) true
    exec (.fbFrozen n isI) s = .next ((t.ev E.OUTLET_FB_FROZEN n
      (if isI then [1, t.get (F.OUTLET_IC_MA_MA.inst n)] else [0, t.get (F.OUTLET_VC_MV_MV.inst n)])).loopReact n).done :=
  (exec_fbFrozen n isI s).trans (finish_when_of_true (closed_guard ho hr hc))

end lost

/-! ### Blocks that disagree (R185) -/

section blocks
variable {s : State} {n : Fin 4} {vc vm ic im : Int}

/-- The runs of disagreeing blocks of outlet `n` with the block of these means counted. -/
def State.blockCounted (s : State) (n : Nat) (vc vm ic im : Int) : State :=
  let pct := s.get (F.OUTLET_FB_WIN_PCT.inst n)
  let bv := fbDisagrees vc vm (s.get (F.OUTLET_FB_WIN_V.inst n)) pct
  let bi := fbDisagrees ic im (s.get (F.OUTLET_FB_WIN_A.inst n)) pct
  s.modOut n fun o => { o with fbRunV := if bv then o.fbRunV + 1 else 0, fbRunI := if bi then o.fbRunI + 1 else 0 }

/-- The loop's reaction to a mismatch of the voltage, and to one of the current. -/
def State.mismatchV (s : State) (n : Nat) (vc vm : Int) : State :=
  ((s.setB (F.OUTLET_FB_STAT_MISMATCH_V.inst n) true).ev E.OUTLET_FB_MISMATCH n [0, ofSigned 32 vc, ofSigned 32 vm]).loopReact n
def State.mismatchI (s : State) (n : Nat) (ic im : Int) : State :=
  ((s.setB (F.OUTLET_FB_STAT_MISMATCH_I.inst n) true).ev E.OUTLET_FB_MISMATCH n [1, ofSigned 32 ic, ofSigned 32 im]).loopReact n

/-- A block counts, and each run that comes to 20 with it is a mismatch of its own: `v` and `i` say whether the run of the voltage
and that of the current do. -/
theorem exec_fbMismatchBlock_of_closed {v i : Bool} (ho : s.hasOutlet n = true) (hr : s.stagesRun = true) (hc : s.slotsClosed n = true)
    (hv : decide (((s.blockCounted n vc vm ic im).outSt n).fbRunV = 20) = v)
    (hi : decide (((s.blockCounted n vc vm ic im).outSt n).fbRunI = 20) = i) :
    exec (.fbMismatchBlock n vc vm ic im) s = .next
      (((s.blockCounted n vc vm ic im).when v fun s => s.mismatchV n vc vm).when i fun s => s.mismatchI n ic im).done := by
  subst hv hi
  exact (exec_fbMismatchBlock n vc vm ic im s).trans (finish_when_of_true (closed_guard ho hr hc))

end blocks

/-! ### The end of the hold and of the ramp (R187) -/

section reaction
variable {s : State} {n : Fin 4} (ho : s.hasOutlet n = true) (hr : s.stagesRun = true)
include ho hr

theorem exec_fbHoldEnd_of_hold (h : (s.outSt n).reaction = .hold) :
    exec (.fbHoldEnd n) s = .next
      ((((s.modOut n fun o => { o with reaction := .ramp }).setB (F.OUTLET_FB_STAT_HOLD.inst n) false).setB
        (F.OUTLET_FB_STAT_RAMPING.inst n) true).refreshSafeMa n).done :=
  (exec_fbHoldEnd n s).trans (finish_when_of_true (by rw [ho, hr, h]; rfl))

theorem exec_faultRampDone_of_zero (h : (s.outSt n).reaction = .ramp) (hz : (s.outSt n).refUa = 0) :
    exec (.faultRampDone n) s = .next (s.rampDone n).done :=
  (exec_faultRampDone n s).trans (finish_when_of_true (by rw [ho, hr, h, decide_eq_true hz]; rfl))

end reaction

/-- Settles O33: a loss by its cause, a freeze by its channel, a block by which runs have come to 20, the reaction by its stage. -/
theorem feedbackFaults : Obligations.FeedbackFaults := by
  refine ⟨fun s n ho hr => exec_fbLost_of_runs ho hr 1, fun s n ho hr => exec_fbLost_of_runs ho hr 2,
    fun s n ho hr => exec_fbLost_of_runs ho hr 3, fun s n ho hr hc => exec_fbFrozen_of_closed ho hr hc true,
    fun s n ho hr hc => exec_fbFrozen_of_closed ho hr hc false, fun s n vc vm ic im => ?_, fun s n vc vm ic im => ?_,
    fun s n vc vm ic im => ?_, fun s n vc vm ic im => ?_, fun s n => exec_fbHoldEnd_of_hold, fun s n => exec_faultRampDone_of_zero⟩
  · intro pct bv bi t ho hr hc hv hi
    exact exec_fbMismatchBlock_of_closed (v := false) (i := false) ho hr hc (decide_eq_false hv) (decide_eq_false hi)
  · intro pct bv bi t ho hr hc hv hi
    exact exec_fbMismatchBlock_of_closed (v := true) (i := false) ho hr hc (decide_eq_true hv) (decide_eq_false hi)
  · intro pct bv bi t ho hr hc hv hi
    exact exec_fbMismatchBlock_of_closed (v := false) (i := true) ho hr hc (decide_eq_false hv) (decide_eq_true hi)
  · intro pct bv bi t u ho hr hc hv hi
    exact exec_fbMismatchBlock_of_closed (v := true) (i := true) ho hr hc (decide_eq_true hv) (decide_eq_true hi)

end Sys2Proof.Machine
end

/-! PROOFS. The slow loops, the words of the slots and the sensor channels (R165, R167, R170, R195 to R198). How a sample rounds is
log entry 47, which slot words the host cannot write log entry 48, and the codes a sensor frame brings log entry 115 (the model's
choices). -/
section
namespace Sys2Proof.Machine

/-! ### The sample of a slow slot (R165, R170, R198): one lemma for each state of the slot -/

theorem exec_slowSample_of_runs {s : State} (hr : s.stagesRun = true) (hm : s.mode ≠ .dormant) (k : Fin 48) :
    exec (.slowSample k) s = .next (s.slowSample (16 + k)).done :=
  (exec_slowSample k s).trans (finish_when_of_true (by rw [hr, bne_iff_ne.2 hm, Bool.and_self]))

section slowSample
variable {s : State} {k : Nat}

theorem slowSample_of_closed (hs : s.slotState k = 2) (hv : s.pvInvalid (s.rdByte (slotBase k + 1)) = false) :
    s.slowSample k = s.slowClosed k := by
  rw [State.slowSample, hs, hv]
  rfl

theorem slowSample_of_invalid (hs : s.slotState k = 2) (hv : s.pvInvalid (s.rdByte (slotBase k + 1)) = true) :
    s.slowSample k = s.slotOpen k := by
  rw [State.slowSample, hs, hv]
  rfl

theorem slowSample_of_open (hs : s.slotState k = 1) : s.slowSample k = s.slowDrive k (s.slotWord k 40) := by
  rw [State.slowSample, hs]
  rfl

theorem slowSample_of_off (hs : s.slotState k = 0) : s.slowSample k = (s.wrLe (slotBase k + 44) 8 0).slowDrive k 0 := by
  rw [State.slowSample, hs]
  rfl

end slowSample

/-! ### A word of a slot (R167) -/

theorem exec_loopSlotWrite_of_reach {s : State} {k : Fin 64} {w : Fin 16} (h : s.tableReach 8 (64 * k + 4 * w) = true) (v : Word) :
    exec (.loopSlotWrite k w v) s = .next (s.slotWrite k w v.toNat).done :=
  (exec_loopSlotWrite k w v s).trans (finish_tableWrites_of_reach h _)

/-- RATE, the coefficients and the limits of a slow slot: taken unless the slot is CLOSED. -/
theorem slotWrite_of_slow {s : State} {k w : Nat} (hk : 16 ≤ k) (hl : 1 ≤ w) (hu : w ≤ 8) (v : Nat) :
    s.slotWrite k w v = if s.slotState k = 2 then s.slotLocked k (4 * w) else s.setSlotWord k (4 * w) v := by
  have h11 : ¬ 11 ≤ w := by omega
  have h10 : w ≠ 10 := by omega
  have h9 : w ≠ 9 := by omega
  have h0 : w ≠ 0 := by omega
  simp only [State.slotWrite, if_neg h11, if_neg (Nat.not_lt.2 hk), if_neg h0, if_neg h10, if_neg h9]

/-- RATE of a fast slot that is OFF is held to its limits. -/
theorem slotWrite_of_fast_rate_above {s : State} {k v : Nat} (hk : k < 16) (hf : k < s.fastSlots) (hs : s.slotState k = 0)
    (hv : 400000 < v) : s.slotWrite k 1 v = s.badSlot k 1 := by
  have hr : v < 4000 ∨ 400000 < v := .inr hv
  have hn : ¬ (s.slotState k != 0) = true := by rw [hs]; decide
  rw [State.slotWrite, if_neg (by decide), if_pos hk, if_neg (Nat.not_le.2 hf), if_neg (by decide), if_pos rfl, if_neg hn, if_pos hr]

/-! ### The sensor channels (R195 to R197) -/

theorem exec_sensCfgWrite_of_reaches {s : State} {c : Fin 48} (h : s.reaches 0x42 (0x100 + c * 0x10) = true) (v : Word) :
    exec (.sensCfgWrite c v) s = .next (s.sensCfgWrite c v.toNat).done :=
  (exec_sensCfgWrite c v s).trans (finish_hostWrites_of_reaches h _)

theorem sensCfgWrite_of_reserved {s : State} {c v : Nat} (h : 5 < bits v 15 12) :
    s.sensCfgWrite c v = s.err E.SENS_BAD_CFG 0 [c, bits v 15 12] := if_pos h

/-- A kind of Table 9.1 at a rate that has no limit is taken. -/
theorem sensCfgWrite_of_known {s : State} {c v : Nat} (hk : bits v 15 12 ≤ 5) (hr : bits v 9 8 ≠ 2) :
    let t := ((s.set (F.SENS_CH_CFG_ZERO.nth c) (bits v 31 16)).set (F.SENS_CH_CFG_KIND.nth c) (bits v 15 12)).set
      (F.SENS_CH_CFG_RATE.nth c) (bits v 9 8)
    s.sensCfgWrite c v = (((t.setB (F.SENS_CH_CFG_STUCK_EN.nth c) (v.testBit 7)).set (F.SENS_CH_CFG_FILTER.nth c) (bits v 6 4)).setB
      (F.SENS_CH_CFG_EN.nth c) (v.testBit 0)).refreshSar :=
  (if_neg (Nat.not_lt.2 hk)).trans (if_neg fun h => hr h.1)

/-- Settles O34: a slow sample by the state of its slot, a slot word by the kind of its slot and whether it is in use, a channel's
configuration by its kind. -/
theorem slowLoops : Obligations.SlowLoops := by
  refine ⟨fun s k hr hm hs hv => ?_, fun s k hr hm hs hv => ?_, fun s k hr hm hs => ?_, fun s k hr hm hs => ?_,
    fun s k w v ht hk hl hu hs => ?_, fun s k w v ht hk hl hu hs => ?_, fun s k v ht hk hf hs hv => ?_, fun s c he hst hi => ?_,
    fun s c hi => ?_, fun s c v hr hk => ?_, fun s c v => ?_, fun s codes => exec_sensFrame codes s⟩
  · rw [exec_slowSample_of_runs hr hm, slowSample_of_closed hs hv]
  · rw [exec_slowSample_of_runs hr hm, slowSample_of_invalid hs hv]
  · rw [exec_slowSample_of_runs hr hm, slowSample_of_open hs]
  · rw [exec_slowSample_of_runs hr hm, slowSample_of_off hs]
  · rw [exec_loopSlotWrite_of_reach ht, slotWrite_of_slow hk hl hu, if_neg hs]
  · rw [exec_loopSlotWrite_of_reach ht, slotWrite_of_slow hk hl hu, if_pos hs]
  · exact (exec_loopSlotWrite_of_reach (w := 1) ht v).trans
      (congrArg (fun t : State => Host.Outcome.next t.done) (slotWrite_of_fast_rate_above hk hf hs hv))
  · exact (exec_sensChStuck c s).trans (finish_when_of_true (by rw [he, hst, hi]; rfl))
  · exact (exec_sensChValid c s).trans (finish_when_of_true hi)
  · rw [exec_sensCfgWrite_of_reaches hr, sensCfgWrite_of_reserved hk]
  · intro kind t hr hk hn
    rw [exec_sensCfgWrite_of_reaches hr, sensCfgWrite_of_known hk hn]

end Sys2Proof.Machine
end

/-! PROOFS. From the charge parameters to the energy (R182, R249, R254 to R258). That an accepted start carries every target is log
entry 103, that a vehicle's values come by log entry 56 (the model's choices). A maximum that the parameters leave out counts as the
largest the outlet takes, 1,500 V, 3,000 A and 4,500,000 W, where entry 56 has 0 for all but the power. -/
section
namespace Sys2Proof.Machine

/-! ### Requests of a session -/

/-- A request that is due, on a link that the unit runs, is noted and has its effect (R249). -/
theorem finish_onLink_of_due {s : State} {n k : Nat} {i : Instr} (f : State → State) (hm : s.linkMine = true)
    (hr : s.stagesRun = true) (hd : s.v2gDue n k = true) :
    (s.onLink i fun s => s.v2gReq n k f).finish = .next (f (s.noteReq n k)).done := by
  rw [onLink_of_mine hm hr, v2gReq_of_due s n k f hd, State.finish]

/-- The answer to a request of the cable check: finished, or processing ongoing. -/
def State.checkAnswered (s : State) (n : Nat) : State :=
  let t := s.when ((s.ctx n).check == 0) fun s => s.modCtx n fun c => { c with check := 1, checkTick := s.ticks }
  if (t.ctx n).check = 4 then t.respond n 9 0 [] else t.respond n 9 1 []

/-- A check that has begun is not begun again: a request meanwhile only learns how far it has come. -/
theorem checkAnswered_of_begun {s : State} {n : Nat} (h : (s.ctx n).check ≠ 0) :
    s.checkAnswered n = if (s.ctx n).check = 4 then s.respond n 9 0 [] else s.respond n 9 1 [] := by
  rw [State.checkAnswered, beq_eq_false_iff_ne.2 h]
  rfl

/-- The targets of a PreCharge: the voltage asked for, and the vehicle's own voltage, which DIN SPEC 70121 and ISO 15118-2 do not
carry (R255). -/
def State.prechargeTargets (s : State) (n : Nat) (present target : V2gNum) : TargetSet :=
  { vcmd := (clampI 150000 1500000 (milliOf target)).toNat,
    evMv := some (clampI 0 1500000 (if 3 ≤ s.proto n then milliOf present else milliOf target)).toNat }

/-- A PreCharge: its targets are issued, and it is answered at once or after their Sentence. -/
def State.precharged (s : State) (n : Nat) (present target : V2gNum) : State :=
  let t := s.issueTargets n (s.prechargeTargets n present target) false
  if (t.slot n).st ≠ 0 then t.modCtx n fun c => { c with rspDue := 10 } else t.respondNow n 10 0

/-- A start of power delivery: refused before precharge has ended, else its targets are all issued (R255). -/
def State.deliveryStarted (s : State) (n : Nat) (req : EvReq) : State :=
  let t := s.targets n req
  if !s.on (F.OUTLET_STATUS_PRECHARGE_OK.inst n) then s.respond n 11 5 []
  else (((s.setDemand n t).modOut n fun o => { o with energyDue := true }).modCtx n fun c => { c with rspDue := 11 }).issueTargets n t true

/-- A request of the charge loop: answered at once where no target differs, else after their Sentence (R256, R257). -/
def State.loopRequested (s : State) (n : Nat) (req : EvReq) : State :=
  let t := s.targets n req
  let d := s.setDemand n t
  let d := match req.soc with | some p => d.set (F.VDE_CTX_SOC_PCT.nth n) p | none => d
  if (d.slot n).st = 0 ∧ (d.targetClauses n t false).isEmpty then d.respondNow n 12 0
  else (d.modCtx n fun c => { c with rspDue := 12 }).issueTargets n t false

theorem loopRequested_of_differing {s : State} {n : Nat} {req : EvReq} (hs : req.soc = none)
    (hc : ((s.setDemand n (s.targets n req)).targetClauses n (s.targets n req) false).isEmpty = false) :
    s.loopRequested n req = ((s.setDemand n (s.targets n req)).modCtx n fun c => { c with rspDue := 12 }).issueTargets n
      (s.targets n req) false := by
  simp [State.loopRequested, hs, hc]

section requests
variable {s : State} {n : Fin 4} (hm : s.linkMine = true) (hr : s.stagesRun = true)
include hm hr

theorem exec_cableCheckReq_of_due (hd : s.v2gDue n 9 = true) :
    exec (.cableCheckReq n) s = .next ((s.noteReq n 9).checkAnswered n).done :=
  (exec_cableCheckReq n s).trans (finish_onLink_of_due _ hm hr hd)

theorem exec_prechargeReq_of_due (hd : s.v2gDue n 10 = true) (present target : V2gNum) :
    exec (.prechargeReq n present target) s = .next ((s.noteReq n 10).precharged n present target).done :=
  (exec_prechargeReq n present target s).trans (finish_onLink_of_due _ hm hr hd)

theorem exec_powerDeliveryStart_of_due (hd : s.v2gDue n 11 = true) (req : EvReq) :
    exec (.powerDeliveryStart n req) s = .next ((s.noteReq n 11).deliveryStarted n req).done :=
  (exec_powerDeliveryStart n req s).trans (finish_onLink_of_due _ hm hr hd)

theorem exec_chargeLoopReq_of_due (hd : s.v2gDue n 12 = true) (req : EvReq) :
    exec (.chargeLoopReq n req) s = .next ((s.noteReq n 12).loopRequested n req).done :=
  (exec_chargeLoopReq n req s).trans (finish_onLink_of_due _ hm hr hd)

end requests

/-! ### The steps of the cable check (R180, R254) -/

section check
variable {s : State} {n : Fin 4}

theorem exec_cableCheckStart_of_ready (ho : s.vdeOwn n = true) (hr : s.stagesRun = true) (hs : s.ostate n = .session)
    (hc : (s.ctx n).check = 1) (ha : s.checkReady n = true) :
    exec (.cableCheckStart n) s = .next ((s.modCtx n fun c => { c with check := 2 }).setOState n .check).done :=
  (exec_cableCheckStart n s).trans (finish_when_of_true (by simp [ho, hr, hs, hc, ha]))

/-- The check's voltage is commanded by the step that closes the slots. -/
theorem exec_mainSeqStepDone_of_check (ho : s.hasOutlet n = true) (hs : s.ostate n = .check) (hr : s.stagesRun = true) :
    exec (.mainSeqStepDone n) s = .next ((s.seqStep n).when
      (!s.slotsClosed n && (s.seqStep n).slotsClosed n && ((s.seqStep n).ctx n).check == 2) fun t => t.issueVcmd n (t.checkMv n)).done :=
  (exec_mainSeqStepDone n s).trans (finish_when_of_true (by rw [ho, hs, hr]; rfl))

theorem exec_cableCheckHoldDone_of_held (ho : s.vdeOwn n = true) (hr : s.stagesRun = true) (hs : s.ostate n = .check)
    (hc : (s.ctx n).check = 2) (hl : s.slotsClosed n = true) (hw : s.on (F.OUTLET_STATUS_SLEWING.inst n) = false)
    (hi : s.imdGood n = true) (hf : (s.slot n).st = 0) :
    exec (.cableCheckHoldDone n) s = .next ((s.modCtx n fun c => { c with check := 3 }).issueVcmd n 0).done :=
  (exec_cableCheckHoldDone n s).trans (finish_when_of_true (by simp [ho, hr, hs, hc, hl, hw, hi, hf]))

theorem exec_cableCheckDischarged_of_low (ho : s.vdeOwn n = true) (hr : s.stagesRun = true) (hs : s.ostate n = .check)
    (hc : (s.ctx n).check = 3) (hv : s.vc n ≤ (s.get F.VDE_CHECK_END_V * 1000 : Nat)) (hp : 0 < s.getI (F.ALLOC_OUT_CEIL_W.nth n)) :
    exec (.cableCheckDischarged n) s = .next ((s.modCtx n fun c => { c with check := 4 }).setOState n .precharge).done :=
  (exec_cableCheckDischarged n s).trans (finish_when_of_true (by rw [ho, hr, hs, hc, decide_eq_true hv, decide_eq_true hp]; rfl))

theorem exec_cableCheckTimeout_of_begun (ho : s.vdeOwn n = true) (hb : (s.ctx n).check ≠ 0) (he : (s.ctx n).check ≠ 4) :
    exec (.cableCheckTimeout n) s = .next
      ((s.ev E.VDE_CHECK_FAILED n [(s.ctx n).check]).sessEnd n E.VDE_CHECK_FAILED.code16).done :=
  (exec_cableCheckTimeout n s).trans (finish_when_of_true (by rw [ho, bne_iff_ne.2 hb, bne_iff_ne.2 he]; rfl))

/-- Targets that have waited are issued once the slot is free (R257). -/
theorem exec_targetSetIssue_of_waiting {t : TargetSet} (hw : (s.ctx n).waitSet = some t) (hf : (s.slot n).st = 0) :
    exec (.targetSetIssue n) s = .next
      (((s.modCtx n fun c => { c with waitSet := none }).setB (F.VDE_CTX_STATE_WAITING.nth n) false).issueTargets n t
        (s.outSt n).energyDue).done := by
  rw [exec_targetSetIssue, execTargetSetIssue, hw]
  exact congrArg State.finish (if_neg (not_not_intro hf))

end check

/-- Settles O42: every request by `finish_onLink_of_due` and what it asks for, every step of the check by its guard. -/
theorem sessionCharge : Obligations.SessionCharge := by
  refine ⟨fun s n t => exec_targetSetIssue_of_waiting, fun s n req => ?_, fun s n hm hr hd hc => ?_, fun s n hm hr hd hc => ?_,
    fun s n => exec_cableCheckStart_of_ready, fun s n ho hs hr hc => ?_, fun s n ho hs hr hc ht hk => ?_,
    fun s n => exec_cableCheckHoldDone_of_held, fun s n => exec_cableCheckDischarged_of_low, fun s n => exec_cableCheckTimeout_of_begun,
    fun s n present target => ?_, fun s n req => ?_, fun s n req hm hr hd hp => ?_, fun s n req => ?_⟩
  · intro r mv ma w a b hm hr hd
    exact (exec_chargeParameterDiscovery n req s).trans (finish_onLink_of_due _ hm hr hd)
  · rw [exec_cableCheckReq_of_due hm hr hd, checkAnswered_of_begun (by rw [hc]; decide), if_pos hc]
  · rw [exec_cableCheckReq_of_due hm hr hd, checkAnswered_of_begun (by rw [hc]; decide), if_neg (by rw [hc]; decide)]
  · rw [exec_mainSeqStepDone_of_check ho hs hr, hc, Bool.not_true, Bool.false_and, Bool.false_and, State.when_false]
  · rw [exec_mainSeqStepDone_of_check ho hs hr, hc, ht, hk]
    rfl
  · intro r t hm hr hd ht
    rw [exec_prechargeReq_of_due hm hr hd]
    exact congrArg (fun t : State => Host.Outcome.next t.done) (if_pos ht)
  · intro r t hm hr hd hp
    rw [exec_powerDeliveryStart_of_due hm hr hd, State.deliveryStarted, hp, Bool.not_true, if_neg Bool.false_ne_true]
  · rw [exec_powerDeliveryStart_of_due hm hr hd, State.deliveryStarted, hp, Bool.not_false, if_pos rfl]
  · intro r d hm hr hd hs hc
    rw [exec_chargeLoopReq_of_due hm hr hd, loopRequested_of_differing hs hc]

end Sys2Proof.Machine
end

/-! PROOFS. The diagnostics, the clears of an outlet's fault, the restart from SAFE_HOLD and the degraded service (R188, R342, R346 to
R352). That LEAVE_OUT_FAULT reads the feedbacks open itself is log entry 99, how long a loss of feedback counts as a cause log entry
102, what ends degraded service log entry 75 (the model's choices). -/
section
namespace Sys2Proof.Machine

/-! ### Diagnostics (R346) -/

/-- A diagnostic interval counted, with the longest one kept. -/
def State.intervalNoted (s : State) (us : Nat) : State :=
  (s.inc F.DIAG_CYCLE_COUNT).set F.DIAG_CYCLE_MAX_US (max (s.get F.DIAG_CYCLE_MAX_US) us)

/-- An interval without a failing test and without rejected frames shows at most a corrected word of SRAM. -/
theorem exec_diagInterval_of_passed {s : State} (h : s.safetyRuns = true) (us : Nat) (corrected : Option Nat) :
    exec (.diagInterval us none corrected 0 0) s = .next (match corrected with
      | none => s.intervalNoted us
      | some a => (((s.intervalNoted us).incSat F.DIAG_SRAM_ECC_CORR).set F.DIAG_SRAM_ADDR_ADDR a).ev E.DIAG_SRAM_CORRECTED 0
        [a]).done := by
  rw [exec_diagInterval, execDiagInterval, finish_when_of_true h]
  cases corrected <;> rfl

theorem exec_cycleOverrun_of_runs {s : State} (h : s.safetyRuns = true) (us : Nat) :
    exec (.cycleOverrun us) s = .next
      (((s.set F.DIAG_CYCLE_MAX_US (max (s.get F.DIAG_CYCLE_MAX_US) us)).ev E.DIAG_CYCLE_OVERRUN 0 [us]).testFail 16).done :=
  (exec_cycleOverrun us s).trans (finish_when_of_true h)

/-! ### The way out of OUT_FAULT (R188, R348) -/

theorem exec_safeClr_of_reaches {s : State} (h : s.reaches 0x28 0x094 = true) (v : Word) :
    exec (.safeClr v) s = .next (s.each (s.outlets.filter fun n => v.toNat.testBit n) fun n s => s.hostClear n).done :=
  (exec_safeClr v s).trans (finish_hostWrites_of_reaches h _)

section leave
variable {s : State} {n : Nat}

theorem leaveFault_of_barred (h : s.mayLeaveFault n = false) : s.leaveFault n = s := if_pos (by rw [h]; rfl)

/-- An outlet that leaves OUT_FAULT with no vehicle plugged in is idle. -/
theorem leaveFault_of_unplugged (h : s.mayLeaveFault n = true) (hr : s.stagesRun = true) :
    let t := (s.ev E.SAFE_CLEARED 0 [n, (s.outSt n).clearedFn]).modOut n fun o => { o with clearedFn := 0 }
    t.combined n = 0 → s.leaveFault n = t.toIdle n := by
  intro t hc
  exact (if_neg (by rw [h, hr]; decide)).trans (if_pos hc)

/-- What unplugging clears of the functions latched on outlet `n`: of 3, 6, 7 and 8 those without a cause. -/
def State.unplugUnlatched (s : State) (n : Nat) : State :=
  s.each ([3, 6, 7, 8].filter fun k => s.bit (F.SAFE_OUT_TRIP_LATCHED.nth n) (k - 1)) fun k s =>
    if (if k = 6 then s.pinAbove n 50 else s.causeOn n k) then s else s.unlatchFn n k

theorem unplugUnlatched_of_none (h3 : s.bit (F.SAFE_OUT_TRIP_LATCHED.nth n) 2 = false)
    (h6 : s.bit (F.SAFE_OUT_TRIP_LATCHED.nth n) 5 = false) (h7 : s.bit (F.SAFE_OUT_TRIP_LATCHED.nth n) 6 = false)
    (h8 : s.bit (F.SAFE_OUT_TRIP_LATCHED.nth n) 7 = false) : s.unplugUnlatched n = s := by
  simp [State.unplugUnlatched, h3, h6, h7, h8, State.each]

end leave

section outlet
variable {s : State} {n : Fin 4} (ho : s.hasOutlet n = true)
include ho

theorem exec_unplugClear_of_unplugged (hc : s.combined n = 0) :
    let t := (s.refreshActive n).unplugUnlatched n
    exec (.unplugClear n) s = .next ((t.when ((t.outSt n).src.testBit 0) fun s => s.unlatchSrc n 0).leaveFault n).done :=
  (exec_unplugClear n s).trans (finish_when_of_true (by rw [ho, hc]; rfl))

/-- With nothing latched, the feedbacks of coils that are off read open. -/
theorem exec_leaveOutFault_of_cleared (hs : s.ostate n = .fault) (hl : s.get (F.SAFE_OUT_TRIP_LATCHED.nth n) = 0)
    (hq : (s.outSt n).src = 0) : exec (.leaveOutFault n) s = .next ((s.fbAllOpen n).leaveFault n).done := by
  rw [exec_leaveOutFault, execLeaveOutFault, finish_when_of_true ho, hs, hl, decide_eq_true hq]
  rfl

theorem exec_leaveOutFault_of_latched (hl : s.get (F.SAFE_OUT_TRIP_LATCHED.nth n) ≠ 0) :
    exec (.leaveOutFault n) s = .next (s.leaveFault n).done := by
  rw [exec_leaveOutFault, execLeaveOutFault, finish_when_of_true ho, beq_eq_false_iff_ne.2 hl, Bool.and_false, Bool.false_and,
    State.when_false]

/-- The flags of FB_STAT that are named and have no cause clear in OUT_FAULT, and the outlet leaves where nothing else keeps it. -/
theorem exec_fbStatClear_of_fault {v live : Word} (hr : s.reaches (0x0A + n) F.OUTLET_FB_STAT_LOST_V.off = true)
    (hs : s.ostate n = .fault) :
    exec (.fbStatClear n v live) s = .next
      (((s.modOut n fun o => { o with fbLive := bits live.toNat 7 7 + 2 * bits live.toNat 6 6 }).each fbStatFlags fun f s =>
        s.when (v.toNat.testBit f.lo && !live.toNat.testBit f.lo) fun s => s.setB (f.inst n) false).leaveFault n).done := by
  rw [exec_fbStatClear, execFbStatClear, finish_hostWrites_of_reaches hr, ho, hs]
  rfl

end outlet

/-! ### Welds (R342) -/

/-- The welds among the contactors 0 to 31 that a write names and that read open. -/
def State.weldsCleared (s : State) (v : Word) : State :=
  s.each (List.range 32) fun b s => s.when (v.toNat.testBit b && s.welded b && !s.fbClosed b) fun s => s.setWeld b false

theorem exec_weldClear_low_of_open {s : State} (h : s.reaches 0x28 0x088 = true) (hp : s.pwdOpen = true) (hc : s.clogFull = false)
    (v : Word) :
    let t := s.weldsCleared v
    exec (.weldClear false v) s = .next (t.rwpLogged 0x28 0x088 (s.regWord 0x28 0x088) (t.regWord 0x28 0x088)).done :=
  ((exec_weldClear false v s).trans (finish_hostWrites_of_reaches h _)).trans
    (congrArg (fun t : State => Host.Outcome.next t.done) (guarded_of_accepted hp hc rfl))

/-- Without the password neither register is written. -/
theorem exec_weldClear_high_of_locked {s : State} (h : s.reaches 0x28 0x08C = true) (hp : s.pwdOpen = false) (v : Word) :
    exec (.weldClear true v) s = .next (s.errC .writeNeedsPassword 0x28 [0x08C]).done :=
  ((exec_weldClear true v s).trans (finish_hostWrites_of_reaches h _)).trans
    (congrArg (fun t : State => Host.Outcome.next t.done) (guarded_of_locked hp))

/-! ### The restart from SAFE_HOLD (R349) -/

section restart
variable {s : State}

/-- The key starts the restart, or the first check that fails is recorded. -/
theorem exec_safeRestart_of_key (h : s.reaches 0x28 0x090 = true) (hm : s.mode = .safeHold) :
    exec (.safeRestart 0xC3A5#32) s = .next (match s.clearInputFaults.restartBar with
      | some c => s.clearInputFaults.err E.SAFE_RESTART_REFUSED 0 [c]
      | none => s.clearInputFaults.modSafe fun v => { v with restarting := true }).done := by
  rw [exec_safeRestart, execSafeRestart, finish_hostWrites_of_reaches h, hm]
  rfl

/-- After a diagnostic interval without a failing test the checks decide once more. -/
theorem exec_safeRestartDone_of_passed (hs : s.safe.restarting = true) (hm : s.mode = .safeHold) :
    let t := s.modSafe fun v => { v with restarting := false }
    exec (.safeRestartDone 0) s = .next (match t.restartBar with
      | some c => t.err E.SAFE_RESTART_REFUSED 0 [c]
      | none => t.leaveHold).done := by
  intro t
  rw [exec_safeRestartDone, execSafeRestartDone, finish_when_of_true (by rw [hs, hm]; rfl)]
  rfl

end restart

/-! ### Degraded service (R351) -/

/-- An outlet whose degraded time expires alone ramps down; only all of them together trip the node. -/
theorem exec_degradedExpired_of_others {s : State} {n : Fin 4} (hr : s.safetyRuns = true) (ho : s.hasOutlet n = true)
    (hd : s.degraded n = true) (hq : (s.outSt n).src.testBit 6 = false) :
    let t := s.ev E.SAFE_DEGRADED_EXPIRED 0 [n]
    (t.outlets.all fun m => t.degraded m) = false →
    exec (.degradedExpired n) s = .next (((t.latchSrc n 6).faultRamp n).refreshMode).done := by
  intro t ha
  exact (exec_degradedExpired n s).trans ((finish_when_of_true (by rw [hr, ho, hd, hq]; rfl)).trans
    (congrArg (fun t : State => Host.Outcome.next t.done) (if_neg (Bool.eq_false_iff.1 ha))))

theorem exec_degradedTimerReset_of_absent {s : State} {n : Fin 4} (ho : s.hasOutlet n = true) (hd : s.degraded n = false) :
    exec (.degradedTimerReset n) s = .next ((s.modOut n fun o => { o with degTicks := 0 }).refreshDegStat).done :=
  (exec_degradedTimerReset n s).trans (finish_when_of_true (by rw [ho, hd]; rfl))

/-- Settles O46: an interval by what it found, OUT_FAULT by what is latched, a weld clear by the password, the restart by its bar,
the degraded service by its guards. -/
theorem faultsCleared : Obligations.FaultsCleared := by
  refine ⟨fun s us h => exec_diagInterval_of_passed h us none, fun s us a h => exec_diagInterval_of_passed h us (some a),
    fun s us h => exec_cycleOverrun_of_runs h us, fun s v h => exec_safeClr_of_reaches h v, fun s n => ?_, fun s n ho hs hl hq => ?_,
    fun s n ho hs hl hm => ?_, fun s n v live hr ho hs => exec_fbStatClear_of_fault ho hr hs,
    fun s v hr hp hc => exec_weldClear_low_of_open hr hp hc v,
    fun s v hr hp => exec_weldClear_high_of_locked hr hp v, fun s hr hm hb => ?_, fun s c hr hm hb => ?_, fun s hs hm => ?_,
    fun s n => exec_degradedExpired_of_others, fun s n => exec_degradedTimerReset_of_absent⟩
  · intro t ho hc _ h3 h6 h7 h8 hs
    rw [exec_unplugClear_of_unplugged ho hc, unplugUnlatched_of_none h3 h6 h7 h8, hs, State.when_true]
  · intro u hm hr t hc
    rw [exec_leaveOutFault_of_cleared ho hs hl hq, leaveFault_of_unplugged hm hr hc]
  · rw [exec_leaveOutFault_of_latched ho hl, leaveFault_of_barred hm]
  · rw [exec_safeRestart_of_key hr hm, hb]
  · rw [exec_safeRestart_of_key hr hm, hb]
  · intro t hb
    rw [exec_safeRestartDone_of_passed hs hm, hb]

end Sys2Proof.Machine
end

/-! PROOFS. The thermal observer, its operator and its checks (R199 to R202, R205, R208 to R210). The order in which sums and powers
round is log entry 50 (the model's choice). -/
section
namespace Sys2Proof.Machine

/-! ### The operator and the update of each millisecond (R201, R202, R205) -/

/-- Both conductors take the same two prediction rows, of the pin and of the core: those of the step matrix to the power 10,000. -/
theorem recompute_eq_modCool (s : State) (n : Nat) : s.recompute n =
    s.modCool n fun v => { v with op := (m5Pow bits10000 m5One (s.stepMatrix n (s.gFlow n (s.flowNow n)))).take 10 ++
      (m5Pow bits10000 m5One (s.stepMatrix n (s.gFlow n (s.flowNow n)))).take 10, tinSrc := s.tInSource n } := rfl

theorem exec_operatorRecompute_eq (s : State) : exec .operatorRecompute s = .next
    (s.each (s.outlets.filter fun n => (s.coolOf n).running) fun n s => s.recompute n).done := exec_operatorRecompute s

/-- Outside DORMANT the observers first start or stop as EN and the mode say, then those that run advance. -/
theorem exec_observerUpdate_of_awake {s : State} (hm : s.mode ≠ .dormant) (i0 i1 i2 i3 : Nat) :
    let t := s.each s.outlets fun n s => s.followObserver n
    exec (.observerUpdate i0 i1 i2 i3) s = .next
      (t.each (t.outlets.filter fun n => (t.coolOf n).running) fun n s =>
        s.observe n ([i0, i1, i2, i3].getD n 0)).refreshAllRoles.driveShared.done :=
  (exec_observerUpdate i0 i1 i2 i3 s).trans (finish_when_of_true (bne_iff_ne.2 hm))

/-! ### A write to OCFG (R199) -/

section enable
variable {s : State} {n v : Nat} (he : v.testBit 31 = true) (hp : bits v 29 24 ≠ 0x3F) (hq : bits v 21 16 ≠ 0x3F)
include he hp hq

/-- An observer with both pin sensors and a stable model is configured, follows EN and the mode, and has its roles judged. -/
theorem ocfgWrite_of_stable (hu : s.unstableNode n = none) :
    let t := ((((s.setB (F.COOL_OCFG_EN.nth n) true).set (F.COOL_OCFG_PIN_POS_CH.nth n) (bits v 29 24)).set
      (F.COOL_OCFG_PIN_NEG_CH.nth n) (bits v 21 16)).set (F.COOL_OCFG_T_IN_CH.nth n) (bits v 13 8)).set
      (F.COOL_OCFG_T_OUT_CH.nth n) (bits v 5 0)
    s.ocfgWrite n v = (t.followObserver n).refreshRoles n := by
  intro t
  rw [State.ocfgWrite, he, if_neg (by decide), if_neg (not_or.2 ⟨hp, hq⟩), hu]

/-- A model that is unstable at one of its nodes leaves the observer as it was. -/
theorem ocfgWrite_of_unstable {k : Nat} (hu : s.unstableNode n = some k) :
    s.ocfgWrite n v = s.err E.COOL_BAD_MODEL 0 [n, k] := by
  rw [State.ocfgWrite, he, if_neg (by decide), if_neg (not_or.2 ⟨hp, hq⟩), hu]

end enable

theorem exec_coolObserverEnable_of_outlet {s : State} {n : Fin 4} (h : s.reaches 0x1C (0x080 + n * 0x40) = true)
    (ho : s.hasOutlet n = true) (v : Word) : exec (.coolObserverEnable n v) s = .next (s.ocfgWrite n v.toNat).done := by
  rw [exec_coolObserverEnable, execCoolObserverEnable, finish_hostWrites_of_reaches h, ho, State.when_true]

/-! ### The plausibility checks of an observer that runs (R208 to R210) -/

section checks
variable {s : State} {n : Fin 4} (hr : (s.coolOf n).running = true)
include hr

/-- The pin that `neg` names is flagged, and its role judged with the flag. -/
theorem exec_pinImplausible_of_running {neg : Bool} (hb : (if neg then (s.coolOf n).pinBad1 else (s.coolOf n).pinBad0) = true) :
    exec (.pinImplausible n neg) s = .next
      ((s.setB (if neg then F.COOL_OSTAT_INNOV_NEG.nth n else F.COOL_OSTAT_INNOV_POS.nth n) true).refreshRoles n).done :=
  (exec_pinImplausible n neg s).trans (finish_when_of_true (by rw [hr, hb, Bool.and_self]))

theorem exec_orderImplausible_of_running (hb : (s.coolOf n).orderBad = true) :
    exec (.orderImplausible n) s = .next ((s.setB (F.COOL_OSTAT_ORDER.nth n) true).refreshRoles n).done :=
  (exec_orderImplausible n s).trans (finish_when_of_true (by rw [hr, hb, Bool.and_self]))

theorem exec_pressLow_of_running (hb : (s.coolOf n).pressBad = true) :
    exec (.pressLow n) s = .next (s.ev E.COOL_PRESS_LOW 0 [n, s.chVal (s.roleCh n 5)]).done :=
  (exec_pressLow n s).trans (finish_when_of_true (by rw [hr, hb, Bool.and_self]))

theorem exec_flowLow_of_running (hb : (s.coolOf n).flowBad = true) :
    exec (.flowLow n) s = .next (s.ev E.COOL_FLOW_LOW 0 [n, s.flowNow n, s.get (F.COOL_DEMAND_LPM.nth n)]).done :=
  (exec_flowLow n s).trans (finish_when_of_true (by rw [hr, hb, Bool.and_self]))

end checks

/-! ### A clearing write to OSTAT (R208) -/

/-- A write that names the positive pin's flag alone: it clears where its check is met, and the roles are judged either way. -/
theorem ostatClear_of_pos {s : State} {n v : Nat} (h7 : v.testBit 7 = true) (h8 : v.testBit 8 = false) (h9 : v.testBit 9 = false) :
    s.ostatClear n v =
      (s.when (!(s.coolOf n).pinBad0) fun s => s.setB (F.COOL_OSTAT_INNOV_POS.nth n) false).refreshRoles n := by
  simp [State.ostatClear, h7, h8, h9]

theorem exec_coolFlagClear_of_reaches {s : State} {n : Fin 4} (h : s.reaches 0x1C (0x19C + n * 0x20) = true) (v : Word) :
    exec (.coolFlagClear n v) s = .next (s.ostatClear n v.toNat).done :=
  (exec_coolFlagClear n v s).trans (finish_hostWrites_of_reaches h _)

/-- Settles O35: the operator and the update by their equations, an enabling write by the model's unstable node, a check by its guard,
a clearing write by whether the check still fails. -/
theorem cooling : Obligations.Cooling := by
  refine ⟨fun s => ?_, fun s n v => ?_, fun s n v k hr ho he hp hq hu => ?_,
    fun s i0 i1 i2 i3 hm => exec_observerUpdate_of_awake hm i0 i1 i2 i3,
    fun s n hr hb => exec_pinImplausible_of_running (neg := false) hr hb,
    fun s n hr hb => exec_pinImplausible_of_running (neg := true) hr hb, fun s n => exec_orderImplausible_of_running,
    fun s n => exec_pressLow_of_running, fun s n => exec_flowLow_of_running, fun s n v hr h7 h8 h9 hb => ?_,
    fun s n v hr h7 h8 h9 hb => ?_⟩
  · simp only [exec_operatorRecompute_eq, recompute_eq_modCool]
  · intro t hr ho he hp hq hu
    rw [exec_coolObserverEnable_of_outlet hr ho, ocfgWrite_of_stable he hp hq hu]
  · rw [exec_coolObserverEnable_of_outlet hr ho, ocfgWrite_of_unstable he hp hq hu]
  · rw [exec_coolFlagClear_of_reaches hr, ostatClear_of_pos h7 h8 h9, hb, Bool.not_false, State.when_true]
  · rw [exec_coolFlagClear_of_reaches hr, ostatClear_of_pos h7 h8 h9, hb, Bool.not_true, State.when_false]

end Sys2Proof.Machine
end

/-! PROOFS. The configuration of a link, the levels of its wires and the connector latch (R215, R218 to R222). That the shown index
stays 0xF after an accepted GAP is log entry 115, that the host's unlatch request is kept in any state of the outlet log entry 53 (the
model's choices). PILOT_MODE 3 and T1S_MODE 3 are stored, where entry 53 has BAD_CFG. -/
section
namespace Sys2Proof.Machine

/-! ### A write to CFG (R215, R220, R222) -/

/-- CFG as the word `v` gives it, with KIND `kind`. -/
def State.linkCfgStored (s : State) (n v kind : Nat) : State :=
  let t := ((s.set (F.LINK_CFG_GAP_MS.inst n) (bits v 31 24)).set (F.LINK_CFG_DEBOUNCE_MS.inst n) (bits v 23 16)).setB
    (F.LINK_CFG_ALLOW_D.inst n) (v.testBit 12)
  ((t.set (F.LINK_CFG_T1S_MODE.inst n) (bits v 11 10)).set (F.LINK_CFG_PILOT_MODE.inst n) (bits v 9 8)).set (F.LINK_CFG_KIND.inst n) kind

/-- The windows of a new kind, and the levels of the old one forgotten. -/
def State.linkKindLoaded (s : State) (n kind : Nat) : State :=
  let a := s.loadWindows n kind
  let b := a.when (a.combined n != 0) fun s => s.ev E.LINK_UNPLUGGED n [(s.ostate n).code]
  (((b.set (F.LINK_STATUS_LEVEL_A.inst n) 0).set (F.LINK_STATUS_LEVEL_B.inst n) 0).set (F.LINK_STATUS_COMBINED.inst n) 0).setLink n {}

section cfg
variable {s : State} {n v : Nat}

theorem linkCfg_of_busy (hk : bits v 1 0 ≠ s.linkKind n) (ho : s.ostate n ≠ .idle) :
    s.linkCfg n v = s.err E.LINK_KIND_BUSY n [(s.ostate n).code] := if_pos ⟨hk, ho⟩

variable (hb : ¬(bits v 1 0 ≠ s.linkKind n ∧ s.ostate n ≠ .idle))
include hb

/-- The active level is forced in SEALED_SERVICE alone. -/
theorem linkCfg_of_forcedActive (hp : bits v 9 8 = 2) (hm : s.mode ≠ .sealedService) : s.linkCfg n v = s.badCfg n 0x040 :=
  (if_neg hb).trans (if_pos ⟨hp, hm⟩)

/-- Any other write, but for the follower's T1S_MODE, which asks for a NODE_ID as well: CFG is stored, and a changed kind loaded. -/
theorem linkCfg_of_accepted (hp : bits v 9 8 ≠ 2) (ht : bits v 11 10 ≠ 1) :
    s.linkCfg n v = ((s.linkCfgStored n v (bits v 1 0)).when (bits v 1 0 != s.linkKind n) fun t =>
      t.linkKindLoaded n (bits v 1 0)).refreshPilot n :=
  (if_neg hb).trans ((if_neg fun h => hp h.1).trans (if_neg fun h => ht h.1))

end cfg

theorem linkCfg_of_sameKind {s : State} {n v : Nat} (hk : bits v 1 0 = s.linkKind n) (hp : bits v 9 8 ≠ 2) (ht : bits v 11 10 ≠ 1) :
    s.linkCfg n v = (s.linkCfgStored n v (s.linkKind n)).refreshPilot n := by
  rw [linkCfg_of_accepted (fun h => h.1 hk) hp ht, hk, bne_self_eq_false, State.when_false]

theorem linkCfg_of_newKind {s : State} {n v : Nat} (hk : bits v 1 0 ≠ s.linkKind n) (ho : s.ostate n = .idle) (hp : bits v 9 8 ≠ 2)
    (ht : bits v 11 10 ≠ 1) :
    s.linkCfg n v = ((s.linkCfgStored n v (bits v 1 0)).linkKindLoaded n (bits v 1 0)).refreshPilot n := by
  rw [linkCfg_of_accepted (fun h => h.2 ho) hp ht, bne_iff_ne.2 hk, State.when_true]

/-- After the write the vehicle level is judged again, on a link whose levels are judged (R219). -/
theorem exec_linkCfgWrite_of_reaches {s t : State} {n : Fin 4} {v : Word} (hr : s.reaches (0x1D + n) 0x040 = true)
    (h : s.linkCfg n v.toNat = t) :
    exec (.linkCfgWrite n v) s = .next (t.when (t.linkOn n) fun u => u.recombine n).done := by
  rw [exec_linkCfgWrite, execLinkCfgWrite, finish_hostWrites_of_reaches hr, State.linkCfgWrite, h]

/-! ### CP_PWM (R222) -/

theorem exec_cpPwmWrite_of_reaches {s : State} {n : Fin 4} (hr : s.reaches (0x1D + n) 0x058 = true) (v : Word) :
    exec (.cpPwmWrite n v) s = .next (s.cpPwmWrite n v.toNat).done :=
  (exec_cpPwmWrite n v s).trans (finish_hostWrites_of_reaches hr _)

theorem cpPwmWrite_of_period {s : State} {n v : Nat} (hp : [500, 625, 800, 1000, 1250, 1600, 2000].contains (bits v 31 16) = true) :
    s.cpPwmWrite n v = (s.set (F.LINK_CP_PWM_PERIOD_US.inst n) (bits v 31 16)).set (F.LINK_CP_PWM_DUTY.inst n) (bits v 9 0) := if_pos hp

theorem cpPwmWrite_of_otherPeriod {s : State} {n v : Nat}
    (hp : [500, 625, 800, 1000, 1250, 1600, 2000].contains (bits v 31 16) = false) : s.cpPwmWrite n v = s.badCfg n 0x058 :=
  if_neg (ne_true_of_eq_false hp)

/-! ### The levels (R218, R219) -/

section levels
variable {s : State} {n : Fin 4} {isB : Bool} {mv : Int} (hon : s.linkOn n = true)
include hon

theorem exec_levelAccepted_of_window (hl : s.levelOf n isB mv ≠ 0xF) :
    exec (.levelAccepted n isB mv) s = .next (s.acceptLevel n isB mv).done :=
  (exec_levelAccepted n isB mv s).trans ((finish_when_of_true hon).trans (congrArg State.finish (if_neg hl)))

/-- A value in no window is only shown. -/
theorem exec_levelAccepted_of_gap (hl : s.levelOf n isB mv = 0xF) :
    exec (.levelAccepted n isB mv) s = .next (s.showLevel n isB mv).done :=
  (exec_levelAccepted n isB mv s).trans ((finish_when_of_true hon).trans (congrArg State.finish (if_pos hl)))

theorem exec_gapFault_of_gap (hl : s.levelOf n isB mv = 0xF) :
    exec (.gapFault n isB mv) s = .next ((s.showLevel n isB mv).signalFault n isB).done :=
  (exec_gapFault n isB mv s).trans (finish_when_of_true (by rw [hon, hl]; rfl))

theorem exec_cpDiodeFault_of_high (hk : s.linkKind n = 2) (hp : s.on (F.LINK_STATUS_PWM_ON.inst n) = true)
    (hm : s.getI (F.LINK_CP_SAMP_LOW_MAX.inst n) < mv) :
    exec (.cpDiodeFault n mv) s = .next ((s.setI (F.LINK_MEAS_A_LOW.inst n) mv).signalFault n false).done :=
  (exec_cpDiodeFault n mv s).trans (finish_when_of_true (by rw [hon, hk, hp, decide_eq_true hm]; rfl))

end levels

/-! ### The latch (R221) -/

theorem latchOff_of_energised {s : State} {n : Nat} (hc : s.on (F.LINK_STATUS_LATCH_CMD.inst n) = true) (cause : Nat) :
    s.latchOff n cause = (((s.setB (F.LINK_STATUS_LATCH_CMD.inst n) false).modLink n fun l => { l with unlatch := 0 }).ownerDrive 3
      (s.get (F.LINK_LATCH_CH.inst n)) 0 0).ev E.LINK_UNLATCHED n [cause] := by
  rw [State.latchOff, hc]
  rfl

/-- The session is one of the states in which the latch is energised. -/
theorem exec_latchEnergise_of_session {s : State} {n : Fin 4} (hon : s.linkOn n = true) (ha : s.linkActs = true)
    (hc : s.get (F.LINK_LATCH_CH.inst n) < 32) (hl : s.on (F.LINK_STATUS_LATCH_CMD.inst n) = false) (ho : s.ostate n = .session) :
    exec (.latchEnergise n) s = .next (((s.setB (F.LINK_STATUS_LATCH_CMD.inst n) true).ownerDrive 3
      (s.get (F.LINK_LATCH_CH.inst n)) 1 0).ev E.LINK_LATCHED n []).done :=
  (exec_latchEnergise n s).trans (finish_when_of_true (by rw [hon, ha, decide_eq_true hc, hl, ho]; rfl))

/-- A cause lets the latch go below 60 V, unless a trip holds it. -/
theorem exec_latchRelease_of_release {s : State} {n : Fin 4} (hh : s.hasOutlet n = true) (ha : s.linkActs = true)
    (hl : s.latchHeld n = false) (ho : s.ostate n = .release) (hv : (s.vc n).natAbs < 60000) (hu : s.unlatchCause n ≠ 0) :
    exec (.latchRelease n) s = .next (s.latchOff n (s.unlatchCause n)).done :=
  (exec_latchRelease n s).trans (finish_when_of_true (by rw [hh, ha, hl, ho, decide_eq_true hv, bne_iff_ne.2 hu]; rfl))

theorem exec_latchRelease_of_held {s : State} {n : Fin 4} (hl : s.latchHeld n = true) :
    exec (.latchRelease n) s = .next s.done :=
  (exec_latchRelease n s).trans (finish_when_of_false (by rw [hl, Bool.not_true]; simp))

theorem exec_linkUnlatch_of_reaches {s : State} {n : Fin 4} (hr : s.reaches (0x1D + n) 0x008 = true) :
    exec (.linkUnlatch n) s = .next (s.modLink n fun l => { l with unlatch := 2 }).done :=
  (exec_linkUnlatch n s).trans (finish_hostWrites_of_reaches hr _)

theorem exec_latchAutoTimeout_of_release {s : State} {n : Fin 4} (hh : s.hasOutlet n = true) (ho : s.ostate n = .release)
    (ha : s.get (F.LINK_LATCH_AUTO_S.inst n) ≠ 0) :
    exec (.latchAutoTimeout n) s = .next (s.modLink n fun l => { l with unlatch := 3 }).done :=
  (exec_latchAutoTimeout n s).trans (finish_when_of_true (by rw [hh, ho, bne_iff_ne.2 ha]; rfl))

/-- Under power, a latch that does not report closed trips SF7. -/
theorem exec_latchFault_of_energy {s : State} {n : Fin 4} (hh : s.hasOutlet n = true) (hf : s.get (F.LINK_LATCH_FB_CH.inst n) ≠ 0x3F)
    (hc : s.on (F.LINK_STATUS_LATCH_CMD.inst n) = true) :
    let t := (s.setB (F.LINK_STATUS_LATCH_FB.inst n) false).ev E.LINK_LATCH_FAULT n [1, 0]
    t.ostate n = .energy → exec (.latchFault n false) s = .next ((t.tripOut n 7).faultRamp n).done := by
  intro t ho
  refine (exec_latchFault n false s).trans ((finish_when_of_true (by rw [hh, hc, bne_iff_ne.2 hf]; rfl)).trans ?_)
  simp only [hc, if_true, Bool.false_eq_true, if_false]
  rw [ho]

/-- Settles O36: CFG by whether the kind changes and may, a level by whether it lies in a window, the latch by its command's guard. -/
theorem linkSignals : Obligations.LinkSignals :=
  ⟨fun _ _ _ hr hk ho => exec_linkCfgWrite_of_reaches hr (linkCfg_of_busy hk ho),
    fun _ _ _ hr hk hp ht => exec_linkCfgWrite_of_reaches hr (linkCfg_of_sameKind hk hp ht),
    fun _ _ _ hr hk ho hp ht => exec_linkCfgWrite_of_reaches hr (linkCfg_of_newKind hk ho hp ht),
    fun _ _ _ hr hb hp hm => exec_linkCfgWrite_of_reaches hr (linkCfg_of_forcedActive hb hp hm),
    fun _ _ v hr hp => cpPwmWrite_of_period hp ▸ exec_cpPwmWrite_of_reaches hr v,
    fun _ _ v hr hp => cpPwmWrite_of_otherPeriod hp ▸ exec_cpPwmWrite_of_reaches hr v,
    fun _ _ _ _ hon hl => exec_levelAccepted_of_window hon hl, fun _ _ _ _ => exec_levelAccepted_of_gap,
    fun _ _ _ => rfl, fun _ _ _ _ => exec_gapFault_of_gap, fun _ _ _ => exec_cpDiodeFault_of_high,
    fun _ _ => exec_latchEnergise_of_session,
    fun s n hh ha hl ho hv hu hc => latchOff_of_energised hc (s.unlatchCause n) ▸ exec_latchRelease_of_release hh ha hl ho hv hu,
    fun _ _ => exec_latchRelease_of_held, fun _ _ => exec_linkUnlatch_of_reaches, fun _ _ => exec_latchAutoTimeout_of_release,
    fun _ _ => exec_latchFault_of_energy⟩

end Sys2Proof.Machine
end

/-! PROOFS. The transports of a link: single-pair Ethernet, the modem's key, and the restart (R223 to R225, R227 to R229). That
PLCA_STATUS_OK carries whether the other beacons have fallen silent is log entry 115, the result 0xFF of a key that was never
confirmed log entry 54 (the model's choices). -/
section
namespace Sys2Proof.Machine

/-! ### Who acts on what arrives (R229) -/

theorem onLink_of_other {s : State} (hm : s.linkMine = false) (i : Instr) (f : State → State) : s.onLink i f = s := by
  rw [State.onLink, hm]
  rfl

/-- During VAULT and HANDOVER what arrives is kept. -/
theorem onLink_of_held {s : State} (hm : s.linkMine = true) (hr : s.stagesRun = false) (i : Instr) (f : State → State) :
    s.onLink i f = { s with mir := { s.mir with kept := s.mir.kept ++ [i] } } := by
  rw [State.onLink, hm, hr]
  rfl

theorem finish_onLink_of_mine {s t : State} {i : Instr} {f : State → State} (hm : s.linkMine = true) (hr : s.stagesRun = true)
    (h : f s = t) : (s.onLink i f).finish = .next t.done := by
  rw [onLink_of_mine hm hr, h, State.finish]

/-! ### 10BASE-T1S (R223, R228) -/

section t1s
variable {s : State} {n : Nat} (hon : s.linkOn n = true) (hk : s.linkKind n = 1)
include hon hk

/-- With PLCA the powered PHY still waits for its status. -/
theorem phyStart_of_plca (hl : s.lstate n = 1) (hp : (s.link n).phyOn = false)
    (ht : (s.modLink n fun l => { l with phyOn := true }).t1sMode n < 2) :
    s.phyStart n = s.modLink n fun l => { l with phyOn := true } := by
  rw [State.phyStart, hon, hk, hl, hp]
  exact if_neg (Nat.not_le.2 ht)

theorem plcaConflict_of_coordinator (ht : s.t1sMode n = 0) (hp : (s.link n).phyOn = true) (source : Nat) :
    s.plcaConflict n source =
      ((s.ev E.LINK_PLCA_CONFLICT n [source]).modLink n fun l => { l with conflict := true }).linkLost n := by
  rw [State.plcaConflict, hon, hk, ht, hp]
  rfl

section status
variable {quiet : Bool} (hp : (s.link n).phyOn = true) (ht : s.t1sMode n < 2)
include hp ht

/-- A coordinator in conflict waits until no other node's beacons are received. -/
theorem plcaOk_of_conflict :
    let t := s.modLink n fun l => { l with conflict := l.conflict && !quiet }
    (t.link n).conflict = true → s.plcaOk n quiet = t := by
  intro t hc
  rw [State.plcaOk, hon, hk, hp, decide_eq_true ht]
  exact if_pos hc

theorem plcaOk_of_starting :
    let t := s.modLink n fun l => { l with conflict := l.conflict && !quiet }
    (t.link n).conflict = false → t.lstate n = 1 → s.plcaOk n quiet = t.linkReady n := by
  intro t hc hl
  rw [State.plcaOk, hon, hk, hp, decide_eq_true ht]
  refine (if_neg (ne_true_of_eq_false hc)).trans ?_
  rw [hl]
  rfl

theorem plcaOk_of_lost :
    let t := s.modLink n fun l => { l with conflict := l.conflict && !quiet }
    (t.link n).conflict = false → t.lstate n = 5 →
      s.plcaOk n quiet = (t.linkReady n).ev E.LINK_TRANSPORT_RESTORED n [t.since (t.link n).lostTick / ticksMs] := by
  intro t hc hl
  rw [State.plcaOk, hon, hk, hp, decide_eq_true ht]
  refine (if_neg (ne_true_of_eq_false hc)).trans ?_
  rw [hl]
  rfl

end status
end t1s

/-! ### A transport that is lost, and the modem's key (R223 to R225) -/

section modem
variable {s : State} {n : Fin 4} (hon : s.linkOn n = true)
include hon

theorem exec_transportLost_of_ready (hm : s.linkMine = true) (hk : s.linkKind n = 1) (hl : s.lstate n = 4) (hr : s.stagesRun = true) :
    exec (.transportLost n) s = .next ((s.linkLost n).ev E.LINK_TRANSPORT_LOST n [0]).done :=
  (exec_transportLost n s).trans (finish_when_of_true (by rw [hon, hm, hk, hl, hr]; rfl))

theorem exec_rmiiRefclkLost_of_modem (hm : s.linkMine = true) (hk : s.linkKind n = 2) :
    exec (.rmiiRefclkLost n) s = .next ((s.linkLost n).ev E.LINK_TRANSPORT_LOST n [1]).done :=
  (exec_rmiiRefclkLost n s).trans (finish_when_of_true (by rw [hon, hm, hk]; rfl))

theorem keyCnf_of_success (hk : s.linkKind n = 2) (hl : s.lstate n = 2) :
    s.keyCnf n 0 = ((s.set (F.LINK_STATUS_LSTATE.inst n) 3).setStep n 1).refreshPilot n := by
  rw [State.keyCnf, hon, hk, hl]
  rfl

theorem exec_modemNoKey_of_keying (hm : s.linkMine = true) (hk : s.linkKind n = 2) (hl : s.lstate n = 2) :
    exec (.modemNoKey n) s = .next ((s.ev E.LINK_MODEM_NO_KEY n [0xFF]).linkFailed n).done :=
  (exec_modemNoKey n s).trans (finish_when_of_true (by rw [hon, hm, hk, hl]; rfl))

end modem

/-! ### The restart (R227) -/

section restart
variable {s : State} {n : Fin 4} (hr : s.reaches (0x1D + n) 0x008 = true) (hon : s.linkOn n = true) (ho : s.ostate n ≠ .idle)
include hr hon ho

theorem exec_linkRestart_of_mcs (hk : s.linkKind n = 1) : exec (.linkRestart n) s = .next (s.startTransport n).done := by
  rw [exec_linkRestart, execLinkRestart, finish_hostWrites_of_reaches hr, hon, bne_iff_ne.2 ho, Bool.and_self, State.when_true, if_pos hk]

/-- A modem link starts again, with a new key, only once it has failed. -/
theorem exec_linkRestart_of_failed (hk : s.linkKind n = 2) (hl : s.lstate n = 6) :
    exec (.linkRestart n) s = .next (s.startKeying n).done := by
  rw [exec_linkRestart, execLinkRestart, finish_hostWrites_of_reaches hr, hon, bne_iff_ne.2 ho, Bool.and_self, State.when_true,
    if_neg (by rw [hk]; decide), if_pos hl]

end restart

/-- Settles O37: what arrives by who acts on it and the state of the link, a loss and a missing key by their guards, the restart by the
link's kind. -/
theorem transports : Obligations.Transports :=
  ⟨fun _ i f => ⟨fun hm => onLink_of_other hm i f, fun hm hr => onLink_of_held hm hr i f⟩,
    fun s n hm hr hon hk hl hp ht => (exec_phyStart n s).trans (finish_onLink_of_mine hm hr (phyStart_of_plca hon hk hl hp ht)),
    fun s n quiet hm hr hon hk hp ht hc hl =>
      (exec_plcaStatusOk ⟨n, quiet⟩ s).trans (finish_onLink_of_mine hm hr (plcaOk_of_starting hon hk hp ht hc hl)),
    fun s n quiet hm hr hon hk hp ht hc hl =>
      (exec_plcaStatusOk ⟨n, quiet⟩ s).trans (finish_onLink_of_mine hm hr (plcaOk_of_lost hon hk hp ht hc hl)),
    fun s n quiet hm hr hon hk hp ht hc =>
      (exec_plcaStatusOk ⟨n, quiet⟩ s).trans (finish_onLink_of_mine hm hr (plcaOk_of_conflict hon hk hp ht hc)),
    fun _ _ => exec_transportLost_of_ready,
    fun s n src hm hr hon hk ht hp =>
      (exec_plcaConflict n src s).trans (finish_onLink_of_mine hm hr (plcaConflict_of_coordinator hon hk ht hp src)),
    fun _ _ => exec_rmiiRefclkLost_of_modem,
    fun s n hm hr hon hk hl => (exec_cmSetKeyCnf n 0 s).trans (finish_onLink_of_mine hm hr (keyCnf_of_success hon hk hl)),
    fun _ _ => exec_modemNoKey_of_keying, fun _ _ => exec_linkRestart_of_mcs, fun _ _ => exec_linkRestart_of_failed⟩

end Sys2Proof.Machine
end

/-! PROOFS. The matching of the modem (R226 to R228, Table 10.6). How the mean attenuation rounds, and that messages of another run or
step and a sound by itself have no effect, is log entry 54 (the model's choice). -/
section
namespace Sys2Proof.Machine

/-! ### The request that binds the run (R226) -/

section slac
variable {s : State} {n : Nat}

/-- The first request, of a vehicle that is connected while CP PWM runs, binds the run. -/
theorem slacParmReq_of_unbound (run : Nat) (hon : s.linkOn n = true) (hk : s.linkKind n = 2) (hl : s.lstate n = 3)
    (hc : s.combined n = 1) (hp : s.on (F.LINK_STATUS_PWM_ON.inst n) = true) (hu : (s.link n).runId = none) (hs : s.slacStep n ≤ 2) :
    let t := (s.modLink n fun l => { l with runId := some run, attenSum := 0, attenCnt := 0 }).set (F.LINK_SLAC_STAT_SOUNDS_RX.inst n) 0
    s.slacParmReq n run =
      (t.setStep n 2).emit (.slac n 2 [run, t.get (F.LINK_SLAC_CFG_SOUNDS.inst n),
        (t.get (F.LINK_SLAC_CFG_SOUND_TO_10MS.inst n) + 9) / 10]) := by
  rw [State.slacParmReq, hon, hk, hl, hc, hp, hu, decide_eq_true hs]
  rfl

/-! ### Messages of the run that is bound -/

section bound
variable {run : Nat} (hb : s.slacRun n run = true)
include hb

theorem slacStart_of_waiting (hs : s.slacStep n = 2) : s.slacStart n run = s.setStep n 3 := by
  rw [State.slacStart, hb, hs]
  rfl

theorem slacRsp_of_waiting (hs : s.slacStep n = 5) (success : Bool) :
    s.slacRsp n run success = if success then s.setStep n 6 else s.slacFail n := by
  rw [State.slacRsp, hb, hs]
  rfl

/-- The match is answered with NID and NMK, and the link is READY. -/
theorem slacMatch_of_waiting (hs : s.slacStep n = 6) (mac : Nat) :
    let t := (s.emit (.slac n 4 [run, s.get2 (F.LINK_NID_HI_NID.inst n) (F.LINK_NID_LO_NID.inst n), (s.link n).nmk])).modLink n
      fun l => { l with vehMac := mac }
    s.slacMatch n run mac =
      ((t.ev E.LINK_SLAC_MATCHED n [mac % 2 ^ 32, mac / 2 ^ 32, t.get (F.LINK_SLAC_STAT_ATTEN_DB.inst n)]).setStep n 0).linkReady n := by
  rw [State.slacMatch, hb, hs]
  rfl

theorem slacValidate_of_run : s.slacValidate n run = s.emit (.slac n 5 [run]) := by
  rw [State.slacValidate, hb, State.when_true]

end bound

/-- A sound itself changes nothing: what is counted is the profile that the modem makes of it. -/
theorem slacSound_eq (run : Nat) : s.slacSound n run = s := by
  rw [State.slacSound]
  cases s.slacRun n run && s.slacStep n == 3 with
  | false => rw [State.when_false]
  | true => rw [State.when_true, id]

/-! ### The profiles (R226) -/

/-- A profile added to the sums, and counted. -/
def State.profileCounted (s : State) (n : Nat) (groups : List Nat) : State :=
  (s.modLink n fun l => { l with attenSum := l.attenSum + groups.sum, attenCnt := l.attenCnt + groups.length }).incSat
    (F.LINK_SLAC_STAT_SOUNDS_RX.inst n)

/-- The attenuation is reported with the last of the profiles that were asked for. -/
theorem slacProfile_of_sounding (hon : s.linkOn n = true) (hk : s.linkKind n = 2) (hl : s.lstate n = 3) (hs : s.slacStep n = 3)
    (groups : List Nat) :
    let t := s.profileCounted n groups
    s.slacProfile n groups =
      if t.get (F.LINK_SLAC_CFG_SOUNDS.inst n) ≤ t.get (F.LINK_SLAC_STAT_SOUNDS_RX.inst n) then t.sendAtten n else t := by
  rw [State.slacProfile, hon, hk, hl, hs]
  rfl

end slac

/-! ### The step that runs out (R227) -/

section timeout
variable {s : State} {n : Fin 4} (hon : s.linkOn n = true) (hm : s.linkMine = true) (hk : s.linkKind n = 2) (hl : s.lstate n = 3)
  (hr : s.stagesRun = true)
include hon hm hk hl hr

theorem slacTimeout_guard : (s.linkOn n && s.linkMine && s.linkKind n == 2 && s.lstate n == 3 && s.stagesRun) = true := by
  rw [hon, hm, hk, hl, hr]
  rfl

theorem exec_slacStepTimeout_of_started (hs : s.slacStep n = 2) : exec (.slacStepTimeout n) s = .next (s.slacFail n).done := by
  rw [exec_slacStepTimeout, execSlacStepTimeout, finish_when_of_true (slacTimeout_guard hon hm hk hl hr), hs]
  rfl

/-- With at least one profile the step of the soundings goes on. -/
theorem exec_slacStepTimeout_of_profiles (hs : s.slacStep n = 3) (ha : (s.link n).attenCnt ≠ 0) :
    exec (.slacStepTimeout n) s = .next (s.sendAtten n).done := by
  rw [exec_slacStepTimeout, execSlacStepTimeout, finish_when_of_true (slacTimeout_guard hon hm hk hl hr), hs]
  exact congrArg State.finish (if_neg ha)

end timeout

/-- Settles O38: each message by the run and the step it belongs to, a profile by whether it is the last, the limit by the step. -/
theorem slac : Obligations.Slac :=
  ⟨fun s n run hm hr hon hk hl hc hp hu hs =>
      (exec_cmSlacParmReq n run s).trans (finish_onLink_of_mine hm hr (slacParmReq_of_unbound run hon hk hl hc hp hu hs)),
    fun s n run hm hr hb hs => (exec_cmStartAttenCharInd n run s).trans (finish_onLink_of_mine hm hr (slacStart_of_waiting hb hs)),
    fun s n run hm hr => (exec_cmMnbcSoundInd n run s).trans (finish_onLink_of_mine hm hr (slacSound_eq run)),
    fun s n groups hm hr hon hk hl hs hx => (exec_cmAttenProfileInd n groups s).trans
      (finish_onLink_of_mine hm hr ((slacProfile_of_sounding hon hk hl hs groups).trans (if_pos hx))),
    fun s n groups hm hr hon hk hl hs hx => (exec_cmAttenProfileInd n groups s).trans
      (finish_onLink_of_mine hm hr ((slacProfile_of_sounding hon hk hl hs groups).trans (if_neg (Nat.not_le.2 hx)))),
    fun s n run hm hr hb hs =>
      (exec_cmAttenCharRsp n run true s).trans (finish_onLink_of_mine hm hr (slacRsp_of_waiting hb hs true)),
    fun s n run hm hr hb hs =>
      (exec_cmAttenCharRsp n run false s).trans (finish_onLink_of_mine hm hr (slacRsp_of_waiting hb hs false)),
    fun s n run mac hm hr hb hs =>
      (exec_cmSlacMatchReq n run mac s).trans (finish_onLink_of_mine hm hr (slacMatch_of_waiting hb hs mac)),
    fun s n run hm hr hb => (exec_cmValidateReq n run s).trans (finish_onLink_of_mine hm hr (slacValidate_of_run hb)),
    fun _ _ => exec_slacStepTimeout_of_started, fun _ _ => exec_slacStepTimeout_of_profiles⟩

end Sys2Proof.Machine
end

/-! PROOFS. The vehicle's network: the address check, neighbour and echo answers, discovery and the TCP connection (R237 to R240,
R266). -/
section
namespace Sys2Proof.Machine

/-! ### Packets for the context's address (R237, R238) -/

/-- A frame of another node that carries IPv6 is taken as a packet. -/
theorem ipFrame_of_ipv6 {s : State} {n : Nat} {h : LinkFrame} (hs : h.src ≠ s.macOf n) (ht : h.etherType = 0x86DD) (f : State → State) :
    s.ipFrame n h f = f s := by
  rw [State.ipFrame, if_neg hs, if_pos ht]

/-- A discovery request answered with a security, from which the connection is awaited. -/
def State.sdpAnswered (s : State) (n src sec : Nat) : State :=
  let t := (s.modCtx n fun c => { c with sdpFrom := some src, sdpSec := sec }).set (F.VDE_CTX_STATE_CONN.nth n)
    (max 2 (s.get (F.VDE_CTX_STATE_CONN.nth n)))
  t.emit (.net n 3 [src, t.ctxAddr n, t.get F.VDE_TCP_PORT, sec])

/-- A connection opened by its vehicle, without TLS where discovery has answered so (R239). -/
def State.tcpOpened (s : State) (n src : Nat) : State :=
  (s.setCtx n { s.ctx n with tcp := true, peer := src, connSec := (s.ctx n).sdpSec, closing := false, retx := 0, unacked := false, tls := 0,
                             retried := false, certOk := false }).set (F.VDE_CTX_STATE_CONN.nth n) 3

section packets
variable {s : State} {n : Nat} {h : LinkFrame} {src : Nat} (hs : h.src ≠ s.macOf n) (ht : h.etherType = 0x86DD) (hu : s.ctxUp n = true)
include hs ht hu

theorem icmpNs_of_own (hl : localSrc src = true) : s.icmpNs n h src (s.ctxAddr n) = s.emit (.net n 1 [src, s.ctxAddr n]) := by
  rw [State.icmpNs, ipFrame_of_ipv6 hs ht, hu, hl, beq_self_eq_true]
  rfl

theorem icmpEcho_of_own (hl : localSrc src = true) (data : List Nat) :
    s.icmpEcho n h src (s.ctxAddr n) data = s.emit (.net n 2 (src :: data)) := by
  rw [State.icmpEcho, ipFrame_of_ipv6 hs ht, hu, hl, beq_self_eq_true]
  rfl

/-- Discovery is answered in OUT_LINK, except while the grammar tables load. -/
theorem sdpRequest_of_own {security : Nat} (ho : s.ostate n = .link) (he : s.on F.VDE_CTRL_EXI_LOAD = false) (hl : localSrc src = true)
    (hsec : security = 0 ∨ security = 0x10) :
    s.sdpRequest n h src (s.ctxAddr n) 15118 1 0xFE security 0 = s.sdpAnswered n src (s.sdpAnswer security) := by
  have hv : (security == 0 || security == 0x10) = true := by simpa using hsec
  rw [State.sdpRequest, ipFrame_of_ipv6 hs ht, hu, ho, he, hl, hv, beq_self_eq_true (s.ctxAddr n)]
  rfl

/-! ### The connection (R239) -/

/-- A SYN from the vehicle that discovery has answered opens the connection. -/
theorem tcpSyn_of_discovered (hc : (s.ctx n).tcp = false) (hf : (s.ctx n).sdpFrom = some src) :
    s.tcpSyn n h src (s.get F.VDE_TCP_PORT) =
      ((s.tcpOpened n src).when ((s.ctx n).sdpSec == 0x10) fun s => s.set (F.VDE_CTX_STATE_SEC.nth n) 1).segment n 4 [src, 1220, 8192] := by
  rw [State.tcpSyn, ipFrame_of_ipv6 hs ht, hu, State.when_true]
  exact if_pos ⟨by rw [hc, Bool.not_false], hf, rfl⟩

/-- A context has one connection: another SYN draws RST. -/
theorem tcpSyn_of_connected (hc : (s.ctx n).tcp = true) (port : Nat) : s.tcpSyn n h src port = s.segment n 5 [src] := by
  rw [State.tcpSyn, ipFrame_of_ipv6 hs ht, hu, State.when_true]
  exact if_neg fun hopen => by simp [hc] at hopen

/-- What a segment of the open connection does: it acknowledges, its data is acknowledged, a message too long or FIN closes. -/
theorem tcpSegment_of_connected (hc : (s.ctx n).tcp = true) (hp : (s.ctx n).peer = src) (len v2g : Nat) (ack fin : Bool) :
    s.tcpSegment n h src len v2g ack fin =
      let s := s.when ack fun s => s.modCtx n fun c => { c with unacked := false, retx := 0 }
      if 8192 < v2g then ((s.ev E.VDE_BAD_MESSAGE n [1, v2g]).closeTcp n).dropConn n
      else
        let s := s.when (decide (len ≠ 0)) fun s => s.segment n 6 [len]
        if fin then (s.closeTcp n).dropConn n else s := by
  rw [State.tcpSegment, ipFrame_of_ipv6 hs ht, hu, hc, hp, beq_self_eq_true]
  rfl

end packets

section timers
variable {s : State} {n : Fin 4}

/-- The end of the address check: the address is in use, or given up for a conflict. -/
theorem exec_dadDone_of_checking (ho : s.vdeOwn n = true) (hd : (s.ctx n).dad = 1) (conflict : Bool) :
    exec (.dadDone n conflict) s = .next (State.done (if conflict then
      (s.modCtx n fun c => { c with dad := 3 }).ev E.VDE_ADDR_CONFLICT n [s.ctxAddr n % 2 ^ 32, s.ctxAddr n / 2 ^ 32]
      else (s.modCtx n fun c => { c with dad := 2 }).set (F.VDE_CTX_STATE_CONN.nth n) 1)) :=
  (exec_dadDone n conflict s).trans (finish_when_of_true (by rw [ho, hd]; rfl))

/-- With nothing acknowledged in time the data goes out again, six times; then the connection is reset. -/
theorem exec_tcpRto_of_unacked (ho : s.hasOutlet n = true) (hx : s.exclusive = true) (hc : (s.ctx n).tcp = true)
    (hu : (s.ctx n).unacked = true) :
    exec (.tcpRto n) s = .next (State.done (if 6 ≤ (s.ctx n).retx then (s.segment n 5 []).dropConn n
      else (s.modCtx n fun c => { c with retx := (s.ctx n).retx + 1 }).segment n 7
        [min 3200 (s.get F.VDE_TCP_RTO_MS * 2 ^ ((s.ctx n).retx + 1))])) :=
  (exec_tcpRto n s).trans (finish_when_of_true (by rw [ho, hx, hc, hu]; rfl))

end timers

/-- Settles O39: each packet by whose it is and the state of the connection, the two timers by what they find. -/
theorem vehicleNetwork : Obligations.VehicleNetwork := by
  refine ⟨fun s n ho hd => exec_dadDone_of_checking ho hd false, fun s n ho hd => exec_dadDone_of_checking ho hd true,
    fun s n h src hm hr hs ht hu hl => (exec_icmpv6NsRx n ⟨h, src⟩ _ s).trans (finish_onLink_of_mine hm hr (icmpNs_of_own hs ht hu hl)),
    fun s n h src data hm hr hs ht hu hl =>
      (exec_icmpv6EchoRx n ⟨h, src⟩ _ data s).trans (finish_onLink_of_mine hm hr (icmpEcho_of_own hs ht hu hl data)),
    fun s n h src hm hr hs ht hu ho he hl => (exec_sdpRequestRx n ⟨h, src⟩ _ _ _ _ _ _ s).trans
      (finish_onLink_of_mine hm hr (sdpRequest_of_own hs ht hu ho he hl (.inl rfl))),
    fun s n h src hm hr hs ht hu hc hf hx => (exec_tcpSynRx n ⟨h, src⟩ _ s).trans (finish_onLink_of_mine hm hr ?_),
    fun s n h src port hm hr hs ht hu hc =>
      (exec_tcpSynRx n ⟨h, src⟩ port s).trans (finish_onLink_of_mine hm hr (tcpSyn_of_connected hs ht hu hc port)),
    fun s n h src len v2g hm hr hs ht hu hc hp hv hl => (exec_tcpSegmentRx n ⟨h, src⟩ len v2g true false s).trans
      (finish_onLink_of_mine hm hr ?_),
    fun s n h src len v2g hm hr hs ht hu hc hp hv => (exec_tcpSegmentRx n ⟨h, src⟩ len v2g false false s).trans
      (finish_onLink_of_mine hm hr ((tcpSegment_of_connected hs ht hu hc hp len v2g false false).trans (if_pos hv))),
    fun s n ho hx hc hu hk => ?_, fun s n ho hx hc hu hk => ?_⟩
  · exact (tcpSyn_of_discovered hs ht hu hc hf).trans (by rw [State.tcpOpened, hx]; rfl)
  · refine (tcpSegment_of_connected hs ht hu hc hp len v2g true false).trans ((if_neg (Nat.not_lt.2 hv)).trans ?_)
    rw [if_neg Bool.false_ne_true, decide_eq_true hl]
    rfl
  · rw [exec_tcpRto_of_unacked ho hx hc hu, if_neg (Nat.not_le.2 hk)]
  · rw [exec_tcpRto_of_unacked ho hx hc hu, if_pos (Nat.le_of_eq hk.symm)]

end Sys2Proof.Machine
end

/-! PROOFS. Setting up a session, from the choice of the protocol to the authorisation (R245, R248, R249, R252, R253, R260). That
a session's ID is a free value is log entry 1, how identifiers and payments are judged log entry 57, that a late answer to a
certificate installation is drawn by the next request log entry 116 (the model's choices). -/
section
namespace Sys2Proof.Machine

/-! ### The choice of the protocol (R248) -/

/-- The station's own choice: the protocol it ranks first among the offers it may take. -/
def State.ownOffer (s : State) (n : Nat) (offers : List (Nat × Nat)) : Option Nat :=
  [3, 2, 1].find? fun p => (offers.filter fun o => s.protoOk n o.1).any fun o => o.1 == p

/-- The answer to a vehicle's offers: a protocol, or none, which closes the connection. -/
def State.protocolAnswered (s : State) (n : Nat) (offers : List (Nat × Nat)) : Option Nat → State
  | some p => ((s.noteReq n 1).set (F.VDE_CTX_STATE_PROTO.nth n) p).respond n 1 0 [(p : Nat)]
  | none => (((s.respond n 1 5 []).ev E.VDE_NO_PROTOCOL n [offers.length]).closeConn n).clearConn n

theorem supportedApp_of_own {s : State} {n : Nat} (offers : List (Nat × Nat)) (hu : s.v2gUp n = true) (ho : s.ostate n = .link)
    (hk : s.ctxStep n ≤ 1) (hp : s.on F.VDE_PROTO_PREF_EV = false) :
    s.supportedApp n offers = s.protocolAnswered n offers (s.ownOffer n offers) := by
  have hopen : ¬(s.ostate n ≠ .link ∨ 1 < s.ctxStep n) := by simp [ho, hk]
  rw [State.supportedApp, hu, State.when_true, if_neg hopen, hp]
  rfl

/-! ### Requests in their order (R249) -/

/-- A request that is due has the effect its handler is known to have. -/
theorem finish_onLink_of_due_eq {s t : State} {n k : Nat} {i : Instr} {f : State → State} (hm : s.linkMine = true)
    (hr : s.stagesRun = true) (hd : s.v2gDue n k = true) (h : f (s.noteReq n k) = t) :
    (s.onLink i fun s => s.v2gReq n k f).finish = .next t.done := by
  rw [finish_onLink_of_due f hm hr hd, h]

section requests
variable {s : State} {n : Fin 4} (hm : s.linkMine = true) (hr : s.stagesRun = true)
include hm hr

/-- Without random numbers no session ID is made. -/
theorem exec_sessionSetup_of_no_random (hd : s.v2gDue n 2 = true) (hx : (s.noteReq n 2).on F.CRYPT_RNG_STAT_FAIL = true)
    (evccid : List Nat) : exec (.sessionSetup n evccid) s = .next ((s.noteReq n 2).respond n 2 5 []).done :=
  (exec_sessionSetup n evccid s).trans (finish_onLink_of_due_eq hm hr hd (if_pos (by rw [hx, Bool.or_true])))

/-- Neither discovery nor detail chooses anything: both are answered with the services. -/
theorem exec_serviceDiscovery_of_question (hd : s.v2gDue n 4 = true) {kind : Fin 3} (hk : kind ≠ 2) (bpt contract : Bool) :
    exec (.serviceDiscovery n kind bpt contract) s = .next ((s.noteReq n 4).respond n 4 0 ((s.noteReq n 4).services n)).done :=
  (exec_serviceDiscovery n kind bpt contract s).trans (finish_onLink_of_due_eq hm hr hd (if_pos hk))

theorem exec_paymentDetails_of_due (hd : s.v2gDue n 6 = true) (emaid : List Nat) (chain : List (List Nat)) :
    let r := (s.noteReq n 6).checkChain n [2, 1] ((s.noteReq n 6).contractAlgs n) chain
    exec (.paymentDetails n emaid chain) s = .next
      ((r.1.modCtx n fun c => { c with emaid := emaid, chainOk := r.2 }).respond n 6 (if r.2 then 0 else 5) []).done :=
  (exec_paymentDetails n emaid chain s).trans (finish_onLink_of_due _ hm hr hd)

/-- Without ISO 15118-20 no chain comes with the request: what is not decided yet is decided by R253. -/
theorem exec_authorization_of_undecided (hd : s.v2gDue n 7 = true) (hc : (s.noteReq n 7).authCode n = 0)
    (hp : (s.noteReq n 7).proto n < 3) (emaid : List Nat) :
    exec (.authorization n emaid []) s = .next ((s.noteReq n 7).authorise n []).done := by
  have h3 : ¬ 3 ≤ (s.noteReq n 7).proto n := Nat.not_le.2 hp
  refine (exec_authorization n emaid [] s).trans (finish_onLink_of_due_eq hm hr hd ?_)
  rw [hc]
  exact (if_neg fun h => h3 h.1).trans (if_neg fun h => h3 h.1)

end requests

/-! ### The start of a session (R249) -/

/-- The vehicle's identity, and the session begun under an ID of the random number generator. -/
def State.sessionBegun (s : State) (n : Nat) (evccid : List Nat) : State :=
  let sid := s.free % 2 ^ 64
  let id := ofBe (evccid.take 6)
  let a := (s.freeNext.set (F.VDE_CTX_SID_LO_SID.nth n) sid).set (F.VDE_CTX_SID_HI_SID.nth n) (sid / 2 ^ 32)
  ((a.set (F.VDE_CTX_EVCCID_LO_ID.nth n) id).set (F.VDE_CTX_EVCCID_HI_ID.nth n) (id / 2 ^ 32)).modCtx n fun c =>
    { c with session := true, evccid := evccid, closeDue := true }

/-- A session begun is counted, told to the metrology and logged; the outlet enters OUT_SESSION, and the ID is the answer. -/
def State.sessionOpened (s : State) (n : Nat) (evccid : List Nat) : State :=
  let sid := s.free % 2 ^ 64
  let id := ofBe (evccid.take 6)
  let b := s.sessionBegun n evccid
  let d := ((b.inc F.VDE_SESSIONS_COUNT).d2dSend 1 (n :: b.proto n :: leBytes 8 sid ++ evccid)).ev E.VDE_SESSION_START n
    [b.proto n, id % 2 ^ 32, id / 2 ^ 32]
  ((d.sessionInfo n E.VDE_SESSION_START.code16 0).setOState n .session).respond n 2 0 [(sid : Nat)]

theorem exec_sessionSetup_of_ready {s : State} {n : Fin 4} (hm : s.linkMine = true) (hr : s.stagesRun = true)
    (hd : s.v2gDue n 2 = true) (hs : (s.noteReq n 2).sys.sealedSvc = false) (hmode : ((s.noteReq n 2).mode == .sealedService) = false)
    (hx : (s.noteReq n 2).on F.CRYPT_RNG_STAT_FAIL = false) (evccid : List Nat) :
    exec (.sessionSetup n evccid) s = .next ((s.noteReq n 2).sessionOpened n evccid).done :=
  (exec_sessionSetup n evccid s).trans (finish_onLink_of_due_eq hm hr hd (if_neg (by rw [hs, hmode, hx]; decide)))

/-! ### Certificates by way of the host (R260) -/

/-- An installation is forwarded; only ISO 15118-20 has an answer for the wait. -/
def State.certForwarded (s : State) (n : Nat) (update : Bool) (body : List Nat) : State :=
  let r := s.nextReqId
  let t := r.1.modCtx n fun c => { c with certReq := some r.2, certBuf := [] }
  let m := t.mbxSend 3 n r.2 ([t.proto n, if update then 1 else 0] ++ body)
  (m.ev E.VDE_CERT_FORWARDED n [r.2, if update then 1 else 0]).when (decide (3 ≤ m.proto n)) fun s => s.respond n 5 1 []

theorem exec_certificateInstallation_of_new {s : State} {n : Fin 4} (hm : s.linkMine = true) (hr : s.stagesRun = true)
    (hd : s.v2gDue n 5 = true) (ha : ((s.noteReq n 5).ctx n).certAns = none) (hq : ((s.noteReq n 5).ctx n).certReq = none)
    (update : Bool) (body : List Nat) :
    exec (.certificateInstallation n update body) s = .next ((s.noteReq n 5).certForwarded n update body).done := by
  refine (exec_certificateInstallation n update body s).trans (finish_onLink_of_due_eq hm hr hd ?_)
  rw [ha, hq]
  rfl

theorem certAnswer_of_old {s : State} {n : Nat} (res : Nat) (b : List Nat) :
    let t := s.modCtx n fun c => { c with certReq := none, certBuf := [] }
    t.proto n < 3 → s.certAnswer n res b = t.respond n 5 res (b.map fun (x : Nat) => (x : Int)) :=
  fun h => if_neg (Nat.not_le.2 h)

theorem certAnswer_of_iso20 {s : State} {n : Nat} (res : Nat) (b : List Nat) :
    let t := s.modCtx n fun c => { c with certReq := none, certBuf := [] }
    3 ≤ t.proto n → s.certAnswer n res b = t.modCtx n fun c => { c with certAns := some (res, b) } :=
  fun h => if_pos h

/-- The last part of the host's body completes the answer. -/
theorem certRes_of_last {s : State} {n r part parts : Nat} (hm : s.mode ≠ .mirror) (hq : (s.ctx n).certReq = some r)
    (hp : parts ≤ part + 1) (body : List Nat) :
    let t := s.modCtx n fun c => { c with certBuf := c.certBuf ++ body }
    s.certRes n r part parts body = t.certAnswer n 0 (t.ctx n).certBuf :=
  (if_neg (by simp [hm, hq])).trans (if_neg (Nat.not_lt.2 hp))

theorem exec_certTimeout_of_asked {s : State} {n : Fin 4} {r : Nat} (ho : s.vdeOwn n = true) (hq : (s.ctx n).certReq = some r) :
    exec (.certTimeout n) s = .next (((s.mbxSend 7 n r []).ev E.VDE_CERT_TIMEOUT n [r]).certAnswer n 5 []).done := by
  rw [exec_certTimeout, execCertTimeout, finish_when_of_true ho, hq]

/-! ### The host's decision (R253) -/

theorem authRes_of_awaited {s : State} {n r : Nat} (hm : s.mode ≠ .mirror) (hq : (s.ctx n).authReq = some r) (grant : Bool) :
    let t := s.modCtx n fun c => { c with authReq := none }
    s.authRes n r grant = if grant then t.set (F.VDE_CTX_STATE_AUTH.nth n) 3 else t.authDeny n 3 :=
  if_neg (by simp [hm, hq])

/-- A reply that nothing waits for is late. -/
theorem authRes_of_unasked {s : State} {n : Nat} (hq : (s.ctx n).authReq = none) (r : Nat) (grant : Bool) :
    s.authRes n r grant = s.ev E.VDE_MBX_LATE n [2, r] :=
  if_pos (.inr (by simp [hq]))

/-- A host that stays silent counts as the answer that TO_ALLOW gives. -/
theorem exec_authTimeout_of_asked {s : State} {n : Fin 4} {r : Nat} {allow : Bool} (ho : s.vdeOwn n = true)
    (hq : (s.ctx n).authReq = some r) (ha : s.on F.VDE_AUTH_CFG_TO_ALLOW = allow) :
    let t := (s.ev E.VDE_AUTH_TIMEOUT n [r, if allow then 1 else 0]).cancelReqs n
    exec (.authTimeout n) s = .next (State.done (if allow then t.set (F.VDE_CTX_STATE_AUTH.nth n) 3 else t.authDeny n 3)) := by
  intro t
  rw [exec_authTimeout, execAuthTimeout, finish_when_of_true ho, hq, ha]

/-- Settles O41: every request by `finish_onLink_of_due_eq` and what it asks for, the host's answers by what waits for them. -/
theorem sessionSetup : Obligations.SessionSetup := by
  refine ⟨fun s n offers p hm hr hu ho hk hp hc => ?_, fun s n offers hm hr hu ho hk hp hc => ?_,
    fun s n evccid hm hr hd hs hmode hx => exec_sessionSetup_of_ready hm hr hd hs hmode hx evccid,
    fun s n evccid hm hr hd hx => exec_sessionSetup_of_no_random hm hr hd hx evccid,
    fun s n hm hr hd => (exec_authorizationSetup n s).trans (finish_onLink_of_due _ hm hr hd),
    fun s n bpt contract hm hr hd => exec_serviceDiscovery_of_question hm hr hd (by decide) bpt contract,
    fun s n update body hm hr hd ha hq => exec_certificateInstallation_of_new hm hr hd ha hq update body,
    fun s n emaid chain hm hr hd => exec_paymentDetails_of_due hm hr hd emaid chain,
    fun s n emaid hm hr hd hc hp => exec_authorization_of_undecided hm hr hd hc hp emaid,
    fun s n r hm hq => ?_, fun s n r hm hq => ?_,
    fun s n r grant hq => (exec_authRes n r grant s).trans (congrArg State.finish (authRes_of_unasked hq r grant)),
    fun s n r ho hq ha => ?_, fun s n r ho hq ha => ?_,
    fun s n r body hm hq => (exec_certRes n r 0 1 body s).trans (congrArg State.finish (certRes_of_last hm hq (by decide) body)),
    fun _ _ => certAnswer_of_old, fun _ _ => certAnswer_of_iso20, fun _ _ _ => exec_certTimeout_of_asked⟩
  · exact (exec_supportedAppProtocol n offers s).trans (finish_onLink_of_mine hm hr
      ((supportedApp_of_own offers hu ho hk hp).trans (congrArg (s.protocolAnswered n offers) hc)))
  · exact (exec_supportedAppProtocol n offers s).trans (finish_onLink_of_mine hm hr
      ((supportedApp_of_own offers hu ho hk hp).trans (congrArg (s.protocolAnswered n offers) hc)))
  · rw [exec_authRes, execAuthRes, authRes_of_awaited hm hq, if_pos rfl, State.finish]
  · rw [exec_authRes, execAuthRes, authRes_of_awaited hm hq, if_neg Bool.false_ne_true, State.finish]
  · rw [exec_authTimeout_of_asked ho hq ha, if_pos rfl, if_pos rfl]
  · rw [exec_authTimeout_of_asked ho hq ha, if_neg Bool.false_ne_true, if_neg Bool.false_ne_true]

end Sys2Proof.Machine
end

/-! PROOFS. The session's answers and its end: responses that have waited, the last requests, what comes out of order, the timers and
the host's stop (R249 to R251, R257 to R261, R263). -/
section
namespace Sys2Proof.Machine

/-! ### The last requests (R249, R250) -/

section requests
variable {s : State} {n : Fin 4} (hm : s.linkMine = true) (hr : s.stagesRun = true)
include hm hr

theorem exec_meteringConfirmation_of_due (hd : s.v2gDue n 13 = true) (body : List Nat) :
    exec (.meteringConfirmation n body) s = .next (((s.noteReq n 13).mbxSend 6 n 0 body).respond n 13 0 []).done :=
  (exec_meteringConfirmation n body s).trans (finish_onLink_of_due _ hm hr hd)

theorem exec_powerDeliveryStop_of_due (hd : s.v2gDue n 14 = true) :
    let t := ((s.noteReq n 14).modCtx n fun c => { c with stopAsked := false }).set (F.VDE_CTX_DEMAND_W_W.nth n) 0
    exec (.powerDeliveryStop n) s = .next ((t.setOState n .stopping).respondNow n 14 0).done :=
  (exec_powerDeliveryStop n s).trans (finish_onLink_of_due _ hm hr hd)

/-- Welding detection is over once the outlet is in OUT_RELEASE. -/
theorem exec_weldingDetection_of_due (hd : s.v2gDue n 15 = true) :
    exec (.weldingDetection n) s =
      .next ((s.noteReq n 15).respondNow n 15 (if (s.noteReq n 15).ostate n == .release then 0 else 1)).done :=
  (exec_weldingDetection n s).trans (finish_onLink_of_due _ hm hr hd)

theorem exec_sessionStop_of_due (hd : s.v2gDue n 16 = true) :
    exec (.sessionStop n) s = .next (((s.noteReq n 16).respond n 16 0 []).sessEnd n 0).done :=
  (exec_sessionStop n s).trans (finish_onLink_of_due _ hm hr hd)

/-- A message that is no request of the table, or that cannot be decoded, ends the session. -/
theorem exec_v2gUnexpectedReq_of_up (hu : s.v2gUp n = true) (m len : Nat) (undecodable : Bool) :
    exec (.v2gUnexpectedReq n m len undecodable) s = .next (State.done (if undecodable then
      ((s.respond n m 2 []).ev E.VDE_BAD_MESSAGE n [2, len]).sessEnd n E.VDE_BAD_MESSAGE.code16 else s.seqError n m)) :=
  (exec_v2gUnexpectedReq n m len undecodable s).trans
    (finish_onLink_of_mine hm hr (by rw [State.unexpectedReq, hu, State.when_true]))

end requests

/-! ### The answer that waits, the timers and the host's stop (R251, R257, R259) -/

section engine
variable {s : State} {n : Fin 4} (ho : s.vdeOwn n = true)
include ho

/-- The answer leaves with the values after its Sentence, once the slot is free. -/
theorem exec_v2gResponseSend_of_waiting (hr : s.stagesRun = true) (hd : (s.ctx n).rspDue ≠ 0) (hf : (s.slot n).st = 0) :
    exec (.v2gResponseSend n) s = .next ((s.modCtx n fun c => { c with rspDue := 0 }).respondNow n (s.ctx n).rspDue 0).done :=
  (exec_v2gResponseSend n s).trans (finish_when_of_true (by rw [ho, hr, bne_iff_ne.2 hd, hf]; rfl))

/-- The host's STOP is asked of a session that has not come to its end yet. -/
theorem exec_ctxStop_of_session (hr : s.reaches 0x21 (0x104 + n * 0x40) = true) (hs : (s.ctx n).session = true)
    (hn : s.stopped n = false) :
    exec (.ctxStop n) s = .next ((s.modCtx n fun c => { c with stopAsked := true }).ev E.VDE_HOST_STOP n [(s.ostate n).code]).done := by
  rw [exec_ctxStop, execCtxStop, finish_hostWrites_of_reaches hr, ho, hs, hn]
  rfl

theorem exec_hostStopTimeout_of_asked (ha : (s.ctx n).stopAsked = true) (hs : (s.ctx n).session = true) :
    exec (.hostStopTimeout n) s = .next (s.sessEnd n E.VDE_HOST_STOP.code16).done :=
  (exec_hostStopTimeout n s).trans (finish_when_of_true (by rw [ho, ha, hs]; rfl))

/-- Outside OUT_ENERGY the vehicle's silence ends the session. -/
theorem exec_seqTimeout_of_session (hs : (s.ctx n).session = true) (he : s.ostate n ≠ .energy) (hr : s.stagesRun = true) :
    exec (.seqTimeout n) s = .next
      ((s.ev E.VDE_SEQ_TIMEOUT n [s.ctxStep n, (s.ostate n).code]).sessEnd n E.VDE_SEQ_TIMEOUT.code16).done :=
  (exec_seqTimeout n s).trans (finish_when_of_true (by rw [ho, hs, bne_iff_ne.2 he, hr]; rfl))

/-- In OUT_ENERGY it is also a trip of SF8, with its ramp. -/
theorem exec_loopTimeout_of_energy (hs : (s.ctx n).session = true) (he : s.ostate n = .energy) (hr : s.stagesRun = true) :
    let t := (s.ev E.VDE_LOOP_TIMEOUT n [s.since (s.ctx n).reqTick / ticksMs]).sessEnd n E.VDE_LOOP_TIMEOUT.code16
    exec (.loopTimeout n) s = .next ((t.tripOut n 8).faultRamp n).done :=
  (exec_loopTimeout n s).trans (finish_when_of_true (by rw [ho, hs, he, hr]; rfl))

end engine

/-- Settles O43: the requests by `finish_onLink_of_due`, the rest by what the engine finds of the session. -/
theorem sessionEnd : Obligations.SessionEnd := by
  refine ⟨fun s n ho hr hd hf => exec_v2gResponseSend_of_waiting ho hr hd hf,
    fun s n body hm hr hd => exec_meteringConfirmation_of_due hm hr hd body, fun s n hm hr hd => exec_powerDeliveryStop_of_due hm hr hd,
    fun s n hm hr hd hs => ?_, fun s n hm hr hd => exec_sessionStop_of_due hm hr hd, fun s n m len hm hr hu => ?_,
    fun s n m len hm hr hu => ?_, fun s n ho hs he hr => ?_, fun s n ho hs he hr => exec_loopTimeout_of_energy ho hs he hr,
    fun s n hr ho hs hn => exec_ctxStop_of_session ho hr hs hn, fun s n ho ha hs => exec_hostStopTimeout_of_asked ho ha hs⟩
  · rw [exec_weldingDetection_of_due hm hr hd, hs]
    rfl
  · rw [exec_v2gUnexpectedReq_of_up hm hr hu, if_pos rfl]
  · rw [exec_v2gUnexpectedReq_of_up hm hr hu, if_neg Bool.false_ne_true, State.seqError]
  · rw [exec_seqTimeout_of_session ho hs (by rw [he]; decide) hr, he]

end Sys2Proof.Machine
end

/-! PROOFS. The host port, the mailbox, the links between the dies and the key generator (R14, R15, R243, R405, R406, R423 to R432,
R445). What a link shows and what a function-level reset keeps is log entry 83, the mailbox's numbers and checks and the standby's
silence log entry 84, a curve that is not listed log entry 92; that a secret key is a free value is log entry 1 (the model's choices). -/
section
namespace Sys2Proof.Machine

/-! ### The PCIe link and its interrupts (R423 to R429, R445) -/

theorem exec_pcieLinkUp_of_down {s : State} (hh : s.sys.held = false) (hp : s.on F.CLK_PLL_STAT_LOCKED = true) (hm : s.mode ≠ .dormant)
    (hl : s.on F.HOST_PCIE_STAT_LINK_UP = false) (speed width : Nat) (en : Bool) :
    let t := ((s.set F.HOST_PCIE_STAT_SPEED speed).set F.HOST_PCIE_STAT_WIDTH width).setB F.HOST_PCIE_STAT_MSIX_EN en
    exec (.pcieLinkUp speed width en) s = .next ((t.setB F.HOST_PCIE_STAT_LINK_UP true).ev E.HOST_LINK_UP 0 [speed, width]).done :=
  (exec_pcieLinkUp speed width en s).trans (finish_when_of_true (by rw [hh, hp, bne_iff_ne.2 hm, hl]; rfl))

/-- What a channel loses with the link: its fetch, or the burst in host space. -/
def State.linkLostChan (c : Nat) (s : State) : State :=
  if s.dst c = 1 then s.fetchFail c 0x2F37 else s.when (s.dst c == 2 && (s.dch c).usesHost) fun s => s.dmaBad c 0x2F37 7

theorem pcieDown_of_up {s : State} (h : s.hostUp = true) :
    s.pcieDown = (s.linkGone.ev E.HOST_LINK_DOWN 0 []).each (List.range 16) State.linkLostChan := by
  rw [State.pcieDown, h]
  rfl

theorem pcieDown_of_down {s : State} (h : s.hostUp = false) : s.pcieDown = s := by
  rw [State.pcieDown, h]
  rfl

/-- The endpoint as it comes out of reset: the HOST, DMA and DMACH pages and the MSI-X table, but not the SPI queue. -/
def State.endpointReset (s : State) : State :=
  { s with
    regs := s.regs.filter fun (e : Nat × Nat) => let p := e.1 / 32 / 0x1000; !(decide (0x2D ≤ p) && decide (p ≤ 0x3E))
    host := { spiQ := s.host.spiQ, spiHeld := s.host.spiHeld }
    dma := {} }

/-- A function-level reset leaves what the physical link shows. -/
theorem exec_functionLevelReset_of_up {s : State} (h : s.on F.HOST_PCIE_STAT_LINK_UP = true) :
    exec .functionLevelReset s = .next (((s.endpointReset.set F.HOST_PCIE_STAT_SPEED (s.get F.HOST_PCIE_STAT_SPEED)).set
      F.HOST_PCIE_STAT_WIDTH (s.get F.HOST_PCIE_STAT_WIDTH)).setB F.HOST_PCIE_STAT_LINK_UP true).done :=
  (exec_functionLevelReset s).trans (finish_when_of_true h)

/-- Unmasking a vector without a pending message sends nothing. -/
theorem msixMask_of_quiet {s : State} {v : Nat} (h : s.host.pba.testBit v = false) (m : Bool) :
    s.msixMask v m = { s with host := { s.host with
      msix := mput {} s.host.msix v { mget ({} : MsixEntry) s.host.msix v with masked := m } } } := by
  rw [State.msixMask, h, Bool.and_false, State.when_false]

/-! ### The mailbox (R431, R432) -/

section device
variable {s : State} {m : MbxMsg} {rest : List MbxMsg} (hw : s.vde.mbxWait = m :: rest) (hm : s.mode ≠ .mirror)
include hw hm

theorem exec_mbxDeviceMessage_of_free {k : Nat} (hk : ((List.range 8).find? fun k => s.mbx k == 0) = some k) :
    let seq := (s.vde.mbxSeq + 1) % 2 ^ 32
    let t := s.modVde fun v => { v with mbxWait := rest, mbxSeq := seq }
    exec .mbxDeviceMessage s = .next (((t.wrBytes (mbxBase k) (mbxImage seq m.body)).setMbx k 1).ev E.HOST_MBX_RX 0 [k]).done := by
  rw [exec_mbxDeviceMessage, execMbxDeviceMessage, hw, hk]
  exact congrArg State.finish (if_neg hm)

theorem exec_mbxFullTimeout_of_full (hk : ((List.range 8).find? fun k => s.mbx k == 0) = none) :
    exec .mbxFullTimeout s = .next ((s.modVde fun v => { v with mbxWait := rest }).ev E.HOST_MBX_FULL 0 [m.kind]).done := by
  rw [exec_mbxFullTimeout, execMbxFullTimeout, hw, hk]
  exact congrArg State.finish (if_neg hm)

end device

theorem mbxDone_of_full {s : State} {v : Nat} (hk : v % 16 < 8) (h : s.mbx (v % 16) = 1) : s.mbxDone v = s.setMbx (v % 16) 0 :=
  (if_neg (Nat.not_le.2 hk)).trans (if_neg (not_not_intro h))

theorem mbxPost_of_free {s : State} {v : Nat} (hk : 8 ≤ v % 16) (h : s.mbx (v % 16) = 0) : s.mbxPost v = s.setMbx (v % 16) 2 :=
  (if_neg (Nat.not_lt.2 hk)).trans (if_neg (not_not_intro h))

/-- The lower slots are the device's: the host posts none of them. -/
theorem mbxPost_of_device {s : State} {v : Nat} (hk : v % 16 < 8) : s.mbxPost v = s.mbxBad (v % 16) 1 := if_pos hk

/-- A slot the host has posted, judged: a fault is logged with its cause, a sound message is taken; the slot is free again. -/
def State.mbxJudged (s : State) (k : Nat) : Option Nat → State
  | some c => (s.setMbx k 0).ev E.HOST_MBX_BAD 0 [k, c]
  | none => ((s.mbxTake k).setMbx k 0).ev E.HOST_MBX_TX_DONE 0 [k]

theorem exec_mbxConsumed_of_posted {s : State} {k : Fin 16} (hk : 8 ≤ k.val) (h : s.mbx k = 2) :
    exec (.mbxConsumed k) s = .next (s.mbxJudged k (s.mbxFault k)).done := by
  rw [exec_mbxConsumed, execMbxConsumed, finish_when_of_true (by rw [decide_eq_true hk, h]; rfl)]
  cases s.mbxFault k <;> rfl

/-! ### The links between the dies (R14, R15, R405, R406) -/

theorem exec_ctlMetrologyLinkLost_of_linked {s : State} (hh : (!s.sys.held || s.lens.started) = true) (hl : s.sys.metLost = false)
    (hm : s.mode ≠ .dormant) :
    let t := (s.modSys fun y => { y with metLost := true }).tamperBegin 14
    exec .ctlMetrologyLinkLost s = .next
      ((t.each (t.outlets.filter fun _ => t.stagesRun && !t.sys.held) fun n s => s.fbLost n 3).ownOutputs s).done :=
  (exec_ctlMetrologyLinkLost s).trans (finish_when_of_true (by rw [hh, hl, bne_iff_ne.2 hm]; rfl))

theorem exec_ctlMetrologyLinkRestored_of_lost {s : State} (hl : s.sys.metLost = true) :
    let t := s.each s.outlets fun n s => s.modOut n fun o => { o with fbLive := 0 }
    exec .ctlMetrologyLinkRestored s =
      .next ((((t.modSys fun y => { y with metLost := false }).tamperEnd 14).sendPend).ownOutputs t).done :=
  (exec_ctlMetrologyLinkRestored s).trans (finish_when_of_true hl)

/-- The LSW and LSX pages kept as last received, with the instant of the loss (R406). -/
def State.pagesStale (s : State) : State :=
  { s with pdie := { s.pdie with
    lostTick := s.ticks, stale := s.regs.filter fun (e : Nat × Nat) => let p := e.1 / 32 / 0x1000; p == 0x2B || p == 0x2C } }

theorem exec_ctlPowerLinkLost_of_linked {s : State} (hh : s.sys.held = false) (hl : s.on F.LSW_STATUS_LINK_LOST = false)
    (hm : s.mode ≠ .dormant) :
    exec .ctlPowerLinkLost s = .next
      ((((s.cutPower.pagesStale.setB F.LSW_STATUS_LINK_LOST true).setB F.LSW_SUPPLY_LINK_LOST true).ev
        E.LSW_LINK_LOST 0 []).refreshChans.ownOutputs s).done :=
  (exec_ctlPowerLinkLost s).trans (finish_when_of_true (by rw [hh, hl, bne_iff_ne.2 hm]; rfl))

theorem exec_ctlPowerLinkRestored_of_lost {s : State} (hl : s.on F.LSW_STATUS_LINK_LOST = true) :
    let t : State := { s with pdie := { s.pdie with stale := [], cut := s.mode.early || s.mode == Mode.configure } }
    exec .ctlPowerLinkRestored s = .next
      ((((t.setB F.LSW_STATUS_LINK_LOST false).setB F.LSW_SUPPLY_LINK_LOST false).ev
        E.LSW_LINK_RESTORED 0 [s.since s.pdie.lostTick / ticksUs]).refreshChans.ownOutputs s).done :=
  (exec_ctlPowerLinkRestored s).trans (finish_when_of_true hl)

/-! ### The key generator (R243) -/

/-- A key pair of the curve: a free secret key, shown and logged. -/
def State.keyMade (s : State) (c : Nat) : State :=
  let a := s.freeNext.modVde fun w => { w with keys := mins c s.free w.keys }
  (((a.set F.CRYPT_KEYGEN_CURVE c).setBit F.CRYPT_KEY_STAT_PRESENT c true).ev E.CRYPT_KEY_GENERATED 0 [c]).refreshTrust

section keygen
variable {s : State} {v : Nat}

theorem keygen_of_locked (hp : s.pwdOpen = false) : s.keygen v = s.errC .writeNeedsPassword 0x22 [0x040] := by
  rw [State.keygen, guarded_of_locked hp]

variable (hp : s.pwdOpen = true) (hc : s.clogFull = false)
include hp hc

theorem keygen_of_closed (ht : s.get F.CRYPT_STATUS_TLS_OPEN = 0) (h3 : v % 4 ≠ 3) :
    s.keygen v = (s.keyMade (v % 4)).rwpLogged 0x22 0x040 (s.regWord 0x22 0x040) ((s.keyMade (v % 4)).regWord 0x22 0x040) := by
  have hmade : ¬(s.get F.CRYPT_STATUS_TLS_OPEN ≠ 0 ∨ v % 4 = 3) := fun h => h.elim (· ht) h3
  rw [State.keygen]
  exact guarded_of_accepted hp hc (if_neg hmade)

/-- A key pair is not changed under an open connection. -/
theorem keygen_of_connected (ht : s.get F.CRYPT_STATUS_TLS_OPEN ≠ 0) :
    s.keygen v = s.err E.CRYPT_KEYGEN_BUSY 0 [s.get F.CRYPT_STATUS_TLS_OPEN] := by
  rw [State.keygen, guarded_of_declined hp hc (if_pos (.inl ht)), bne_iff_ne.2 ht, State.when_true]

end keygen

/-- Settles O57: the host's link and writes by what they reach, the mailbox by the slot's state, the links between the dies by whether
they are lost, the key generator by `keygen`'s ways. -/
theorem hostPort : Obligations.HostPort := by
  refine ⟨fun s speed width en hh hp hm hl => exec_pcieLinkUp_of_down hh hp hm hl speed width en,
    fun s h => (exec_pcieLinkDown s).trans (congrArg State.finish (pcieDown_of_up h)),
    fun s h => (exec_pcieLinkDown s).trans (congrArg State.finish (pcieDown_of_down h)),
    fun s => exec_functionLevelReset_of_up,
    fun s v h => (exec_vecEoi v s).trans (finish_hostWrites_of_reaches h _), fun s v h hq => ?_,
    fun s m rest k hw hk hm => exec_mbxDeviceMessage_of_free hw hm hk, fun s m rest hw hk hm => exec_mbxFullTimeout_of_full hw hm hk,
    fun s v h hk hf => ?_, fun s v h hk hf => ?_, fun s v h hk => ?_, fun s k hk h hf => ?_, fun s k c hk h hf => ?_,
    fun s hh hl hm => exec_ctlMetrologyLinkLost_of_linked hh hl hm, fun s => exec_ctlMetrologyLinkRestored_of_lost,
    fun s hh hl hm => exec_ctlPowerLinkLost_of_linked hh hl hm, fun s => exec_ctlPowerLinkRestored_of_lost,
    fun s v h hp hc ht h3 => ?_, fun s v h hp hc ht => ?_, fun s v h hp => ?_⟩
  · rw [exec_msixUnmask, execMsixUnmask, finish_hostWrites_of_reaches h, msixMask_of_quiet hq]
  · rw [exec_mbxDone, execMbxDone, finish_hostWrites_of_reaches h, mbxDone_of_full hk hf]
  · rw [exec_mbxPost, execMbxPost, finish_hostWrites_of_reaches h, mbxPost_of_free hk hf]
  · rw [exec_mbxPost, execMbxPost, finish_hostWrites_of_reaches h, mbxPost_of_device hk]
  · rw [exec_mbxConsumed_of_posted hk h, hf, State.mbxJudged]
  · rw [exec_mbxConsumed_of_posted hk h, hf, State.mbxJudged]
  · exact (exec_keygen v s).trans ((finish_hostWrites_of_reaches h _).trans
      (congrArg (fun t : State => Host.Outcome.next t.done) (keygen_of_closed hp hc ht h3)))
  · rw [exec_keygen, execKeygen, finish_hostWrites_of_reaches h, keygen_of_connected hp hc ht]
  · rw [exec_keygen, execKeygen, finish_hostWrites_of_reaches h, keygen_of_locked hp]

end Sys2Proof.Machine
end

/-! PROOFS. The interrupt lines of a settled block: vector conditions and INT_N (R428, R430). -/
section
namespace Sys2Proof.Machine

/-! ### Bits of a number -/

/-- One more than an even number has bit 0 besides the bits it had. -/
theorem testBit_succ_of_even {a : Nat} (h : a % 2 = 0) (k : Nat) : (a + 1).testBit k = (a.testBit k || decide (k = 0)) := by
  cases k with
  | zero => simp [Nat.testBit_zero]; omega
  | succ k =>
    have hd : (a + 1) / 2 = a / 2 := by omega
    rw [Nat.testBit_succ, Nat.testBit_succ, hd, decide_eq_false (Nat.succ_ne_zero k), Bool.or_false]

theorem testBit_setBitOf_true (n i j : Nat) : (setBitOf n i true).testBit j = (n.testBit j || decide (j = i)) := by
  by_cases h : n.testBit i = true
  · rw [setBitOf, if_pos (by rw [h]; rfl)]
    by_cases hj : j = i
    · rw [hj, h, Bool.true_or]
    · rw [decide_eq_false hj, Bool.or_false]
  · have he : n / 2 ^ i % 2 = 0 := by
      rw [Nat.testBit_eq_decide_div_mod_eq, decide_eq_true_eq] at h
      omega
    have hlt : n % 2 ^ i < 2 ^ i := Nat.mod_lt _ (Nat.two_pow_pos i)
    have hn : n = 2 ^ i * (n / 2 ^ i) + n % 2 ^ i := (Nat.div_add_mod n (2 ^ i)).symm
    have hs : setBitOf n i true = 2 ^ i * (n / 2 ^ i + 1) + n % 2 ^ i := by
      rw [setBitOf, if_neg (by simpa using h), if_pos rfl, Nat.mul_add, Nat.mul_one]
      omega
    rw [hs, Nat.testBit_two_pow_mul_add _ hlt]
    conv_rhs => rw [hn, Nat.testBit_two_pow_mul_add _ hlt]
    by_cases hj : j < i
    · rw [if_pos hj, if_pos hj, decide_eq_false (Nat.ne_of_lt hj), Bool.or_false]
    · have hji : (j - i = 0) ↔ (j = i) := by omega
      simp only [if_neg hj, testBit_succ_of_even he, hji]

/-- The bits that a loop over a list sets: those it started from, and bit `g x` of every listed `x` with `q x`. -/
theorem testBit_foldl_setBitOf {α : Type} (q : α → Bool) (g : α → Nat) (v : Nat) (l : List α) (c : Nat) :
    (l.foldl (fun c x => if q x then setBitOf c (g x) true else c) c).testBit v = true ↔
      c.testBit v = true ∨ ∃ x ∈ l, q x = true ∧ g x = v := by
  induction l generalizing c with
  | nil => simp
  | cons x l ih =>
    rw [List.foldl_cons, ih]
    by_cases hq : q x = true
    · simp [hq, testBit_setBitOf_true, or_assoc, eq_comm (a := v)]
    · simp [hq]

theorem and_ne_zero_iff (m n : Nat) : m &&& n ≠ 0 ↔ ∃ v, m.testBit v = true ∧ n.testBit v = true := by
  constructor
  · intro h
    obtain ⟨v, hv⟩ := Nat.exists_testBit_of_ne_zero h
    rw [Nat.testBit_and, Bool.and_eq_true] at hv
    exact ⟨v, hv⟩
  · rintro ⟨v, hm, hn⟩ h0
    have hv : (m &&& n).testBit v = true := by rw [Nat.testBit_and, hm, hn, Bool.and_self]
    rw [h0, Nat.zero_testBit] at hv
    exact Bool.false_ne_true hv

/-- Bit `v` of a number in two words. -/
theorem testBit_words {hi lo : Nat} (h : lo < 2 ^ 32) (v : Nat) :
    (hi * 2 ^ 32 + lo).testBit v = if v < 32 then lo.testBit v else hi.testBit (v - 32) := by
  rw [Nat.mul_comm, Nat.testBit_two_pow_mul_add _ h]

/-! ### The lines -/

theorem testBit_vecConditions (s : State) (v : Nat) :
    s.vecConditions.testBit v = true ↔ ∃ p ∈ allPages, s.evtPend p ≠ 0 ∧ s.vecMap p < 128 ∧ s.vecMap p % 64 = v := by
  have h := testBit_foldl_setBitOf (fun p => s.evtPend p != 0 && decide (s.vecMap p < 128)) (fun p => s.vecMap p % 64) v allPages 0
  rw [State.vecConditions]
  simpa [and_assoc] using h

theorem bit_eq_false_of_ge (s : State) {f : Field} {v : Nat} (h : f.width ≤ v) : s.bit f v = false :=
  Nat.testBit_lt_two_pow (Nat.lt_of_lt_of_le (get_lt s f) (Nat.pow_le_pow_right (by decide) h))

/-- Of the 64 vectors, those in INT_N's masks. -/
theorem intnMask_iff (s : State) (v : Nat) :
    (s.get F.HOST_INTN_MASK_HI_EN * 2 ^ 32 + s.get F.HOST_INTN_MASK_LO_EN).testBit v = true ↔
      v < 64 ∧ (if v < 32 then s.bit F.HOST_INTN_MASK_LO_EN v else s.bit F.HOST_INTN_MASK_HI_EN (v - 32)) = true := by
  have hlo : s.get F.HOST_INTN_MASK_LO_EN < 2 ^ 32 := get_lt s F.HOST_INTN_MASK_LO_EN
  rw [testBit_words hlo]
  change (if v < 32 then s.bit F.HOST_INTN_MASK_LO_EN v else s.bit F.HOST_INTN_MASK_HI_EN (v - 32)) = true ↔ _
  by_cases hv : v < 64
  · exact (and_iff_right hv).symm
  · have hhi : s.bit F.HOST_INTN_MASK_HI_EN (v - 32) = false :=
      bit_eq_false_of_ge s (f := F.HOST_INTN_MASK_HI_EN) (show 32 ≤ v - 32 by omega)
    rw [if_neg (by omega), hhi]
    simp [hv]

theorem intNow_iff (s : State) (c : Nat) :
    s.intNow c = true ↔ s.on F.HOST_IRQ_CFG_INTN_EN = true ∧ ∃ v, v < 64 ∧ c.testBit v = true ∧
      (if v < 32 then s.bit F.HOST_INTN_MASK_LO_EN v else s.bit F.HOST_INTN_MASK_HI_EN (v - 32)) = true := by
  rw [State.intNow, Bool.and_eq_true, bne_iff_ne]
  refine and_congr_right fun _ => (and_ne_zero_iff c _).trans (exists_congr fun v => ?_)
  rw [intnMask_iff]
  exact and_left_comm

/-- Settles O9: a settled block's lines are those judged from its pages, whose bits the two loops give. -/
theorem interruptLines : Obligations.InterruptLines :=
  ⟨fun s v hs _ => by rw [hs.cond, testBit_vecConditions], fun s hs => by rw [hs.intN, intNow_iff, hs.cond]⟩

end Sys2Proof.Machine
end

/-! PROOFS. A forced selection of the pair arbiter (R50, R381). -/
section
namespace Sys2Proof.Machine

/-! ### Registers under a protection (R50, R51) -/

section guarded
variable {s t : State} {page off v : Nat} {no : State → State} {f : State → Option State}

/-- A register that reads 0 is recorded with the value written. -/
theorem guarded_of_written (hp : s.pwdOpen = true) (hc : s.clogFull = false) (hf : f s = some t) :
    s.guarded false page off (some v) no f = t.rwpLogged page off 0 v := by
  simp [State.guarded, hp, hc, hf]

end guarded

/-! ### The selected unit -/

theorem get_refreshArb_other (s : State) {k : Nat} {f : Field} (h : (F.PAIRARB_PAIR_STAT_HOLDOFF.nth k).key ≠ f.key) :
    (s.refreshArb k).get f = s.get f := by
  rw [State.refreshArb, State.get_setB_other _ _ _ _ h]
  refine each_invariant (fun t => t.get f) _ _ (fun isB t => ?_) s
  dsimp only
  split
  · rfl
  · unfold State.when
    split <;> rfl

/-- What the arbiter and the change log move beside it leaves a pair's selection alone. -/
theorem select_key_ne (k : Fin 4) :
    (F.PAIRARB_PAIR_STAT_HOLDOFF.nth k).key ≠ (F.PAIRARB_PAIR_STAT_SELECT.nth k).key ∧
    (F.PAIRARB_PAIR_COUNT_COUNT.nth k).key ≠ (F.PAIRARB_PAIR_STAT_SELECT.nth k).key ∧
    F.SEAL_CLOG_HEAD_INDEX.key ≠ (F.PAIRARB_PAIR_STAT_SELECT.nth k).key ∧
    F.SEAL_CLOG_FILL_COUNT.key ≠ (F.PAIRARB_PAIR_STAT_SELECT.nth k).key ∧
    F.SEAL_CLOG_SERIAL_NEXT.key ≠ (F.PAIRARB_PAIR_STAT_SELECT.nth k).key := by
  revert k
  decide

theorem arbSelB_congr {s t : State} {k : Nat}
    (h : t.get (F.PAIRARB_PAIR_STAT_SELECT.nth k) = s.get (F.PAIRARB_PAIR_STAT_SELECT.nth k)) : t.arbSelB k = s.arbSelB k := by
  rw [State.arbSelB, State.on, h]
  rfl

theorem arbSelB_arbSelect (s : State) (k : Fin 4) (isB : Bool) : (s.arbSelect k isB).arbSelB k = isB := by
  obtain ⟨hh, -⟩ := select_key_ne k
  have hw : (F.PAIRARB_PAIR_STAT_SELECT.nth k).width = 1 := rfl
  rw [State.arbSelect, arbSelB_congr (get_refreshArb_other _ hh), State.arbSelB]
  change (!(s.setB _ (!isB)).on _) = isB
  rw [on_setB_same _ _ _ hw, Bool.not_not]

theorem arbSelB_arbSwitch (s : State) (k : Fin 4) (isB : Bool) : (s.arbSwitch k isB).arbSelB k = isB := by
  obtain ⟨-, hn, -⟩ := select_key_ne k
  unfold State.arbSwitch
  split
  · exact arbSelB_arbSelect s k isB
  · exact (arbSelB_congr (State.get_inc_other _ _ _ hn)).trans (arbSelB_arbSelect s k isB)

theorem get_rwpLogged_other (s : State) (page off old new : Nat) {f : Field} (hh : F.SEAL_CLOG_HEAD_INDEX.key ≠ f.key)
    (hf : F.SEAL_CLOG_FILL_COUNT.key ≠ f.key) (hs : F.SEAL_CLOG_SERIAL_NEXT.key ≠ f.key) :
    (s.rwpLogged page off old new).get f = s.get f := by
  rw [State.rwpLogged, State.clogAppend, State.get_inc_other _ _ _ hs, State.get_inc_other _ _ _ hf, State.get_set_other _ _ _ _ hh,
    State.get_wrBytes]
  rfl

/-- A command that switches pair `k` and is recorded leaves it on the unit it names. -/
theorem arbSelB_forced (s : State) (k : Fin 4) (isB : Bool) (page off old new : Nat) :
    ((s.arbSwitch k isB).rwpLogged page off old new).done.arbSelB k = isB := by
  obtain ⟨-, -, hh, hf, hs⟩ := select_key_ne k
  have hq : quiet (F.PAIRARB_PAIR_STAT_SELECT.nth k) = true := by
    revert k
    decide
  rw [arbSelB_congr (done_get _ _ hq), arbSelB_congr (get_rwpLogged_other _ _ _ _ _ hh hf hs), arbSelB_arbSwitch]

/-! ### PAIRk_FORCE (R381) -/

section force
variable {s : State} {k : Fin 4} {v : Nat} {isB : Bool} (hp : s.pwdOpen = true) (hc : s.clogFull = false) (hv : v % 4 = if isB then 2 else 1)
include hp hc hv

theorem arbForce_of_unfailed (hon : s.arbOn k = true) (hu : (s.arbUnit k isB).failed = false) :
    s.arbForce k v = (s.arbSwitch k isB).rwpLogged 0x45 (0x084 + 16 * k.val) 0 v := by
  rw [State.arbForce]
  refine guarded_of_written hp hc ?_
  cases isB <;> simp [hv, hon, hu]

theorem arbForce_of_failed (hu : (s.arbUnit k isB).failed = true) :
    s.arbForce k v = s.err E.PAIRARB_FORCE_REFUSED 0 [k, v % 4] := by
  rw [State.arbForce]
  refine guarded_of_declined hp hc ?_
  cases isB <;> simp [hv, hu]

end force

/-- Settles O11: a write of PAIRk_FORCE by whether the unit it names is failed. -/
theorem forcedSelection : Obligations.ForcedSelection := by
  refine ⟨fun s k v isB hr hp hc hon hv hu => ⟨?_, arbSelB_forced s k isB _ _ _ _⟩, fun s k v isB hr hp hc _ hv hu => ?_⟩
  · rw [exec_pairarbForce, execPairarbForce, finish_hostWrites_of_reaches hr, arbForce_of_unfailed hp hc hv hon hu]
  · rw [exec_pairarbForce, execPairarbForce, finish_hostWrites_of_reaches hr, arbForce_of_failed hp hc hv hu]

end Sys2Proof.Machine
end

/-! PROOFS. A step on an empty queue (log entry 7, the model's choice): before the end of an idle step, the capacity yields that a
Sentence held back are carried out (R130). -/
section
namespace Sys2Proof.Machine

/-- A READY device whose outlet 0 has a capacity yield remembered that no Sentence holds back any more. -/
def yieldRemembered : State :=
  let s := (State.reset.modSys fun y => { y with held := false }).set F.SYS_MODE_CURRENT Mode.ready.code
  s.modTree fun x => { x with capDue := [0] }

/-- An idle step before `finish`. -/
def State.idleWork (s : State) : State :=
  let t := s.idleTick.when (!s.idleTick.tree.capDue.isEmpty) State.capCatchUp
  t.when (decide (t.ticks % ticksMs = 0) && t.mode != .dormant) State.msRefresh

theorem step_of_empty {s : State} (h : s.pending = []) : step s = .next s.idleWork.done := by
  rw [step, h]
  rfl

/-- The yield is forgotten once it is carried out. -/
theorem idleWork_yieldRemembered : yieldRemembered.idleWork.tree.capDue = [] := by decide +kernel

theorem idleTick_yieldRemembered : yieldRemembered.idleTick.tree.capDue = [0] := by decide +kernel

/-- Refutes O1: of `yieldRemembered` an idle step carries out the remembered yield, so its next state is not that of the tick alone. -/
theorem not_queueStep : ¬ Obligations.QueueStep := by
  rintro ⟨-, hidle, -⟩
  have hs : step yieldRemembered = .next yieldRemembered.idleTick.done := hidle yieldRemembered rfl (.inl (by decide +kernel))
  rw [step_of_empty rfl] at hs
  have ht : yieldRemembered.idleWork.done = yieldRemembered.idleTick.done := Host.Outcome.next.inj hs
  have hc : yieldRemembered.idleWork.done.tree.capDue = yieldRemembered.idleTick.done.tree.capDue := by rw [ht]
  rw [(done_parts _).tree, (done_parts _).tree, idleWork_yieldRemembered, idleTick_yieldRemembered] at hc
  exact List.cons_ne_nil _ _ hc.symm

end Sys2Proof.Machine
end

/-! PROOFS. The safety inputs and the trips of an outlet (R330, R333, R335 to R338, R370, R393). -/
section
namespace Sys2Proof.Machine

/-! ### The inputs (R335, R336) -/

section input
variable {s : State} (hs : s.safetyRuns = true)
include hs

theorem exec_sinDemand_of_runs (k : Fin 8) : exec (.sinDemand k) s = .next (s.sinLevel k true).done :=
  (exec_sinDemand k s).trans (finish_when_of_true hs)

theorem exec_sinDemandEnd_of_runs (k : Fin 8) : exec (.sinDemandEnd k) s = .next (s.sinLevel k false).done :=
  (exec_sinDemandEnd k s).trans (finish_when_of_true hs)

/-- A test fault of an input that is tested: a stray pulse or a missed one. -/
theorem exec_sinFault_of_tested {k : Fin 8} (ht : s.sinTested k = true) (stray : Bool) :
    exec (.sinFault k stray) s = .next (s.sinFault [k] (if stray then 2 else 1)).done :=
  (exec_sinFault k stray s).trans (finish_when_of_true (by rw [hs, ht]; rfl))

theorem exec_sinPairFault_of_paired {p : Fin 4} (hp : s.sinPaired (2 * p) = true) :
    exec (.sinPairFault p) s = .next (s.sinFault [2 * p.val, 2 * p.val + 1] 3).done :=
  (exec_sinPairFault p s).trans (finish_when_of_true (by rw [hs, hp]; rfl))

theorem exec_stpPulse_of_exclusive (he : s.exclusive = true) (i : Fin 2) :
    exec (.stpPulse i) s = .next ((s.emit (.stp i false)).emit (.stp i true)).done :=
  (exec_stpPulse i s).trans (finish_when_of_true (by rw [hs, he]; rfl))

end input

/-- Test pulses are checked on an input with a TEST group, unless it is a standby's or the inverted one of a pair. -/
theorem sinTested_of_group {s : State} {k : Nat} (ht : s.get (F.SAFE_SIN_CFG_TEST.nth k) ≠ 0) (hm : s.mode ≠ .mirror)
    (hi : (k % 2 == 1 && s.sinPaired k && s.on (F.SAFE_SIN_CFG_ANTI.nth (k - 1))) = false) : s.sinTested k = true := by
  rw [State.sinTested, hi, bne_iff_ne.2 ht, bne_iff_ne.2 hm]
  rfl

/-! ### The trips of an outlet (R338) -/

section trip
variable {s : State} {n : Fin 4} (hs : s.safetyRuns = true) (ho : s.hasOutlet n = true)
include hs ho

theorem exec_sf2GateCut_of_runs : exec (.sf2GateCut n) s = .next ((s.tripOut n 2).gateCutOutlet n).done :=
  (exec_sf2GateCut n s).trans (finish_when_of_true (by rw [hs, ho]; rfl))

/-- SF3 guards a charging outlet against the vehicle's maximum, once the vehicle has given one. -/
theorem exec_sf3Trip_of_charging (hc : s.charging n = true) (hv : s.get (F.VDE_CTX_EV_VMAX_MV.nth n) ≠ 0) :
    exec (.sf3Trip n) s = .next ((s.tripOut n 3).gateCutOutlet n).done :=
  (exec_sf3Trip n s).trans (finish_when_of_true (by rw [hs, ho, hc, bne_iff_ne.2 hv]; rfl))

theorem exec_sf6Trip_of_runs : exec (.sf6Trip n) s = .next ((s.tripOut n 6).faultRamp n).done :=
  (exec_sf6Trip n s).trans (finish_when_of_true (by rw [hs, ho]; rfl))

theorem exec_sf10Trip_of_energy (he : s.ostate n = .energy) :
    exec (.sf10Trip n) s = .next ((s.tripOut n 10).gateCutOutlet n).done :=
  (exec_sf10Trip n s).trans (finish_when_of_true (by rw [hs, ho, he]; rfl))

theorem exec_sf11Trip_of_release (hr : s.ostate n = .release) (hv : 60000 ≤ s.vc n) :
    exec (.sf11Trip n) s = .next ((s.tripOut n 11).setOState n .fault).done :=
  (exec_sf11Trip n s).trans (finish_when_of_true (by rw [hs, ho, hr, decide_eq_true hv]; rfl))

end trip

theorem exec_sf3Trip_of_no_vmax {s : State} {n : Fin 4} (hv : s.get (F.VDE_CTX_EV_VMAX_MV.nth n) = 0) :
    exec (.sf3Trip n) s = .next s.done :=
  (exec_sf3Trip n s).trans (finish_when_of_false (by rw [hv]; exact Bool.and_false _))

/-! ### The coils at the deadline (R338, R393) -/

theorem coilsNow_of_outlet {s : State} {n : Nat} (hn : n ≠ 4) (hd : (s.outSt n).coilDue ≠ .none) :
    s.coilsNow n = (s.outletCoilsOff n).modOut n fun o => { o with coilDue := .none } := by
  rw [State.coilsNow, if_neg hn, bne_iff_ne.2 hd, State.when_true]

theorem coilsNow_of_node {s : State} (hd : s.safe.nodeCoilDue = true) :
    s.coilsNow 4 = s.allCoilsOff.modSafe fun v => { v with nodeCoilDue := false } := by
  rw [State.coilsNow, if_pos rfl, hd, State.when_true]

theorem exec_coilOffDeadline_outside_handover {s : State} (hm : s.mode ≠ .handover) (k : Fin 5) :
    exec (.coilOffDeadline k) s = .next (s.coilsNow k).done :=
  (exec_coilOffDeadline k s).trans (congrArg State.finish (if_neg hm))

/-- HANDOVER keeps the deadline for its end. -/
theorem exec_coilOffDeadline_in_handover {s : State} (hm : s.mode = .handover) (k : Fin 5) :
    exec (.coilOffDeadline k) s =
      .next ({ s with mir := { s.mir with coilHeld := setBitOf s.mir.coilHeld k true } } : State).done :=
  (exec_coilOffDeadline k s).trans (congrArg State.finish (if_pos hm))

/-- Settles O44: the inputs and trips by their commands' guards, the coils by whose deadline it is and the mode. -/
theorem safetyInputs : Obligations.SafetyInputs := by
  refine ⟨fun s k hs => exec_sinDemand_of_runs hs k, fun s k hs => exec_sinDemandEnd_of_runs hs k, fun s k hs ht hm hi => ?_,
    fun s p hs hp => exec_sinPairFault_of_paired hs hp, fun s i hs he => exec_stpPulse_of_exclusive hs he i,
    fun s n hs ho => exec_sf2GateCut_of_runs hs ho, fun s n hs ho hc hv => exec_sf3Trip_of_charging hs ho hc hv,
    fun s n hv => exec_sf3Trip_of_no_vmax hv, fun s n hs ho => exec_sf6Trip_of_runs hs ho,
    fun s n hs ho he => exec_sf10Trip_of_energy hs ho he, fun s n hs ho hr hv => exec_sf11Trip_of_release hs ho hr hv,
    fun s n hm hd => ?_, fun s hm hd => ?_, fun s k hm => exec_coilOffDeadline_in_handover hm k⟩
  · have ht' := sinTested_of_group ht hm hi
    exact ⟨exec_sinFault_of_tested hs ht' true, exec_sinFault_of_tested hs ht' false⟩
  · rw [exec_coilOffDeadline_outside_handover hm]
    exact congrArg (fun t : State => Host.Outcome.next t.done) (coilsNow_of_outlet (Nat.ne_of_lt n.isLt) hd)
  · rw [exec_coilOffDeadline_outside_handover hm]
    exact congrArg (fun t : State => Host.Outcome.next t.done) (coilsNow_of_node hd)

end Sys2Proof.Machine
end

/-! PROOFS. The contactors, the weld check, the discharge and the insulation monitor (R339, R341 to R345, R350). What the monitor's
values show and when its verdict ends a session is log entry 73 (the model's choice). -/
section
namespace Sys2Proof.Machine

/-! ### Welds and dropouts (R339, R342) -/

section contact
variable {s : State} {i : Fin 60} (hs : s.safetyRuns = true) (hm : s.monitored i = true)
include hs hm

/-- A feedback that reads closed without its coil is a weld, told once. -/
theorem exec_sf5Weld_of_closed (hc : s.coilOn i = false) (hw : s.safe.weldedSince.testBit i = false) :
    exec (.sf5Weld i) s = .next ((s.setFb i true).weld i).done :=
  (exec_sf5Weld i s).trans (finish_when_of_true (by rw [hs, hm, hc, hw]; rfl))

/-- A contactor of an outlet that drops out cuts the outlet's gates. -/
theorem exec_fbDropout_of_outlet (hc : s.coilOn i = true) (ht : s.safe.travelled.testBit i = true) (hi : 48 ≤ i.val) :
    let t := ((s.setFb i false).modSafe fun v => { v with travelled := setBitOf v.travelled i false }).ev E.SAFE_FB_MISMATCH 0 [i, 1, 0]
    exec (.fbDropout i) s = .next ((t.latchSrc (coilOutlet i) 5).gateCutOutlet (coilOutlet i)).done := by
  rw [exec_fbDropout, execFbDropout, finish_when_of_true (by rw [hs, hm, hc, ht]; rfl)]
  exact congrArg (fun t : State => Host.Outcome.next t.done) (if_neg (Nat.not_lt.2 hi))

end contact

theorem coilOutlet_of_outlet {i : Nat} (hi : 48 ≤ i) : coilOutlet i = if i < 56 then (i - 48) / 2 else i - 56 :=
  if_neg (Nat.not_lt.2 hi)

/-! ### The weld check and the discharge (R343, R344) -/

/-- With both main contactors open and nothing welded the outlet is released. -/
theorem exec_weldcheckJudged_of_open {s : State} {n : Fin 4} (ho : s.hasOutlet n = true) (hr : s.stagesRun = true)
    (hw : s.ostate n = .weldcheck) (hp : s.fbClosed (mainPos n) = false) (hn : s.fbClosed (mainNeg n) = false)
    (wp : s.welded (mainPos n) = false) (wn : s.welded (mainNeg n) = false) (wc : s.welded (prechargeCoil n) = false) :
    exec (.weldcheckJudged n) s = .next (s.enterRelease n).done :=
  (exec_weldcheckJudged n s).trans (finish_when_of_true (by rw [ho, hr, hw, hp, hn, wp, wn, wc]; rfl))

theorem exec_dischargeDone_of_released {s : State} {n : Fin 4} (ho : s.hasOutlet n = true)
    (ha : s.bit (F.SAFE_OUT_TRIP_ACTIVE.nth n) 10 = false) : exec (.dischargeDone n) s = .next (s.setDisch n false).done :=
  (exec_dischargeDone n s).trans (finish_when_of_true (by rw [ho, ha]; rfl))

/-! ### The insulation monitor (R345, R350) -/

/-- The monitor's PWM as shown: whether it is lost, its frequency and its duty. -/
def State.imdPwmSeen (s : State) (n : Nat) (lost : Bool) (freq duty : Nat) : State :=
  ((s.modOut n fun o => { o with imdPwmLost := lost }).set (F.SAFE_OUT_IMD_FREQ.nth n) freq).set (F.SAFE_OUT_IMD_DUTY.nth n) duty

/-- The level of the monitor's fault output as shown. -/
def State.imdLevelSeen (s : State) (n : Nat) (fault : Bool) : State :=
  (s.modOut n fun o => { o with imdFault := fault }).setB (F.SAFE_OUT_IMD_OK.nth n) (!fault)

section imd
variable {s : State} {n : Fin 4} (hs : s.safetyRuns = true) (ho : s.hasOutlet n = true)
include hs ho

theorem exec_imdFault_of_new (hf : (s.outSt n).imdFault = false) :
    exec (.imdFault n) s = .next ((s.imdLevelSeen n true).judgeImd n (s.imdGood n)).done :=
  (exec_imdFault n s).trans (finish_when_of_true (by rw [hs, ho, hf]; rfl))

/-- Without PWM_EN the loss of the PWM is no event of its own. -/
theorem exec_imdPwmLost_of_unwatched (hl : (s.outSt n).imdPwmLost = false) (he : s.bit F.SAFE_IMD_CFG_PWM_EN n = false) :
    exec (.imdPwmLost n) s = .next ((s.imdPwmSeen n true 0 0).judgeImd n (s.imdGood n)).done := by
  rw [exec_imdPwmLost, execImdPwmLost, finish_when_of_true (by rw [hs, ho, hl]; rfl)]
  dsimp only
  rw [he, State.when_false]
  rfl

theorem exec_imdVerdictGood_pwm (f d : Nat) :
    exec (.imdVerdictGood n true f d) s = .next ((s.imdPwmSeen n false f d).judgeImd n false).done :=
  (exec_imdVerdictGood n true f d s).trans (finish_when_of_true (by rw [hs, ho]; rfl))

theorem exec_imdVerdictGood_level (f d : Nat) :
    exec (.imdVerdictGood n false f d) s = .next ((s.imdLevelSeen n false).judgeImd n false).done :=
  (exec_imdVerdictGood n false f d s).trans (finish_when_of_true (by rw [hs, ho]; rfl))

end imd

/-- Settles O45: each command by its guard, a dropout by the contactor's place, the monitor by what it shows. -/
theorem contactorsAndInsulation : Obligations.ContactorsAndInsulation := by
  refine ⟨fun s i hs hm hc hw => exec_sf5Weld_of_closed hs hm hc hw, fun s i => ?_,
    fun s n ho hr hw hp hn wp wn wc => exec_weldcheckJudged_of_open ho hr hw hp hn wp wn wc,
    fun s n ho ha => exec_dischargeDone_of_released ho ha, fun s n hs ho hf => exec_imdFault_of_new hs ho hf,
    fun s n hs ho hl he => exec_imdPwmLost_of_unwatched hs ho hl he, fun s n f d hs ho => exec_imdVerdictGood_pwm hs ho f d,
    fun s n f d hs ho => exec_imdVerdictGood_level hs ho f d⟩
  intro n t hs hm hc ht hi
  rw [exec_fbDropout_of_outlet hs hm hc ht hi, coilOutlet_of_outlet hi]

end Sys2Proof.Machine
end

/-! PROOFS. The pair: heartbeats, the lane, the frames of the Mirror and the request to fail (R334, R376, R377, R382 to R385, R391,
R392, R398). What a frame carries is log entry 79, the items of a mismatch and what clears PARTNER_ABSENT log entry 80, what waits for a
frame log entry 108 (the model's choices). -/
section
namespace Sys2Proof.Machine

/-! ### Heartbeats and the request to fail (R376, R377, R383) -/

theorem exec_partnerHbLost_of_paired {s : State} (h : s.paired = true) :
    exec .partnerHbLost s = .next
      (((s.setB F.MIR_STATUS_PARTNER_HB_OK false).when s.selected fun s => s.setB F.MIR_STATUS_PARTNER_ABSENT true).ev
        E.MIR_PARTNER_HB_LOST 0 [s.role]).done :=
  (exec_partnerHbLost s).trans (finish_when_of_true h)

theorem exec_partnerHbOk_of_paired {s : State} (h : s.paired = true) :
    exec .partnerHbOk s = .next ((s.setB F.MIR_STATUS_PARTNER_HB_OK true).partnerBack.ev E.MIR_PARTNER_HB_OK 0 []).done :=
  (exec_partnerHbOk s).trans (finish_when_of_true h)

theorem exec_mirFail_of_reaches {s : State} (h : s.reaches 0x2A 0x008 = true) :
    exec .mirFail s = .next (s.modMir fun m => { m with failAsked := true }).done :=
  (exec_mirFail s).trans (finish_hostWrites_of_reaches h _)

theorem exec_mirUnfail_of_reaches {s : State} (h : s.reaches 0x2A 0x008 = true) :
    exec .mirUnfail s = .next (s.modMir fun m => { m with failAsked := false }).done :=
  (exec_mirUnfail s).trans (finish_hostWrites_of_reaches h _)

/-! ### The lane aligned and lost (R384, R385, R398) -/

/-- The lane has aligned and the partner has told its variant and stepping. -/
def State.laneAligned (s : State) (variant ctlStep : Nat) : State :=
  let a := ((s.setB F.MIR_STATUS_ALIGNED true).setB F.MIR_STATUS_LANE_UP true).ev E.MIR_ALIGNED 0 []
  ((a.set F.MIR_PARTNER_VARIANT variant).set F.MIR_PARTNER_CTL_STEP ctlStep).partnerBack

/-- The partner matches. -/
def State.laneMatched (s : State) : State := s.modMir fun m => { m with matched := true, goodRun := 0, last := [] }

/-- What an aligned lane leads to: a partner that differs, in the item given, is told of by the unselected unit; with a partner that
matches an unselected unit that waits for it in CONFIGURE becomes the standby. -/
def State.laneJudged (s : State) : Option (Nat × Nat × Nat) → State
  | some x => (s.modMir fun m => { m with matched := false }).when (!s.selected) fun s => s.ev E.MIR_CONFIG_MISMATCH 0 [x.1, x.2.1, x.2.2]
  | none => s.laneMatched.when (s.laneMatched.mode == .configure && s.laneMatched.mir.waitAlign && !s.laneMatched.selected) fun s =>
      (s.modMir fun m => { m with waitAlign := false }).setMode .mirror 7

theorem exec_mirrorAligned_of_paired {s : State} (hp : s.paired = true) (ho : s.hostOpen = true) (variant c m p : Nat) (crc : Word)
    (same : Bool) :
    exec (.mirrorAligned variant c m p crc same) s = .next
      ((s.laneAligned variant c).laneJudged ((s.laneAligned variant c).laneMismatch variant c m p crc.toNat same)).done := by
  rw [exec_mirrorAligned, execMirrorAligned, finish_when_of_true (by rw [hp, ho]; rfl)]
  refine congrArg (fun t : State => Host.Outcome.next t.done) ?_
  unfold State.laneAligned
  dsimp only
  split
  case h_1 h => rw [h]; rfl
  case h_2 h => rw [h]; rfl

theorem laneJudged_of_match {s : State} (hm : (s.laneMatched.mode == .configure) = true) (hw : s.laneMatched.mir.waitAlign = true)
    (hs : s.laneMatched.selected = false) :
    s.laneJudged none = (s.laneMatched.modMir fun m => { m with waitAlign := false }).setMode .mirror 7 := by
  rw [State.laneJudged, hm, hw, hs]
  rfl

theorem laneJudged_of_mismatch {s : State} (hs : s.selected = false) (x : Nat × Nat × Nat) :
    s.laneJudged (some x) = (s.modMir fun m => { m with matched := false }).ev E.MIR_CONFIG_MISMATCH 0 [x.1, x.2.1, x.2.2] := by
  rw [State.laneJudged, hs]
  rfl

theorem exec_mirrorLaneLost_of_aligned {s : State} (hp : s.paired = true) (ha : s.on F.MIR_STATUS_ALIGNED = true) :
    let t := (((s.setB F.MIR_STATUS_ALIGNED false).setB F.MIR_STATUS_LANE_UP false).imageLost).modMir fun m => { m with matched := false }
    exec .mirrorLaneLost s = .next ((t.when t.selected fun s => s.setB F.MIR_STATUS_PARTNER_ABSENT true).ev E.MIR_LANE_LOST 0
      [t.role]).releaseMirror.done :=
  (exec_mirrorLaneLost s).trans (finish_when_of_true (by rw [hp, ha]; rfl))

/-! ### The frames (R334, R382 to R384, R391, R392) -/

/-- The records of a frame of the image: what has changed, one slice, and what has waited for the frame. -/
def State.frameRecs (s : State) : List MirRec :=
  imageDelta s.mir.last s.imageOf ++ (.slice s.mir.sliceNo :: s.imageOf.filter fun r => mirIdx r % 100 == s.mir.sliceNo) ++
    s.mir.reqs.map fun r => .req r.1 r.2

section tx
variable {s : State} (hp : s.paired = true) (hs : s.selected = true) (ha : s.on F.MIR_STATUS_ALIGNED = true) (ho : s.hostOpen = true)
  (hm : s.mode ≠ .mirror)
include hp hs ha ho hm

/-- A unit that has failed by itself sends frames without its image. -/
theorem exec_mirrorFrameTx_of_failed :
    let t := s.inc F.MIR_SEQ_TX_SEQ
    t.ownFail = true →
    exec .mirrorFrameTx s = .next (t.emit (.mirror ⟨t.get F.MIR_SEQ_TX_SEQ, t.ticks, [], true⟩)).releaseMirror.done := by
  intro t hf
  rw [exec_mirrorFrameTx, execMirrorFrameTx, finish_when_of_true (by rw [hp, hs, ha, ho, bne_iff_ne.2 hm]; rfl)]
  exact congrArg (fun u : State => Host.Outcome.next u.releaseMirror.done) (if_pos hf)

theorem exec_mirrorFrameTx_of_sound :
    let t := s.inc F.MIR_SEQ_TX_SEQ
    t.ownFail = false →
    exec .mirrorFrameTx s = .next
      ((t.modMir fun m => { m with last := t.imageOf, sliceNo := (t.mir.sliceNo + 1) % 100, reqs := [] }).emit
        (.mirror ⟨t.get F.MIR_SEQ_TX_SEQ, t.ticks, t.frameRecs, true⟩)).releaseMirror.done := by
  intro t hf
  rw [exec_mirrorFrameTx, execMirrorFrameTx, finish_when_of_true (by rw [hp, hs, ha, ho, bne_iff_ne.2 hm]; rfl)]
  exact congrArg (fun u : State => Host.Outcome.next u.releaseMirror.done) (if_neg (ne_true_of_eq_false hf))

end tx

section rx
variable {s : State} (hp : s.paired = true) (ha : s.on F.MIR_STATUS_ALIGNED = true)
include hp ha

theorem exec_mirrorFrameRx_of_standby (ht : s.mir.matched = true) (hm : s.mode = .mirror) (f : MirFrame) :
    exec (.mirrorFrameRx f) s = .next (s.mirrorRx f).done :=
  (exec_mirrorFrameRx f s).trans (finish_when_of_true (by rw [hp, ha, ht, hm]; rfl))

/-- The standby sends its mode, its FAIL_N, the last frame it has and its trips. -/
theorem exec_mirrorStatusFrame_sent (hm : s.mode = .mirror) :
    exec (.mirrorStatusFrame none) s = .next
      (s.emit (.mirStatus ⟨s.get F.SYS_MODE_CURRENT, !s.failNow, s.get F.MIR_SEQ_RX_SEQ, s.get F.SAFE_NODE_TRIP_ACTIVE,
        (List.range 4).map fun n => (s.get (F.SAFE_OUT_TRIP_ACTIVE.nth n)).lor (mget 0 s.mir.ownTrips n)⟩)).done := by
  rw [exec_mirrorStatusFrame, execMirrorStatusFrame, finish_when_of_true (by rw [hp, ha]; rfl)]
  exact congrArg (fun t : State => Host.Outcome.next t.done) (if_pos (by rw [hm]; rfl))

theorem exec_mirrorStatusFrame_received (hs : s.selected = true) (p : MirStatus) :
    exec (.mirrorStatusFrame (some p)) s = .next (s.mirrorStatus p).done := by
  rw [exec_mirrorStatusFrame, execMirrorStatusFrame, finish_when_of_true (by rw [hp, ha]; rfl)]
  exact congrArg (fun t : State => Host.Outcome.next t.done) (if_pos hs)

end rx

theorem mirrorRx_of_bad_crc {s : State} {f : MirFrame} (hc : f.crcOk = false) :
    s.mirrorRx f = (s.incSat F.MIR_LANE_ERR_CRC).imageGap 1 :=
  if_pos (by rw [hc]; rfl)

/-- Settles O49: an aligned lane by what the partner tells, a frame sent by whether the unit has failed, the rest by their commands'
guards. -/
theorem mirrorLane : Obligations.MirrorLane := by
  refine ⟨fun s hp => exec_partnerHbLost_of_paired hp, fun s hp => exec_partnerHbOk_of_paired hp,
    fun s hr => ⟨exec_mirFail_of_reaches hr, exec_mirUnfail_of_reaches hr⟩, fun s variant c m p crc same => ?_,
    fun s variant c m p crc same x => ?_, fun s => exec_mirrorLaneLost_of_aligned, fun s => exec_mirrorFrameTx_of_sound, fun _ => rfl,
    fun s => exec_mirrorFrameTx_of_failed, fun s f hp ha ht hm _ => exec_mirrorFrameRx_of_standby hp ha ht hm f,
    fun s f hp ha ht hm hc => ?_, fun s hp ha hm => exec_mirrorStatusFrame_sent hp ha hm,
    fun s p hp ha hs => exec_mirrorStatusFrame_received hp ha hs p⟩
  · intro a b d hp ho hx hm hw hs
    have hx' : (s.laneAligned variant c).laneMismatch variant c m p crc.toNat same = none := hx
    rw [exec_mirrorAligned_of_paired hp ho, hx']
    exact congrArg (fun t : State => Host.Outcome.next t.done) (laneJudged_of_match (s := b) hm hw hs)
  · intro a b hp ho hx hs
    have hx' : (s.laneAligned variant c).laneMismatch variant c m p crc.toNat same = some x := hx
    rw [exec_mirrorAligned_of_paired hp ho, hx']
    exact congrArg (fun t : State => Host.Outcome.next t.done) (laneJudged_of_mismatch (s := b) hs x)
  · rw [exec_mirrorFrameRx_of_standby hp ha ht hm, mirrorRx_of_bad_crc hc]

end Sys2Proof.Machine
end

/-! PROOFS. The load-switch channels: commands and protections (R403 to R412, R418 to R421). Which number a channel's events show
and when LIMITING falls is log entry 113, the command a channel holds through SAFE_OFF log entry 52 (the model's choices). -/
section
namespace Sys2Proof.Machine

/-! ### Commands (R404 to R407) -/

section command
variable {s : State} {c v : Nat} (hl : s.hasLsw c = true)
include hl

theorem chCmdWrite_of_free (ho : s.get (F.LSW_CH_STAT_OWNER.nth c) = 0) :
    s.chCmdWrite c v = ((s.set (F.LSW_CH_CMD_MODE.nth c) (bits v 31 30)).set (F.LSW_CH_CMD_DUTY.nth c) (bits v 13 0)).refreshChan c := by
  rw [State.chCmdWrite, hl]
  exact if_neg (not_not_intro ho)

theorem chCmdWrite_of_owned (ho : s.get (F.LSW_CH_STAT_OWNER.nth c) ≠ 0) :
    s.chCmdWrite c v = s.err E.LSW_CH_OWNED c [c, s.get (F.LSW_CH_STAT_OWNER.nth c)] := by
  rw [State.chCmdWrite, hl]
  exact if_pos ho

end command

theorem exec_lswCmdWrite_of_reaches {s : State} {c : Fin 32} (h : s.reaches 0x2B (0x108 + c * 0x10) = true) (v : Word) :
    exec (.lswCmdWrite c v) s = .next (s.chCmdWrite c v.toNat).done :=
  (exec_lswCmdWrite c v s).trans (finish_hostWrites_of_reaches h _)

/-- A host write to the pages of the switches while their link is lost is dropped and recorded (R406). -/
theorem hostWrites_of_linkLost {s : State} {page off : Nat} (hl : s.on F.LSW_STATUS_LINK_LOST = true) (ho : s.hostOpen = true)
    (hp : s.hasPage page = true) (hm : (s.mode == .mirror && mirroredReg page off) = false) (hd : (dieOf page == .metrology) = false)
    (f : State → State) :
    s.hostWrites page off f = if page = 0x2B then s.err E.LSW_LINK_DOWN 0 [off]
      else if page = 0x2C then s.err E.LSX_LINK_DOWN 0 [off] else f s := by
  simp [State.hostWrites, State.hostReach, hl, ho, hp, hm, hd]

theorem exec_lswLinkDownWrite_of_lost {s : State} (hl : s.on F.LSW_STATUS_LINK_LOST = true) (isLsx : Bool) (off : Nat) :
    exec (.lswLinkDownWrite isLsx off) s = .next (s.hostWrites (if isLsx then 0x2C else 0x2B) off id).done :=
  (exec_lswLinkDownWrite isLsx off s).trans (finish_when_of_true hl)

theorem exec_safeOff_of_released {s : State} (h : s.pdie.wire = false) :
    exec .safeOff s = .next
      (({ s with pdie := { s.pdie with wire := true } } : State).ev E.LSW_SAFE_OFF 0 [s.safeCtlMask]).refreshChans.done :=
  (exec_safeOff s).trans (finish_when_of_true (by rw [h]; rfl))

theorem exec_safeOffRelease_of_asserted {s : State} (h : s.pdie.wire = true) :
    exec .safeOffRelease s = .next ({ s with pdie := { s.pdie with wire := false } } : State).refreshChans.done :=
  (exec_safeOffRelease s).trans (finish_when_of_true h)

/-! ### Limiting and overload (R408 to R410) -/

section current
variable {s : State} {c : Fin 32} (hl : s.hasLsw c = true) (hon : (s.chan c).on = true)
include hl hon

theorem exec_lswLimiting_of_on (i : Int) :
    exec (.lswLimiting c i) s = .next ((s.setB (F.LSW_CH_STAT_LIMITING.nth c) true).setI (F.LSW_CUR_MA.nth c) i).done :=
  (exec_lswLimiting c i s).trans (finish_when_of_true (by rw [hl, hon]; rfl))

/-- A channel that limits after its blanking time is overloaded. -/
theorem exec_lswOverload_of_limiting (hm : s.on (F.LSW_CH_STAT_LIMITING.nth c) = true) (hb : s.on (chBlanking c) = false) (i : Int) :
    exec (.lswOverload c i) s = .next
      ((((s.setI (F.LSW_CUR_MA.nth c) i).setB (chOverload c) true).ev E.LSW_OVERLOAD c [c, ofSigned 32 i]).shutdownChan c).done :=
  (exec_lswOverload c i s).trans (finish_when_of_true (by rw [hl, hon, hm, hb]; rfl))

end current

theorem exec_lswBlankEnd_of_chan {s : State} {c : Fin 96} (h : s.hasChan c = true) :
    exec (.lswBlankEnd c) s = .next (s.setB (chBlanking c) false).done :=
  (exec_lswBlankEnd c s).trans (finish_when_of_true h)

/-! ### Temperature (R410, R411) -/

/-- A conducting channel that turns hot shuts down with its thermal latch. -/
theorem exec_lswThermalShutdown_of_on {s : State} {c : Fin 32} (temp : Int) (hl : s.hasLsw c = true) (hh : (s.chan c).hot = false) :
    let a := (s.modChan c fun v => { v with hot := true }).setI (F.LSW_TEMP_C.nth c) temp
    let b := (a.setB (chLatch c) true).ev E.LSW_THERMAL_SHUTDOWN c [c, ofSigned 32 temp]
    a.on (chLatch c) = false → (b.chan c).on = true → exec (.lswThermalShutdown c temp) s = .next (b.shutdownChan c).done := by
  intro a b hw hon
  rw [exec_lswThermalShutdown, execLswThermalShutdown, finish_when_of_true (by rw [hl, hh]; rfl)]
  exact congrArg (fun t : State => Host.Outcome.next t.done)
    (if_neg (c := (a.on (chLatch c) || !(b.chan c).on) = true) (by rw [hw, hon]; exact Bool.false_ne_true))

theorem exec_lswThermalClear_of_hot {s : State} {c : Fin 32} (hl : s.hasLsw c = true) (hh : (s.chan c).hot = true) (temp : Int) :
    exec (.lswThermalClear c temp) s = .next
      (((s.modChan c fun v => { v with hot := false }).setI (F.LSW_TEMP_C.nth c) temp).tryClearLatch c).done :=
  (exec_lswThermalClear c temp s).trans (finish_when_of_true (by rw [hl, hh]; rfl))

/-- The limiting channels of a cluster that turns warm shut down. -/
theorem exec_lswClusterWarn_of_cool {s : State} {k : Fin 4} (hk : s.hasCluster k = true)
    (hw : s.bit F.LSW_STATUS_CLUSTER_WARN k = false) (temp : Int) :
    let l := (List.range 32).filter fun c => s.hasLsw c && c / 8 == k.val && s.on (F.LSW_CH_STAT_LIMITING.nth c)
    let t := ((s.setBit F.LSW_STATUS_CLUSTER_WARN k true).setI (F.LSW_CLUSTER_TEMP_C.nth k) temp).ev E.LSW_CLUSTER_WARN 0
      [k, ofSigned 32 temp, l.foldl (fun m c => setBitOf m c true) 0]
    exec (.lswClusterWarn k temp) s = .next
      (t.each l fun c s => ((s.modChan c fun v => { v with byCluster := true }).setB (chLatch c) true).shutdownChan c).done :=
  (exec_lswClusterWarn k temp s).trans (finish_when_of_true (by rw [hk, hw]; rfl))

theorem exec_lswClusterClear_of_warm {s : State} {k : Fin 4} (hw : s.bit F.LSW_STATUS_CLUSTER_WARN k = true) (temp : Int) :
    let t := ((s.setBit F.LSW_STATUS_CLUSTER_WARN k false).setI (F.LSW_CLUSTER_TEMP_C.nth k) temp).ev E.LSW_CLUSTER_CLEAR 0 [k]
    exec (.lswClusterClear k temp) s = .next
      (t.each ((List.range 32).filter fun c => t.hasLsw c && c / 8 == k.val && (t.chan c).byCluster) fun c s => s.tryClearLatch c).done :=
  (exec_lswClusterClear k temp s).trans (finish_when_of_true hw)

/-! ### Retries and rearm (R412, R418, R419) -/

section retry
variable {s : State} {c : Fin 96} (hc : s.hasChan c = true)
include hc

theorem exec_lswRetry_of_shut (hs : (s.chan c).shut = true) (hl : s.on (chLatch c) = false) :
    exec (.lswRetry c) s = .next ((s.modChan c fun v => { v with delayDone := true }).refreshChan c).done :=
  (exec_lswRetry c s).trans (finish_when_of_true (by rw [hc, hs, hl]; rfl))

theorem exec_lswRetryReload_of_on (hon : (s.chan c).on = true) :
    exec (.lswRetryReload c) s = .next (s.set (chRetriesLeft c) (s.get (chRetryN c))).done :=
  (exec_lswRetryReload c s).trans (finish_when_of_true (by rw [hc, hon]; rfl))

end retry

theorem exec_lswRearm_of_reaches {s : State} (h : s.reaches 0x2B 0x048 = true) (v : Word) :
    exec (.lswRearm v) s = .next
      (s.each ((List.range 32).filter fun c => s.hasLsw c && v.toNat.testBit c) fun c s => s.rearm c).done :=
  (exec_lswRearm v s).trans (finish_hostWrites_of_reaches h _)

/-- Settles O51: a command by who owns the channel, a write with the link lost by its page, the protections by their guards. -/
theorem loadSwitchProtection : Obligations.LoadSwitchProtection := by
  refine ⟨fun s c v hr hl ho => ?_, fun s c v hr hl ho => ?_, fun s off hk ho hp hm hd => ?_, fun s off hk ho hp hm hd _ => ?_,
    fun s h => exec_safeOff_of_released h, fun s h => exec_safeOffRelease_of_asserted h,
    fun s c i hl hon => exec_lswLimiting_of_on hl hon i,
    fun s c temp => ?_,
    fun s c temp hl hh => exec_lswThermalClear_of_hot hl hh temp, fun s c hc => exec_lswBlankEnd_of_chan hc,
    fun s c i hl hon hm hb => exec_lswOverload_of_limiting hl hon hm hb i, fun s k temp => ?_,
    fun s k temp => ?_, fun s c hc hs hl => exec_lswRetry_of_shut hc hs hl,
    fun s c hc hon => exec_lswRetryReload_of_on hc hon, fun s v hr => exec_lswRearm_of_reaches hr v⟩
  · rw [exec_lswCmdWrite_of_reaches hr, chCmdWrite_of_free hl ho]
  · rw [exec_lswCmdWrite_of_reaches hr, chCmdWrite_of_owned hl ho]
  · rw [exec_lswLinkDownWrite_of_lost hk]
    exact congrArg (fun t : State => Host.Outcome.next t.done) (hostWrites_of_linkLost hk ho hp hm hd id)
  · rw [exec_lswLinkDownWrite_of_lost hk]
    exact congrArg (fun t : State => Host.Outcome.next t.done) (hostWrites_of_linkLost hk ho hp hm hd id)
  · intro a b hl hh hw hon
    exact exec_lswThermalShutdown_of_on temp hl hh hw hon
  · intro l t hk hw
    exact exec_lswClusterWarn_of_cool hk hw temp
  · intro t hw
    exact exec_lswClusterClear_of_warm hw temp

end Sys2Proof.Machine
end

/-! PROOFS. Open load, dissipation and supply of the channels, and the external switches (R401, R413 to R417, R422). What OUT_HIGH
shows is log entry 113 (the model's choice). -/
section
namespace Sys2Proof.Machine

/-! ### Open load, dissipation and supply (R401, R413 to R415) -/

theorem exec_lswOpenLoad_of_off {s : State} {c : Fin 32} (hl : s.hasLsw c = true) (he : s.on (F.LSW_CH_CFG_OL_EN.nth c) = true)
    (hon : (s.chan c).on = false) (hp : (s.on F.MIR_CFG_EN && (s.chan c).commanded) = false) :
    exec (.lswOpenLoad c) s = .next
      ((((s.setB (F.LSW_CH_STAT_OUT_HIGH.nth c) true).setB (F.LSW_CH_STAT_OPEN_LOAD.nth c) true).ev E.LSW_OPEN_LOAD c [c]).refreshFault c).done :=
  (exec_lswOpenLoad c s).trans (finish_when_of_true (by rw [hl, he, hon, hp]; rfl))

/-- Every channel's measurements, then the sum over those that conduct and its peak. -/
theorem exec_lswDissCheck_eq (cur : List Int) (out : List LswOut) (s : State) :
    let l := (List.range 32).filter fun c => s.hasLsw c
    let t := s.each l fun c s => s.measured c (cur.getD c 0) (lswOut out c)
    let mw := satTo 16 (((l.filter fun c => (t.chan c).on).map fun c => dissNw c (cur.getD c 0) (lswOut out c).temp).sum / 1000000)
    exec (.lswDissCheck cur out) s = .next
      ((t.set F.LSW_DISS_MW mw).set F.LSW_DISS_PEAK_MW (max mw (t.get F.LSW_DISS_PEAK_MW))).done :=
  exec_lswDissCheck cur out s

theorem exec_lswDissHigh_of_above {s : State} (h : 4000 < s.get F.LSW_DISS_MW) :
    exec .lswDissHigh s = .next (s.ev E.LSW_DISS_HIGH 0 [s.get F.LSW_DISS_MW]).done :=
  (exec_lswDissHigh s).trans (finish_when_of_true (decide_eq_true h))

theorem exec_lswDissHigh_of_below {s : State} (h : s.get F.LSW_DISS_MW ≤ 4000) : exec .lswDissHigh s = .next s.done :=
  (exec_lswDissHigh s).trans (finish_when_of_false (decide_eq_false (Nat.not_lt.2 h)))

/-- The event of a supply condition. -/
def State.supplyEv (s : State) (k : Nat) (mv : Int) : State :=
  match k with
  | 0 => s.ev E.LSW_SUPPLY_UV 0 [ofSigned 32 mv]
  | 1 => s.ev E.LSW_SUPPLY_OV 0 [ofSigned 32 mv]
  | 2 => s.ev E.LSW_SUPPLY_REVERSE 0 []
  | _ => s.ev E.LSW_GND_LOST 0 []

/-- A supply condition that is new is shown and logged, and the channels follow. -/
theorem exec_lswSupplyFault_of_new {s : State} {k : Fin 4} (h : s.on (supplyField k) = false) (mv : Int) :
    exec (.lswSupplyFault k mv) s = .next ((s.setB (supplyField k) true).supplyEv k mv).refreshChans.done := by
  rw [exec_lswSupplyFault, execLswSupplyFault, finish_when_of_true (by rw [h]; rfl)]
  rfl

theorem exec_lswSupplyRecover_of_fault {s : State} {k : Fin 4} (h : s.on (supplyField k) = true) :
    exec (.lswSupplyRecover k) s = .next (s.setB (supplyField k) false).refreshChans.done :=
  (exec_lswSupplyRecover k s).trans (finish_when_of_true h)

/-! ### The external switches (R416, R417, R422) -/

section external
variable {s : State} (hv : s.is7680 = true)
include hv

/-- A shift of the chain shows and sends the states of the LEN first switches. -/
theorem exec_lsxChainShift_of_enabled (he : s.on F.LSX_CFG_EN = true) :
    let n := s.get F.LSX_CHAIN_LEN
    let t := s.each (List.range 64) fun x s => s.setB (F.LSX_XSTAT_ON.nth x) ((s.chan (32 + x)).on && decide (x < n))
    exec .lsxChainShift s = .next
      (t.emit (.chain n ((List.range (min n 64)).foldl (fun m x => setBitOf m x (t.chan (32 + x)).on) 0))).done :=
  (exec_lsxChainShift s).trans (finish_when_of_true (by rw [hv, he]; rfl))

theorem exec_lsxScanConversion_of_enabled {x : Fin 64} (he : s.on F.LSX_CFG_EN = true) (hx : s.on (F.LSX_XCFG_EN.nth x) = true)
    (mv : Nat) : exec (.lsxScanConversion x mv) s = .next (s.lsxConvert x mv).done :=
  (exec_lsxScanConversion x mv s).trans (finish_when_of_true (by rw [hv, he, hx]; rfl))

theorem exec_lsxOverload_of_above {x : Fin 64} (hon : (s.chan (32 + x)).on = true) (ha : (s.chan (32 + x)).above = true) :
    exec (.lsxOverload x) s = .next
      (((s.setB (chOverload (32 + x)) true).ev E.LSX_OVERLOAD x [x, s.get (F.LSX_XSTAT_CUR.nth x)]).shutdownChan (32 + x)).done :=
  (exec_lsxOverload x s).trans (finish_when_of_true (by rw [hv, hon, ha]; rfl))

end external

/-- REARM acts on the switch its low bits name when its top bit is set. -/
theorem exec_lsxRearm_of_set {s : State} {v : Word} (h : s.reaches 0x2C 0x008 = true) (hb : v.toNat.testBit 31 = true) :
    exec (.lsxRearm v) s = .next (s.rearm (32 + v.toNat % 64)).done := by
  rw [exec_lsxRearm, execLsxRearm, finish_hostWrites_of_reaches h, hb, State.when_true]

/-- Settles O52: each command by its guard, a supply condition by its number. -/
theorem loadSwitchMonitoring : Obligations.LoadSwitchMonitoring :=
  ⟨fun _ _ hl he hon hp => exec_lswOpenLoad_of_off hl he hon hp, fun s cur out => exec_lswDissCheck_eq cur out s,
    fun _ h => exec_lswDissHigh_of_above h, fun _ h => exec_lswDissHigh_of_below h,
    fun _ mv h => exec_lswSupplyFault_of_new (k := 0) h mv, fun _ mv h => exec_lswSupplyFault_of_new (k := 1) h mv,
    fun _ mv h => exec_lswSupplyFault_of_new (k := 2) h mv, fun _ mv h => exec_lswSupplyFault_of_new (k := 3) h mv,
    fun _ _ h => exec_lswSupplyRecover_of_fault h, fun _ hv he => exec_lsxChainShift_of_enabled hv he,
    fun _ _ mv hv he hx => exec_lsxScanConversion_of_enabled hv he hx mv,
    fun _ _ hv hon ha => exec_lsxOverload_of_above hv hon ha, fun _ _ h hb => exec_lsxRearm_of_set h hb⟩

end Sys2Proof.Machine
end

/-! PROOFS. The metrology channels: samples and blocks, lost, frozen and overranged channels, the calibration (R50, R269, R271, R272,
R278, R279, R281, R282, R290). What the loss of a control channel or of a grid channel counts for is log entry 61; what the
raw values of a sample are, and that a loss that begins in VAULT is put down to the supply, log entry 118 (the model's choices). -/
section
namespace Sys2Proof.Machine

/-! ### Registers behind the seal (R50, R51) -/

section sealed
variable {s t : State} {page off v : Nat} {wo : Option Nat} {no : State → State} {f : State → Option State}

theorem sealGuarded_of_closed (h : s.sealOpen = false) : s.guarded true page off wo no f = s.errC .writeSealed page [off] := by
  simp [State.guarded, h]

variable (hp : s.sealOpen = true) (hc : s.clogFull = false)
include hp hc

theorem sealGuarded_of_declined (hf : f s = none) : s.guarded true page off wo no f = no s := by simp [State.guarded, hp, hc, hf]

theorem sealGuarded_of_accepted (hf : f s = some t) :
    s.guarded true page off none no f = t.rwsLogged page off (s.regWord page off) (t.regWord page off) := by
  simp [State.guarded, hp, hc, hf]

/-- A register that reads 0 is recorded with the value written. -/
theorem sealGuarded_of_written (hf : f s = some t) : s.guarded true page off (some v) no f = t.rwsLogged page off 0 v := by
  simp [State.guarded, hp, hc, hf]

end sealed

/-! ### Samples and blocks (R269, R272) -/

theorem exec_lensSample_of_runs {s : State} (h : s.lensRuns = true) (raw ctl : List Nat) :
    exec (.lensSample raw ctl) s = .next (s.lensSample raw ctl).done :=
  (exec_lensSample raw ctl s).trans (finish_when_of_true h)

theorem exec_lensBlockSend_of_linked {s : State} (h : s.lensRuns = true) (hl : s.sys.metLost = false) :
    exec .lensBlockSend s = .next s.sendBlock.done :=
  (exec_lensBlockSend s).trans (finish_when_of_true (by rw [h, hl]; rfl))

/-! ### A loss begins (R278, R279, R281) -/

theorem when_congr {s : State} {c : Bool} {f g : State → State} (h : f s = g s) : s.when c f = s.when c g := by
  rw [State.when, State.when, h]

section begins
variable {s : State} {c : Fin 23} (hr : s.lensRuns = true) (hc : s.chanOn c = true)
include hr hc

theorem exec_lensChLost_of_on (data : Bool) :
    exec (.lensChLost c data) s = .next (s.lossBegin 0 c 0 (if data then 1 else 0)).done :=
  (exec_lensChLost c data s).trans (finish_when_of_true (by rw [hr, hc]; rfl))

/-- A channel frozen since FREEZE_MS; outside VAULT a channel that is billed is looked up again at the cycle's end. -/
theorem exec_lensChFrozen_of_new (hp : (s.lossOf 1 c).present = false) :
    let ago := s.lget F.LENS_FREEZE_MS
    let t := s.lossBegin 1 c ago (ofSigned 32 (mget 0 s.lens.codes c))
    exec (.lensChFrozen c) s = .next (t.when (!isControl c && t.mode != .vault) fun s =>
      s.modLens fun l => { l with froz := l.froz ++ [(c.val, t.ticks - ago * ticksMs)] }).done := by
  intro ago t
  rw [exec_lensChFrozen, execLensChFrozen, finish_when_of_true (by rw [hr, hc, hp]; rfl)]
  exact congrArg (fun u : State => Host.Outcome.next u.done) (when_congr rfl)

end begins

theorem lossBegin_of_new {s : State} {k c : Nat} (h : (s.lossOf k c).present = false) (ago data : Nat) :
    let at_ := s.legalNs - ago * 1000000
    let t := (s.setBit (lossReg k) c true).setLoss k c
      { present := true, tick := s.ticks - ago * ticksMs, sec := at_ / 1000000000, ns := at_ % 1000000000, data := data,
        supply := s.mode == .vault }
    s.lossBegin k c ago data =
      (t.modLens fun l => { l with badSeen := if k < 2 then setBitOf l.badSeen c true else l.badSeen }).refreshMeter :=
  if_neg (ne_true_of_eq_false h)

/-! ### A loss judged, and its end (R279, R281, R282) -/

section judged
variable {s : State} {c k : Nat} {supply : Bool} (hp : (s.lossOf k c).present = true) (hj : (s.lossOf k c).judged = false)
include hp hj

/-- A control channel is no evidence of tampering. -/
theorem judgeLoss_of_control (hc : isControl c = true) :
    s.judgeLoss k c supply = s.setLoss k c { s.lossOf k c with judged := true } := by
  simp [State.judgeLoss, hp, hj, hc]

theorem judgeLoss_of_supply (hc : isControl c = false) :
    s.judgeLoss k c true = (s.setLoss k c { s.lossOf k c with judged := true, supply := true }).when (k == 0) fun t =>
      t.lensEv5 E.LENS_CH_LOST [c, 2, (s.lossOf k c).sec, (s.lossOf k c).ns] := by
  simp [State.judgeLoss, hp, hj, hc]

theorem judgeLoss_of_tamper (hc : isControl c = false) :
    let l := s.lossOf k c
    s.judgeLoss k c false =
      (((s.setLoss k c { l with judged := true, tamper := true }).lensEv5 (lossEv k) [c, l.data, l.sec, l.ns]).setBit
        F.TAMPER_ACTIVE_TYPE (2 + k) true).tamperAt (2 + k) l.sec s.epoch := by
  simp [State.judgeLoss, hp, hj, hc]

end judged

/-- A channel that is back is told with how long it was away; with the last one that counted as tampering the tamper ends. -/
theorem exec_lensChRestored_of_present {s : State} {c : Fin 23} {k : Fin 3} :
    let l := s.lossOf k c
    let u := s.fbBack c k
    let t := ((u.setBit (lossReg k) c false).setLoss k c {}).ev E.LENS_CH_RESTORED 0 [c, u.since l.tick / ticksMs]
    l.present = true →
    exec (.lensChRestored c k) s = .next ((t.when (l.tamper && !(List.range 23).any fun d => (t.lossOf k d).tamper) fun s =>
      s.tamperEnd (2 + k)).refreshMeter).done :=
  fun hp => (exec_lensChRestored c k s).trans (finish_when_of_true hp)

/-! ### The calibration (R50, R290) -/

/-- Byte offset of word `reg` of channel `c`'s calibration. -/
def calOff (c reg : Nat) : Nat := 0x200 + 16 * c + 4 * reg

/-- The calibration field that word `reg` of channel `c` holds. -/
def calField (c reg : Nat) : Field :=
  if reg = 0 then F.LENS_CAL_GAIN_GAIN.nth c else if reg = 1 then F.LENS_CAL_OFFSET_CODE.nth c else F.LENS_CAL_DELAY_CLOCKS.nth c

/-- A calibration word in its field, counted and kept for the metrology die; once every channel is written CAL_BAD ends. -/
def State.calWritten (s : State) (c reg v : Nat) : State :=
  let a := ((s.set (calField c reg) v).inc F.LENS_CAL_SEQ_COUNT).lensDefer 0x23 (calOff c reg)
  let b := a.modLens fun l => { l with calDone := setBitOf l.calDone c true }
  let d := b.when (b.calBad && (List.range b.nChan).all fun k => b.lens.calDone.testBit k) fun s =>
    (s.setB F.LENS_STATUS_CAL_BAD false).tamperEnd 11
  d.lensEv5 E.LENS_CAL_WRITTEN [c, reg, d.get F.LENS_CAL_SEQ_COUNT]

section calibration
variable {s : State} {c : Fin 23} {reg : Fin 3} (hr : s.reaches 0x23 (0x200 + 16 * c.val + 4 * reg.val) = true)
include hr

theorem exec_lensCalWrite_of_service_due (ho : s.sealOpen = true) (hm : s.mode ≠ .sealedService) (v : Word) :
    exec (.lensCalWrite c reg v) s = .next (s.err E.LENS_NOT_SERVICE 0 [calOff c reg]).done := by
  rw [exec_lensCalWrite, execLensCalWrite, finish_hostWrites_of_reaches hr]
  exact congrArg (fun t : State => Host.Outcome.next t.done) (if_pos (by rw [ho, bne_iff_ne.2 hm]; rfl))

theorem exec_lensCalWrite_of_sealed (ho : s.sealOpen = false) (v : Word) :
    exec (.lensCalWrite c reg v) s = .next (s.errC .writeSealed 0x23 [calOff c reg]).done := by
  rw [exec_lensCalWrite, execLensCalWrite, finish_hostWrites_of_reaches hr, ho, Bool.false_and, if_neg Bool.false_ne_true,
    sealGuarded_of_closed ho]
  rfl

theorem exec_lensCalWrite_of_service (ho : s.sealOpen = true) (hm : s.mode = .sealedService) (hc : s.clogFull = false) (v : Word) :
    exec (.lensCalWrite c reg v) s = .next ((s.calWritten c reg v.toNat).rwsLogged 0x23 (calOff c reg) (s.regWord 0x23 (calOff c reg))
      ((s.calWritten c reg v.toNat).regWord 0x23 (calOff c reg))).done := by
  have hserv : ¬(s.sealOpen && s.mode != .sealedService) = true := by rw [hm, ho]; decide
  rw [exec_lensCalWrite, execLensCalWrite, finish_hostWrites_of_reaches hr, if_neg hserv]
  refine congrArg (fun t : State => Host.Outcome.next t.done) (sealGuarded_of_accepted ho hc ?_)
  match reg with
  | 0 => rfl
  | 1 => rfl
  | 2 => rfl

end calibration

/-- Settles O53: samples and blocks by their guards, a loss by whether it is new and how it is judged, the calibration by the seal and
the mode. -/
theorem metrologyChannels : Obligations.MetrologyChannels := by
  refine ⟨fun s raw ctl hr => exec_lensSample_of_runs hr raw ctl, fun s hr hl => exec_lensBlockSend_of_linked hr hl,
    fun s c data hr hc hp => ?_, fun s c => fun hr hc hp => exec_lensChFrozen_of_new hr hc hp, fun s c k => ?_, fun s c k => ?_,
    fun s c k => ?_, fun s c k => exec_lensChRestored_of_present, fun s c reg v hr ho hm => exec_lensCalWrite_of_service_due hr ho hm v,
    fun s c reg v => fun hr ho hm hc => exec_lensCalWrite_of_service hr ho hm hc v,
    fun s c reg v hr ho => exec_lensCalWrite_of_sealed hr ho v⟩
  · rw [exec_lensChLost_of_on hr hc, lossBegin_of_new hp]
    rfl
  · intro l hp hj hc hs
    rw [exec_lensLossJudged, execLensLossJudged, hs, judgeLoss_of_tamper hp hj hc]
    rfl
  · intro l hp hj hc hs
    rw [exec_lensLossJudged, execLensLossJudged, hs, judgeLoss_of_supply hp hj hc]
    rfl
  · intro l hp hj hc
    rw [exec_lensLossJudged, execLensLossJudged, judgeLoss_of_control hp hj hc]
    rfl

end Sys2Proof.Machine
end

/-! PROOFS. The grid's window, the pulse outputs and the capture (R50, R277, R283 to R287). That every queued
pulse counts, and how windows run on while the frequency is lost, is log entry 118 (the model's choices). -/
section
namespace Sys2Proof.Machine

/-! ### The grid (R277, R283) -/

section grid
variable {s : State} (hr : s.lensRuns = true) (hg : s.gridOn = true)
include hr hg

theorem exec_gridWindowEnd_of_on : exec .gridWindowEnd s = .next s.gridWindow.done :=
  (exec_gridWindowEnd s).trans (finish_when_of_true (by rw [hr, hg]; rfl))

theorem exec_gridFreqLost_of_on :
    exec .gridFreqLost s = .next (s.gridLost.modLens fun l => { l with grid := { l.grid with cross := [] } }).done :=
  (exec_gridFreqLost s).trans (finish_when_of_true (by rw [hr, hg]; rfl))

end grid

theorem gridLost_of_held {s : State} (h : s.lens.grid.lost = false) :
    s.gridLost = (((s.ev E.GRID_FREQ_LOST 0 [s.get F.GRID_FREQ_MHZ]).set F.GRID_FREQ_MHZ 0).setB F.GRID_WIN_STAT_VALID false).modLens
      fun l => { l with grid := { l.grid with lost := true } } :=
  if_neg (ne_true_of_eq_false h)

/-! ### Pulse outputs (R50, R284) -/

/-- A pulse that is due starts on an enabled output that is at rest. -/
theorem exec_pulseStart_of_due {s : State} {k : Fin 8} {x : Nat} {rest : List Nat} (hd : (s.pulseOf k).due = x :: rest)
    (hp : (s.pulseOf k).phase = 0) (he : s.lget (F.PULSE_CFG_EN.nth k) ≠ 0) (hv : s.mode ≠ .vault) (hm : s.mode ≠ .dormant)
    (hl : s.lens.started = true) :
    exec (.pulseStart k) s = .next
      (((s.setPulse k { s.pulseOf k with due := rest, phase := 1 }).inc (F.PULSE_COUNT_COUNT.nth k)).pulseBall k true).done := by
  rw [exec_pulseStart, execPulseStart]
  dsimp only
  rw [hd]
  exact finish_when_of_true (by rw [hp, hl, bne_iff_ne.2 he, bne_iff_ne.2 hv, bne_iff_ne.2 hm]; rfl)

theorem exec_pulseEnd_of_on {s : State} {k : Fin 8} (hp : (s.pulseOf k).phase = 1) :
    exec (.pulseEnd k) s = .next ((s.setPulse k { s.pulseOf k with phase := 2 }).pulseBall k false).done :=
  (exec_pulseEnd k s).trans (congrArg State.finish (if_pos hp))

theorem exec_pulseEnd_of_gap {s : State} {k : Fin 8} (hp : (s.pulseOf k).phase ≠ 1) :
    exec (.pulseEnd k) s = .next (s.setPulse k { s.pulseOf k with phase := 0 }).done :=
  (exec_pulseEnd k s).trans (congrArg State.finish (if_neg hp))

section pulseCfg
variable {s : State} {k : Fin 8} {reg : Fin 3} (hr : s.reaches 0x41 (0x040 + 32 * k.val + 4 * reg.val) = true)
  (ho : s.sealOpen = true) (hc : s.clogFull = false)
include hr ho hc

theorem exec_pulseCfgWrite_of_lawful {v : Word} (hv : ¬(reg.val = 2 ∧ (bits v.toNat 31 16 = 0 ∨ bits v.toNat 15 0 = 0))) :
    let off := 0x040 + 32 * k.val + 4 * reg.val
    let t := (s.setWord 0x41 off 0xFFFFFFFF v.toNat fun a => a == .rws).lensDefer 0x41 off
    exec (.pulseCfgWrite k reg v) s = .next (t.rwsLogged 0x41 off (s.regWord 0x41 off) (t.regWord 0x41 off)).done := by
  intro off t
  rw [exec_pulseCfgWrite, execPulseCfgWrite, finish_hostWrites_of_reaches hr, sealGuarded_of_accepted (t := t) ho hc (if_neg hv)]

/-- Neither the width nor the gap of a pulse is 0. -/
theorem exec_pulseCfgWrite_of_zero {v : Word} (hv : reg.val = 2 ∧ (bits v.toNat 31 16 = 0 ∨ bits v.toNat 15 0 = 0)) :
    exec (.pulseCfgWrite k reg v) s = .next (s.err E.PULSE_BAD_CFG 0 [k, 0x040 + 32 * k.val + 4 * reg.val]).done := by
  rw [exec_pulseCfgWrite, execPulseCfgWrite, finish_hostWrites_of_reaches hr, sealGuarded_of_declined ho hc (if_pos hv)]

end pulseCfg

/-! ### The capture (R285 to R287) -/

section capture
variable {s : State} (h : s.reaches 0x23 0x180 = true) (v : Word)
include h

theorem exec_capArm_of_reaches : exec (.capArm v) s = .next (s.capCfgWrite 0xFFFFFFFF (setBitOf v.toNat 0 true)).done :=
  (exec_capArm v s).trans (finish_hostWrites_of_reaches h _)

theorem exec_capFire_of_reaches : exec (.capFire v) s = .next (s.capCfgWrite 0xFFFFFFFF (setBitOf v.toNat 1 true)).done :=
  (exec_capFire v s).trans (finish_hostWrites_of_reaches h _)

end capture

/-- A bit of a whole word that a command has set in its value: that bit, and those of the value. -/
theorem testBit_commanded (v i : Nat) {j : Nat} (hj : j < 32) :
    (Nat.land 0xFFFFFFFF (setBitOf v i true)).testBit j = (v.testBit j || decide (j = i)) := by
  have hm : (2 ^ 32 - 1).testBit j = true := by rw [Nat.testBit_two_pow_sub_one, decide_eq_true hj]
  have h := Nat.testBit_and (2 ^ 32 - 1) (setBitOf v i true) j
  rwa [hm, Bool.true_and, testBit_setBitOf_true] at h

/-- CAP_CFG as written with bit `i` of the value set. -/
def State.capCfgSet (s : State) (v i : Nat) : State := s.setWord 0x23 0x180 0xFFFFFFFF (setBitOf v i true) fun a => a == .rw

theorem capCfgWrite_of_arm {s : State} {v : Nat} (hf : v.testBit 1 = false) :
    s.capCfgWrite 0xFFFFFFFF (setBitOf v 0 true) = (s.capCfgSet v 0).capArm := by
  rw [State.capCfgWrite, testBit_commanded v 0 (by decide), testBit_commanded v 0 (by decide), hf, decide_eq_true rfl, Bool.or_true]
  rfl

/-- FIRE triggers at once where the host is the trigger. -/
theorem capCfgWrite_of_fire {s : State} {v : Nat} (ha : v.testBit 0 = false) (ht : (s.capCfgSet v 1).get F.LENS_CAP_CFG_TRIG = 0) :
    s.capCfgWrite 0xFFFFFFFF (setBitOf v 1 true) = (s.capCfgSet v 1).capTrigger := by
  rw [State.capCfgWrite, testBit_commanded v 1 (by decide), testBit_commanded v 1 (by decide), ha, decide_eq_true rfl, Bool.or_true]
  exact if_pos (beq_iff_eq.2 ht)

theorem exec_capTrigger_of_due {s : State} (h : s.capDue = true) : exec .capTrigger s = .next s.capTrigger.done :=
  (exec_capTrigger s).trans (finish_when_of_true h)

/-- The capture is done once the samples after its trigger have come. -/
theorem exec_capDone_of_filled {s : State} {t : Nat} (ht : s.lens.cap.trig = some t) (hf : s.on F.LENS_CAP_STAT_FILLING = true)
    (hn : t + s.capPost ≤ s.lens.cap.total) :
    let start := s.lens.cap.total % 78125 * (if isControl (laneSel s 0) then 4 else 1)
    exec .capDone s = .next
      ((((s.setB F.LENS_CAP_STAT_FILLING false).setB F.LENS_CAP_STAT_DONE true).set F.LENS_CAP_STAT_START start).ev E.LENS_CAP_DONE 0
        [s.get F.LENS_CAP_CFG_TRIG]).done := by
  rw [exec_capDone, execCapDone]
  dsimp only
  rw [ht]
  exact finish_when_of_true (by rw [hf, decide_eq_true hn]; rfl)

/-- Settles O54: the grid and the capture by their guards, a pulse by its phase, a pulse register by its value, CAP_CFG by the bit the
command sets. -/
theorem pulsesAndCapture : Obligations.PulsesAndCapture := by
  refine ⟨fun s hr hg => exec_gridWindowEnd_of_on hr hg, fun s => ?_,
    fun s k x rest hd hp he hv hm hl => exec_pulseStart_of_due hd hp he hv hm hl, fun s k hp => exec_pulseEnd_of_on hp,
    fun s k hp => exec_pulseEnd_of_gap (by rw [hp]; decide), fun s k reg v => ?_, fun s k v hr ho hc hv => ?_,
    fun s v hr => ⟨exec_capArm_of_reaches hr v, exec_capFire_of_reaches hr v⟩, fun s v => ?_, fun s v => ?_,
    fun s h => exec_capTrigger_of_due h, fun s t => fun ht hf hn => exec_capDone_of_filled ht hf hn⟩
  · intro hr hg hl
    rw [exec_gridFreqLost_of_on hr hg, gridLost_of_held hl]
  · intro off t hr ho hc hv
    exact exec_pulseCfgWrite_of_lawful hr ho hc hv
  · exact exec_pulseCfgWrite_of_zero (reg := 2) hr ho hc ⟨rfl, hv⟩
  · intro t hr hf
    rw [exec_capArm_of_reaches hr, capCfgWrite_of_arm hf]
    rfl
  · intro t hr ha ht
    rw [exec_capFire_of_reaches hr, capCfgWrite_of_fire ha ht]
    rfl

end Sys2Proof.Machine
end

/-! PROOFS. Billing: the metrology cycle, the boundary, the tariff banks, the end of a period and the demand interval (R50, R272, R297,
R298, R300, R302, R303, R306, R307, R312, R313, R323). -/
section
namespace Sys2Proof.Machine

/-! ### The cycle and the boundary (R272, R300, R312, R323) -/

/-- The end of a cycle: its sums, and where they go. -/
theorem exec_metrologyCycleEnd_of_runs {s : State} (h : s.lensRuns = true) {r : State × CycleRes}
    (hr : s.closeCycle s.legalSec s.legalNsPart s.epoch none false = r) :
    exec .metrologyCycleEnd s = .next (r.1.deliver r.2).done := by
  rw [exec_metrologyCycleEnd, execMetrologyCycleEnd, finish_when_of_true h, hr]

theorem deliver_of_free {s : State} (hp : s.bill.pend = none) (hi : s.bill.intent = none) (hh : s.bill.held = []) (r : CycleRes) :
    s.deliver r = (s.bookCycle r).refreshDt := by
  rw [State.deliver, hp, hi, hh]
  rfl

/-- Cycles that end while a boundary waits are held for it. -/
theorem deliver_of_pending {s : State} (hp : s.bill.pend.isSome = true) (r : CycleRes) :
    s.deliver r = (s.modBill fun b => { b with held := b.held ++ [r] }).refreshDt := by
  rw [State.deliver, hp]
  rfl

/-- The boundary is carried out, then the cycles held for it. -/
theorem commitBoundary_of_pending {s : State} {pd : Pending} (hp : s.bill.pend = some pd) (hi : s.bill.intent.isSome = false) :
    s.commitBoundary = ((s.applyPending pd).drain (s.applyPending pd).bill.held.length).refreshDt := by
  rw [State.commitBoundary, hp]
  exact if_neg (ne_true_of_eq_false hi)

/-! ### The commands behind the seal (R50, R302, R303, R306, R307, R313) -/

section sealCmds
variable {s : State} {v : Word} (ho : s.sealOpen = true) (hc : s.clogFull = false)
include ho hc

section tariff
variable (hr : s.reaches 0x26 0x008 = true) (hv : v.toNat.testBit 0 = true)
include hr hv

theorem exec_tariffActivate_of_sound (hb : s.bankBad (1 - s.bank) = none) :
    exec (.tariffActivate v) s = .next ((s.setB F.TARIFF_BANK_SWITCH_PENDING true).rwsLogged 0x26 0x008 0 1).done := by
  rw [exec_tariffActivate, execTariffActivate, finish_hostWrites_of_reaches hr, hv, State.when_true,
    sealGuarded_of_written ho hc (by rw [hb])]

/-- A bank whose calendar has a bad entry is not switched to. -/
theorem exec_tariffActivate_of_bad {e : Nat × Nat} (hb : s.bankBad (1 - s.bank) = some e) :
    exec (.tariffActivate v) s = .next
      (((s.set F.TARIFF_CAL_STAT_FIRST_BAD e.1).err E.TARIFF_CAL_INVALID 0 [e.1, e.2]).rwsLogged 0x26 0x008 0 1).done := by
  rw [exec_tariffActivate, execTariffActivate, finish_hostWrites_of_reaches hr, hv, State.when_true,
    sealGuarded_of_written ho hc (by rw [hb])]

end tariff

theorem exec_closePeriod_of_open (hr : s.reaches 0x25 0x008 = true) (hv : v.toNat.testBit 0 = true) :
    exec (.closePeriod v) s = .next ((s.modBill fun b => { b with closeDue := true }).rwsLogged 0x25 0x008 0 1).done := by
  rw [exec_closePeriod, execClosePeriod, finish_hostWrites_of_reaches hr, hv, State.when_true,
    sealGuarded_of_written (t := s.modBill fun b => { b with closeDue := true }) ho hc rfl]

section demand
variable (hr : s.reaches 0x25 0x040 = true)
include hr

theorem exec_demandCfgWrite_of_lawful (hv : demandCfgOk v.toNat = true) :
    let t := (s.setWord 0x25 0x040 0xFFFFFFFF v.toNat fun a => a == .rws).modBill fun b => { b with cfgDue := true }
    exec (.demandCfgWrite v) s = .next (t.rwsLogged 0x25 0x040 (s.regWord 0x25 0x040) (t.regWord 0x25 0x040)).done := by
  intro t
  rw [exec_demandCfgWrite, execDemandCfgWrite, finish_hostWrites_of_reaches hr, sealGuarded_of_accepted (t := t) ho hc (if_pos hv)]

theorem exec_demandCfgWrite_of_unlawful (hv : demandCfgOk v.toNat = false) :
    exec (.demandCfgWrite v) s = .next (s.err E.BILL_BAD_CFG 0 [v.toNat]).done := by
  rw [exec_demandCfgWrite, execDemandCfgWrite, finish_hostWrites_of_reaches hr,
    sealGuarded_of_declined ho hc (if_neg (ne_true_of_eq_false hv))]

end demand

end sealCmds

theorem exec_demandCfgWrite_of_sealed {s : State} (hr : s.reaches 0x25 0x040 = true) (ho : s.sealOpen = false) (v : Word) :
    exec (.demandCfgWrite v) s = .next (s.errC .writeSealed 0x25 [0x040]).done := by
  rw [exec_demandCfgWrite, execDemandCfgWrite, finish_hostWrites_of_reaches hr, sealGuarded_of_closed ho]

/-- Settles O55: a cycle by whether a boundary waits, a bank by its check, the demand interval by the seal and its value. -/
theorem billing : Obligations.Billing := by
  refine ⟨fun s => ?_, fun s => ?_, fun s pd hp hi => ?_, fun s v => ?_, fun s v e => ?_, fun s v => ?_, fun s v => ?_,
    fun s v hr ho hc hv => exec_demandCfgWrite_of_unlawful ho hc hr hv, fun s v hr ho => exec_demandCfgWrite_of_sealed hr ho v⟩
  · intro r hr hp hi hh
    rw [exec_metrologyCycleEnd_of_runs (r := r) hr rfl, deliver_of_free hp hi hh]
  · intro r hr hp
    rw [exec_metrologyCycleEnd_of_runs (r := r) hr rfl, deliver_of_pending hp]
  · rw [exec_boundaryCommit, execBoundaryCommit, commitBoundary_of_pending hp hi, State.finish]
  · intro t hr hv ho hc hb
    exact exec_tariffActivate_of_sound ho hc hr hv hb
  · intro t hr hv ho hc hb
    exact exec_tariffActivate_of_bad ho hc hr hv hb
  · intro t hr hv ho hc
    exact exec_closePeriod_of_open ho hc hr hv
  · intro t hr ho hc hv
    exact exec_demandCfgWrite_of_lawful ho hc hr hv

end Sys2Proof.Machine
end

/-! PROOFS. The session records and the tamper inputs (R315 to R319, R321, R322, R325). Which points
are refused is log entry 68, until when a cause of tampering stands log entry 69 (the model's choices). -/
section
namespace Sys2Proof.Machine

/-! ### The session records (R315 to R319) -/

section requests
variable {s : State} {p : Nat} (hl : s.sys.metLost = false)
include hl

theorem exec_sessionOpenReq_of_point (hp : s.hasOutlet p = true) (sid : Nat) :
    exec (.sessionOpenReq p sid) s = .next (s.modBill fun b => { b with reqs := b.reqs ++ [.opn p (sid % 2 ^ 64)] }).done := by
  rw [exec_sessionOpenReq, execSessionOpenReq, finish_when_of_true (by rw [hl]; rfl), if_pos hp]

theorem exec_sessionOpenReq_of_absent (hp : s.hasOutlet p = false) (sid : Nat) :
    exec (.sessionOpenReq p sid) s = .next (s.err E.SESS_NO_POINT 0 [p]).done := by
  rw [exec_sessionOpenReq, execSessionOpenReq, finish_when_of_true (by rw [hl]; rfl), if_neg (ne_true_of_eq_false hp)]

theorem exec_sessionCloseReq_of_point (hp : s.hasOutlet p = true) :
    exec (.sessionCloseReq p) s = .next (s.modBill fun b => { b with reqs := b.reqs ++ [.cls p] }).done := by
  rw [exec_sessionCloseReq, execSessionCloseReq, finish_when_of_true (by rw [hl]; rfl), if_pos hp]

end requests

section read
variable {s : State} {v : Word} (hr : s.reaches 0x46 0x054 = true) (hv : v.toNat.testBit 31 = true)
include hr hv

theorem exec_sessRead_of_point (hp : s.points.contains (bits v.toNat 3 0) = true) :
    exec (.sessRead v) s = .next (s.modBill fun b => { b with reqs := b.reqs ++ [.read (bits v.toNat 3 0)] }).done := by
  rw [exec_sessRead, execSessRead, finish_hostWrites_of_reaches hr, hv, if_neg (by decide), if_pos hp]

theorem exec_sessRead_of_absent (hp : s.points.contains (bits v.toNat 3 0) = false) :
    exec (.sessRead v) s = .next (s.err E.SESS_NO_POINT 0 [bits v.toNat 3 0]).done := by
  rw [exec_sessRead, execSessRead, finish_hostWrites_of_reaches hr, hv, if_neg (by decide), if_neg (ne_true_of_eq_false hp)]

end read

/-- The oldest record that waits is signed in its slot. -/
theorem exec_sessionSigned_of_waiting {s : State} {i : Nat} {t : List Nat} (hs : s.bill.signs = i :: t) :
    let a := tbl 2 (128 * i)
    let u := (s.modBill fun b => { b with signs := t }).set F.SESS_SIGN_PENDING_COUNT t.length
    let w := u.wrBytes (a + 64) (slice (Config.metrologySign (u.rdBytes a 64)) 0 64)
    exec .sessionSigned s = .next (w.ev E.SESS_SIGNED 0 [w.rdByte (a + 2), w.rdLe (a + 4) 4]).done := by
  intro a u w
  rw [exec_sessionSigned, execSessionSigned, hs]
  rfl

/-! ### Tamper (R321, R322, R325) -/

theorem exec_metrologyRequestRefused_of_linked {s : State} (hl : s.sys.metLost = false) :
    exec .metrologyRequestRefused s = .next (s.tamper 8).done :=
  (exec_metrologyRequestRefused s).trans (finish_when_of_true (by rw [hl]; rfl))

/-- A cause that stands already is told no second time. -/
theorem tamperBegin_of_active {s : State} {t : Nat} (h : s.bit F.TAMPER_ACTIVE_TYPE t = true) : s.tamperBegin t = s := if_pos h

theorem tamperBegin_of_new {s : State} {t : Nat} (h : s.bit F.TAMPER_ACTIVE_TYPE t = false) :
    s.tamperBegin t = (s.setBit F.TAMPER_ACTIVE_TYPE t true).tamper t := if_neg (ne_true_of_eq_false h)

/-- A clock off by more than the limit is tampering, within it the tamper ends. -/
theorem exec_tamperPpm_eq (ppm : Nat) (s : State) :
    exec (.tamperPpm ppm) s = .next (if s.get F.TAMPER_PPM_LIM_PPM < ppm then s.tamperBegin 15 else s.tamperEnd 15).done :=
  exec_tamperPpm ppm s

/-- Settles O56: a request by whether its point exists, a cause of tampering by whether it stands already. -/
theorem sessionsAndTamper : Obligations.SessionsAndTamper := by
  refine ⟨fun s p sid hl hp => exec_sessionOpenReq_of_point hl hp sid, fun s p sid hl hp => exec_sessionOpenReq_of_absent hl hp sid,
    fun s p hl hp => exec_sessionCloseReq_of_point hl hp, fun s i t => exec_sessionSigned_of_waiting,
    fun s v hr hv hp => exec_sessRead_of_point hr hv hp, fun s v hr hv hp => exec_sessRead_of_absent hr hv hp,
    fun s hl => exec_metrologyRequestRefused_of_linked hl, fun s i h => ?_, fun s i h => ?_,
    fun s i => exec_tamperInputReleased i s, fun s ppm hp h => ?_, fun s ppm hp => ?_⟩
  · rw [exec_tamperInput, execTamperInput, tamperBegin_of_new h, State.finish]
  · rw [exec_tamperInput, execTamperInput, tamperBegin_of_active h, State.finish]
  · rw [exec_tamperPpm_eq, if_pos hp, tamperBegin_of_new h]
  · rw [exec_tamperPpm_eq, if_neg (Nat.not_lt.2 hp), State.tamperEnd]

end Sys2Proof.Machine
end

/-! PROOFS. The quad-SPI target (R426, R427). That a frame without effect answers free data, and that a held read expires by a command
of its own, is log entries 85 and 1 (the model's choices). -/
section
namespace Sys2Proof.Machine

/-! ### Frames (R426, R427): one lemma for each way of a frame -/

section frames
variable {s : State} {op addr data crc : Nat} (hon : s.spiOn = true)
include hon

/-- A read whose CRC fails answers free data. -/
theorem spiRead_of_bad_crc (hc : crc8 (op :: beBytes 4 addr) ≠ crc) (ready : Bool) :
    s.spiRead op addr crc ready = (s.spiCrcErr op).spiNoData ((s.spiCrcErr op).spiStatus false false true false) := by
  rw [State.spiRead, hon, Bool.not_true, if_neg Bool.false_ne_true, if_pos hc]

theorem spiWrite_of_bad_crc (hc : crc8 (op :: beBytes 4 addr ++ beBytes 4 data) ≠ crc) :
    s.spiWrite op addr data crc = (s.spiCrcErr op).spiReply ((s.spiCrcErr op).spiStatus false false true false) := by
  rw [State.spiWrite, hon, Bool.not_true, if_neg Bool.false_ne_true, if_pos hc]

theorem spiStat_of_bad_crc (hc : crc8 [op] ≠ crc) :
    s.spiStat op crc = (s.spiCrcErr op).spiReply ((s.spiCrcErr op).spiStatus false false true false) := by
  rw [State.spiStat, hon, Bool.not_true, if_neg Bool.false_ne_true, if_pos hc]

theorem spiStat_of_good (hc : crc8 [op] = crc) : s.spiStat op crc = s.spiReply (s.spiStatus false false false s.spiBusy) := by
  rw [State.spiStat, hon, Bool.not_true, if_neg Bool.false_ne_true, if_neg (not_not_intro hc)]

variable (hb : s.spiBusy = false) (hh : s.host.spiHeld = none)
include hb hh

/-- A good read whose data is there in time answers it. -/
theorem spiRead_of_ready (hc : crc8 (op :: beBytes 4 addr) = crc) :
    let f := s.spiFetch addr
    s.spiRead op addr crc true = f.2.2.spiData (f.2.2.spiStatus false f.2.1 false false) f.1 := by
  rw [State.spiRead, hon, Bool.not_true, if_neg Bool.false_ne_true, if_neg (not_not_intro hc), hb,
    if_neg Bool.false_ne_true, hh]
  rfl

/-- A good write is queued while fewer than four wait. -/
theorem spiWrite_of_room (hc : crc8 (op :: beBytes 4 addr ++ beBytes 4 data) = crc) (hq : s.host.spiQ.length < 4) :
    let u := s.modHost fun h => { h with spiQ := h.spiQ ++ [(addr, data)] }
    s.spiWrite op addr data crc = u.spiReply (u.spiStatus false false false false) := by
  have hroom : ¬(s.host.spiHeld.isSome = true ∨ 4 ≤ s.host.spiQ.length) := by
    rw [hh]
    exact not_or.2 ⟨Bool.false_ne_true, Nat.not_le.2 hq⟩
  rw [State.spiWrite, hon, Bool.not_true, if_neg Bool.false_ne_true, if_neg (not_not_intro hc), hb,
    if_neg Bool.false_ne_true, if_neg hroom]
  rfl

end frames

/-! ### Queued writes (R427) -/

theorem exec_spiQueuedWrite_of_cons {s : State} {addr v : Nat} {rest : List (Nat × Nat)} (hq : s.host.spiQ = (addr, v) :: rest) :
    exec .spiQueuedWrite s = (s.modHost fun h => { h with spiQ := rest }).busWrite addr v := by
  rw [exec_spiQueuedWrite, execSpiQueuedWrite, hq]

theorem busWrite_of_register {s : State} {addr : Nat} (h : addr / 0x1000 < 0x47) (v : Nat) :
    s.busWrite addr v = s.regWrite (addr / 0x1000) (addr % 0x1000 / 4 * 4) v := if_pos (by omega)

theorem busWrite_of_table {s : State} {addr : Nat} (h : addr / 2 ^ 28 = 1) (v : Nat) :
    s.busWrite addr v = (s.tableWrite (addr / 0x1000000 % 16) (addr % 0x1000000) v).finish := by
  rw [State.busWrite, if_neg (by rw [h]; decide), if_pos h]

theorem exec_spiFrameAbort_of_on {s : State} (hon : s.spiOn = true) :
    exec .spiFrameAbort s = .next (s.incSat F.HOST_SPI_ERR_ABORTED).done :=
  (exec_spiFrameAbort s).trans (finish_when_of_true hon)

/-- Settles O18: a frame by its CRC, a queued write by what its address names. -/
theorem spiTarget : Obligations.SpiTarget := by
  refine ⟨fun s addr crc hon hc hb hh => ?_, fun s addr crc hon hc hb hh => ?_, fun s addr data crc hon hc hb hh hq => ?_,
    fun s addr data crc hon hc hb hh hq => ?_, fun s crc hon hc => ?_, fun s crc hon hc => ?_, fun s addr data crc hon hc => ?_,
    fun s hon => exec_spiFrameAbort_of_on hon, fun s addr crc ready hon hc => ?_, fun s addr crc ready hon hc => ?_,
    fun s addr data crc hon hc => ?_, fun s crc hon hc => ?_, fun s crc hon hc => ?_, fun s addr v rest => ?_,
    fun s addr v rest hq ht => ?_, fun s => exec_spiHeldReadExpiry s⟩
  · rw [exec_spiRead, execSpiRead, spiRead_of_ready hon hb hh hc, State.finish]
  · rw [exec_spiQuadRead, execSpiQuadRead, spiRead_of_ready hon hb hh hc, State.finish]
  · rw [exec_spiWrite, execSpiWrite, spiWrite_of_room hon hb hh hc hq, State.finish]
  · rw [exec_spiQuadWrite, execSpiQuadWrite, spiWrite_of_room hon hb hh hc hq, State.finish]
  · rw [exec_spiStatus, execSpiStatus, spiStat_of_good hon hc, State.finish]
  · rw [exec_spiQuadStatus, execSpiQuadStatus, spiStat_of_good hon hc, State.finish]
  · rw [exec_spiWrite, execSpiWrite, spiWrite_of_bad_crc hon hc, State.spiCrcErr, State.finish]
  · rw [exec_spiRead, execSpiRead, spiRead_of_bad_crc hon hc, State.spiCrcErr, State.finish]
  · rw [exec_spiQuadRead, execSpiQuadRead, spiRead_of_bad_crc hon hc, State.spiCrcErr, State.finish]
  · rw [exec_spiQuadWrite, execSpiQuadWrite, spiWrite_of_bad_crc hon hc, State.spiCrcErr, State.finish]
  · rw [exec_spiStatus, execSpiStatus, spiStat_of_bad_crc hon hc, State.spiCrcErr, State.finish]
  · rw [exec_spiQuadStatus, execSpiQuadStatus, spiStat_of_bad_crc hon hc, State.spiCrcErr, State.finish]
  · intro t page off hq hn ho hd hw hr
    rw [exec_spiQueuedWrite_of_cons hq, busWrite_of_register hn, regWrite_of_ordinary hn ho hd hw, finish_hostWrites_of_reaches hr]
  · rw [exec_spiQueuedWrite_of_cons hq, busWrite_of_table ht, State.finish]

end Sys2Proof.Machine
end

/-! PROOFS. The lifetime counters (R447 to R452). The mean of a second is log entry 90, what each counter counts log entry 89 (the
model's choices). -/
section
namespace Sys2Proof.Machine

/-! ### A second (R448, R449, R451, R452) -/

/-- The control die's part of a second: its mode, its time counters and its histograms. -/
def State.secondCounted (s : State) (means : List (Nat × Int)) : State :=
  let a := s.lifeAdd s.mode.code 1
  (a.each a.timeCounters fun i s => s.lifeAdd i 1).each (means.filter fun h => a.histOn h.1 && !metHist h.1) fun h s =>
    s.binAdd h.1 (histBin h.1 h.2)

/-- The metrology die's part of a second: its own time counter and histograms. -/
def State.metSecond (s : State) (own : List (Nat × Int)) : State :=
  (s.lifeStore 21 1).each own fun h s => s.binStore h.1 (histBin h.1 h.2) 1

theorem exec_lifeSecondUpdate_of_powered {s : State} (hh : s.sys.held = false) (hd : s.mode ≠ .dormant) (hv : s.mode ≠ .vault)
    (means : List (Nat × Int)) :
    let c := (s.secondCounted means).metSecond (means.filter fun h => s.histOn h.1 && metHist h.1)
    exec (.lifeSecondUpdate means) s = .next ((c.when c.life.baseDue State.takeBaseline).inc F.LIFE_UPDATE_SEQ_SEQ).done := by
  intro c
  have hm : ¬(s.mode = .dormant ∨ s.mode = .vault) := not_or.2 ⟨hd, hv⟩
  rw [exec_lifeSecondUpdate, execLifeSecondUpdate, finish_when_of_true (by rw [hh]; rfl)]
  dsimp only
  rw [hh, Bool.not_false, State.when_true, if_neg hm]
  rfl

/-! ### The host's own counters (R450) -/

section host
variable {s : State} {v : Word}

theorem exec_lifeHostInc_of_reaches (h : s.reaches 0x3F 0x054 = true) : exec (.lifeHostInc v) s = .next (s.hostInc v.toNat).done :=
  (exec_lifeHostInc v s).trans (finish_hostWrites_of_reaches h _)

theorem exec_lifeHostHist_of_reaches (h : s.reaches 0x3F 0x058 = true) : exec (.lifeHostHist v) s = .next (s.hostHist v.toNat).done :=
  (exec_lifeHostHist v s).trans (finish_hostWrites_of_reaches h _)

end host

theorem hostInc_of_block {s : State} {v : Nat} (h : v % 512 < 448) : s.hostInc v = s.err E.LIFE_BAD_INDEX 0 [v] := if_pos h

theorem hostInc_of_host {s : State} {v : Nat} (h : 448 ≤ v % 512) : s.hostInc v = s.lifeStore (v % 512) (v / 65536) :=
  if_neg (Nat.not_lt.2 h)

theorem hostHist_of_block {s : State} {v : Nat} (h : bits v 14 8 < 80) : s.hostHist v = s.err E.LIFE_BAD_INDEX 0 [v] := if_pos h

theorem hostHist_of_host {s : State} {v : Nat} (h : 80 ≤ bits v 14 8) : s.hostHist v = s.binStore (bits v 14 8) (v % 32) 1 :=
  if_neg (Nat.not_lt.2 h)

/-! ### The baseline (R50, R451) -/

theorem baseline_of_locked {s : State} {v : Nat} (hp : s.pwdOpen = false) : s.baseline v = s.errC .writeNeedsPassword 0x3F [0x044] := by
  rw [State.baseline, guarded_of_locked hp]

/-- The baseline is asked for by its key. -/
theorem baseline_of_key {s : State} (hp : s.pwdOpen = true) (hc : s.clogFull = false) :
    s.baseline 0xB45E = (s.modLife fun l => { l with baseDue := true }).rwpLogged 0x3F 0x044 0 0xB45E := by
  refine guarded_of_written hp hc (congrArg some ?_)
  rw [State.modLife, State.modLife, beq_self_eq_true, Bool.or_true]

end Sys2Proof.Machine
end

/-! PROOFS. The store: its codes, a block read and the scrub (R454, R455, R457). The order of the symbols is log entry 110 (the model's
choice). -/
section
namespace Sys2Proof.Machine

/-! ### The inner code, word by word -/

/-- The wrong bytes that the errors `e` in word `w` leave, each with its place among the symbols. -/
def wordSyms (w e : Nat) : List (Nat × Nat) :=
  (List.range (if w < 32 then 8 else 4)).filterMap fun k =>
    let b := e / 256 ^ k % 256
    if b = 0 then none else some (8 * w + k, b)

theorem wordSyms_zero (w : Nat) : wordSyms w 0 = [] := by simp [wordSyms]

/-- Up to two errors in a word the inner code has no choice: it corrects one and leaves two. -/
theorem innerRead_of_few {p : Nat} (h : popBits 72 p ≤ 2) (f : Nat) : innerRead p f = innerRead p 0 := by
  unfold innerRead
  match hn : popBits 72 p, h with
  | 0, _ => rfl
  | 1, _ => rfl
  | 2, _ => rfl

/-- What a word adds to the outcome of a block. -/
def innerWord (flips : List (Nat × Nat)) (a : Bool × List (Nat × Nat)) (w : Nat) : Bool × List (Nat × Nat) :=
  let r := innerRead (wordFlips flips w) 0
  (a.1 || r.1, a.2 ++ wordSyms w r.2)

/-- Blocks with up to two errors in each word use no free value up. -/
theorem innerBlock_of_few {s : State} {flips : List (Nat × Nat)} (h : ∀ w ∈ List.range 33, popBits 72 (wordFlips flips w) ≤ 2) :
    s.innerBlock flips = (s, (List.range 33).foldl (innerWord flips) (false, [])) := by
  rw [State.innerBlock]
  generalize (false, ([] : List (Nat × Nat))) = a
  generalize List.range 33 = l at h ⊢
  induction l generalizing a with
  | nil => rfl
  | cons w l ih =>
    obtain ⟨hw, hl⟩ := List.forall_mem_cons.1 h
    rw [List.foldl_cons, List.foldl_cons, ← ih _ hl]
    congr 1
    dsimp only
    rw [innerRead_of_few hw, decide_eq_false (Nat.not_lt.2 hw), State.when_false]
    rfl

/-- Where the inner code leaves no error in any word, the block only shows whether it has corrected one. -/
theorem foldl_innerWord_of_corrected {flips : List (Nat × Nat)} (l : List Nat)
    (h : ∀ w ∈ l, (innerRead (wordFlips flips w) 0).2 = 0) (a : Bool × List (Nat × Nat)) :
    l.foldl (innerWord flips) a = (a.1 || l.any fun w => (innerRead (wordFlips flips w) 0).1, a.2) := by
  induction l generalizing a with
  | nil => simp
  | cons w l ih =>
    obtain ⟨hw, hl⟩ := List.forall_mem_cons.1 h
    rw [List.foldl_cons, ih hl, innerWord, hw, wordSyms_zero, List.append_nil, List.any_cons, Bool.or_assoc]

theorem wordFlips_single (w p j : Nat) : wordFlips [(w, p)] j = if w = j then p % 2 ^ 72 else 0 := by
  by_cases h : w = j <;> simp [wordFlips, h]

/-- What the inner code makes of no error and of a single one. -/
theorem innerRead_zero : innerRead 0 0 = (false, 0) := by decide

theorem popBits_bit (b : Fin 72) : popBits 72 (2 ^ b.val) = 1 := by
  revert b
  decide +kernel

theorem innerRead_bit (b : Fin 72) : innerRead (2 ^ b.val) 0 = (true, 0) := by
  rw [innerRead, popBits_bit]
  rfl

theorem wordFlips_bit (w : Nat) (b : Fin 72) (j : Nat) : wordFlips [(w, 2 ^ b.val)] j = if w = j then 2 ^ b.val else 0 := by
  have hlt : 2 ^ b.val < 2 ^ 72 := Nat.pow_lt_pow_right (by decide) b.isLt
  rw [wordFlips_single, Nat.mod_eq_of_lt hlt]

/-- A block without an error. -/
theorem innerBlock_clean (s : State) : s.innerBlock [(32, 0)] = (s, false, []) := by
  have hz (w : Nat) : wordFlips [(32, 0)] w = 0 := by rw [wordFlips_single, Nat.zero_mod, ite_self]
  rw [innerBlock_of_few fun w _ => by rw [hz]; decide, foldl_innerWord_of_corrected _ fun w _ => by rw [hz, innerRead_zero]]
  simp [hz, innerRead_zero]

/-- A single error in a word, of data or of check symbols, is corrected. -/
theorem innerBlock_bit (s : State) (w : Fin 33) (b : Fin 72) : s.innerBlock [(w.val, 2 ^ b.val)] = (s, true, []) := by
  have hread (j : Nat) : innerRead (wordFlips [(w.val, 2 ^ b.val)] j) 0 = (decide (w.val = j), 0) := by
    rw [wordFlips_bit]
    by_cases h : w.val = j
    · rw [if_pos h, innerRead_bit, decide_eq_true h]
    · rw [if_neg h, innerRead_zero, decide_eq_false h]
  have hfew (j : Nat) : popBits 72 (wordFlips [(w.val, 2 ^ b.val)] j) ≤ 2 := by
    rw [wordFlips_bit]
    split
    · rw [popBits_bit]; decide
    · decide
  rw [innerBlock_of_few fun j _ => hfew j, foldl_innerWord_of_corrected _ fun j _ => by rw [hread]]
  simp [hread]

/-! ### The outer code and what a read leaves -/

theorem leaveErrors_of_none {left : List (Nat × Nat)} (h : netErrors left = []) (s : State) (blk : Nat) : s.leaveErrors blk left = s := by
  unfold State.leaveErrors
  split
  · rw [h]; rfl
  · rfl

/-- A block whose codewords leave no error in the data. -/
theorem codedRead_of_corrected {s : State} {flips errs : List (Nat × Nat)} {inner : Bool} (hi : s.innerBlock flips = (s, inner, errs))
    (hn : netErrors (rsLeft (rsLeft errs (rsRead errs 0)) (rsRead errs 1)) = []) (blk : Nat) (bad : Bool) :
    let o := blockOutcome inner (rsRead errs 0) (rsRead errs 1)
    s.codedRead blk flips bad = s.blockRead blk o.1 o.2 bad := by
  rw [State.codedRead, hi]
  dsimp only
  rw [State.when, leaveErrors_of_none hn, ite_self]

/-- A block that cannot be corrected is left as it is. -/
theorem codedRead_of_lost {s : State} {flips errs : List (Nat × Nat)} {inner : Bool} (hi : s.innerBlock flips = (s, inner, errs))
    {c : Nat} (ho : blockOutcome inner (rsRead errs 0) (rsRead errs 1) = (3, c)) (blk : Nat) (bad : Bool) :
    s.codedRead blk flips bad = s.blockRead blk 3 c bad := by
  rw [State.codedRead, hi]
  dsimp only
  rw [ho]
  rfl

/-- Two errors in one word are left to the outer code: the wrong byte is symbol 0. -/
theorem innerBlock_double (s : State) : s.innerBlock [(0, 3)] = (s, false, [(0, 3)]) := by
  rw [innerBlock_of_few (by decide +kernel)]
  exact congrArg (Prod.mk s) (by decide +kernel)

/-- Two errors in each of two words: both wrong bytes belong to codeword 0. -/
theorem innerBlock_doubles (s : State) : s.innerBlock [(0, 3), (1, 3)] = (s, false, [(0, 3), (8, 3)]) := by
  rw [innerBlock_of_few (by decide +kernel)]
  exact congrArg (Prod.mk s) (by decide +kernel)

theorem rsRead_one : rsRead [(0, 3)] 0 = .fixed 0 3 ∧ rsRead [(0, 3)] 1 = .clean := by decide +kernel

theorem rsRead_two : rsRead [(0, 3), (8, 3)] 0 = .bad := by decide +kernel

theorem codedRead_clean (s : State) (blk : Nat) (bad : Bool) : s.codedRead blk [(32, 0)] bad = s.blockRead blk 0 0 bad :=
  codedRead_of_corrected (innerBlock_clean s) (by decide +kernel) blk bad

theorem codedRead_bit (s : State) (blk : Nat) (w : Fin 33) (b : Fin 72) (bad : Bool) :
    s.codedRead blk [(w.val, 2 ^ b.val)] bad = s.blockRead blk 1 0 bad :=
  codedRead_of_corrected (innerBlock_bit s w b) (by decide +kernel) blk bad

theorem codedRead_double (s : State) (blk : Nat) (bad : Bool) : s.codedRead blk [(0, 3)] bad = s.blockRead blk 2 0 bad := by
  obtain ⟨h0, h1⟩ := rsRead_one
  have hn : netErrors (rsLeft (rsLeft [(0, 3)] (rsRead [(0, 3)] 0)) (rsRead [(0, 3)] 1)) = [] := by rw [h0, h1]; decide +kernel
  rw [codedRead_of_corrected (innerBlock_double s) hn, h0, h1]
  rfl

theorem codedRead_doubles (s : State) (blk : Nat) (bad : Bool) :
    s.codedRead blk [(0, 3), (1, 3)] bad = s.blockRead blk 3 0 bad :=
  codedRead_of_lost (innerBlock_doubles s) (by rw [rsRead_two]; rfl) blk bad

/-! ### The scrub (R457) -/

theorem exec_scrubRead_within {s : State} (he : s.on F.MEM_SCRUB_CFG_EN = true) (hh : s.sys.held = false) (hv : s.mode ≠ .vault)
    (hd : s.mode ≠ .dormant) (hb : s.get F.MEM_SCRUB_POS_BLOCK ≠ 16383) (flips : List (Nat × Nat)) (check : Nat) (bad : Bool) :
    let blk := s.get F.MEM_SCRUB_POS_BLOCK
    exec (.scrubRead flips check bad) s =
      .next ((s.codedRead blk (flips ++ [(32, check)]) bad).set F.MEM_SCRUB_POS_BLOCK (blk + 1)).done := by
  rw [exec_scrubRead, execScrubRead, finish_when_of_true (by rw [he, hh, bne_iff_ne.2 hv, bne_iff_ne.2 hd]; rfl)]
  dsimp only
  rw [beq_eq_false_iff_ne.2 hb, State.when_false]

/-- Settles O58: a count by whose counter it is, the baseline by the password, a block by what each code makes of its errors. -/
theorem lifetimeAndStore : Obligations.LifetimeAndStore := by
  refine ⟨fun s means => fun hh hd hv => exec_lifeSecondUpdate_of_powered hh hd hv means, fun s v hr h => ?_, fun s v hr h => ?_,
    fun s v hr h => ?_, fun s v hr h => ?_, fun s hr hp hc => ?_, fun s hr hp => ?_,
    fun s flips check bad => fun he hh hv hd hb => exec_scrubRead_within he hh hv hd hb flips check bad, codedRead_clean, codedRead_bit,
    fun s blk bad => ⟨codedRead_double s blk bad, codedRead_doubles s blk bad⟩, fun _ _ _ _ => rfl⟩
  · rw [exec_lifeHostInc_of_reaches hr, hostInc_of_block h]
  · rw [exec_lifeHostInc_of_reaches hr, hostInc_of_host h]
  · rw [exec_lifeHostHist_of_reaches hr, hostHist_of_block h]
  · rw [exec_lifeHostHist_of_reaches hr, hostHist_of_host h]
  · rw [exec_lifeBaseline, execLifeBaseline, finish_hostWrites_of_reaches hr]
    exact congrArg (fun t : State => Host.Outcome.next t.done) (baseline_of_key hp hc)
  · rw [exec_lifeBaseline, execLifeBaseline, finish_hostWrites_of_reaches hr, baseline_of_locked hp]

end Sys2Proof.Machine
end

/-! PROOFS. The DMA channels: their commands and what they do by themselves (R433 to R438, R440, R442). What a command meets in each
state is log entry 87, what is a bad field log entry 86 (the model's choices). -/
section
namespace Sys2Proof.Machine

/-! ### Commands (R434, R436 to R438) -/

section commands
variable {s : State} {c : Fin 16} (hr : s.reaches (0x2F + c) 0x048 = true)
include hr

theorem exec_dmaGo_of_reaches : exec (.dmaGo c) s = .next (s.dmaGo c).done :=
  (exec_dmaGo c s).trans (finish_hostWrites_of_reaches hr _)

theorem exec_dmaStart_of_reaches : exec (.dmaStart c) s = .next (s.dmaStart c).done :=
  (exec_dmaStart c s).trans (finish_hostWrites_of_reaches hr _)

theorem exec_dmaResume_of_reaches : exec (.dmaResume c) s = .next (s.dmaResume c).done :=
  (exec_dmaResume c s).trans (finish_hostWrites_of_reaches hr _)

theorem exec_dmaSkip_of_reaches : exec (.dmaSkip c) s = .next (s.dmaSkip c).done :=
  (exec_dmaSkip c s).trans (finish_hostWrites_of_reaches hr _)

theorem exec_dmaRetry_of_reaches : exec (.dmaRetry c) s = .next (s.dmaRetry c).done :=
  (exec_dmaRetry c s).trans (finish_hostWrites_of_reaches hr _)

end commands

theorem exec_dmaAppend_of_reaches {s : State} {c : Fin 16} (hr : s.reaches (0x2F + c) 0x054 = true) (v : Word) :
    exec (.dmaAppend c v) s = .next (s.dmaAppend c).done :=
  (exec_dmaAppend c v s).trans (finish_hostWrites_of_reaches hr _)

section go
variable {s : State} {c : Nat}

theorem dmaGo_of_chained (hm : s.get (F.DMACH_MODE_MODE.inst c) ≠ 1) : s.dmaGo c = s.dmaRefuse c 1 := if_pos hm

variable (hm : s.get (F.DMACH_MODE_MODE.inst c) = 1)
include hm

theorem dmaGo_of_idle (hs : s.dst c = 0) : s.dmaGo c = s.dmaLoadShadow c := by
  rw [State.dmaGo, if_neg (not_not_intro hm), if_pos hs]

theorem dmaGo_of_armed (ha : s.on (F.DMACH_SH_STAT_ARMED.inst c) = true) (hs : s.dst c ≠ 0) :
    s.dmaGo c = s.err E.DMACH_SHADOW_BUSY c [] := by
  rw [State.dmaGo, if_neg (not_not_intro hm), if_neg hs, if_pos ha]

/-- GO arms the shadow set while a transfer is under way. -/
theorem dmaGo_of_unarmed (ha : s.on (F.DMACH_SH_STAT_ARMED.inst c) = false) (hlo : 2 ≤ s.dst c) (hhi : s.dst c ≤ 5) :
    s.dmaGo c = s.setB (F.DMACH_SH_STAT_ARMED.inst c) true := by
  rw [State.dmaGo, if_neg (not_not_intro hm), if_neg (by omega), if_neg (ne_true_of_eq_false ha), if_pos ⟨hlo, hhi⟩]

end go

section chain
variable {s : State} {c : Nat}

theorem dmaStart_of_idle (hm : s.get (F.DMACH_MODE_MODE.inst c) = 2) (hs : s.dst c = 0) :
    s.dmaStart c = s.dmaFetch c (s.get2 (F.DMACH_HEAD_HI_ADDR.inst c) (F.DMACH_HEAD_LO_ADDR.inst c)) false := if_pos ⟨hm, hs⟩

theorem dmaStart_of_started (hs : s.dst c ≠ 0) : s.dmaStart c = s.dmaRefuse c 2 := if_neg fun h => hs h.2

theorem dmaResume_of_transfer (hs : s.dst c = 5) (hb : (s.dch c).resume ≠ 1) : s.dmaResume c = s.setDst c (s.dch c).resume := by
  rw [State.dmaResume, if_neg (not_not_intro hs), if_neg hb]

/-- A channel paused before a fetch fetches. -/
theorem dmaResume_of_fetch (hs : s.dst c = 5) (hb : (s.dch c).resume = 1) :
    s.dmaResume c = s.dmaFetch c (s.curDesc c) (s.dch c).again := by
  rw [State.dmaResume, if_neg (not_not_intro hs), if_pos hb]

/-- SKIP goes on behind a failed descriptor that has a next one. -/
theorem dmaSkip_of_next (hs : s.dst c = 7) (hd : (s.dch c).direct = false) (hf : (s.dch c).fetched = true)
    (hl : (s.dch c).last = false) : s.dmaSkip c = s.dmaFetch c (s.dch c).next false := by
  rw [State.dmaSkip, if_neg (not_not_intro hs), hd, hf, hl]
  rfl

theorem dmaRetry_of_fetched (hs : s.dst c = 7) (hf : (s.dch c).fetched = true) : s.dmaRetry c = s.dmaBegin c := by
  rw [State.dmaRetry, if_neg (not_not_intro hs), if_pos hf]

theorem dmaRetry_of_unfetched (hs : s.dst c = 7) (hf : (s.dch c).fetched = false) : s.dmaRetry c = s.dmaFetch c (s.curDesc c) false := by
  rw [State.dmaRetry, if_neg (not_not_intro hs), if_neg (ne_true_of_eq_false hf)]

end chain

/-! ### A fetched descriptor (R435, R438) -/

/-- The working set as the 32 bytes of a descriptor give it, with the appends counted by then. -/
def State.descTaken (s : State) (c : Nat) (desc : List Nat) : State :=
  let le := fun i n => ofLe (slice desc i n)
  (s.modDch c fun d => { d with
      fetched := true, src := le 0 8, dst := le 8 8, next := le 16 8, len := le 24 3 % 2 ^ 21, ctrl := le 27 1 }).set
    (F.DMACH_SAMPLED_COUNT.inst c) (s.get (F.DMACH_APPEND_CNT_COUNT.inst c))

section fetched
variable {s : State} {c : Fin 16} (hs : s.dst c = 1)
include hs

theorem exec_dmaDescFetched_of_failed {code : Nat} (hc : code ≠ 0) (desc : List Nat) :
    exec (.dmaDescFetched c desc code) s = .next (s.fetchFail c code).done := by
  rw [exec_dmaDescFetched, execDmaDescFetched, finish_when_of_true (beq_iff_eq.2 hs), if_pos hc]

variable {desc : List Nat}

/-- A descriptor that has not been done starts. -/
theorem exec_dmaDescFetched_of_open (hd : (ofLe (slice desc 28 4)).testBit 31 = false) (hl : ofLe (slice desc 24 3) < 2 ^ 21) :
    exec (.dmaDescFetched c desc 0) s = .next ((s.descTaken c desc).dmaBegin c).done := by
  have hlen : ¬ ofLe (slice desc 24 3) / 2 ^ 21 ≠ 0 := not_not_intro (Nat.div_eq_of_lt hl)
  rw [exec_dmaDescFetched, execDmaDescFetched, finish_when_of_true (beq_iff_eq.2 hs), if_neg (not_not_intro rfl)]
  dsimp only
  rw [if_neg (ne_true_of_eq_false hd), if_neg hlen, State.descTaken]

/-- The last descriptor, done already, leaves the channel at its tail. -/
theorem exec_dmaDescFetched_of_last_done (hd : (ofLe (slice desc 28 4)).testBit 31 = true)
    (hl : (ofLe (slice desc 27 1)).testBit 0 = true) :
    exec (.dmaDescFetched c desc 0) s = .next ((s.descTaken c desc).setDst c 6).done := by
  rw [exec_dmaDescFetched, execDmaDescFetched, finish_when_of_true (beq_iff_eq.2 hs), if_neg (not_not_intro rfl)]
  dsimp only
  rw [if_pos hd, if_pos hl, State.descTaken]

end fetched

/-! ### The mover's choice (R433) -/

/-- The first channel of a list with the least rank, `best` counting before it. -/
def State.rankMin (s : State) (best : Option Nat) (c : Nat) : Option Nat :=
  match best with
  | none => some c
  | some b => if s.dmaRank c < s.dmaRank b then some c else best

/-- The choice is one of the candidates, and none ranks before it. -/
theorem foldl_rankMin {s : State} {l : List Nat} {best : Option Nat} {c : Nat} (h : l.foldl s.rankMin best = some c) :
    (c ∈ l ∨ best = some c) ∧ (∀ b ∈ l, s.dmaRank c ≤ s.dmaRank b) ∧ ∀ b, best = some b → s.dmaRank c ≤ s.dmaRank b := by
  induction l generalizing best with
  | nil =>
    refine ⟨.inr h, fun b hb => absurd hb List.not_mem_nil, fun b hb => ?_⟩
    rw [List.foldl_nil, hb] at h
    exact Option.some.inj h ▸ Nat.le_refl _
  | cons x l ih =>
    obtain ⟨hmem, hle, hbest⟩ := ih h
    cases best with
    | none =>
      refine ⟨.inl ?_, ?_, fun b hb => nomatch hb⟩
      · exact hmem.elim (List.mem_cons_of_mem _) fun hx => Option.some.inj hx ▸ List.mem_cons_self
      · exact List.forall_mem_cons.2 ⟨hbest x rfl, hle⟩
    | some b =>
      by_cases hx : s.dmaRank x < s.dmaRank b
      · rw [State.rankMin, if_pos hx] at hmem hbest
        have hcx := hbest x rfl
        refine ⟨.inl ?_, List.forall_mem_cons.2 ⟨hcx, hle⟩, fun a ha => ?_⟩
        · exact hmem.elim (List.mem_cons_of_mem _) fun hy => Option.some.inj hy ▸ List.mem_cons_self
        · rw [← Option.some.inj ha]
          exact hcx.trans hx.le
      · rw [State.rankMin, if_neg hx] at hmem hbest
        exact ⟨hmem.imp_left (List.mem_cons_of_mem _),
          List.forall_mem_cons.2 ⟨(hbest b rfl).trans (Nat.not_lt.1 hx), hle⟩, hbest⟩

/-- The mover's choice is a ready channel that no ready one ranks before. -/
theorem dmaNext_spec {s : State} {c : Nat} (h : s.dmaNext = some c) :
    c < 16 ∧ s.bit F.DMA_READY_CH c = true ∧ ∀ b < 16, s.bit F.DMA_READY_CH b = true → s.dmaRank c ≤ s.dmaRank b := by
  have hf : ((List.range 16).filter fun c => s.bit F.DMA_READY_CH c).foldl s.rankMin none = some c := h
  obtain ⟨hmem, hle, -⟩ := foldl_rankMin hf
  obtain ⟨hlt, hr⟩ := List.mem_filter.1 (hmem.resolve_right (by simp))
  exact ⟨List.mem_range.1 hlt, hr, fun b hb hbr => hle b (List.mem_filter.2 ⟨List.mem_range.2 hb, hbr⟩)⟩

/-- The mover as it is granted to channel `c`. -/
def State.moverGranted (s : State) (c : Nat) : State := State.setDst { s with dma := { s.dma with last := c } } c 2

theorem exec_dmaMoverGrant_of_ready {s : State} {c : Nat} (hn : s.dmaNext = some c) (hb : s.on F.DMA_ACTIVE_BUSY = false)
    (he : s.on F.DMA_CFG_ENABLE = true) (hu : ((s.moverGranted c).dch c).usesHost = true → (s.moverGranted c).hostUp = true) :
    exec .dmaMoverGrant s = .next (s.moverGranted c).done := by
  have hlink : ¬(((s.moverGranted c).dch c).usesHost && !(s.moverGranted c).hostUp) = true := by
    rw [Bool.and_eq_true, Bool.not_eq_true']
    exact fun h => ne_true_of_eq_false h.2 (hu h.1)
  rw [exec_dmaMoverGrant, execDmaMoverGrant, hn]
  dsimp only
  rw [hb, he, Bool.not_true, Bool.or_false, if_neg Bool.false_ne_true]
  exact congrArg State.finish (if_neg hlink)

theorem exec_dmaMoverGrant_of_disabled {s : State} (he : s.on F.DMA_CFG_ENABLE = false) :
    exec .dmaMoverGrant s = .next s.done := by
  rw [exec_dmaMoverGrant, execDmaMoverGrant]
  split
  · rw [he, Bool.not_false, Bool.or_true, if_pos rfl, State.finish]
  · rfl

/-! ### Pacing (R440) -/

theorem exec_dmaPaceResume_of_full {s : State} {c : Fin 16} (hs : s.dst c = 4)
    (hf : s.get (F.DMACH_PACE_HI.inst c) ≤ s.ringFill (s.paceSrc c)) :
    exec (.dmaPaceResume c) s = .next ((s.modDch c fun d => { d with flowing := true }).setDst c 3).done :=
  (exec_dmaPaceResume c s).trans (finish_when_of_true (by rw [hs, decide_eq_true hf]; rfl))

theorem exec_dmaPaceResume_of_low {s : State} {c : Fin 16} (hf : s.ringFill (s.paceSrc c) < s.get (F.DMACH_PACE_HI.inst c)) :
    exec (.dmaPaceResume c) s = .next s.done :=
  (exec_dmaPaceResume c s).trans (finish_when_of_false (by rw [decide_eq_false (Nat.not_le.2 hf), Bool.and_false]))

/-- Settles O59: a command by the channel's state, a descriptor by what was fetched, the mover's choice by `foldl_rankMin`, a paced
transfer by its ring. -/
theorem dmaChannels : Obligations.DmaChannels := by
  refine ⟨fun s c hr hm hs => ?_, fun s c hr hm ha hs => ?_, fun s c hr hm ha hs => ?_, fun s c hr hm => ?_, fun s c hr hm hs => ?_,
    fun s c hr hs => ?_, fun s c hr hs hb => ?_, fun s c hr hs hb => ?_, fun s c hr hs hd hf hl => ?_, fun s c hr hs hf => ?_,
    fun s c hr hs hf => ?_, fun s c v => fun hr => exec_dmaAppend_of_reaches hr v, fun s c desc => ?_, fun s c desc => ?_,
    fun s c desc code hs hc => exec_dmaDescFetched_of_failed hs hc desc, fun s c => ?_,
    fun s he => exec_dmaMoverGrant_of_disabled he, fun s c => dmaNext_spec, fun s c hs hf => exec_dmaPaceResume_of_full hs hf,
    fun s c _ hf => exec_dmaPaceResume_of_low hf⟩
  · rw [exec_dmaGo_of_reaches hr, dmaGo_of_idle hm hs]
  · rw [exec_dmaGo_of_reaches hr, dmaGo_of_unarmed hm ha (by omega) (by omega)]
  · rw [exec_dmaGo_of_reaches hr, dmaGo_of_armed hm ha hs]
  · rw [exec_dmaGo_of_reaches hr, dmaGo_of_chained hm, State.dmaRefuse]
  · rw [exec_dmaStart_of_reaches hr, dmaStart_of_idle hm hs]
  · rw [exec_dmaStart_of_reaches hr, dmaStart_of_started hs, State.dmaRefuse]
  · rw [exec_dmaResume_of_reaches hr, dmaResume_of_transfer hs hb]
  · rw [exec_dmaResume_of_reaches hr, dmaResume_of_fetch hs hb]
  · rw [exec_dmaSkip_of_reaches hr, dmaSkip_of_next hs hd hf hl]
  · rw [exec_dmaRetry_of_reaches hr, dmaRetry_of_fetched hs hf]
  · rw [exec_dmaRetry_of_reaches hr, dmaRetry_of_unfetched hs hf]
  · intro le t hs hd hl
    exact exec_dmaDescFetched_of_open hs hd hl
  · intro le t hs hd hl
    exact exec_dmaDescFetched_of_last_done hs hd hl
  · intro t hn hb he hu
    exact exec_dmaMoverGrant_of_ready hn hb he hu

end Sys2Proof.Machine
end

/-! PROOFS. The data mover: a transfer between two host ranges, a pause and an abort, a burst that fails (R433, R435 to R437, R443). How
many bytes a command moves is log entry 88, what an abort logs log entry 87 (the model's choices). -/
section
namespace Sys2Proof.Machine

/-! ### Bytes moved, and what a channel shows of them -/

theorem dst_dmaMoved (s : State) (c : Nat) (k : Fin 16) (n : Nat) : (s.dmaMoved c n).dst k = s.dst k := by
  have hkey : F.DMA_BYTES_HI_BYTES.key ≠ (F.DMACH_STATE_STATE.inst k).key ∧
      F.DMA_BYTES_LO_BYTES.key ≠ (F.DMACH_STATE_STATE.inst k).key := by
    revert k
    decide
  rw [State.dst, State.dmaMoved, State.set2, State.get_set_other _ _ _ _ hkey.1, State.get_set_other _ _ _ _ hkey.2]
  rfl

theorem dch_dmaMoved (s : State) (c n : Nat) : (s.dmaMoved c n).dch c = { s.dch c with moved := (s.dch c).moved + n } :=
  mget_mput_same _ _ _ _

/-! ### A burst between two host ranges (R433) -/

/-- `n` bytes that host memory has answered, on their way to the channel's destination. -/
def State.hostBurst (s : State) (c n : Nat) (host : List Nat) : State :=
  (s.emit (.hostMem (s.dch c).dst ((List.range n).map fun i => host.getD i 0 % 256))).dmaMoved c n

theorem dst_hostBurst (s : State) (c : Fin 16) (n : Nat) (host : List Nat) : (s.hostBurst c n host).dst c = s.dst c :=
  dst_dmaMoved _ c c n

theorem dch_hostBurst (s : State) (c n : Nat) (host : List Nat) :
    (s.hostBurst c n host).dch c = { s.dch c with moved := (s.dch c).moved + n } :=
  dch_dmaMoved _ c n

/-- A transfer between two host ranges that do not overlap, with no byte moved yet. -/
structure HostTransfer (d : DmaChan) : Prop where
  unpaced : d.paced = false
  upward : d.down = false
  apart : d.overlap = false
  fromHost : d.srcSpace = 0
  toHost : d.dstSpace = 0
  fresh : d.moved = 0

section transfer
variable {s : State} {c : Nat} (h : HostTransfer (s.dch c))
include h

theorem burst_of_hostTransfer : (s.dch c).burst = 256 := by simp [DmaChan.burst, h.apart, h.fromHost, h.toHost]

theorem dmaWaits_of_hostTransfer : s.dmaWaits c = false := by simp [State.dmaWaits, h.unpaced, h.fromHost, h.toHost]

theorem moveUnit_of_hostTransfer : s.moveUnit c = 256 := by
  rw [State.moveUnit, h.unpaced, if_neg Bool.false_ne_true, burst_of_hostTransfer h]

theorem burstsLeft_of_hostTransfer : s.burstsLeft c = ((s.dch c).len + 255) / 256 := by
  rw [State.burstsLeft, moveUnit_of_hostTransfer h, h.fresh]
  rfl

/-- Host memory refuses no access of a burst. -/
theorem burstAt_of_hostTransfer (src n : Nat) (host : List Nat) : s.burstAt c src (s.dch c).dst n host = s.hostBurst c n host := by
  have hgood (dst : Nat) : s.burstBad (s.dch c) src dst n = none := by
    rw [State.burstBad, h.fromHost, h.toHost]
    rfl
  have hread : s.burstRead (s.dch c) src n host = ((List.range n).map fun i => host.getD i 0 % 256, s) := if_pos h.fromHost
  have hwrite (bytes : List Nat) : s.burstWrite (s.dch c) (s.dch c).dst bytes = s.emit (.hostMem (s.dch c).dst bytes) := if_pos h.toHost
  rw [State.burstAt, hgood]
  dsimp only
  rw [hread, hwrite]
  rfl

theorem moveBursts_one_of_hostTransfer (hs : s.dst c = 2) (hl : 0 < (s.dch c).len) (host : List Nat) :
    s.moveBursts c 1 host = s.hostBurst c (min 256 (s.dch c).len) host := by
  have hopen : ¬(s.dst c ≠ 2 ∨ (s.dch c).len ≤ (s.dch c).moved) := by rw [hs, h.fresh]; omega
  rw [State.moveBursts, dmaWaits_of_hostTransfer h, h.unpaced]
  change s.burstStep c _ _ host = _
  rw [State.burstStep]
  dsimp only
  rw [if_neg hopen, h.upward, if_neg Bool.false_ne_true, burst_of_hostTransfer h, h.fresh]
  exact burstAt_of_hostTransfer h _ _ host

end transfer

theorem dmaAllMoved_hostBurst {s : State} {c : Fin 16} (h : HostTransfer (s.dch c)) (hs : s.dst c = 2) (n : Nat) (host : List Nat) :
    (s.hostBurst c n host).dmaAllMoved c = decide ((s.dch c).len ≤ n) := by
  rw [State.dmaAllMoved, dst_hostBurst, hs, dch_hostBurst, h.fresh, Nat.zero_add]
  rfl

/-- A short transfer moves in one burst and is done. -/
theorem exec_dmaTransferDone_of_short {s : State} {c : Fin 16} (h : HostTransfer (s.dch c)) (hs : s.dst c = 2) (hl : 0 < (s.dch c).len)
    (hu : (s.dch c).len ≤ 256) (host : List Nat) :
    exec (.dmaTransferDone c host 0) s = .next ((s.hostBurst c (s.dch c).len host).dmaDone c 0 false).done := by
  have hone : s.burstsLeft c = 1 := by rw [burstsLeft_of_hostTransfer h]; omega
  rw [exec_dmaTransferDone, execDmaTransferDone, finish_when_of_true (beq_iff_eq.2 hs)]
  dsimp only
  rw [hone, moveBursts_one_of_hostTransfer h hs hl, Nat.min_eq_right hu, dmaAllMoved_hostBurst h hs, decide_eq_true (Nat.le_refl _),
    State.when_true]

/-! ### A pause and an abort (R437) -/

section commands
variable {s : State} {c : Fin 16} (hr : s.reaches (0x2F + c) 0x048 = true) (moved : Nat) (host : List Nat)
include hr

theorem exec_dmaPause_of_reaches : exec (.dmaPause c moved host) s = .next (s.dmaPauseCmd c moved host).done :=
  (exec_dmaPause c moved host s).trans (finish_hostWrites_of_reaches hr _)

theorem exec_dmaAbort_of_reaches : exec (.dmaAbort c moved host) s = .next (s.dmaAbortCmd c moved host).done :=
  (exec_dmaAbort c moved host s).trans (finish_hostWrites_of_reaches hr _)

end commands

/-- A pause takes hold at the end of the burst in flight. -/
theorem dmaPauseCmd_of_running {s : State} {c : Fin 16} (h : HostTransfer (s.dch c)) (hs : s.dst c = 2) (hl : 256 < (s.dch c).len)
    {moved : Nat} (hlo : 0 < moved) (hhi : moved ≤ 256) (host : List Nat) :
    s.dmaPauseCmd c moved host = (s.hostBurst c 256 host).dmaPauseAt c 3 := by
  have hone : min ((moved + 256 - 1) / 256) (((s.dch c).len + 255) / 256) = 1 := by omega
  have hto : s.moveTo c moved host = s.hostBurst c 256 host := by
    rw [State.moveTo, moveUnit_of_hostTransfer h, burstsLeft_of_hostTransfer h, hone,
      moveBursts_one_of_hostTransfer h hs (by omega), Nat.min_eq_left hl.le]
  rw [State.dmaPauseCmd, if_neg (not_not_intro hs), hto]
  dsimp only
  rw [dmaAllMoved_hostBurst h hs, if_neg (by simp [hl]), dst_hostBurst, if_pos hs]

theorem dmaPauseCmd_of_waiting {s : State} {c : Nat} (hs : s.dst c = 1 ∨ s.dst c = 3 ∨ s.dst c = 4) (moved : Nat) (host : List Nat) :
    s.dmaPauseCmd c moved host = s.dmaPauseAt c (s.dst c) := by
  rw [State.dmaPauseCmd, if_pos (by omega), State.dmaPause, if_pos hs]

/-- An abort of a transfer that waits ends its descriptor. -/
theorem dmaAbortCmd_of_waiting {s : State} {c : Nat} (hs : s.dst c = 3 ∨ s.dst c = 4) (moved : Nat) (host : List Nat) :
    s.dmaAbortCmd c moved host = (s.dmaBad c 0x2F38 0).dmaIdle c := by
  rw [State.dmaAbortCmd, if_pos (by omega), State.dmaAbort, if_neg (by omega), if_pos (by omega)]

theorem dmaAbortCmd_of_idle {s : State} {c : Nat} (hs : s.dst c = 0) (moved : Nat) (host : List Nat) :
    s.dmaAbortCmd c moved host = s.err E.DMACH_BAD_CMD c [7, 0] := by
  rw [State.dmaAbortCmd, if_pos (by omega), State.dmaAbort, if_pos hs, State.dmaRefuse, hs]

/-! ### A burst that fails (R436, R443) -/

theorem moveBursts_zero (s : State) (c : Nat) (host : List Nat) : s.moveBursts c 0 host = s := by
  unfold State.moveBursts State.when
  dsimp only
  split <;> rfl

theorem dmaFail_of_fetch {s : State} {c : Nat} (hs : s.dst c = 1) (code moved : Nat) (host : List Nat) :
    s.dmaFail c code moved host = s.fetchFail c code := if_pos hs

/-- The first burst fails: the descriptor ends BAD with what had moved before it. -/
theorem dmaFail_of_first_burst {s : State} {c moved : Nat} (hs : s.dst c = 2) (hh : (s.dch c).usesHost = true) (hw : s.dmaWaits c = false)
    (hm : moved < s.moveUnit c) (code : Nat) (host : List Nat) : s.dmaFail c code moved host = s.dmaBad c code 7 := by
  have hrun : (s.dst c == 2 && (s.dch c).usesHost && !s.dmaWaits c) = true := by rw [hs, hh, hw]; rfl
  rw [State.dmaFail, if_neg (by omega), hrun, State.when_true]
  dsimp only
  rw [Nat.div_eq_of_lt hm, Nat.zero_min, moveBursts_zero, beq_iff_eq.2 hs, State.when_true]

/-- Settles O60: a transfer by its one burst, a pause and an abort by the channel's state, a failing access by what was in flight. -/
theorem mover : Obligations.Mover := by
  refine ⟨fun s c host => ?_, fun s c moved host => ?_, fun s c moved host hr hs => ?_, fun s c moved host hr hs => ?_,
    fun s c moved host hr hs => ?_, fun s c code moved host hs => ?_, fun s c code moved host hs hh hw hm => ?_,
    fun s c moved host hs hh hw hm => ?_⟩
  · intro d t hs hp hd ho hsrc hdst hm hl hu
    exact exec_dmaTransferDone_of_short ⟨hp, hd, ho, hsrc, hdst, hm⟩ hs hl hu host
  · intro d t hr hs hp hd ho hsrc hdst hm hl hlo hhi
    rw [exec_dmaPause_of_reaches hr, dmaPauseCmd_of_running ⟨hp, hd, ho, hsrc, hdst, hm⟩ hs hl hlo hhi]
    rfl
  · rw [exec_dmaPause_of_reaches hr, dmaPauseCmd_of_waiting hs]
  · rw [exec_dmaAbort_of_reaches hr, dmaAbortCmd_of_waiting hs]
  · rw [exec_dmaAbort_of_reaches hr, dmaAbortCmd_of_idle hs]
  · rw [exec_dmaBusError, execDmaBusError, dmaFail_of_fetch hs, State.finish]
  · rw [exec_dmaBusError, execDmaBusError, dmaFail_of_first_burst hs hh hw hm, State.finish]
  · rw [exec_dmaCplTimeout, execDmaCplTimeout, dmaFail_of_first_burst hs hh hw hm, State.finish]

end Sys2Proof.Machine
end
